-- ==== Sys2Proof/Word.lean ====
section
/-! DEFINITION. The word types of the KZ-5240 and their plainest arithmetic. -/

namespace Sys2Proof

/-- A byte of host memory, a porch, a table or a frame (R10). -/
abbrev Byte := BitVec 8

/-- A register word: 32 bits (R11). -/
abbrev Word := BitVec 32

/-- One 576-bit Cellar codeword: bit `16k + j` is bit `j` of symbol `k` (R45, R46). -/
abbrev Codeword := BitVec 576

/-- A 39-bit OTP word: data bits 31:0, check bits 38:32 (R431, R434). -/
abbrev OtpBits := BitVec 39

end Sys2Proof
end

