-- ==== Sys2Proof/Syntax.lean ====
section
/-! DEFINITION. The commands, operations and events of the part, and the operands they carry. -/

namespace Sys2Proof

/-- The two paths into BAR0 (R548). -/
inductive Path where
  | pcie | spi
  deriving DecidableEq, Repr

/-- A porch command that has passed steps 1 to 6 of R324: who sent it, its header fields and its payload. -/
structure Req where
  /-- origin device of a tunnelled command; 0 for a command of this device's own porch (R312, R337) -/
  origin : Nat := 0
  /-- porch it was issued on -/
  porch : Nat := 0
  seq : Nat := 0
  /-- FLAGS of R320: bit 0 PREPARE, bit 1 COMMIT, bit 2 ABORT, bit 3 NOWAIT -/
  flags : Nat := 0
  /-- DEADLINE in ms, 0 for 10 ms (R320, R328) -/
  deadline : Nat := 0
  /-- TAG of the TUNNEL frame that carried it (R313) -/
  tag : Nat := 0
  payload : List Byte := []
  deriving DecidableEq, Repr

/-- A frame of the Peal ring (R283): its header fields and its payload. -/
structure PealFrame where
  kind : Nat := 0
  flags : Nat := 0
  src : Nat := 0
  dst : Nat := 0
  seq : Nat := 0
  hops : Nat := 0
  payload : List Byte := []
  deriving DecidableEq, Repr

/-- One row of a SENSE message (R243, R259). -/
structure SenseEntry where
  row : Nat := 0
  /-- local index -/
  nozzle : Nat := 0
  amp : Nat := 0
  freq : Nat := 0
  decay : Nat := 0
  phase : Nat := 0
  deriving DecidableEq, Repr

/-- A write to one of the masks that R503 names. -/
inductive MaskWrite where
  /-- the Vector Control word of one MSI-X table entry -/
  | vector (path : Path) (v value : Nat)
  /-- the MSI-X Enable and Function Mask bits and the Bus Master bit in the PCIe configuration space -/
  | config (enable mask busMaster : Bool)
  deriving DecidableEq, Repr

/-- Who writes GO of a register-mode transfer (R427): the host on a path, with the set's registers as they stand; or the
control processor, which has first written HOST_BASE and the set's SRC and DST. -/
inductive XferBy where
  | host (path : Path)
  | cp (hostBase src dst : Nat)
  deriving DecidableEq, Repr

/-- What an SPI frame has done (R549, R550): words read from an offset upward; words written from an offset upward, with an
incomplete word left at the end or not. -/
inductive SpiFrame where
  | read (off n : Nat)
  | write (off : Nat) (words : List Nat) (cut : Bool)
  deriving DecidableEq, Repr

/-- The JTAG instructions, and the return of the TAP to Test-Logic-Reset (R528). -/
inductive Jtag where
  | bypass | idcode | samplePreload | extest | clamp | highz | testLogicReset
  deriving DecidableEq, Repr

/-- The commands, operations and events of the part, one constructor for each row of the table of operations
(opcode_table.json). The first operand `t` is the time in ns, on the interval clock of the part, at which the step comes about: device time runs with it (R8, R292). -/
inductive Instr where
  /-- SYS_NOP (R353): Command that echoes its payload in the response. -/
  | sysNop (t : Nat) (rq : Req)
  /-- SYS_QUERY (R353): Command that returns the mode, commit state, interface level and device time. -/
  | sysQuery (t : Nat) (rq : Req)
  /-- SYS_COMMIT (R354): Runs the geometry, stream, timing and waveform checks, locks the Triangle, enters READY and starts loading the ports. -/
  | sysCommit (t : Nat) (rq : Req)
  /-- SYS_UNCOMMIT (R353): Returns from READY to CONFIGURE, keeping the configuration uncommitted. -/
  | sysUncommit (t : Nat) (rq : Req)
  /-- JOB_START (R355): Checks and starts the named tracks with one t_start and enters TRACK or CLOCK. -/
  | jobStart (t : Nat) (rq : Req)
  /-- JOB_END (R168): Stops the named running tracks at their last committed line. -/
  | jobEnd (t : Nat) (rq : Req)
  /-- SYS_MAINTAIN (R353): Enters MAINTAIN from READY, or leaves it and ends every maintenance activity. -/
  | sysMaintain (t : Nat) (rq : Req)
  /-- SYS_CLEAR_HALT (R380): Leaves HALT for CONFIGURE once the cause has ceased, or returns DENIED. -/
  | sysClearHalt (t : Nat) (rq : Req)
  /-- SYS_RESET (R353): Posts the response and then resets the device to BOOT. -/
  | sysReset (t : Nat) (rq : Req)
  /-- GEO_CLEAR (R36): Discards all planes, rows and row sets. -/
  | geoClear (t : Nat) (rq : Req)
  /-- GEO_PLANE (R36): Declares or replaces a plane with its bits, headroom and columns. -/
  | geoPlane (t : Nat) (rq : Req)
  /-- GEO_ROWS (R37): Fetches a row table and applies all of its entries or none. -/
  | geoRows (t : Nat) (rq : Req)
  /-- GEO_ROWSETS (R35): Fetches a row-set table and applies all of its entries or none. -/
  | geoRowsets (t : Nat) (rq : Req)
  /-- GEO_QUERY (R36): Returns the Cellar need, the ring area, the fit and the online channels. -/
  | geoQuery (t : Nat) (rq : Req)
  /-- GEO_READ_ROW (R36): Returns one row entry with its ring base, depth and slot size. -/
  | geoReadRow (t : Nat) (rq : Req)
  /-- GEO_SCRUB (R58): Sets the Cellar scrub period. -/
  | geoScrub (t : Nat) (rq : Req)
  /-- STREAM_OPEN (R556): Drains the stream and binds or rebinds it with its head, tail and expectations reset. -/
  | streamOpen (t : Nat) (rq : Req)
  /-- STREAM_CLOSE (R556): Drains and unbinds a stream. -/
  | streamClose (t : Nat) (rq : Req)
  /-- STREAM_RESET (R108): Drains a stream, consumes every outstanding descriptor with one write-back and restarts its planes at line 0. -/
  | streamReset (t : Nat) (rq : Req)
  /-- STREAM_WATER (R81): Sets the low and high water marks of a stream's gate. -/
  | streamWater (t : Nat) (rq : Req)
  /-- STREAM_QUERY (R107): Returns a stream's state, ring indices, runway, fill and counters. -/
  | streamQuery (t : Nat) (rq : Req)
  /-- STREAM_FAULTS (R110): Returns a stream's fault log and optionally clears it. -/
  | streamFaults (t : Nat) (rq : Req)
  /-- LINE_REMAP (R116): Sets a plane's grey remap table. -/
  | lineRemap (t : Nat) (rq : Req)
  /-- LINE_BOOST (R125): Sets a plane's size-boost table. -/
  | lineBoost (t : Nat) (rq : Req)
  /-- LINE_MASK_LOAD (R119): Fetches a host-supplied redundancy tile into the table area. -/
  | lineMaskLoad (t : Nat) (rq : Req)
  /-- LINE_MASK_GEN (R120): Generates a redundancy tile from a seed and modulus. -/
  | lineMaskGen (t : Nat) (rq : Req)
  /-- LINE_MASK_CLEAR (R118): Removes a plane's tile so that it uses selector 0. -/
  | lineMaskClear (t : Nat) (rq : Req)
  /-- LINE_FLAGS (R135): Sets a plane's substitution and spread enables. -/
  | lineFlags (t : Nat) (rq : Req)
  /-- LINE_QUERY (R135): Returns a plane's flags, tile, tables, online engines and state epoch. -/
  | lineQuery (t : Nat) (rq : Req)
  /-- TIMING_ENCODER (R139): Configures one encoder, clears its fault and restarts its estimator. -/
  | timingEncoder (t : Nat) (rq : Req)
  /-- TIMING_TRACK (R136): Configures one track's source, pitch, leads and limits. -/
  | timingTrack (t : Nat) (rq : Req)
  /-- TIMING_LIVE (R185): Sets a track's live slack, period trim and tolerance. -/
  | timingLive (t : Nat) (rq : Req)
  /-- TIMING_GOVERNOR (R186): Sets the governor outputs, caps, runway target, hysteresis and bandwidth limits. -/
  | timingGovernor (t : Nat) (rq : Req)
  /-- TIMING_LTRIG (R182): Configures one line trigger output. -/
  | timingLtrig (t : Nat) (rq : Req)
  /-- TIMING_NOZZLE_TRIM (R186): Fetches the nozzle timing trims of an HL-3 port and sends them to the head. -/
  | timingNozzleTrim (t : Nat) (rq : Req)
  /-- TIMING_QUERY (R185): Returns a track's state, last line, governor state and overspeed counts. -/
  | timingQuery (t : Nat) (rq : Req)
  /-- WAVE_MODULE (R215): Sets a module's power ceiling. -/
  | waveModule (t : Nat) (rq : Req)
  /-- WAVE_LOAD (R192): Fetches a waveform table for a port, all entries or none. -/
  | waveLoad (t : Nat) (rq : Req)
  /-- WAVE_TEMP (R200): Fetches waveform temperature tables for a port. -/
  | waveTemp (t : Nat) (rq : Req)
  /-- WAVE_MAP (R194): Sets the code-to-waveform map of one port and row group. -/
  | waveMap (t : Nat) (rq : Req)
  /-- WAVE_AMP_TRIM (R199): Fetches the amplitude trims of an HL-3 port. -/
  | waveAmpTrim (t : Nat) (rq : Req)
  /-- WAVE_PORT (R207): Binds or unbinds a waveform port to an HL-1 head port. -/
  | wavePort (t : Nat) (rq : Req)
  /-- WAVE_DEADBAND (R204): Sets the scale push deadband for both waveform engines. -/
  | waveDeadband (t : Nat) (rq : Req)
  /-- WAVE_QUERY (R221): Returns a port's power step, temperature, energy and scales. -/
  | waveQuery (t : Nat) (rq : Req)
  /-- HEAD_CONFIG (R558): Configures a head port's generation and HL-1 parameters and sets it OFF. -/
  | headConfig (t : Nat) (rq : Req)
  /-- HEAD_LINK (R557): Takes ports OFF or starts linking them. -/
  | headLink (t : Nat) (rq : Req)
  /-- HEAD_SPIT (R256): Starts a spit of COUNT firings on the rows of a mask. -/
  | headSpit (t : Nat) (rq : Req)
  /-- HEAD_USAGE (R256): Returns a port's authentication state and usage counts. -/
  | headUsage (t : Nat) (rq : Req)
  /-- HEAD_QUERY (R256): Returns a port's state, F_MAX, timing offsets, descriptor and counts. -/
  | headQuery (t : Nat) (rq : Req)
  /-- HEAD_PURGE (R256): Starts a purge at a rate for a duration. -/
  | headPurge (t : Nat) (rq : Req)
  /-- HEAD_PATTERN (R258): Fetches a test pattern and starts firing it. -/
  | headPattern (t : Nat) (rq : Req)
  /-- WATCH_CONFIG (R277): Sets the nozzle watch enables, window, thresholds, reference codes and quick cover enables. -/
  | watchConfig (t : Nat) (rq : Req)
  /-- WATCH_LEARN (R264): Starts reference learning on the rows of one port. -/
  | watchLearn (t : Nat) (rq : Req)
  /-- WATCH_SET (R270): Fetches a list of nozzle states and publishes it as one batch. -/
  | watchSet (t : Nat) (rq : Req)
  /-- WATCH_READ (R277): Writes a port's state map to host memory. -/
  | watchRead (t : Nat) (rq : Req)
  /-- WATCH_REF_SAVE (R277): Writes a port's reference table to host memory. -/
  | watchRefSave (t : Nat) (rq : Req)
  /-- WATCH_REF_LOAD (R277): Fetches a port's reference table and empties its histories. -/
  | watchRefLoad (t : Nat) (rq : Req)
  /-- WATCH_LOG (R278): Returns the watch log and optionally clears it. -/
  | watchLog (t : Nat) (rq : Req)
  /-- WATCH_QUERY (R277): Returns a port's nozzle state counts, references, cover use and epoch. -/
  | watchQuery (t : Nat) (rq : Req)
  /-- RING_CONFIG (R285): Sets the ring role, ports, base ID and chime loss time. -/
  | ringConfig (t : Nat) (rq : Req)
  /-- RING_DISCOVER (R286): Starts a discovery round on the master. -/
  | ringDiscover (t : Nat) (rq : Req)
  /-- RING_ROLE (R316): Changes the role between MEMBER and DEPUTY. -/
  | ringRole (t : Nat) (rq : Req)
  /-- RING_QUERY (R316): Returns the ring state, topology, IDs and ring value. -/
  | ringQuery (t : Nat) (rq : Req)
  /-- RING_TABLE (R316): Writes the master's ring table to host memory. -/
  | ringTable (t : Nat) (rq : Req)
  /-- MEM_BANK_POWER (R399): Sets a Pantry bank's power setting. -/
  | memBankPower (t : Nat) (rq : Req)
  /-- MEM_PATROL (R400): Sets the patrol interval and bank mask. -/
  | memPatrol (t : Nat) (rq : Req)
  /-- MEM_COPY (R430): Copies device memory to host memory with a general channel. -/
  | memCopy (t : Nat) (rq : Req)
  /-- MEM_QUERY (R430): Returns a bank's power, patrol and error state. -/
  | memQuery (t : Nat) (rq : Req)
  /-- OTP_READ (R462): Returns OTP words from their expected values or from a fresh sense. -/
  | otpRead (t : Nat) (rq : Req)
  /-- OTP_PROGRAM (R446): Checks the programming conditions and starts programming one OTP word. -/
  | otpProgram (t : Nat) (rq : Req)
  /-- OTP_SEAL (R454): Computes and programs the seal word of a region. -/
  | otpSeal (t : Nat) (rq : Req)
  /-- OTP_LOCK (R455): Blows a region's lock fuse after verifying its seal, or with FORCE. -/
  | otpLock (t : Nat) (rq : Req)
  /-- OTP_STICKY (R460): Sets the named sticky locks. -/
  | otpSticky (t : Nat) (rq : Req)
  /-- OTP_QUERY (R462): Returns region states, locks, floor, marginal state and a fresh challenge. -/
  | otpQuery (t : Nat) (rq : Req)
  /-- THERM_DIE (R466): Sets the die throttle threshold and hysteresis. -/
  | thermDie (t : Nat) (rq : Req)
  /-- THERM_HEAD_LIMITS (R473): Sets a port's head temperature limits and the common hysteresis and loss time. -/
  | thermHeadLimits (t : Nat) (rq : Req)
  /-- THERM_TH_TABLE (R472): Loads thermistor tables and the open and short codes. -/
  | thermThTable (t : Nat) (rq : Req)
  /-- THERM_TRIANGLE (R485): Sets the Triangle filter times, watchdog time, discrepancy time and shutdown limit. -/
  | thermTriangle (t : Nat) (rq : Req)
  /-- THERM_QUERY (R489): Returns die and head temperatures, steps and limits. -/
  | thermQuery (t : Nat) (rq : Req)
  /-- HEALTH_REPORT (R506): Returns the limp conditions present and seen, and the SUMMARY counters. -/
  | healthReport (t : Nat) (rq : Req)
  /-- HEALTH_LOG (R506): Returns records of the health log. -/
  | healthLog (t : Nat) (rq : Req)
  /-- HEALTH_CONFIG (R496): Sets the pin enables, ALERT_ENABLE and INTN_ROUTE. -/
  | healthConfig (t : Nat) (rq : Req)
  /-- HEALTH_CLEAR (R506): Clears the log, the LIMP_SEEN bits of absent codes or the SUMMARY counters. -/
  | healthClear (t : Nat) (rq : Req)
  /-- DIAG_ENTER (R382): Enters DIAGNOSE, stops the dot path and hands the general channels to the host. -/
  | diagEnter (t : Nat) (rq : Req)
  /-- DIAG_LEAVE (R384): Resets the RWF fields, discards the configuration and returns to CONFIGURE. -/
  | diagLeave (t : Nat) (rq : Req)
  /-- DIAG_QUERY (R381): Returns the DIAGNOSE state and its write counts. -/
  | diagQuery (t : Nat) (rq : Req)
  /-- PREPARE (R337): A command flagged PREPARE is checked and staged and held as a prepared change. -/
  | prepare (t : Nat) (op : Nat) (rq : Req)
  /-- COMMIT (R339): Applies the matching prepared change or answers NOT_PREPARED. -/
  | commit (t : Nat) (op : Nat) (rq : Req)
  /-- ABORT (R340): Discards the matching prepared change or answers NOT_PREPARED. -/
  | abort (t : Nat) (op : Nat) (rq : Req)
  /-- PREPARE_LAPSED (R337): A prepared change lapses after 1,000 ms without COMMIT or ABORT. -/
  | prepareLapsed (t : Nat) (origin porch : Nat)
  /-- BOOT_QUERY (R361): ROM command that returns the boot state, result, keys and floor. -/
  | bootQuery (t : Nat) (rq : Req)
  /-- BOOT_WRITE (R361): ROM command that writes data into the image buffer. -/
  | bootWrite (t : Nat) (rq : Req)
  /-- BOOT_FETCH (R361): ROM command that fetches an image from host memory into the buffer. -/
  | bootFetch (t : Nat) (rq : Req)
  /-- BOOT_RUN (R364): Checks the image, distributes its sections and starts the firmware in CONFIGURE. -/
  | bootRun (t : Nat) (rq : Req) (fails : Nat)
  /-- BOOT_CLEAR (R361): ROM command that fills the image buffer with 0. -/
  | bootClear (t : Nat) (rq : Req)
  /-- READY_FOR_HOST (R370): The firmware trains the Cellar, enables the porches and posts READY_FOR_HOST. -/
  | readyForHost (t : Nat) (trained temps : Nat)
  /-- DOORBELL (R323): A write of SEQ to a porch doorbell makes the porch PENDING or is discarded. -/
  | doorbell (t : Nat) (path : Path) (n seq : Nat)
  /-- COMMAND_APPLY (R330): A staged command reaches its apply point and its effect becomes the device's. -/
  | commandApply (t : Nat) (slot : Nat)
  /-- COMMAND_DEADLINE (R329): A command whose deadline expires before its apply point returns TIMEOUT. -/
  | commandDeadline (t : Nat) (slot : Nat)
  /-- EV_READ_WRITE (R349): A host write to EV_READ consumes event records or is ignored. -/
  | evReadWrite (t : Nat) (path : Path) (v : Nat)
  /-- FEATURE_ACCEPT_WRITE (R372): A write to FEATURE_ACCEPT is stored before negotiation closes and discarded after. -/
  | featureAcceptWrite (t : Nat) (path : Path) (i v : Nat)
  /-- TAIL_WRITE (R75): A write of a stream's TAIL doorbell advances its descriptor ring or is discarded. -/
  | tailWrite (t : Nat) (path : Path) (n v : Nat)
  /-- PORCH_RAM_ACCESS (R345): A host access to porch RAM is served word by word. -/
  | porchRamAccess (t : Nat) (path : Path) (off n : Nat) (write : Option (List (Option Byte))) (cp : List Nat)
  /-- BOOT_WINDOW_ACCESS (R360): An access to the boot window reaches the image buffer in BOOT, and is discarded otherwise. -/
  | bootWindowAccess (t : Nat) (path : Path) (off n : Nat) (write : Option (List (Option Byte)))
  /-- RC_FIELD_READ (R13): A read of an RC field returns its value and clears it. -/
  | rcFieldRead (t : Nat) (path : Path) (off width : Nat)
  /-- TIME_LO_READ (R552): A read of TIME_LO latches the high bits of device time for that path. -/
  | timeLoRead (t : Nat) (path : Path)
  /-- REGISTER_WRITE (R546): A write to a register with no row of its own is stored or discarded by mode and access. -/
  | registerWrite (t : Nat) (path : Path) (off width v : Nat)
  /-- MSIX_UNMASK (R503): Clearing a vector's mask sends its message when its PBA bit is set. -/
  | msixUnmask (t : Nat) (w : MaskWrite)
  /-- WD_KICK (R481): The three-word write sequence that kicks the CP watchdog, judged good or bad. -/
  | wdKick (t : Nat) (host : Option Path) (writes : List (Nat × Nat))
  /-- CELLAR_FORCE_OFFLINE (R62): Writing FORCE_OFFLINE in DIAGNOSE declares a Cellar channel lost. -/
  | cellarForceOffline (t : Nat) (path : Path) (c : Nat)
  /-- DECOMP_FORCE_OFFLINE (R102): Writing FORCE_OFFLINE in DIAGNOSE declares a decompressor offline. -/
  | decompForceOffline (t : Nat) (path : Path) (k : Nat)
  /-- LINE_ENGINE_FORCE_OFFLINE (R131): Writing FORCE_OFFLINE in DIAGNOSE declares a line engine offline. -/
  | lineEngineForceOffline (t : Nat) (path : Path) (e : Nat)
  /-- WAVE_ENGINE_FORCE_OFFLINE (R218): Writing FORCE_OFFLINE in DIAGNOSE declares a waveform engine offline. -/
  | waveEngineForceOffline (t : Nat) (path : Path) (w : Nat)
  /-- OTP_PROG_KEY_WRITE (R452): A write to PROG_KEY advances or cancels the register unlock sequence. -/
  | otpProgKeyWrite (t : Nat) (path : Path) (v : Nat)
  /-- OTP_PROG_GO (R452): Writing GO starts a register programming of one OTP word after unlock. -/
  | otpProgGo (t : Nat) (path : Path)
  /-- OTP_READ_ADDR_WRITE (R436): Writing READ_ADDR senses one OTP word now. -/
  | otpReadAddrWrite (t : Nat) (path : Path) (w : Nat)
  /-- DW_PROGRAM_START (R415): Writing START runs a general channel's program and clears its FAULT. -/
  | dwProgramStart (t : Nat) (m prog base priority : Nat) (priv : Bool)
  /-- DW_STOP (R416): Writing STOP ends a channel's run and marks the instruction in progress ABORT. -/
  | dwStop (t : Nat) (host : Option Path) (m : Nat)
  /-- DW_XFER_GO (R427): Writing XFER with GO starts a register-mode transfer. -/
  | dwXferGo (t : Nat) (who : XferBy) (m v : Nat)
  /-- DW_SHADOW_GO (R427): Writing SH_XFER with GO queues a shadow transfer for promotion. -/
  | dwShadowGo (t : Nat) (who : XferBy) (m v : Nat)
  /-- SPI_READ_FRAME (R550): An SPI READ frame reads words from BAR0. -/
  | spiReadFrame (t : Nat) (cmd off n : Nat)
  /-- SPI_WRITE_FRAME (R550): An SPI WRITE frame writes whole words to BAR0. -/
  | spiWriteFrame (t : Nat) (off : Nat) (words : List Nat) (cut : Bool)
  /-- SPI_ABORT (R551): A frame with no SPI_SCK edge for 100 µs is aborted and counted. -/
  | spiAbort (t : Nat) (frame : Option SpiFrame)
  /-- POWER_ON (R356): VIN rises through the release threshold and the device powers up to BOOT. -/
  | powerOn (t : Nat) (vin : Nat) (unpowered clock : Bool)
  /-- RESET_N (R357): RESET_N holds the core in reset and its rise restarts it from step 3. -/
  | resetN (t : Nat) (low : Bool) (ns : Nat)
  /-- PERST_N (R388): PERST_N causes a full reset or a PCIe-only reset. -/
  | perstN (t : Nat) (low : Bool)
  /-- SYSCLK_VALID (R521): SYSCLK within tolerance for 1 ms lets the core leave reset. -/
  | sysclkValid (t : Nat) (ns : Nat)
  /-- PCIE_LINK_TRAINED (R493): Completion of PCIe training, compared with the best link to raise or clear 0x0E. -/
  | pcieLinkTrained (t : Nat) (width speed bestWidth bestSpeed : Nat)
  /-- VIN_UNDERVOLTAGE (R488): VIN below 5.6 V drops the enables and resets with code 5. -/
  | vinUndervoltage (t : Nat) (vin ns : Nat)
  /-- VIN_OVERVOLTAGE (R488): VIN above 43 V drops the enables and powers the core off. -/
  | vinOvervoltage (t : Nat) (vin ns : Nat)
  /-- VIN_OVERVOLTAGE_RESTART (R385): After VIN stays below 41 V for 1 s the device restarts with code 5. -/
  | vinOvervoltageRestart (t : Nat) (vin ns : Nat)
  /-- VIN_MARGINAL (R488): VIN outside 6.3 V to 41 V for 100 µs raises limp 0x0F. -/
  | vinMarginal (t : Nat) (vin ns : Nat)
  /-- VIN_MARGINAL_CLEAR (R488): VIN within 6.5 V to 40.5 V for 1 s clears limp 0x0F. -/
  | vinMarginalClear (t : Nat) (vin ns : Nat)
  /-- DIE_SENSOR_READING (R463): A new die sensor reading every 100 µs updates T_die and the throttle step. -/
  | dieSensorReading (t : Nat) (readings : List (Nat × Int))
  /-- THERMAL_RESTART (R469): After every sensor has read 95 °C or less for 1 s the device restarts with code 4. -/
  | thermalRestart (t : Nat)
  /-- TH_CONVERSION (R471): A thermistor input is converted every 1 ms into a temperature or OPEN or SHORT. -/
  | thConversion (t : Nat) (n code : Nat)
  /-- SAFETY_INPUT_ACCEPT (R478): A Triangle channel accepts a new level on a safety input after its filter time. -/
  | safetyInputAccept (t : Nat) (ch input : Nat) (level : Bool)
  /-- ESTOP_DISCREPANCY (R479): E-stop inputs at different levels for longer than DISCREPANCY cause a cut. -/
  | estopDiscrepancy (t : Nat) (ch : Nat)
  /-- CP_WATCHDOG_EXPIRY (R481): The CP watchdog expires WD_TIME after the last good kick and causes a cut. -/
  | cpWatchdogExpiry (t : Nat)
  /-- LIVENESS_STALL (R479): The fire scheduler's liveness counter not advancing for 20 µs causes a cut. -/
  | livenessStall (t : Nat) (stalled : Bool)
  /-- CLOCK_FAULT (R479): SYSCLK and PE_REFCLK outside tolerance cause a cut. -/
  | clockFault (t : Nat) (ratio : Int) (osc : Nat)
  /-- CLOCK_MARGINAL (R487): A clock ratio outside ±0.2 % for 1 s raises limp 0x10. -/
  | clockMarginal (t : Nat) (ratio : Int)
  /-- CLOCK_MARGINAL_CLEAR (R487): A ratio within ±0.1 % for 10 s clears limp 0x10. -/
  | clockMarginalClear (t : Nat) (ratio : Int)
  /-- TRIANGLE_DISAGREE (R484): A channel differing from the vote for 50 µs raises limp 0x0A. -/
  | triangleDisagree (t : Nat) (ch : Nat)
  /-- HALT_ENTRY (R377): On a fatal fault the device enters HALT, cuts or withdraws lines and posts HALTED. -/
  | haltEntry (t : Nat) (cause : Nat)
  /-- HP_HEARTBEAT (R500): The HP increases HP_HEARTBEAT each millisecond. -/
  | hpHeartbeat (t : Nat)
  /-- HP_STALL (R500): An HP heartbeat unchanged for 100 ms sends the device to HALT. -/
  | hpStall (t : Nat)
  /-- HEALTH_DRAIN (R498): The HP drains a health event, logs it and posts LIMP. -/
  | healthDrain (t : Nat)
  /-- ENCODER_SAMPLE (R149): An accepted quadrature change gives a sample that the estimator takes or rejects. -/
  | encoderSample (t : Nat) (e : Nat) (a b z half : Bool)
  /-- SSI_READ (R144): An SSI encoder is read every SAMPLE_US. -/
  | ssiRead (t : Nat) (e clk : Nat) (high : Bool) (value : Nat)
  /-- BISS_READ (R145): A BiSS-C slave is read every SAMPLE_US. -/
  | bissRead (t : Nat) (e clk : Nat) (frame : Option (Nat × Bool × Bool × Nat))
  /-- Z_INDEX (R143): A rising Z edge latches the integer position into Z_POS. -/
  | zIndex (t : Nat) (e : Nat)
  /-- ENC_INPUT_FAULT (R148): A used pair below 200 mV for 1 µs raises an INPUT fault. -/
  | encInputFault (t : Nat) (e : Nat)
  /-- ENC_INPUT_RECOVER (R149): The end of an INPUT fault's cause restarts the estimator. -/
  | encInputRecover (t : Nat) (e : Nat)
  /-- ENC_STALL (R151): An armed encoder watchdog expiring raises STALL. -/
  | encStall (t : Nat) (e : Nat)
  /-- SCHEDULER_EVAL (R156): Every 1 µs an encoder track commits the lines that have entered the lead horizon. -/
  | schedulerEval (t : Nat) (tr : Nat)
  /-- CLOCK_LINE_COMMIT (R158): A clock track commits each line once it lies within LEAD. -/
  | clockLineCommit (t : Nat) (tr : Nat)
  /-- LINE_INSTANT (R157): At t_L of a committed line its event line pulses and any monitor is compared. -/
  | lineInstant (t : Nat) (tr : Nat)
  /-- LTRIG_PULSE (R182): A line trigger output pulses at t_L plus OFFSET. -/
  | ltrigPulse (t : Nat) (n : Nat)
  /-- PORT_FETCH (R164): A head port fetches a track line, decides its fire instant and prepares its data. -/
  | portFetch (t : Nat) (p : Nat)
  /-- TRACK_STOPPED (R169): A stopping track's last row instant passes and the device may enter READY. -/
  | trackStopped (t : Nat) (tr : Nat)
  /-- GOVERNOR_EVAL (R173): Every 100 µs the governor computes its limits and sets P. -/
  | governorEval (t : Nat)
  /-- HL1_SHIFT_START (R231): An HL-1 port starts shifting a line's codes before its latch. -/
  | hl1ShiftStart (t : Nat) (p : Nat)
  /-- HL1_LATCH (R231): An HL-1 port raises its latch at the row instant and starts the waveform. -/
  | hl1Latch (t : Nat) (p : Nat)
  /-- HL2_FIRE_STROBE (R236): An HL-2 port sends a fire strobe before each row instant. -/
  | hl2FireStrobe (t : Nat) (p : Nat)
  /-- FRAME_TRANSMIT (R244): At a frame boundary the port sends the next frame by precedence. -/
  | frameTransmit (t : Nat) (p : Nat)
  /-- FIRE_AT_UNACKED (R247): An HL-3 line whose FIRE_AT is unacknowledged by its instant is counted Dropped. -/
  | fireAtUnacked (t : Nat) (p : Nat)
  /-- HEAD_ACK_RX (R239): An ACK releases the frames it covers from the replay buffer. -/
  | headAckRx (t : Nat) (p seq : Nat)
  /-- HEAD_NAK_RX (R240): A NAK resends the named frame and later unacknowledged frames. -/
  | headNakRx (t : Nat) (p seq : Nat)
  /-- HEAD_ACK_TIMEOUT (R240): An ACK timer expiry resends frames and counts a failure. -/
  | headAckTimeout (t : Nat) (p : Nat)
  /-- HEAD_FRAME_DISCARD (R239): A frame with a bad CRC, type, length or sequence is discarded and answered. -/
  | headFrameDiscard (t : Nat) (p : Nat) (seq : Option Nat)
  /-- HEAD_STATUS_RX (R251): A head STATUS frame reports state, lane lock and command results. -/
  | headStatusRx (t : Nat) (p seq lanes answer result : Nat)
  /-- HEAD_TEMP_RX (R470): A TEMP frame updates the module temperature and its limits. -/
  | headTempRx (t : Nat) (p seq : Nat) (readings : List (Nat × Bool × Int))
  /-- HEAD_TEMP_LOSS (R473): No valid reading for LOSS_MS cuts the module. -/
  | headTempLoss (t : Nat) (p : Nat)
  /-- HEAD_CUT_CLEAR (R477): A cut clears after 1 s below T_cut − HYST. -/
  | headCutClear (t : Nat) (p : Nat)
  /-- HEAD_SENSE_RX (R262): A SENSE frame's entries are checked and yield samples for the state machine. -/
  | headSenseRx (t : Nat) (p seq line : Nat) (entries : List SenseEntry)
  /-- HEAD_TIME_SYNC_RX (R248): A TIME_SYNC reply gives the offset and delay of the head. -/
  | headTimeSyncRx (t : Nat) (p seq t1 t2 t3 t4 : Nat)
  /-- HEAD_TIME_SYNC_PERIODIC (R249): A TIME_SYNC exchange is started every 100 ms. -/
  | headTimeSyncPeriodic (t : Nat) (p : Nat)
  /-- HEAD_ID_READ_RX (R250): The descriptor reply is checked and the port goes to AUTH or REFUSED. -/
  | headIdReadRx (t : Nat) (p seq : Nat) (bytes : List Byte)
  /-- HEAD_AUTH_RESP_RX (R253): An AUTH_RESP is verified under the slot policy. -/
  | headAuthRespRx (t : Nat) (p seq serial count : Nat) (mac : List Byte)
  /-- HEAD_USAGE_READ_RX (R254): A USAGE_READ reply is verified and confirms pending units. -/
  | headUsageReadRx (t : Nat) (p seq nonce serial count : Nat) (mac : List Byte)
  /-- HEAD_USAGE_PERIODIC (R254): A USAGE_READ is sent every 60 s. -/
  | headUsagePeriodic (t : Nat) (p : Nat)
  /-- HEAD_CFG_READ_RX (R243): A CFG_READ reply delivers head configuration data. -/
  | headCfgReadRx (t : Nat) (p seq space : Nat) (data : List Byte)
  /-- HEAD_TRAINING_LOCK (R226): AUX and an out lane lock and the port enters IDENTIFY. -/
  | headTrainingLock (t : Nat) (p lanes : Nat)
  /-- HEAD_TRAINING_TIMEOUT (R226): No lock within 10 ms of TRAINING takes the port DOWN. -/
  | headTrainingTimeout (t : Nat) (p : Nat)
  /-- HEAD_AUX_LOCK_LOSS (R241): AUX lock lost for more than 100 µs takes the link down. -/
  | headAuxLockLoss (t : Nat) (p lostFor : Nat)
  /-- HEAD_AUX_SILENCE (R241): No frame on AUX for 5 ms takes the link down. -/
  | headAuxSilence (t : Nat) (p : Nat)
  /-- HEAD_AUTO_RELINK (R226): A DOWN port with AUTO_RELINK relinks after 100 ms. -/
  | headAutoRelink (t : Nat) (p : Nat)
  /-- MAINT_FIRING (R257): A maintenance activity fires its next firing at RATE. -/
  | maintFiring (t : Nat) (p : Nat)
  /-- WATCH_PUBLISH (R272): The watch publishes a batch of state changes under a new epoch. -/
  | watchPublish (t : Nat)
  /-- WAVE_TEMP_UPDATE (R203): A waveform engine updates a port's temperature scales on its schedule. -/
  | waveTempUpdate (t : Nat) (p ns : Nat)
  /-- WAVE_ENGINE_OVERRUN (R218): An update unfinished by the next update takes the engine offline. -/
  | waveEngineOverrun (t : Nat) (w : Nat)
  /-- POWER_STEP_EVAL (R216): Every 1 ms each module's power step is evaluated. -/
  | powerStepEval (t : Nat) (w : Nat)
  /-- CELLAR_READ (R51): A Cellar codeword read is decoded, corrected or delivered as zeros. -/
  | cellarRead (t : Nat) (b : Nat) (errors : List (Nat × Nat))
  /-- CELLAR_PARTIAL_WRITE (R60): A partial block write is performed as a read-modify-write. -/
  | cellarPartialWrite (t : Nat) (b off : Nat) (bytes : List Byte)
  /-- CELLAR_PROBE (R62): A mode-register probe of each channel every 1 ms. -/
  | cellarProbe (t : Nat) (c : Nat) (temp : Option Nat)
  /-- SCRUB_STEP (R58): Scrub reads a block, corrects it and writes it back when needed. -/
  | scrubStep (t : Nat) (c : Nat)
  /-- DESCRIPTOR_READ (R78): A stream descriptor read completes and the descriptor is consumed or faulted. -/
  | descriptorRead (t : Nat) (n : Nat)
  /-- DESCRIPTOR_RETRY (R78): A failed descriptor read is retried 100 µs later. -/
  | descriptorRetry (t : Nat) (n : Nat)
  /-- WRITE_BACK (R79): The consumed index is written back once the device has finished with a descriptor. -/
  | writeBack (t : Nat) (n : Nat)
  /-- SDS_PACKET (R89): A decompressor checks and decodes one SDS packet into a line. -/
  | sdsPacket (t : Nat) (k : Nat) (parityFails : Bool)
  /-- DECOMP_PACKET_TIMEOUT (R102): A packet taking over 2 ms takes the decompressor offline. -/
  | decompPacketTimeout (t : Nat) (k : Nat)
  /-- LINE_ENGINE_LINE (R111): The line engines remap, select, substitute, spread and pack a handed line. -/
  | lineEngineLine (t : Nat) (n p : Nat) (parity : Option Nat)
  /-- SLICE_TIMEOUT (R131): A slice over 1 ms takes its engine offline and the line in flight PARTIAL. -/
  | sliceTimeout (t : Nat) (e : Nat)
  /-- LINE_STORED (R129): Every block write of a line returns and W_stored advances. -/
  | lineStored (t : Nat) (n p : Nat) (sliceNs : List Nat)
  /-- PANTRY_READ (R396): A Pantry read is checked by SECDED and corrected or reported uncorrectable. -/
  | pantryRead (t : Nat) (addr user : Nat) (flips : List Nat)
  /-- PANTRY_PARTIAL_WRITE (R395): A partial word write reads, merges and writes with fresh check bits. -/
  | pantryPartialWrite (t : Nat) (addr user enables data : Nat) (flips : List Nat)
  /-- BANK_REST (R397): A bank without access for its rest time enters its rest state. -/
  | bankRest (t : Nat) (b : Nat)
  /-- BANK_WAKE_COMPLETE (R397): A bank finishes waking and serves its queued accesses. -/
  | bankWakeComplete (t : Nat) (b : Nat)
  /-- BANK_FILL_COMPLETE (R398): A bank leaving OFF finishes filling with 0. -/
  | bankFillComplete (t : Nat) (b : Nat)
  /-- PATROL_CYCLE_START (R400): Patrol starts a segment cycle on a bank every interval. -/
  | patrolCycleStart (t : Nat) (b : Nat)
  /-- PATROL_PHASE_END (R401): A patrol phase completes and the next begins. -/
  | patrolPhaseEnd (t : Nat) (b : Nat) (fault : Bool) (bad : List (Nat × List Nat)) (suppressed : Nat)
  /-- DW_BURST_ISSUE (R407): At each issue opportunity the engine issues one burst by priority. -/
  | dwBurstIssue (t : Nat)
  /-- DW_BURST_COMPLETE (R420): A burst's data or write response returns. -/
  | dwBurstComplete (t : Nat) (ch k stall : Nat)
  /-- DW_LATE_ERROR (R421): A write error after its instruction retired marks it BAD and LATE. -/
  | dwLateError (t : Nat) (m k cause units : Nat)
  /-- DW_NOP (R411): Instruction that does nothing. -/
  | dwNop (t : Nat) (m : Nat)
  /-- DW_MOVE (R424): Instruction that moves bytes between spaces. -/
  | dwMove (t : Nat) (m : Nat)
  /-- DW_MOVE2D (R425): Instruction that moves bytes along a two-dimensional shape. -/
  | dwMove2d (t : Nat) (m : Nat)
  /-- DW_FILL (R412): Instruction that repeats an 8-byte pattern over a destination. -/
  | dwFill (t : Nat) (m : Nat)
  /-- DW_FILL2D (R412): Instruction that fills a two-dimensional destination with a pattern. -/
  | dwFill2d (t : Nat) (m : Nat)
  /-- DW_CMP (R423): Instruction that compares two operands. -/
  | dwCmp (t : Nat) (m : Nat)
  /-- DW_CMP2D (R423): Instruction that compares two-dimensional operands. -/
  | dwCmp2d (t : Nat) (m : Nat)
  /-- DW_LOOP (R413): Instruction that repeats a body with stepped addresses. -/
  | dwLoop (t : Nat) (m : Nat)
  /-- DW_WAIT (R419): Instruction that waits for an event line pulse. -/
  | dwWait (t : Nat) (m : Nat)
  /-- DW_WAIT_DONE (R419): A WAIT completes on a recognised pulse of its event line. -/
  | dwWaitDone (t : Nat) (m : Nat)
  /-- DW_WAIT_TIMEOUT (R419): A WAIT expires and is marked BAD with TIMEOUT. -/
  | dwWaitTimeout (t : Nat) (m : Nat)
  /-- DW_SIGNAL (R418): Instruction that pulses an event line once earlier writes have left or settled. -/
  | dwSignal (t : Nat) (m : Nat)
  /-- DW_FENCE (R418): Instruction that waits for every earlier read and write response. -/
  | dwFence (t : Nat) (m : Nat)
  /-- DW_END (R416): Instruction that ends the run. -/
  | dwEnd (t : Nat) (m : Nat)
  /-- OTP_PROGRAM_ROUND (R449): A programming round pulses the unverified bits and verifies them. -/
  | otpProgramRound (t : Nat) (tight nominal : Nat)
  /-- OTP_RESENSE (R440): The HP re-senses one OTP word at both references. -/
  | otpResense (t : Nat) (read : Option (Nat × Nat))
  /-- PEAL_PORT_UP (R281): A Peal port holding lock for 1 ms with 8 SYNC exchanges becomes UP. -/
  | pealPortUp (t : Nat) (k nport lockFor : Nat)
  /-- PEAL_PORT_DOWN (R281): A Peal port loses lock, goes silent or errs and goes DOWN. -/
  | pealPortDown (t : Nat) (k cause lostFor : Nat)
  /-- HOLDOVER_TIMEOUT (R293): After 10 ms of holdover the timebase follows SYSCLK. -/
  | holdoverTimeout (t : Nat)
  /-- PEAL_FRAME_DISCARD (R284): A malformed, own-source or duplicate Peal frame is discarded. -/
  | pealFrameDiscard (t : Nat) (k err src : Nat) (f : Option PealFrame)
  /-- TOLL_RX (R295): A toll frame commits its line on a ring track or stops it. -/
  | tollRx (t : Nat) (k : Nat) (f : PealFrame)
  /-- TOLL_LOSS (R297): A ring track with no higher toll by t_H + T_H − FETCH stops. -/
  | tollLoss (t : Nat) (tr : Nat)
  /-- CHIME_RX (R305): A chime restarts the deputy's timer or announces a take-over. -/
  | chimeRx (t : Nat) (k : Nat) (f : PealFrame)
  /-- CHIME_SEND (R299): Every 10 µs of ring time the device sends a chime on each UP port. -/
  | chimeSend (t : Nat) (alive : Bool)
  /-- DEPUTY_TAKEOVER (R306): The deputy takes over when its chime timers expire with the Clapper released. -/
  | deputyTakeover (t : Nat)
  /-- PAIR_LINK_LOST (R308): Chimes lost between master and deputy while CLAPPER_N is held. -/
  | pairLinkLost (t : Nat)
  /-- CLAPPER_ACCEPT (R301): A new CLAPPER_N level steady for 1 µs is accepted. -/
  | clapperAccept (t : Nat) (level : Bool)
  /-- CLAPPER_CLAIM (R303): The master claims CLAPPER_N once it has been released for 20 µs. -/
  | clapperClaim (t : Nat)
  /-- CLAPPER_CONFLICT (R303): CLAPPER_N held low for 10 ms fails the round with ROLE_CONFLICT. -/
  | clapperConflict (t : Nat)
  /-- SYNC_EXCHANGE (R291): A SYNC exchange is started on each UP port every 100 µs. -/
  | syncExchange (t : Nat) (k : Nat)
  /-- SYNC_RX (R291): A SYNC frame is answered or yields delay and offset. -/
  | syncRx (t : Nat) (k : Nat) (f : PealFrame)
  /-- PACE_REPORT_RX (R309): A child's REPORT is combined and passed toward the master. -/
  | paceReportRx (t : Nat) (k : Nat) (f : PealFrame)
  /-- PACE_REPORT_TIMEOUT (R309): A missing child REPORT is replaced by one marked INCOMPLETE. -/
  | paceReportTimeout (t : Nat) (eval : Nat)
  /-- PACE_RING_RX (R311): A RING PACE frame sets the ring value. -/
  | paceRingRx (t : Nat) (k : Nat) (f : PealFrame)
  /-- RING_VALUE_STALE (R311): No RING frame for 2,100 µs makes the ring value 0. -/
  | ringValueStale (t : Nat)
  /-- TUNNEL_RX (R313): A tunnelled command is executed under the target's rules. -/
  | tunnelRx (t : Nat) (k : Nat) (f : PealFrame)
  /-- TUNNEL_RESPONSE_RX (R333): A tunnelled response returns a remote target's result. -/
  | tunnelResponseRx (t : Nat) (k : Nat) (f : PealFrame)
  /-- DISCOVER_ASSIGN_RX (R286): An ASSIGN gives the device its ID and is passed on or answered with END. -/
  | discoverAssignRx (t : Nat) (k : Nat) (f : PealFrame)
  /-- DISCOVER_END_RX (R286): An END is passed toward the master or continues discovery. -/
  | discoverEndRx (t : Nat) (k : Nat) (f : PealFrame)
  /-- DISCOVER_DONE_RX (R292): DONE activates the ring and sets ring time. -/
  | discoverDoneRx (t : Nat) (k : Nat) (f : PealFrame)
  /-- DISCOVER_BUSY_RX (R287): A BUSY answer fails the discovery round. -/
  | discoverBusyRx (t : Nat) (k : Nat) (f : PealFrame)
  /-- DISCOVERY_TIMEOUT (R287): A round not ended within 100 ms fails. -/
  | discoveryTimeout (t : Nat)
  /-- STATUS_SEND (R289): Every 10 ms each non-master sends STATUS to the master. -/
  | statusSend (t : Nat)
  /-- STATUS_RX (R289): The master records a device's STATUS and marks it present. -/
  | statusRx (t : Nat) (k : Nat) (f : PealFrame)
  /-- PRESENCE_EXPIRE (R289): A device without STATUS for 30 ms is no longer present. -/
  | presenceExpire (t : Nat) (devId : Nat)
  /-- DEPUTY_LOST (R308): The master has received no deputy chime for LOSS_TIME and raises DEPUTY_LOST. -/
  | deputyLost (t : Nat)
  /-- PCIE_LINK_DOWN (R414): The PCIe link leaves L0 without a PERST_N, so LINK_UP falls and later host accesses fail with cause LINK. -/
  | pcieLinkDown (t : Nat)
  /-- HOST_READ_TIMEOUT (R414): A host read that gets no completion in time is marked BAD with cause HOST_READ. -/
  | hostReadTimeout (t : Nat) (ch k : Nat)
  /-- TEST_N (R513): While TEST_N is low, the core is held in reset as under RESET_N and the device does not leave BOOT. -/
  | testN (t : Nat) (low : Bool) (ns : Nat)
  /-- JTAG_INSTRUCTION (R528): Loading EXTEST, CLAMP or HIGHZ holds the core in reset until the TAP returns to Test-Logic-Reset. -/
  | jtagInstruction (t : Nat) (instr : Jtag)
  /-- CHANNEL_HEARTBEAT_LAPSE (R483): A Triangle channel's 20 µs retriggerable timer lapses when its heartbeat stops, and its open-drain enables go low. -/
  | channelHeartbeatLapse (t : Nat) (ch : Nat)
  deriving DecidableEq, Repr

end Sys2Proof
end

