-- ==== Sys2Proof/Decode.lean ====
section
/-! DEFINITION. The words of the table of operations (opcode_table.json): its rows have no bits. -/

namespace Sys2Proof

/-- The command that a word of the table of operations spells. No row of the table has bits: commands reach the part as
porch commands (R320), register accesses, frames and events, which are operands of `Instr`. -/
def decodeTableWord (_nbits _w : Nat) : Option Instr := none

end Sys2Proof
end

