-- ==== Sys2Proof/Machine/Tbl.lean ====
section
/-! DEFINITION. Sparse tables in one canonical form, and little-endian bytes (R10). -/

namespace Sys2Proof.Machine

/-- A sparse table: entries with strictly rising keys; a key that is not listed holds the table's default, and no
entry equals it. -/
structure Tbl (α : Type) where
  cells : List (Nat × α) := []
  deriving DecidableEq, Repr

/-- The entry listed for a key. -/
def lookupCell {α : Type} : List (Nat × α) → Nat → Option α
  | [], _ => none
  | (k, v) :: r, a => if a = k then some v else lookupCell r a

/-- A list of entries with the key's entry put in its place. -/
def insertCell {α : Type} : List (Nat × α) → Nat → α → List (Nat × α)
  | [], a, x => [(a, x)]
  | (k, v) :: r, a, x =>
    if a < k then (a, x) :: (k, v) :: r else if a = k then (a, x) :: r else (k, v) :: insertCell r a x

/-- A list of entries without the key's entry. -/
def eraseCell {α : Type} (l : List (Nat × α)) (a : Nat) : List (Nat × α) := l.filter (fun c => decide (c.1 ≠ a))

/-- What a table holds at a key. -/
def Tbl.get {α : Type} (t : Tbl α) (d : α) (k : Nat) : α := (lookupCell t.cells k).getD d

/-- The table with a key's value replaced; the default value is not listed. -/
def Tbl.set {α : Type} [DecidableEq α] (t : Tbl α) (d : α) (k : Nat) (v : α) : Tbl α :=
  if v = d then ⟨eraseCell t.cells k⟩ else ⟨insertCell t.cells k v⟩

/-- Every key of a list of entries is above `b`, and the keys rise strictly. -/
def risingAbove {α : Type} : Option Nat → List (Nat × α) → Bool
  | _, [] => true
  | b, (k, _) :: r => (match b with | none => true | some x => decide (x < k)) && risingAbove (some k) r

/-- The canonical form of a table whose default depends on the key: keys strictly rising, no entry equal to what its key
holds unlisted. -/
def Tbl.wfBy {α : Type} [DecidableEq α] (t : Tbl α) (d : Nat → α) : Bool :=
  risingAbove none t.cells && t.cells.all (fun c => decide (c.2 ≠ d c.1))

/-- The canonical form: keys strictly rising, no entry equal to the default. -/
def Tbl.wf {α : Type} [DecidableEq α] (t : Tbl α) (d : α) : Bool := t.wfBy (fun _ => d)

/-- The keys listed. -/
def Tbl.keys {α : Type} (t : Tbl α) : List Nat := t.cells.map (·.1)

/-- The table with no entry for the keys from `lo` up to `hi`, `hi` not among them. -/
def Tbl.drop {α : Type} (t : Tbl α) (lo hi : Nat) : Tbl α := ⟨t.cells.filter (fun c => decide (c.1 < lo ∨ hi ≤ c.1))⟩

/-- `n` bytes of a number, least significant first (R10). -/
def leBytes : Nat → Nat → List Byte
  | 0, _ => []
  | n + 1, v => BitVec.ofNat 8 v :: leBytes n (v / 256)

/-- The number that bytes spell, least significant first (R10). -/
def leNat : List Byte → Nat
  | [] => 0
  | b :: r => b.toNat + 256 * leNat r

/-- `n` bytes of a number, most significant first. -/
def beBytes (n v : Nat) : List Byte := (leBytes n v).reverse

/-- The number that bytes spell, most significant first. -/
def beNat (l : List Byte) : Nat := leNat l.reverse

/-- `n` bytes of a list from byte `off`. -/
def bytesAt (l : List Byte) (off n : Nat) : List Byte := (l.drop off).take n

/-- The unsigned little-endian field of `n` bytes at byte `off` (R10). -/
def uAt (l : List Byte) (off n : Nat) : Nat := leNat (bytesAt l off n)

/-- A number of `w` bits read as two's complement. -/
def toSigned (w v : Nat) : Int := if v % 2 ^ w < 2 ^ (w - 1) then (v % 2 ^ w : Nat) else ((v % 2 ^ w : Nat) : Int) - 2 ^ w

/-- A signed number as `w` bits of two's complement. -/
def ofSigned (w : Nat) (v : Int) : Nat := (v % (2 ^ w : Int)).toNat

/-- The signed little-endian field of `n` bytes at byte `off`. -/
def sAt (l : List Byte) (off n : Nat) : Int := toSigned (8 * n) (uAt l off n)

/-- Bit `k` of a number. -/
def bitOf (v k : Nat) : Bool := v.testBit k

/-- A number with bit `k` set or cleared. -/
def putBit (v k : Nat) (b : Bool) : Nat := if b then v ||| 2 ^ k else v ^^^ (v &&& 2 ^ k)

/-- 1 for true, 0 for false. -/
def b2n (b : Bool) : Nat := if b then 1 else 0

/-- Bits `lo` to `lo + w - 1` of a number. -/
def bitsOf (v lo w : Nat) : Nat := (v >>> lo) % 2 ^ w

/-- The number of set bits among the lowest `w` bits. -/
def onesIn (w v : Nat) : Nat := ((List.range w).filter (bitOf v)).length

/-- A sum that stays at the largest value of `w` bits (R324 and the counters' tables: counters saturate). -/
def satAdd (w a b : Nat) : Nat := min (a + b) (2 ^ w - 1)

/-- The quotient rounded up. -/
def ceilDiv (a b : Nat) : Nat := (a + b - 1) / b

end Sys2Proof.Machine
end

