-- ==== Sys2Proof/Machine/RegMap.lean ====
section
/-! DEFINITION. The register map of BAR0 (R543 to R545): one row for every register the manual's tables give, with
its fields, their access codes (R13) and their reset values; and a named place for every field. -/

namespace Sys2Proof.Machine

/-- The access codes of R13. -/
inductive Acc where
  | ro | rw | rwf | w1c | w1s | wo | rc
  deriving DecidableEq, Repr

/-- One field of a register: its bits `lo` to `lo + width - 1`, its access code and its reset value. -/
structure RegField where
  lo : Nat
  width : Nat
  acc : Acc
  reset : Nat
  deriving DecidableEq, Repr

/-- Registers of one name: `arr` words from `base + i * stride`, for each instance `i < count`. -/
structure RegRow where
  name : String
  base : Nat
  stride : Nat
  count : Nat
  arr : Nat
  fields : List RegField
  deriving DecidableEq, Repr

/-- The place of one field: BAR0 offset of its register, lowest bit, width. -/
structure Fld where
  off : Nat
  lo : Nat
  width : Nat
  deriving DecidableEq, Repr


/-- Registers of prefix CH. -/
def rowsCH : List RegRow := [
  ⟨"CH_CTRL", 0x50000, 0x40, 12, 1, [⟨0, 1, .rwf, 0⟩, ⟨1, 1, .rwf, 0⟩, ⟨2, 1, .rwf, 0⟩]⟩,
  ⟨"CH_STATUS", 0x50004, 0x40, 12, 1, [⟨0, 3, .ro, 0⟩, ⟨3, 1, .ro, 0⟩, ⟨4, 6, .ro, 0⟩, ⟨10, 1, .ro, 0⟩, ⟨11, 3, .ro, 0⟩, ⟨16, 3, .ro, 0⟩]⟩,
  ⟨"CORR1", 0x50008, 0x40, 12, 1, [⟨0, 32, .rc, 0⟩]⟩,
  ⟨"CORR2", 0x5000C, 0x40, 12, 1, [⟨0, 32, .rc, 0⟩]⟩,
  ⟨"UNCORR", 0x50010, 0x40, 12, 1, [⟨0, 32, .rc, 0⟩]⟩,
  ⟨"ADDR_ERR", 0x50014, 0x40, 12, 1, [⟨0, 32, .rc, 0⟩]⟩,
  ⟨"RMW", 0x50018, 0x40, 12, 1, [⟨0, 32, .rc, 0⟩]⟩,
  ⟨"BLANK", 0x5001C, 0x40, 12, 1, [⟨0, 32, .rc, 0⟩]⟩,
  ⟨"LAST_ERR_BLOCK", 0x50020, 0x40, 12, 1, [⟨0, 32, .ro, 0⟩]⟩,
  ⟨"LAST_ERR_INFO", 0x50024, 0x40, 12, 1, [⟨0, 1, .ro, 0⟩, ⟨1, 1, .ro, 0⟩]⟩,
  ⟨"LANE_WATCH", 0x50028, 0x40, 12, 1, [⟨0, 6, .ro, 0⟩, ⟨6, 11, .ro, 0⟩]⟩,
  ⟨"SCRUB_POS", 0x5002C, 0x40, 12, 1, [⟨0, 32, .ro, 0⟩]⟩,
  ⟨"BW_READ", 0x50030, 0x40, 12, 1, [⟨0, 32, .ro, 0⟩]⟩,
  ⟨"BW_WRITE", 0x50034, 0x40, 12, 1, [⟨0, 32, .ro, 0⟩]⟩,
  ⟨"PROBE_FAIL", 0x50038, 0x40, 12, 1, [⟨0, 32, .rc, 0⟩]⟩,
  ⟨"SCRUB_CANCEL", 0x5003C, 0x40, 12, 1, [⟨0, 32, .rc, 0⟩]⟩]

/-- Registers of prefix CELLAR. -/
def rowsCELLAR : List RegRow := [
  ⟨"CELLAR_CTRL", 0x50400, 0x0, 1, 1, [⟨0, 12, .rwf, 0⟩, ⟨16, 1, .rwf, 0⟩]⟩,
  ⟨"CELLAR_STATUS", 0x50404, 0x0, 1, 1, [⟨0, 12, .ro, 0⟩, ⟨12, 4, .ro, 0⟩, ⟨16, 1, .ro, 0⟩, ⟨17, 1, .ro, 0⟩, ⟨18, 1, .ro, 0⟩]⟩,
  ⟨"CAPACITY", 0x50408, 0x0, 1, 1, [⟨0, 16, .ro, 0⟩, ⟨16, 4, .ro, 0⟩]⟩,
  ⟨"RING_AREA", 0x5040C, 0x0, 1, 1, [⟨0, 32, .ro, 0⟩]⟩,
  ⟨"RING_NEED", 0x50410, 0x0, 1, 1, [⟨0, 32, .ro, 0⟩]⟩,
  ⟨"TABLE_AREA", 0x50414, 0x0, 1, 1, [⟨0, 32, .ro, 0⟩]⟩,
  ⟨"SCRUB_CFG", 0x50418, 0x0, 1, 1, [⟨0, 11, .rwf, 10⟩]⟩,
  ⟨"SCRUB_STATUS", 0x5041C, 0x0, 1, 1, [⟨0, 8, .ro, 0⟩, ⟨8, 24, .ro, 0⟩]⟩,
  ⟨"INT_STATUS", 0x50420, 0x0, 1, 1, [⟨0, 1, .w1c, 0⟩, ⟨1, 1, .w1c, 0⟩, ⟨2, 1, .w1c, 0⟩, ⟨3, 1, .w1c, 0⟩, ⟨4, 1, .w1c, 0⟩, ⟨5, 1, .w1c, 0⟩, ⟨6, 1, .w1c, 0⟩, ⟨7, 1, .w1c, 0⟩]⟩,
  ⟨"INT_ENABLE", 0x50424, 0x0, 1, 1, [⟨0, 1, .rw, 0⟩, ⟨1, 1, .rw, 0⟩, ⟨2, 1, .rw, 0⟩, ⟨3, 1, .rw, 0⟩, ⟨4, 1, .rw, 0⟩, ⟨5, 1, .rw, 0⟩, ⟨6, 1, .rw, 0⟩, ⟨7, 1, .rw, 0⟩]⟩,
  ⟨"BW_STATUS", 0x50428, 0x0, 1, 1, [⟨0, 8, .ro, 0⟩, ⟨8, 4, .ro, 0⟩]⟩,
  ⟨"BW_LIMIT", 0x5042C, 0x0, 1, 1, [⟨0, 8, .rwf, 230⟩]⟩,
  ⟨"CORR_TOTAL", 0x50430, 0x0, 1, 1, [⟨0, 32, .rc, 0⟩]⟩,
  ⟨"UNCORR_TOTAL", 0x50434, 0x0, 1, 1, [⟨0, 32, .rc, 0⟩]⟩,
  ⟨"BLANK_TOTAL", 0x50438, 0x0, 1, 1, [⟨0, 32, .rc, 0⟩]⟩,
  ⟨"RMW_TOTAL", 0x5043C, 0x0, 1, 1, [⟨0, 32, .rc, 0⟩]⟩,
  ⟨"PLANE_NEED", 0x50440, 0x0, 1, 16, [⟨0, 32, .ro, 0⟩]⟩]

/-- Registers of prefix STREAM_N. -/
def rowsSTREAMN : List RegRow := [
  ⟨"TAIL", 0x30000, 0x10, 128, 1, [⟨0, 16, .rw, 0⟩]⟩,
  ⟨"HEAD_STATE", 0x30004, 0x10, 128, 1, [⟨0, 16, .ro, 0⟩, ⟨16, 2, .ro, 0⟩, ⟨18, 3, .ro, 0⟩, ⟨21, 1, .ro, 0⟩, ⟨23, 9, .ro, 0⟩]⟩,
  ⟨"RUNWAY", 0x30008, 0x10, 128, 1, [⟨0, 16, .ro, 0⟩, ⟨16, 16, .ro, 0⟩]⟩,
  ⟨"FAULTS", 0x3000C, 0x10, 128, 1, [⟨0, 4, .rc, 0⟩, ⟨4, 4, .rc, 0⟩, ⟨8, 4, .rc, 0⟩, ⟨12, 4, .rc, 0⟩, ⟨16, 4, .rc, 0⟩, ⟨20, 4, .rc, 0⟩, ⟨24, 4, .rc, 0⟩, ⟨28, 4, .rc, 0⟩]⟩]

/-- Registers of prefix STREAM. -/
def rowsSTREAM : List RegRow := [
  ⟨"STREAM_CTRL", 0x30800, 0x0, 1, 1, [⟨0, 1, .rwf, 0⟩, ⟨1, 1, .rwf, 0⟩]⟩,
  ⟨"OPEN", 0x30804, 0x0, 1, 4, [⟨0, 32, .ro, 0⟩]⟩,
  ⟨"FAULT_PEND", 0x30814, 0x0, 1, 4, [⟨0, 32, .w1c, 0⟩]⟩,
  ⟨"INT_STATUS", 0x30824, 0x0, 1, 1, [⟨0, 1, .w1c, 0⟩, ⟨1, 1, .w1c, 0⟩, ⟨2, 1, .w1c, 0⟩, ⟨3, 1, .w1c, 0⟩, ⟨4, 1, .w1c, 0⟩, ⟨5, 1, .w1c, 0⟩]⟩,
  ⟨"INT_ENABLE", 0x30828, 0x0, 1, 1, [⟨0, 1, .rw, 0⟩, ⟨1, 1, .rw, 0⟩, ⟨2, 1, .rw, 0⟩, ⟨3, 1, .rw, 0⟩, ⟨4, 1, .rw, 0⟩, ⟨5, 1, .rw, 0⟩]⟩,
  ⟨"MIN_RUNWAY", 0x3082C, 0x0, 1, 1, [⟨0, 16, .ro, 65535⟩, ⟨16, 7, .ro, 0⟩]⟩,
  ⟨"UNDERRUN_TOTAL", 0x30830, 0x0, 1, 1, [⟨0, 32, .rc, 0⟩]⟩,
  ⟨"BLANK_TOTAL", 0x30834, 0x0, 1, 1, [⟨0, 32, .rc, 0⟩]⟩,
  ⟨"LAST_FAULT", 0x30838, 0x0, 1, 1, [⟨0, 7, .ro, 0⟩, ⟨7, 1, .ro, 0⟩, ⟨8, 4, .ro, 0⟩, ⟨12, 4, .ro, 0⟩, ⟨16, 16, .ro, 0⟩]⟩,
  ⟨"LAST_FAULT_LINE", 0x3083C, 0x0, 1, 1, [⟨0, 32, .ro, 0⟩]⟩]

/-- Registers of prefix DECOMP. -/
def rowsDECOMP : List RegRow := [
  ⟨"DC_CTRL", 0x31000, 0x20, 8, 1, [⟨0, 1, .rwf, 0⟩, ⟨1, 1, .rwf, 0⟩]⟩,
  ⟨"DC_STATUS", 0x31004, 0x20, 8, 1, [⟨0, 2, .ro, 0⟩, ⟨2, 7, .ro, 0⟩, ⟨9, 1, .ro, 0⟩, ⟨10, 2, .ro, 0⟩]⟩,
  ⟨"DC_STREAMS", 0x31008, 0x20, 8, 1, [⟨0, 8, .ro, 0⟩]⟩,
  ⟨"PACKETS", 0x3100C, 0x20, 8, 1, [⟨0, 32, .rc, 0⟩]⟩,
  ⟨"LINES", 0x31010, 0x20, 8, 1, [⟨0, 32, .rc, 0⟩]⟩,
  ⟨"BYTES_OUT", 0x31014, 0x20, 8, 1, [⟨0, 32, .rc, 0⟩]⟩,
  ⟨"CRC_ERR", 0x31018, 0x20, 8, 1, [⟨0, 32, .rc, 0⟩]⟩,
  ⟨"CORRUPT", 0x3101C, 0x20, 8, 1, [⟨0, 32, .rc, 0⟩]⟩]

/-- Registers of prefix LE. -/
def rowsLE : List RegRow := [
  ⟨"LE_CTRL", 0x40000, 0x40, 12, 1, [⟨0, 1, .rwf, 0⟩, ⟨1, 1, .rwf, 0⟩]⟩,
  ⟨"LE_STATUS", 0x40004, 0x40, 12, 1, [⟨0, 2, .ro, 0⟩, ⟨2, 2, .ro, 0⟩, ⟨4, 4, .ro, 0⟩, ⟨8, 4, .ro, 0⟩]⟩,
  ⟨"LINES", 0x40008, 0x40, 12, 1, [⟨0, 32, .rc, 0⟩]⟩,
  ⟨"BYTES_IN", 0x4000C, 0x40, 12, 1, [⟨0, 32, .rc, 0⟩]⟩,
  ⟨"SUBST", 0x40010, 0x40, 12, 1, [⟨0, 32, .rc, 0⟩]⟩,
  ⟨"SPREAD", 0x40014, 0x40, 12, 1, [⟨0, 32, .rc, 0⟩]⟩,
  ⟨"SPREAD_DROP", 0x40018, 0x40, 12, 1, [⟨0, 32, .rc, 0⟩]⟩,
  ⟨"BLANK_LINES", 0x4001C, 0x40, 12, 1, [⟨0, 32, .rc, 0⟩]⟩,
  ⟨"MAX_SLICE_TIME", 0x40020, 0x40, 12, 1, [⟨0, 32, .rc, 0⟩]⟩,
  ⟨"LOAD", 0x40024, 0x40, 12, 1, [⟨0, 8, .ro, 0⟩]⟩,
  ⟨"LAST_LINE", 0x40028, 0x40, 12, 1, [⟨0, 7, .ro, 0⟩, ⟨7, 1, .ro, 0⟩, ⟨8, 24, .ro, 0⟩]⟩,
  ⟨"STATE_EPOCH", 0x4002C, 0x40, 12, 1, [⟨0, 32, .ro, 0⟩]⟩]

/-- Registers of prefix LINE. -/
def rowsLINE : List RegRow := [
  ⟨"LINE_CTRL", 0x40400, 0x0, 1, 1, [⟨0, 12, .rwf, 0⟩]⟩,
  ⟨"LINE_STATUS", 0x40404, 0x0, 1, 1, [⟨0, 12, .ro, 0⟩, ⟨12, 4, .ro, 0⟩]⟩,
  ⟨"INT_STATUS", 0x40408, 0x0, 1, 1, [⟨0, 1, .w1c, 0⟩, ⟨1, 1, .w1c, 0⟩, ⟨2, 1, .w1c, 0⟩, ⟨3, 1, .w1c, 0⟩]⟩,
  ⟨"INT_ENABLE", 0x4040C, 0x0, 1, 1, [⟨0, 1, .rw, 0⟩, ⟨1, 1, .rw, 0⟩, ⟨2, 1, .rw, 0⟩, ⟨3, 1, .rw, 0⟩]⟩,
  ⟨"LOAD", 0x40410, 0x0, 1, 1, [⟨0, 8, .ro, 0⟩, ⟨8, 4, .ro, 0⟩]⟩,
  ⟨"BW_LIMIT", 0x40414, 0x0, 1, 1, [⟨0, 8, .rwf, 230⟩]⟩,
  ⟨"SUBST_TOTAL", 0x40418, 0x0, 1, 1, [⟨0, 32, .rc, 0⟩]⟩,
  ⟨"SPREAD_TOTAL", 0x4041C, 0x0, 1, 1, [⟨0, 32, .rc, 0⟩]⟩,
  ⟨"SPREAD_DROP_TOTAL", 0x40420, 0x0, 1, 1, [⟨0, 32, .rc, 0⟩]⟩,
  ⟨"PARTIAL_TOTAL", 0x40424, 0x0, 1, 1, [⟨0, 32, .rc, 0⟩]⟩,
  ⟨"LAST_PARTIAL", 0x40428, 0x0, 1, 1, [⟨0, 7, .ro, 0⟩, ⟨7, 1, .ro, 0⟩, ⟨8, 4, .ro, 0⟩, ⟨12, 16, .ro, 0⟩]⟩,
  ⟨"LAST_PARTIAL_LINE", 0x4042C, 0x0, 1, 1, [⟨0, 32, .ro, 0⟩]⟩,
  ⟨"STATE_EPOCH", 0x40430, 0x0, 1, 1, [⟨0, 32, .ro, 0⟩]⟩,
  ⟨"MASK_VALID", 0x40434, 0x0, 1, 1, [⟨0, 16, .ro, 0⟩]⟩,
  ⟨"GEN_STATUS", 0x40438, 0x0, 1, 1, [⟨0, 1, .ro, 0⟩, ⟨1, 4, .ro, 0⟩]⟩,
  ⟨"MASK_ZERO", 0x4043C, 0x0, 1, 1, [⟨0, 32, .rc, 0⟩]⟩]

/-- Registers of prefix TRACK. -/
def rowsTRACK : List RegRow := [
  ⟨"TR_CTRL", 0x70000, 0x40, 16, 1, [⟨0, 2, .rwf, 0⟩, ⟨2, 2, .rwf, 0⟩, ⟨4, 1, .rwf, 0⟩, ⟨5, 1, .rwf, 0⟩]⟩,
  ⟨"TR_STATUS", 0x70004, 0x40, 16, 1, [⟨0, 2, .ro, 0⟩, ⟨2, 3, .ro, 0⟩, ⟨5, 1, .ro, 0⟩, ⟨6, 1, .ro, 0⟩]⟩,
  ⟨"PITCH_LO", 0x70008, 0x40, 16, 1, [⟨0, 32, .rwf, 0⟩]⟩,
  ⟨"PITCH_HI", 0x7000C, 0x40, 16, 1, [⟨0, 32, .rwf, 1⟩]⟩,
  ⟨"PERIOD_PS", 0x70010, 0x40, 16, 1, [⟨0, 32, .rwf, 15625000⟩]⟩,
  ⟨"TRIM_PPM", 0x70014, 0x40, 16, 1, [⟨0, 32, .rwf, 0⟩]⟩,
  ⟨"LEADS", 0x70018, 0x40, 16, 1, [⟨0, 11, .rwf, 500⟩, ⟨16, 11, .rwf, 200⟩]⟩,
  ⟨"SLACK_TOL", 0x7001C, 0x40, 16, 1, [⟨0, 8, .rwf, 32⟩, ⟨8, 12, .rwf, 16⟩, ⟨20, 12, .rwf, 64⟩]⟩,
  ⟨"LINE_LO", 0x70020, 0x40, 16, 1, [⟨0, 32, .ro, 0⟩]⟩,
  ⟨"LINE_HI", 0x70024, 0x40, 16, 1, [⟨0, 16, .ro, 0⟩]⟩,
  ⟨"TL_LO", 0x70028, 0x40, 16, 1, [⟨0, 32, .ro, 0⟩]⟩,
  ⟨"TL_HI", 0x7002C, 0x40, 16, 1, [⟨0, 32, .ro, 0⟩]⟩,
  ⟨"RATE", 0x70030, 0x40, 16, 1, [⟨0, 20, .ro, 0⟩]⟩,
  ⟨"OVERSPEED", 0x70034, 0x40, 16, 1, [⟨0, 16, .rc, 0⟩, ⟨16, 16, .rc, 0⟩]⟩,
  ⟨"RATED", 0x70038, 0x40, 16, 1, [⟨0, 20, .rwf, 1024000⟩]⟩,
  ⟨"START", 0x7003C, 0x40, 16, 1, [⟨0, 32, .rwf, 0⟩]⟩]

/-- Registers of prefix ENC. -/
def rowsENC : List RegRow := [
  ⟨"EN_CTRL", 0x71000, 0x40, 4, 1, [⟨0, 2, .rwf, 0⟩, ⟨2, 1, .rwf, 0⟩, ⟨3, 1, .rwf, 0⟩, ⟨4, 1, .rwf, 0⟩, ⟨5, 1, .rwf, 0⟩, ⟨8, 8, .rwf, 4⟩, ⟨16, 6, .rwf, 24⟩]⟩,
  ⟨"EN_STATUS", 0x71004, 0x40, 4, 1, [⟨0, 2, .ro, 0⟩, ⟨2, 2, .ro, 0⟩, ⟨4, 1, .ro, 0⟩, ⟨5, 1, .ro, 0⟩, ⟨6, 3, .ro, 0⟩, ⟨16, 8, .ro, 0⟩]⟩,
  ⟨"POS_LO", 0x71008, 0x40, 4, 1, [⟨0, 32, .ro, 0⟩]⟩,
  ⟨"POS_HI", 0x7100C, 0x40, 4, 1, [⟨0, 32, .ro, 0⟩]⟩,
  ⟨"VELOCITY", 0x71010, 0x40, 4, 1, [⟨0, 32, .ro, 0⟩]⟩,
  ⟨"ABS_CFG", 0x71014, 0x40, 4, 1, [⟨0, 14, .rwf, 1000⟩, ⟨16, 10, .rwf, 50⟩]⟩,
  ⟨"ALPHA_BETA", 0x71018, 0x40, 4, 1, [⟨0, 16, .rwf, 16384⟩, ⟨16, 16, .rwf, 2048⟩]⟩,
  ⟨"WD_TIME", 0x7101C, 0x40, 4, 1, [⟨0, 20, .rwf, 1000⟩]⟩,
  ⟨"WD_ARM", 0x71020, 0x40, 4, 1, [⟨0, 24, .rwf, 10000⟩]⟩,
  ⟨"MAX_ACCEL", 0x71024, 0x40, 4, 1, [⟨0, 32, .rwf, 62500⟩]⟩,
  ⟨"PLAUS", 0x71028, 0x40, 4, 1, [⟨0, 16, .rwf, 32⟩, ⟨16, 8, .rwf, 4⟩]⟩,
  ⟨"LATCH_NS", 0x7102C, 0x40, 4, 1, [⟨0, 16, .rwf, 0⟩]⟩,
  ⟨"ERRORS", 0x71030, 0x40, 4, 1, [⟨0, 8, .rc, 0⟩, ⟨8, 8, .rc, 0⟩, ⟨16, 8, .rc, 0⟩, ⟨24, 8, .rc, 0⟩]⟩,
  ⟨"Z_POS", 0x71034, 0x40, 4, 1, [⟨0, 32, .ro, 0⟩]⟩,
  ⟨"SAMPLE_TIME", 0x71038, 0x40, 4, 1, [⟨0, 32, .ro, 0⟩]⟩,
  ⟨"SAMPLES", 0x7103C, 0x40, 4, 1, [⟨0, 32, .rc, 0⟩]⟩]

/-- Registers of prefix TIMING. -/
def rowsTIMING : List RegRow := [
  ⟨"GOV_CTRL", 0x72000, 0x0, 1, 1, [⟨0, 1, .rwf, 0⟩, ⟨1, 1, .rwf, 0⟩, ⟨8, 5, .rwf, 16⟩, ⟨16, 5, .rwf, 0⟩]⟩,
  ⟨"GOV_STATUS", 0x72004, 0x0, 1, 1, [⟨0, 5, .ro, 0⟩, ⟨5, 11, .ro, 256⟩, ⟨16, 15, .ro, 0⟩]⟩,
  ⟨"LIMITS_A", 0x72008, 0x0, 1, 1, [⟨0, 5, .ro, 16⟩, ⟨8, 5, .ro, 16⟩, ⟨16, 5, .ro, 16⟩, ⟨24, 5, .ro, 16⟩]⟩,
  ⟨"LIMITS_B", 0x7200C, 0x0, 1, 1, [⟨0, 5, .ro, 16⟩, ⟨8, 5, .ro, 16⟩, ⟨16, 5, .ro, 16⟩]⟩,
  ⟨"RUNWAY_TARGET", 0x72010, 0x0, 1, 1, [⟨0, 11, .rwf, 64⟩]⟩,
  ⟨"HYST", 0x72014, 0x0, 1, 1, [⟨0, 13, .rwf, 50⟩]⟩,
  ⟨"FRAME", 0x72018, 0x0, 1, 1, [⟨0, 32, .ro, 0⟩]⟩,
  ⟨"TM_INT_STATUS", 0x7201C, 0x0, 1, 1, [⟨0, 1, .w1c, 0⟩, ⟨1, 1, .w1c, 0⟩, ⟨2, 1, .w1c, 0⟩, ⟨3, 1, .w1c, 0⟩, ⟨4, 1, .w1c, 0⟩, ⟨5, 1, .w1c, 0⟩, ⟨6, 1, .w1c, 0⟩, ⟨7, 1, .w1c, 0⟩]⟩,
  ⟨"TM_INT_ENABLE", 0x72020, 0x0, 1, 1, [⟨0, 1, .rw, 0⟩, ⟨1, 1, .rw, 0⟩, ⟨2, 1, .rw, 0⟩, ⟨3, 1, .rw, 0⟩, ⟨4, 1, .rw, 0⟩, ⟨5, 1, .rw, 0⟩, ⟨6, 1, .rw, 0⟩, ⟨7, 1, .rw, 0⟩]⟩,
  ⟨"GOV_INT_STATUS", 0x72024, 0x0, 1, 1, [⟨0, 1, .w1c, 0⟩, ⟨1, 1, .w1c, 0⟩, ⟨2, 1, .w1c, 0⟩, ⟨3, 1, .w1c, 0⟩]⟩,
  ⟨"GOV_INT_ENABLE", 0x72028, 0x0, 1, 1, [⟨0, 1, .rw, 0⟩, ⟨1, 1, .rw, 0⟩, ⟨2, 1, .rw, 0⟩, ⟨3, 1, .rw, 0⟩]⟩,
  ⟨"TRACK_FAULT", 0x7202C, 0x0, 1, 1, [⟨0, 16, .ro, 0⟩]⟩,
  ⟨"LTRIG", 0x72030, 0x0, 1, 4, [⟨0, 1, .rwf, 0⟩, ⟨1, 1, .rwf, 0⟩, ⟨2, 4, .rwf, 0⟩, ⟨6, 6, .rwf, 1⟩, ⟨12, 8, .rwf, 0⟩, ⟨20, 12, .rwf, 0⟩]⟩]

/-- Registers of prefix WE. -/
def rowsWE : List RegRow := [
  ⟨"WE_CTRL", 0x80000, 0x80, 2, 1, [⟨0, 1, .rwf, 0⟩, ⟨1, 1, .rwf, 0⟩]⟩,
  ⟨"WE_STATUS", 0x80004, 0x80, 2, 1, [⟨0, 2, .ro, 0⟩, ⟨2, 2, .ro, 0⟩, ⟨4, 1, .ro, 0⟩, ⟨8, 8, .ro, 0⟩]⟩,
  ⟨"INT_STATUS", 0x80008, 0x80, 2, 1, [⟨0, 1, .w1c, 0⟩, ⟨1, 1, .w1c, 0⟩, ⟨2, 1, .w1c, 0⟩, ⟨3, 1, .w1c, 0⟩, ⟨4, 1, .w1c, 0⟩]⟩,
  ⟨"INT_ENABLE", 0x8000C, 0x80, 2, 1, [⟨0, 1, .rw, 0⟩, ⟨1, 1, .rw, 0⟩, ⟨2, 1, .rw, 0⟩, ⟨3, 1, .rw, 0⟩, ⟨4, 1, .rw, 0⟩]⟩,
  ⟨"SERVED", 0x80010, 0x80, 2, 4, [⟨0, 32, .ro, 0⟩]⟩,
  ⟨"PASSES", 0x80020, 0x80, 2, 1, [⟨0, 32, .rc, 0⟩]⟩,
  ⟨"PASS_TIME_MAX", 0x80024, 0x80, 2, 1, [⟨0, 32, .rc, 0⟩]⟩,
  ⟨"UPDATES", 0x80028, 0x80, 2, 1, [⟨0, 32, .rc, 0⟩]⟩,
  ⟨"TEMP_MISSING", 0x8002C, 0x80, 2, 1, [⟨0, 32, .rc, 0⟩]⟩,
  ⟨"STEP_CHANGES", 0x80030, 0x80, 2, 1, [⟨0, 32, .rc, 0⟩]⟩,
  ⟨"DEADBAND", 0x80034, 0x80, 2, 1, [⟨0, 11, .rwf, 16⟩]⟩,
  ⟨"LAST_UPDATE", 0x80038, 0x80, 2, 1, [⟨0, 7, .ro, 0⟩, ⟨7, 6, .ro, 0⟩, ⟨13, 1, .ro, 0⟩, ⟨16, 16, .ro, 0⟩]⟩,
  ⟨"STEP_MAX", 0x8003C, 0x80, 2, 1, [⟨0, 4, .ro, 0⟩, ⟨4, 7, .ro, 0⟩]⟩,
  ⟨"STEP", 0x80040, 0x80, 2, 16, [⟨0, 32, .ro, 0⟩]⟩]

/-- Registers of prefix WP. -/
def rowsWP : List RegRow := [
  ⟨"WP_CTRL", 0x80100, 0x10, 16, 1, [⟨0, 1, .rwf, 0⟩, ⟨1, 2, .rwf, 0⟩, ⟨3, 7, .rwf, 0⟩]⟩,
  ⟨"WP_LEVEL", 0x80104, 0x10, 16, 1, [⟨0, 14, .rwf, 0⟩]⟩,
  ⟨"WP_DELAY", 0x80108, 0x10, 16, 1, [⟨0, 16, .rwf, 0⟩]⟩,
  ⟨"WP_STATUS", 0x8010C, 0x10, 16, 1, [⟨0, 2, .ro, 0⟩, ⟨2, 6, .ro, 0⟩, ⟨16, 16, .rc, 0⟩]⟩]

/-- Registers of prefix HP. -/
def rowsHP : List RegRow := [
  ⟨"HP_CTRL", 0x60000, 0x10, 128, 1, [⟨0, 1, .rwf, 0⟩, ⟨1, 2, .rwf, 0⟩, ⟨3, 2, .rwf, 0⟩, ⟨5, 1, .rwf, 0⟩, ⟨6, 1, .rwf, 0⟩, ⟨7, 1, .rwf, 0⟩, ⟨8, 4, .rwf, 0⟩, ⟨12, 1, .rwf, 0⟩]⟩,
  ⟨"HP_STATUS", 0x60004, 0x10, 128, 1, [⟨0, 4, .ro, 0⟩, ⟨4, 2, .ro, 0⟩, ⟨6, 2, .ro, 0⟩, ⟨8, 7, .ro, 0⟩, ⟨15, 5, .ro, 0⟩, ⟨20, 1, .ro, 0⟩]⟩,
  ⟨"HP_LINK_ERR", 0x60008, 0x10, 128, 1, [⟨0, 8, .rc, 0⟩, ⟨8, 8, .rc, 0⟩, ⟨16, 8, .rc, 0⟩, ⟨24, 8, .rc, 0⟩]⟩,
  ⟨"HP_LINE_ERR", 0x6000C, 0x10, 128, 1, [⟨0, 16, .rc, 0⟩, ⟨16, 16, .rc, 0⟩]⟩]

/-- Registers of prefix HEADPORT. -/
def rowsHEADPORT : List RegRow := [
  ⟨"HEADS_CTRL", 0x61000, 0x0, 1, 1, [⟨0, 1, .rwf, 0⟩]⟩,
  ⟨"INT_STATUS", 0x61004, 0x0, 1, 1, [⟨0, 1, .w1c, 0⟩, ⟨1, 1, .w1c, 0⟩, ⟨2, 1, .w1c, 0⟩, ⟨3, 1, .w1c, 0⟩, ⟨4, 1, .w1c, 0⟩, ⟨5, 1, .w1c, 0⟩, ⟨6, 1, .w1c, 0⟩, ⟨7, 1, .w1c, 0⟩]⟩,
  ⟨"INT_ENABLE", 0x61008, 0x0, 1, 1, [⟨0, 1, .rw, 0⟩, ⟨1, 1, .rw, 0⟩, ⟨2, 1, .rw, 0⟩, ⟨3, 1, .rw, 0⟩, ⟨4, 1, .rw, 0⟩, ⟨5, 1, .rw, 0⟩, ⟨6, 1, .rw, 0⟩, ⟨7, 1, .rw, 0⟩]⟩,
  ⟨"LAST_EVENT", 0x6100C, 0x0, 1, 1, [⟨0, 7, .ro, 0⟩, ⟨7, 1, .ro, 0⟩, ⟨8, 3, .ro, 0⟩]⟩,
  ⟨"LAST_REFUSE", 0x61010, 0x0, 1, 1, [⟨0, 7, .ro, 0⟩, ⟨7, 1, .ro, 0⟩, ⟨8, 5, .ro, 0⟩]⟩,
  ⟨"SYNC_STATUS", 0x61014, 0x0, 1, 1, [⟨0, 7, .ro, 0⟩, ⟨7, 1, .ro, 0⟩, ⟨8, 8, .ro, 0⟩]⟩,
  ⟨"UP", 0x61018, 0x0, 1, 4, [⟨0, 32, .ro, 0⟩]⟩,
  ⟨"DEGRADED", 0x61028, 0x0, 1, 4, [⟨0, 32, .ro, 0⟩]⟩,
  ⟨"REFUSED", 0x61038, 0x0, 1, 4, [⟨0, 32, .ro, 0⟩]⟩,
  ⟨"FAULT_PEND", 0x61048, 0x0, 1, 4, [⟨0, 32, .w1c, 0⟩]⟩,
  ⟨"RETRY_TOTAL", 0x61058, 0x0, 1, 1, [⟨0, 32, .rc, 0⟩]⟩,
  ⟨"NAK_TOTAL", 0x6105C, 0x0, 1, 1, [⟨0, 32, .rc, 0⟩]⟩,
  ⟨"TIMEOUT_TOTAL", 0x61060, 0x0, 1, 1, [⟨0, 32, .rc, 0⟩]⟩,
  ⟨"LATE_ACK", 0x61064, 0x0, 1, 1, [⟨0, 32, .rc, 0⟩]⟩,
  ⟨"BLANK_TOTAL", 0x61068, 0x0, 1, 1, [⟨0, 32, .rc, 0⟩]⟩,
  ⟨"DROPPED_TOTAL", 0x6106C, 0x0, 1, 1, [⟨0, 32, .rc, 0⟩]⟩,
  ⟨"LINK_DOWN_TOTAL", 0x61070, 0x0, 1, 1, [⟨0, 32, .rc, 0⟩]⟩,
  ⟨"AUTH_FAIL_TOTAL", 0x61074, 0x0, 1, 1, [⟨0, 32, .rc, 0⟩]⟩,
  ⟨"USAGE_UNITS_TOTAL", 0x61078, 0x0, 1, 1, [⟨0, 32, .rc, 0⟩]⟩,
  ⟨"STROBE_SLIP", 0x6107C, 0x0, 1, 1, [⟨0, 32, .rc, 0⟩]⟩]

/-- Registers of prefix WATCH, part 1. -/
def rowsWATCHA : List RegRow := [
  ⟨"WATCH_CTRL", 0x90000, 0x0, 1, 1, [⟨0, 1, .rwf, 0⟩, ⟨1, 1, .rwf, 0⟩]⟩,
  ⟨"WATCH_STATUS", 0x90004, 0x0, 1, 1, [⟨0, 1, .ro, 0⟩, ⟨1, 1, .ro, 0⟩, ⟨2, 7, .ro, 0⟩, ⟨9, 1, .ro, 0⟩]⟩,
  ⟨"INT_STATUS", 0x90008, 0x0, 1, 1, [⟨0, 1, .w1c, 0⟩, ⟨1, 1, .w1c, 0⟩, ⟨2, 1, .w1c, 0⟩, ⟨3, 1, .w1c, 0⟩, ⟨4, 1, .w1c, 0⟩, ⟨5, 1, .w1c, 0⟩, ⟨6, 1, .w1c, 0⟩, ⟨7, 1, .w1c, 0⟩, ⟨8, 1, .w1c, 0⟩]⟩,
  ⟨"INT_ENABLE", 0x9000C, 0x0, 1, 1, [⟨0, 1, .rw, 0⟩, ⟨1, 1, .rw, 0⟩, ⟨2, 1, .rw, 0⟩, ⟨3, 1, .rw, 0⟩, ⟨4, 1, .rw, 0⟩, ⟨5, 1, .rw, 0⟩, ⟨6, 1, .rw, 0⟩, ⟨7, 1, .rw, 0⟩, ⟨8, 1, .rw, 0⟩]⟩,
  ⟨"EPOCH", 0x90010, 0x0, 1, 1, [⟨0, 32, .ro, 0⟩]⟩,
  ⟨"THRESH", 0x90014, 0x0, 1, 1, [⟨0, 8, .rwf, 24⟩, ⟨8, 8, .rwf, 16⟩, ⟨16, 8, .rwf, 24⟩, ⟨24, 8, .rwf, 32⟩]⟩,
  ⟨"WINDOW", 0x90018, 0x0, 1, 1, [⟨0, 13, .rwf, 500⟩]⟩,
  ⟨"REF_CODE", 0x9001C, 0x0, 1, 2, [⟨0, 32, .rwf, 0⟩]⟩,
  ⟨"STATE_COUNT", 0x90024, 0x0, 1, 4, [⟨0, 32, .ro, 0⟩]⟩,
  ⟨"SAMPLES", 0x90034, 0x0, 1, 1, [⟨0, 32, .rc, 0⟩]⟩,
  ⟨"OUTLIERS", 0x90038, 0x0, 1, 1, [⟨0, 32, .rc, 0⟩]⟩,
  ⟨"FEATURE_OUT", 0x9003C, 0x0, 1, 1, [⟨0, 8, .rc, 0⟩, ⟨8, 8, .rc, 0⟩, ⟨16, 8, .rc, 0⟩, ⟨24, 8, .rc, 0⟩]⟩,
  ⟨"LATE", 0x90040, 0x0, 1, 1, [⟨0, 32, .rc, 0⟩]⟩,
  ⟨"NO_REF", 0x90044, 0x0, 1, 1, [⟨0, 32, .rc, 0⟩]⟩,
  ⟨"SKIPPED", 0x90048, 0x0, 1, 1, [⟨0, 32, .rc, 0⟩]⟩,
  ⟨"BAD_SENSE", 0x9004C, 0x0, 1, 1, [⟨0, 32, .rc, 0⟩]⟩,
  ⟨"QC_COVERED", 0x90050, 0x0, 1, 1, [⟨0, 32, .rc, 0⟩]⟩,
  ⟨"QC_DROP", 0x90054, 0x0, 1, 1, [⟨0, 32, .rc, 0⟩]⟩,
  ⟨"QC_LINES", 0x90058, 0x0, 1, 1, [⟨0, 32, .rc, 0⟩]⟩,
  ⟨"QC_OVERFLOW", 0x9005C, 0x0, 1, 1, [⟨0, 32, .rc, 0⟩]⟩,
  ⟨"TRANSITIONS", 0x90060, 0x0, 1, 1, [⟨0, 32, .rc, 0⟩]⟩,
  ⟨"AUTO_RECOVERED", 0x90064, 0x0, 1, 1, [⟨0, 32, .rc, 0⟩]⟩,
  ⟨"HOST_SETS", 0x90068, 0x0, 1, 1, [⟨0, 32, .rc, 0⟩]⟩,
  ⟨"LAST_CHANGE", 0x9006C, 0x0, 1, 1, [⟨0, 23, .ro, 0⟩, ⟨23, 2, .ro, 0⟩, ⟨25, 2, .ro, 0⟩, ⟨27, 2, .ro, 0⟩, ⟨29, 1, .ro, 0⟩]⟩]

/-- Registers of prefix WATCH, part 2. -/
def rowsWATCHB : List RegRow := [
  ⟨"LAST_CHANGE_LINE", 0x90070, 0x0, 1, 1, [⟨0, 32, .ro, 0⟩]⟩,
  ⟨"LEARN_STATUS", 0x90074, 0x0, 1, 1, [⟨0, 23, .ro, 0⟩, ⟨23, 1, .ro, 0⟩]⟩,
  ⟨"LOG_STATUS", 0x90078, 0x0, 1, 1, [⟨0, 7, .ro, 0⟩, ⟨7, 1, .ro, 0⟩]⟩,
  ⟨"TABLE_BASE", 0x9007C, 0x0, 1, 1, [⟨0, 32, .ro, 0⟩]⟩,
  ⟨"LATENCY_MAX", 0x90080, 0x0, 1, 1, [⟨0, 32, .rc, 0⟩]⟩,
  ⟨"PUBLISH_MAX", 0x90084, 0x0, 1, 1, [⟨0, 32, .rc, 0⟩]⟩,
  ⟨"BANK_ERR", 0x90088, 0x0, 1, 1, [⟨0, 32, .rc, 0⟩]⟩,
  ⟨"SENSE_FRAMES", 0x9008C, 0x0, 1, 1, [⟨0, 32, .rc, 0⟩]⟩,
  ⟨"SENSE_EN", 0x90090, 0x0, 1, 4, [⟨0, 32, .rwf, 0⟩]⟩,
  ⟨"QC_EN", 0x900A0, 0x0, 1, 4, [⟨0, 32, .rwf, 4294967295⟩]⟩,
  ⟨"REF_VALID", 0x900B0, 0x0, 1, 4, [⟨0, 32, .ro, 0⟩]⟩,
  ⟨"COVER_FULL", 0x900C0, 0x0, 1, 4, [⟨0, 32, .ro, 0⟩]⟩,
  ⟨"OUT_PEND", 0x900D0, 0x0, 1, 4, [⟨0, 32, .w1c, 0⟩]⟩,
  ⟨"SUSPECT_PEND", 0x900E0, 0x0, 1, 4, [⟨0, 32, .w1c, 0⟩]⟩,
  ⟨"UNUSABLE", 0x900F0, 0x0, 1, 4, [⟨0, 32, .ro, 0⟩]⟩,
  ⟨"LAST_LATE", 0x90100, 0x0, 1, 1, [⟨0, 7, .ro, 0⟩, ⟨7, 1, .ro, 0⟩, ⟨8, 24, .ro, 0⟩]⟩]

/-- Registers of prefix PP, part 1. -/
def rowsPPA : List RegRow := [
  ⟨"PP_CTRL", 0xA0000, 0x80, 2, 1, [⟨0, 1, .rwf, 0⟩]⟩,
  ⟨"PP_STATUS", 0xA0004, 0x80, 2, 1, [⟨0, 2, .ro, 0⟩, ⟨2, 1, .ro, 0⟩, ⟨3, 1, .ro, 0⟩, ⟨4, 2, .ro, 0⟩]⟩,
  ⟨"HOP_DELAY", 0xA0008, 0x80, 2, 1, [⟨0, 32, .ro, 0⟩]⟩,
  ⟨"HOP_OFFSET", 0xA000C, 0x80, 2, 1, [⟨0, 32, .ro, 0⟩]⟩,
  ⟨"NEIGHBOUR", 0xA0010, 0x80, 2, 1, [⟨0, 16, .ro, 0⟩, ⟨16, 1, .ro, 0⟩, ⟨17, 1, .ro, 0⟩]⟩,
  ⟨"LINK_UP_TIME", 0xA0014, 0x80, 2, 1, [⟨0, 32, .ro, 0⟩]⟩,
  ⟨"RX_FRAMES", 0xA0018, 0x80, 2, 1, [⟨0, 32, .rc, 0⟩]⟩,
  ⟨"TX_FRAMES", 0xA001C, 0x80, 2, 1, [⟨0, 32, .rc, 0⟩]⟩,
  ⟨"RX_BYTES", 0xA0020, 0x80, 2, 1, [⟨0, 32, .rc, 0⟩]⟩,
  ⟨"TX_BYTES", 0xA0024, 0x80, 2, 1, [⟨0, 32, .rc, 0⟩]⟩,
  ⟨"CRC_ERR", 0xA0028, 0x80, 2, 1, [⟨0, 32, .rc, 0⟩]⟩,
  ⟨"BLOCK_ERR", 0xA002C, 0x80, 2, 1, [⟨0, 32, .rc, 0⟩]⟩,
  ⟨"LOCK_LOSS", 0xA0030, 0x80, 2, 1, [⟨0, 32, .rc, 0⟩]⟩,
  ⟨"DUP_DISCARD", 0xA0034, 0x80, 2, 1, [⟨0, 32, .rc, 0⟩]⟩,
  ⟨"LOOP_DISCARD", 0xA0038, 0x80, 2, 1, [⟨0, 32, .rc, 0⟩]⟩,
  ⟨"FORWARDED", 0xA003C, 0x80, 2, 1, [⟨0, 32, .rc, 0⟩]⟩,
  ⟨"TOLL_RX", 0xA0040, 0x80, 2, 1, [⟨0, 32, .rc, 0⟩]⟩,
  ⟨"CHIME_RX", 0xA0044, 0x80, 2, 1, [⟨0, 32, .rc, 0⟩]⟩,
  ⟨"PACE_RX", 0xA0048, 0x80, 2, 1, [⟨0, 32, .rc, 0⟩]⟩,
  ⟨"SYNC_RX", 0xA004C, 0x80, 2, 1, [⟨0, 32, .rc, 0⟩]⟩,
  ⟨"TUNNEL_RX", 0xA0050, 0x80, 2, 1, [⟨0, 32, .rc, 0⟩]⟩,
  ⟨"TUNNEL_TX", 0xA0054, 0x80, 2, 1, [⟨0, 32, .rc, 0⟩]⟩,
  ⟨"DISCOVER_RX", 0xA0058, 0x80, 2, 1, [⟨0, 32, .rc, 0⟩]⟩,
  ⟨"STATUS_RX", 0xA005C, 0x80, 2, 1, [⟨0, 32, .rc, 0⟩]⟩]

/-- Registers of prefix PP, part 2. -/
def rowsPPB : List RegRow := [
  ⟨"MASTER_CHIME_AGE", 0xA0060, 0x80, 2, 1, [⟨0, 32, .ro, 0⟩]⟩,
  ⟨"DEPUTY_CHIME_AGE", 0xA0064, 0x80, 2, 1, [⟨0, 32, .ro, 0⟩]⟩,
  ⟨"SYNC_SPREAD", 0xA0068, 0x80, 2, 1, [⟨0, 32, .ro, 0⟩]⟩,
  ⟨"EXPRESS_WAIT_MAX", 0xA006C, 0x80, 2, 1, [⟨0, 32, .rc, 0⟩]⟩,
  ⟨"FORWARD_LAT_MAX", 0xA0070, 0x80, 2, 1, [⟨0, 32, .rc, 0⟩]⟩,
  ⟨"FORMAT_ERR", 0xA0074, 0x80, 2, 1, [⟨0, 32, .rc, 0⟩]⟩,
  ⟨"LAST_ERR", 0xA0078, 0x80, 2, 1, [⟨0, 3, .ro, 0⟩, ⟨3, 1, .ro, 0⟩, ⟨16, 16, .ro, 0⟩]⟩,
  ⟨"LAST_RX_TIME", 0xA007C, 0x80, 2, 1, [⟨0, 32, .ro, 0⟩]⟩]

/-- Registers of prefix PEAL, part 1. -/
def rowsPEALA : List RegRow := [
  ⟨"RING_CTRL", 0xA0100, 0x0, 1, 1, [⟨0, 2, .rwf, 0⟩, ⟨2, 1, .rwf, 0⟩, ⟨3, 1, .rwf, 0⟩, ⟨4, 1, .rwf, 0⟩, ⟨5, 1, .rwf, 0⟩, ⟨16, 16, .rwf, 1⟩]⟩,
  ⟨"RING_STATUS", 0xA0104, 0x0, 1, 1, [⟨0, 3, .ro, 0⟩, ⟨3, 2, .ro, 0⟩, ⟨5, 2, .ro, 0⟩, ⟨7, 1, .ro, 0⟩, ⟨8, 1, .ro, 0⟩, ⟨9, 1, .ro, 0⟩, ⟨10, 1, .ro, 0⟩]⟩,
  ⟨"DEVICE_ID", 0xA0108, 0x0, 1, 1, [⟨0, 16, .ro, 0⟩, ⟨16, 16, .ro, 0⟩]⟩,
  ⟨"RING_SIZE", 0xA010C, 0x0, 1, 1, [⟨0, 16, .ro, 0⟩, ⟨16, 16, .ro, 0⟩]⟩,
  ⟨"WORST_PATH", 0xA0110, 0x0, 1, 1, [⟨0, 32, .ro, 0⟩]⟩,
  ⟨"LOSS_TIME", 0xA0114, 0x0, 1, 1, [⟨0, 14, .rwf, 200⟩]⟩,
  ⟨"INT_STATUS", 0xA0118, 0x0, 1, 1, [⟨0, 1, .w1c, 0⟩, ⟨1, 1, .w1c, 0⟩, ⟨2, 1, .w1c, 0⟩, ⟨3, 1, .w1c, 0⟩, ⟨4, 1, .w1c, 0⟩, ⟨5, 1, .w1c, 0⟩, ⟨6, 1, .w1c, 0⟩, ⟨7, 1, .w1c, 0⟩, ⟨8, 1, .w1c, 0⟩, ⟨9, 1, .w1c, 0⟩, ⟨10, 1, .w1c, 0⟩, ⟨11, 1, .w1c, 0⟩, ⟨12, 1, .w1c, 0⟩]⟩,
  ⟨"INT_ENABLE", 0xA011C, 0x0, 1, 1, [⟨0, 1, .rw, 0⟩, ⟨1, 1, .rw, 0⟩, ⟨2, 1, .rw, 0⟩, ⟨3, 1, .rw, 0⟩, ⟨4, 1, .rw, 0⟩, ⟨5, 1, .rw, 0⟩, ⟨6, 1, .rw, 0⟩, ⟨7, 1, .rw, 0⟩, ⟨8, 1, .rw, 0⟩, ⟨9, 1, .rw, 0⟩, ⟨10, 1, .rw, 0⟩, ⟨11, 1, .rw, 0⟩, ⟨12, 1, .rw, 0⟩]⟩,
  ⟨"RING_TIME_LO", 0xA0120, 0x0, 1, 1, [⟨0, 32, .ro, 0⟩]⟩,
  ⟨"RING_TIME_HI", 0xA0124, 0x0, 1, 1, [⟨0, 32, .ro, 0⟩]⟩,
  ⟨"SYNC_RESIDUAL", 0xA0128, 0x0, 1, 1, [⟨0, 32, .ro, 0⟩]⟩,
  ⟨"CLAPPER", 0xA012C, 0x0, 1, 1, [⟨0, 1, .ro, 0⟩, ⟨1, 1, .ro, 0⟩, ⟨2, 3, .ro, 0⟩, ⟨8, 16, .ro, 0⟩]⟩,
  ⟨"TAKEOVER", 0xA0130, 0x0, 1, 1, [⟨0, 16, .ro, 0⟩, ⟨16, 1, .ro, 0⟩]⟩,
  ⟨"TAKEOVER_LINE", 0xA0134, 0x0, 1, 1, [⟨0, 32, .ro, 0⟩]⟩,
  ⟨"TOLL_STOPS", 0xA0138, 0x0, 1, 1, [⟨0, 32, .rc, 0⟩]⟩,
  ⟨"TOLL_MISS", 0xA013C, 0x0, 1, 1, [⟨0, 32, .rc, 0⟩]⟩,
  ⟨"TOLL_DUP", 0xA0140, 0x0, 1, 1, [⟨0, 32, .rc, 0⟩]⟩,
  ⟨"TOLL_LATE", 0xA0144, 0x0, 1, 1, [⟨0, 32, .rc, 0⟩]⟩,
  ⟨"TOLL_IGNORED", 0xA0148, 0x0, 1, 1, [⟨0, 32, .rc, 0⟩]⟩,
  ⟨"PAIR_LINK_LOST", 0xA014C, 0x0, 1, 1, [⟨0, 32, .rc, 0⟩]⟩,
  ⟨"REPORT_INCOMPLETE", 0xA0150, 0x0, 1, 1, [⟨0, 32, .rc, 0⟩]⟩,
  ⟨"RING_P", 0xA0154, 0x0, 1, 1, [⟨0, 5, .ro, 0⟩, ⟨8, 5, .ro, 16⟩, ⟨13, 1, .ro, 0⟩, ⟨16, 16, .ro, 0⟩]⟩,
  ⟨"TUNNEL_IN", 0xA0158, 0x0, 1, 1, [⟨0, 32, .rc, 0⟩]⟩,
  ⟨"TUNNEL_REFUSED", 0xA015C, 0x0, 1, 1, [⟨0, 32, .rc, 0⟩]⟩]

/-- Registers of prefix PEAL, part 2. -/
def rowsPEALB : List RegRow := [
  ⟨"DISCOVERY", 0xA0160, 0x0, 1, 1, [⟨0, 8, .ro, 0⟩, ⟨8, 3, .ro, 0⟩]⟩,
  ⟨"LAST_EVENT", 0xA0164, 0x0, 1, 1, [⟨0, 4, .ro, 0⟩, ⟨4, 1, .ro, 0⟩, ⟨16, 16, .ro, 0⟩]⟩,
  ⟨"TOLL_TX", 0xA0168, 0x0, 1, 1, [⟨0, 32, .rc, 0⟩]⟩,
  ⟨"CHIME_TX", 0xA016C, 0x0, 1, 1, [⟨0, 32, .rc, 0⟩]⟩,
  ⟨"ROLE_CONFLICT", 0xA0170, 0x0, 1, 1, [⟨0, 32, .rc, 0⟩]⟩,
  ⟨"HOLDOVER_US", 0xA0174, 0x0, 1, 1, [⟨0, 32, .rc, 0⟩]⟩,
  ⟨"DEPUTY_STATUS", 0xA0178, 0x0, 1, 1, [⟨0, 16, .ro, 0⟩, ⟨16, 1, .ro, 0⟩]⟩,
  ⟨"REF_SWITCH", 0xA017C, 0x0, 1, 1, [⟨0, 32, .rc, 0⟩]⟩]

/-- Registers of prefix PORCH_N. -/
def rowsPORCHN : List RegRow := [
  ⟨"DOORBELL", 0x10000, 0x10, 16, 1, [⟨0, 32, .wo, 0⟩]⟩,
  ⟨"PR_STATE", 0x10004, 0x10, 16, 1, [⟨0, 2, .ro, 0⟩, ⟨2, 1, .ro, 0⟩, ⟨3, 1, .ro, 0⟩, ⟨8, 8, .ro, 0⟩, ⟨16, 16, .ro, 0⟩]⟩,
  ⟨"DONE_SEQ", 0x10008, 0x10, 16, 1, [⟨0, 32, .ro, 0⟩]⟩,
  ⟨"EXPECT_SEQ", 0x1000C, 0x10, 16, 1, [⟨0, 32, .ro, 0⟩]⟩]

/-- Registers of prefix PORCH. -/
def rowsPORCH : List RegRow := [
  ⟨"PORCH_CTRL", 0x10100, 0x0, 1, 1, [⟨0, 14, .rwf, 0⟩, ⟨14, 1, .rwf, 0⟩]⟩,
  ⟨"STATUS", 0x10104, 0x0, 1, 1, [⟨0, 1, .w1c, 0⟩, ⟨1, 1, .ro, 0⟩, ⟨2, 1, .ro, 0⟩, ⟨8, 8, .ro, 0⟩]⟩,
  ⟨"DONE_PEND", 0x10108, 0x0, 1, 1, [⟨0, 16, .w1c, 0⟩]⟩,
  ⟨"DONE_ENABLE", 0x1010C, 0x0, 1, 1, [⟨0, 16, .rw, 0⟩, ⟨16, 16, .rw, 0⟩]⟩,
  ⟨"EV_INT_STATUS", 0x10110, 0x0, 1, 1, [⟨0, 1, .w1c, 0⟩, ⟨1, 1, .w1c, 0⟩]⟩,
  ⟨"EV_INT_ENABLE", 0x10114, 0x0, 1, 1, [⟨0, 1, .rw, 0⟩, ⟨1, 1, .rw, 0⟩, ⟨2, 1, .rw, 0⟩, ⟨3, 1, .rw, 0⟩]⟩,
  ⟨"EV_WRITE", 0x10118, 0x0, 1, 1, [⟨0, 32, .ro, 0⟩]⟩,
  ⟨"EV_READ", 0x1011C, 0x0, 1, 1, [⟨0, 32, .rw, 0⟩]⟩,
  ⟨"EV_LOST", 0x10120, 0x0, 1, 1, [⟨0, 32, .rc, 0⟩]⟩,
  ⟨"COLLIDE_COUNT", 0x10124, 0x0, 1, 1, [⟨0, 32, .rc, 0⟩]⟩,
  ⟨"LAST_COLLIDE", 0x10128, 0x0, 1, 1, [⟨0, 13, .ro, 0⟩, ⟨13, 1, .ro, 0⟩]⟩,
  ⟨"CMD_TOTAL", 0x1012C, 0x0, 1, 1, [⟨0, 32, .rc, 0⟩]⟩,
  ⟨"ERR_TOTAL", 0x10130, 0x0, 1, 1, [⟨0, 32, .rc, 0⟩]⟩,
  ⟨"TIMEOUT_TOTAL", 0x10134, 0x0, 1, 1, [⟨0, 32, .rc, 0⟩]⟩,
  ⟨"LAST_ERR", 0x10138, 0x0, 1, 1, [⟨0, 4, .ro, 0⟩, ⟨4, 1, .ro, 0⟩, ⟨8, 8, .ro, 0⟩, ⟨16, 16, .ro, 0⟩]⟩,
  ⟨"BULK_FAULT", 0x1013C, 0x0, 1, 1, [⟨0, 32, .rc, 0⟩]⟩]

/-- Registers of prefix BK. -/
def rowsBK : List RegRow := [
  ⟨"BK_CTRL", 0xB0000, 0x10, 22, 1, [⟨0, 2, .rwf, 0⟩]⟩,
  ⟨"BK_STATUS", 0xB0004, 0x10, 22, 1, [⟨0, 2, .ro, 0⟩, ⟨2, 1, .ro, 0⟩, ⟨3, 3, .ro, 0⟩, ⟨6, 1, .ro, 0⟩, ⟨7, 1, .ro, 0⟩, ⟨8, 11, .ro, 0⟩, ⟨19, 11, .ro, 0⟩]⟩,
  ⟨"BK_ERR", 0xB0008, 0x10, 22, 1, [⟨0, 16, .rc, 0⟩, ⟨16, 16, .rc, 0⟩]⟩,
  ⟨"BK_PATROL", 0xB000C, 0x10, 22, 1, [⟨0, 16, .ro, 0⟩, ⟨16, 11, .ro, 0⟩]⟩]

/-- Registers of prefix PANTRY. -/
def rowsPANTRY : List RegRow := [
  ⟨"PANTRY_CTRL", 0xB0200, 0x0, 1, 1, [⟨0, 1, .rwf, 1⟩]⟩,
  ⟨"PATROL_INTERVAL", 0xB0204, 0x0, 1, 1, [⟨0, 17, .rwf, 1000⟩]⟩,
  ⟨"PATROL_MASK", 0xB0208, 0x0, 1, 1, [⟨0, 22, .rwf, 4194303⟩]⟩,
  ⟨"INT_STATUS", 0xB020C, 0x0, 1, 1, [⟨0, 1, .w1c, 0⟩, ⟨1, 1, .w1c, 0⟩, ⟨2, 1, .w1c, 0⟩, ⟨3, 1, .w1c, 0⟩]⟩,
  ⟨"INT_ENABLE", 0xB0210, 0x0, 1, 1, [⟨0, 1, .rw, 0⟩, ⟨1, 1, .rw, 0⟩, ⟨2, 1, .rw, 0⟩, ⟨3, 1, .rw, 0⟩]⟩,
  ⟨"CORR_TOTAL", 0xB0214, 0x0, 1, 1, [⟨0, 32, .rc, 0⟩]⟩,
  ⟨"UNCORR_TOTAL", 0xB0218, 0x0, 1, 1, [⟨0, 32, .rc, 0⟩]⟩,
  ⟨"LAST_ERR", 0xB021C, 0x0, 1, 1, [⟨0, 5, .ro, 0⟩, ⟨5, 1, .ro, 0⟩, ⟨6, 1, .ro, 0⟩]⟩,
  ⟨"LAST_ERR_ADDR", 0xB0220, 0x0, 1, 1, [⟨0, 32, .ro, 0⟩]⟩,
  ⟨"REPAIRED", 0xB0224, 0x0, 1, 1, [⟨0, 32, .ro, 0⟩]⟩,
  ⟨"EXHAUSTED", 0xB0228, 0x0, 1, 1, [⟨0, 32, .ro, 0⟩]⟩,
  ⟨"REDIRECT_WAITS", 0xB022C, 0x0, 1, 1, [⟨0, 32, .rc, 0⟩]⟩,
  ⟨"COPY_SUPPRESS", 0xB0230, 0x0, 1, 1, [⟨0, 32, .rc, 0⟩]⟩,
  ⟨"WAKE_TOTAL", 0xB0234, 0x0, 1, 1, [⟨0, 32, .rc, 0⟩]⟩,
  ⟨"DW_STALL", 0xB0238, 0x0, 1, 1, [⟨0, 32, .rc, 0⟩]⟩,
  ⟨"PASSES", 0xB023C, 0x0, 1, 1, [⟨0, 32, .rc, 0⟩]⟩]

/-- Registers of prefix DW_SC. -/
def rowsDWSC : List RegRow := [
  ⟨"SC_CTRL", 0x20000, 0x10, 128, 1, [⟨0, 1, .rwf, 0⟩, ⟨1, 3, .rwf, 4⟩]⟩,
  ⟨"SC_STATUS", 0x20004, 0x10, 128, 1, [⟨0, 3, .ro, 0⟩, ⟨3, 1, .ro, 0⟩, ⟨4, 12, .ro, 0⟩, ⟨16, 5, .ro, 0⟩]⟩,
  ⟨"SC_FAULT", 0x20008, 0x10, 128, 1, [⟨0, 12, .ro, 0⟩, ⟨12, 4, .ro, 0⟩, ⟨16, 12, .ro, 0⟩, ⟨28, 1, .ro, 0⟩, ⟨29, 1, .ro, 0⟩, ⟨30, 1, .ro, 0⟩]⟩,
  ⟨"SC_BYTES", 0x2000C, 0x10, 128, 1, [⟨0, 32, .rc, 0⟩]⟩]

/-- Registers of prefix DW_G. -/
def rowsDWG : List RegRow := [
  ⟨"GC_CTRL", 0x21000, 0x40, 32, 1, [⟨0, 1, .rwf, 0⟩, ⟨1, 1, .rwf, 0⟩, ⟨2, 1, .rwf, 0⟩, ⟨3, 1, .rwf, 0⟩, ⟨4, 3, .rwf, 2⟩, ⟨7, 1, .rwf, 0⟩]⟩,
  ⟨"GC_STATUS", 0x21004, 0x40, 32, 1, [⟨0, 3, .ro, 0⟩, ⟨3, 1, .ro, 0⟩, ⟨4, 12, .ro, 0⟩, ⟨16, 16, .ro, 0⟩]⟩,
  ⟨"PROG", 0x21008, 0x40, 32, 1, [⟨0, 32, .rwf, 0⟩]⟩,
  ⟨"HOST_BASE", 0x2100C, 0x40, 32, 1, [⟨0, 32, .rwf, 0⟩]⟩,
  ⟨"SRC_LO", 0x21010, 0x40, 32, 1, [⟨0, 32, .rwf, 0⟩]⟩,
  ⟨"SRC_HI", 0x21014, 0x40, 32, 1, [⟨0, 8, .rwf, 0⟩]⟩,
  ⟨"DST_LO", 0x21018, 0x40, 32, 1, [⟨0, 32, .rwf, 0⟩]⟩,
  ⟨"DST_HI", 0x2101C, 0x40, 32, 1, [⟨0, 8, .rwf, 0⟩]⟩,
  ⟨"XFER", 0x21020, 0x40, 32, 1, [⟨0, 4, .rwf, 0⟩, ⟨4, 1, .rwf, 0⟩, ⟨5, 1, .rwf, 0⟩, ⟨6, 5, .rwf, 0⟩, ⟨11, 1, .rwf, 0⟩, ⟨12, 20, .rwf, 0⟩]⟩,
  ⟨"SH_SRC_LO", 0x21024, 0x40, 32, 1, [⟨0, 32, .rwf, 0⟩]⟩,
  ⟨"SH_SRC_HI", 0x21028, 0x40, 32, 1, [⟨0, 8, .rwf, 0⟩]⟩,
  ⟨"SH_DST_LO", 0x2102C, 0x40, 32, 1, [⟨0, 32, .rwf, 0⟩]⟩,
  ⟨"SH_DST_HI", 0x21030, 0x40, 32, 1, [⟨0, 8, .rwf, 0⟩]⟩,
  ⟨"SH_XFER", 0x21034, 0x40, 32, 1, [⟨0, 4, .rwf, 0⟩, ⟨4, 1, .rwf, 0⟩, ⟨5, 1, .rwf, 0⟩, ⟨6, 5, .rwf, 0⟩, ⟨11, 1, .rwf, 0⟩, ⟨12, 20, .rwf, 0⟩]⟩,
  ⟨"FAULT", 0x21038, 0x40, 32, 1, [⟨0, 12, .ro, 0⟩, ⟨12, 4, .ro, 0⟩, ⟨16, 12, .ro, 0⟩, ⟨28, 1, .ro, 0⟩, ⟨29, 1, .ro, 0⟩, ⟨30, 1, .ro, 0⟩]⟩,
  ⟨"MISMATCH", 0x2103C, 0x40, 32, 1, [⟨0, 32, .ro, 0⟩]⟩]

/-- Registers of prefix DW. -/
def rowsDW : List RegRow := [
  ⟨"DW_CTRL", 0x22000, 0x0, 1, 1, [⟨0, 1, .rwf, 0⟩, ⟨1, 1, .rwf, 0⟩, ⟨2, 1, .rwf, 0⟩]⟩,
  ⟨"DW_STATUS", 0x22004, 0x0, 1, 1, [⟨0, 9, .ro, 0⟩, ⟨9, 8, .ro, 0⟩, ⟨17, 3, .ro, 0⟩]⟩,
  ⟨"INT_STATUS", 0x22008, 0x0, 1, 1, [⟨0, 1, .w1c, 0⟩, ⟨1, 1, .w1c, 0⟩, ⟨2, 1, .w1c, 0⟩, ⟨3, 1, .w1c, 0⟩, ⟨4, 1, .w1c, 0⟩]⟩,
  ⟨"INT_ENABLE", 0x2200C, 0x0, 1, 1, [⟨0, 1, .rw, 0⟩, ⟨1, 1, .rw, 0⟩, ⟨2, 1, .rw, 0⟩, ⟨3, 1, .rw, 0⟩, ⟨4, 1, .rw, 0⟩]⟩,
  ⟨"FV_PEND", 0x22010, 0x0, 1, 1, [⟨0, 32, .w1c, 0⟩]⟩,
  ⟨"FV_ENABLE", 0x22014, 0x0, 1, 1, [⟨0, 32, .rw, 0⟩]⟩,
  ⟨"ACTIVE", 0x22018, 0x0, 1, 5, [⟨0, 32, .ro, 0⟩]⟩,
  ⟨"FAULT_PEND", 0x2202C, 0x0, 1, 5, [⟨0, 32, .w1c, 0⟩]⟩,
  ⟨"EV_SEEN", 0x22040, 0x0, 1, 2, [⟨0, 32, .w1c, 0⟩]⟩,
  ⟨"BAD_TOTAL", 0x22048, 0x0, 1, 1, [⟨0, 32, .rc, 0⟩]⟩,
  ⟨"LATE_TOTAL", 0x2204C, 0x0, 1, 1, [⟨0, 32, .rc, 0⟩]⟩,
  ⟨"OVERLAP_TOTAL", 0x22050, 0x0, 1, 1, [⟨0, 32, .rc, 0⟩]⟩,
  ⟨"SPLIT_TOTAL", 0x22054, 0x0, 1, 1, [⟨0, 32, .rc, 0⟩]⟩,
  ⟨"WAIT_TIMEOUT_TOTAL", 0x22058, 0x0, 1, 1, [⟨0, 32, .rc, 0⟩]⟩,
  ⟨"WAIT_LATE_TOTAL", 0x2205C, 0x0, 1, 1, [⟨0, 32, .rc, 0⟩]⟩,
  ⟨"BURST_TOTAL", 0x22060, 0x0, 1, 1, [⟨0, 32, .rc, 0⟩]⟩,
  ⟨"BYTE_TOTAL", 0x22064, 0x0, 1, 1, [⟨0, 32, .rc, 0⟩]⟩,
  ⟨"LAST_FAULT", 0x22068, 0x0, 1, 1, [⟨0, 8, .ro, 0⟩, ⟨8, 12, .ro, 0⟩, ⟨20, 4, .ro, 0⟩, ⟨24, 1, .ro, 0⟩, ⟨25, 1, .ro, 0⟩]⟩,
  ⟨"LAST_FAULT_ITER", 0x2206C, 0x0, 1, 1, [⟨0, 32, .ro, 0⟩]⟩,
  ⟨"IGNORED_WRITES", 0x22070, 0x0, 1, 1, [⟨0, 32, .rc, 0⟩]⟩,
  ⟨"PROMOTIONS", 0x22074, 0x0, 1, 1, [⟨0, 32, .rc, 0⟩]⟩,
  ⟨"SETTLE_MAX", 0x22078, 0x0, 1, 1, [⟨0, 32, .rc, 0⟩]⟩,
  ⟨"PRIV_DENIED", 0x2207C, 0x0, 1, 1, [⟨0, 32, .rc, 0⟩]⟩]

/-- Registers of prefix OTP, part 1. -/
def rowsOTPA : List RegRow := [
  ⟨"OTP_STATUS", 0xC0000, 0x0, 1, 1, [⟨0, 2, .ro, 0⟩, ⟨2, 1, .ro, 0⟩, ⟨3, 1, .ro, 0⟩]⟩,
  ⟨"REGION_STATE", 0xC0004, 0x0, 1, 1, [⟨0, 27, .ro, 0⟩]⟩,
  ⟨"STICKY", 0xC0008, 0x0, 1, 1, [⟨0, 1, .rwf, 0⟩, ⟨1, 1, .rwf, 0⟩, ⟨2, 1, .rwf, 0⟩]⟩,
  ⟨"PROG_KEY", 0xC000C, 0x0, 1, 1, [⟨0, 32, .rwf, 0⟩]⟩,
  ⟨"PROG_ADDR", 0xC0010, 0x0, 1, 1, [⟨0, 11, .rwf, 0⟩]⟩,
  ⟨"PROG_DATA", 0xC0014, 0x0, 1, 1, [⟨0, 32, .rwf, 0⟩]⟩,
  ⟨"PROG_CMD", 0xC0018, 0x0, 1, 1, [⟨0, 1, .rwf, 0⟩]⟩,
  ⟨"PROG_RESULT", 0xC001C, 0x0, 1, 1, [⟨0, 2, .ro, 0⟩, ⟨2, 1, .ro, 0⟩, ⟨3, 4, .ro, 0⟩, ⟨7, 4, .ro, 0⟩, ⟨11, 7, .ro, 0⟩]⟩,
  ⟨"PROG_MASK", 0xC0020, 0x0, 1, 1, [⟨0, 32, .ro, 0⟩]⟩,
  ⟨"READ_ADDR", 0xC0024, 0x0, 1, 1, [⟨0, 11, .rwf, 0⟩]⟩,
  ⟨"READ_DATA", 0xC0028, 0x0, 1, 1, [⟨0, 32, .ro, 0⟩]⟩,
  ⟨"READ_INFO", 0xC002C, 0x0, 1, 1, [⟨0, 1, .ro, 0⟩, ⟨1, 1, .ro, 0⟩, ⟨2, 1, .ro, 0⟩, ⟨3, 1, .ro, 0⟩, ⟨4, 1, .ro, 0⟩, ⟨5, 1, .ro, 0⟩, ⟨6, 7, .ro, 0⟩]⟩,
  ⟨"MARGINAL", 0xC0030, 0x0, 1, 1, [⟨0, 12, .ro, 0⟩, ⟨12, 8, .ro, 0⟩]⟩,
  ⟨"FIRST_MARGINAL", 0xC0034, 0x0, 1, 1, [⟨0, 11, .ro, 0⟩, ⟨11, 1, .ro, 0⟩]⟩,
  ⟨"RESENSE", 0xC0038, 0x0, 1, 1, [⟨0, 16, .ro, 0⟩, ⟨16, 11, .ro, 0⟩]⟩,
  ⟨"RESENSE_DIFF", 0xC003C, 0x0, 1, 1, [⟨0, 32, .rc, 0⟩]⟩,
  ⟨"INT_STATUS", 0xC0040, 0x0, 1, 1, [⟨0, 1, .w1c, 0⟩, ⟨1, 1, .w1c, 0⟩, ⟨2, 1, .w1c, 0⟩, ⟨3, 1, .w1c, 0⟩, ⟨4, 1, .w1c, 0⟩, ⟨5, 1, .w1c, 0⟩, ⟨6, 1, .w1c, 0⟩, ⟨7, 1, .w1c, 0⟩]⟩,
  ⟨"INT_ENABLE", 0xC0044, 0x0, 1, 1, [⟨0, 1, .rw, 0⟩, ⟨1, 1, .rw, 0⟩, ⟨2, 1, .rw, 0⟩, ⟨3, 1, .rw, 0⟩, ⟨4, 1, .rw, 0⟩, ⟨5, 1, .rw, 0⟩, ⟨6, 1, .rw, 0⟩, ⟨7, 1, .rw, 0⟩]⟩,
  ⟨"CRIT_MARGINAL_LO", 0xC0048, 0x0, 1, 1, [⟨0, 32, .ro, 0⟩]⟩,
  ⟨"CRIT_MARGINAL_HI", 0xC004C, 0x0, 1, 1, [⟨0, 32, .ro, 0⟩]⟩,
  ⟨"CRIT_DEFAULT_LO", 0xC0050, 0x0, 1, 1, [⟨0, 32, .ro, 0⟩]⟩,
  ⟨"CRIT_DEFAULT_HI", 0xC0054, 0x0, 1, 1, [⟨0, 32, .ro, 0⟩]⟩,
  ⟨"ENV", 0xC0058, 0x0, 1, 1, [⟨0, 10, .ro, 0⟩, ⟨10, 1, .ro, 0⟩, ⟨11, 8, .ro, 0⟩, ⟨19, 8, .ro, 0⟩, ⟨27, 1, .ro, 0⟩, ⟨28, 1, .ro, 0⟩]⟩,
  ⟨"FLOOR", 0xC005C, 0x0, 1, 1, [⟨0, 13, .ro, 0⟩, ⟨16, 13, .ro, 0⟩]⟩]

/-- Registers of prefix OTP, part 2. -/
def rowsOTPB : List RegRow := [
  ⟨"FWKEY_STATE", 0xC0060, 0x0, 1, 1, [⟨0, 4, .ro, 0⟩, ⟨4, 4, .ro, 0⟩, ⟨8, 4, .ro, 0⟩, ⟨12, 1, .ro, 0⟩]⟩,
  ⟨"CONSKEY_STATE", 0xC0064, 0x0, 1, 1, [⟨0, 16, .ro, 0⟩, ⟨16, 16, .ro, 0⟩]⟩,
  ⟨"SEAL_STATUS", 0xC0068, 0x0, 1, 1, [⟨0, 5, .ro, 0⟩, ⟨8, 5, .ro, 0⟩, ⟨16, 5, .ro, 0⟩]⟩,
  ⟨"PROG_TOTAL", 0xC006C, 0x0, 1, 1, [⟨0, 32, .rc, 0⟩]⟩,
  ⟨"FAIL_TOTAL", 0xC0070, 0x0, 1, 1, [⟨0, 32, .rc, 0⟩]⟩,
  ⟨"CORR_TOTAL", 0xC0074, 0x0, 1, 1, [⟨0, 32, .ro, 0⟩]⟩,
  ⟨"DEBUG", 0xC0078, 0x0, 1, 1, [⟨0, 1, .ro, 0⟩, ⟨1, 1, .ro, 0⟩]⟩,
  ⟨"LAST_PROG", 0xC007C, 0x0, 1, 1, [⟨0, 11, .ro, 0⟩, ⟨11, 2, .ro, 0⟩, ⟨13, 1, .ro, 0⟩, ⟨14, 1, .ro, 0⟩]⟩]

/-- Registers of prefix THERM, part 1. -/
def rowsTHERMA : List RegRow := [
  ⟨"DIE_CFG", 0xD0200, 0x0, 1, 1, [⟨0, 8, .rwf, 100⟩, ⟨8, 4, .rwf, 5⟩]⟩,
  ⟨"DIE_STATUS", 0xD0204, 0x0, 1, 1, [⟨0, 16, .ro, 0⟩, ⟨16, 3, .ro, 0⟩, ⟨19, 5, .ro, 0⟩]⟩,
  ⟨"SHUTDOWN_CFG", 0xD0208, 0x0, 1, 1, [⟨0, 8, .rwf, 125⟩, ⟨8, 8, .ro, 125⟩]⟩,
  ⟨"SHUTDOWN_LOG", 0xD020C, 0x0, 1, 1, [⟨0, 16, .ro, 0⟩, ⟨16, 5, .ro, 0⟩, ⟨21, 1, .ro, 0⟩]⟩,
  ⟨"HEAD_CFG", 0xD0210, 0x0, 1, 1, [⟨0, 4, .rwf, 2⟩, ⟨4, 13, .rwf, 500⟩]⟩,
  ⟨"HEAD_STATUS", 0xD0214, 0x0, 1, 1, [⟨0, 16, .ro, 0⟩, ⟨16, 7, .ro, 0⟩, ⟨23, 4, .ro, 0⟩, ⟨27, 1, .ro, 0⟩]⟩,
  ⟨"TRI_DROPPED", 0xD0218, 0x0, 1, 1, [⟨0, 32, .rc, 0⟩]⟩,
  ⟨"TRI_CUT_LINES", 0xD021C, 0x0, 1, 1, [⟨0, 32, .rc, 0⟩]⟩,
  ⟨"CLOCK_STATUS", 0xD0220, 0x0, 1, 1, [⟨0, 16, .ro, 0⟩, ⟨16, 3, .ro, 0⟩]⟩,
  ⟨"VIN_STATUS", 0xD0224, 0x0, 1, 1, [⟨0, 10, .ro, 0⟩, ⟨10, 1, .ro, 0⟩, ⟨11, 1, .ro, 0⟩, ⟨12, 2, .ro, 0⟩]⟩,
  ⟨"HEAD_CUT", 0xD0228, 0x0, 1, 4, [⟨0, 32, .ro, 0⟩]⟩,
  ⟨"HEAD_CUT_TOTAL", 0xD0238, 0x0, 1, 1, [⟨0, 32, .rc, 0⟩]⟩,
  ⟨"LAST_CUT", 0xD023C, 0x0, 1, 1, [⟨0, 7, .ro, 0⟩, ⟨7, 1, .ro, 0⟩, ⟨8, 2, .ro, 0⟩, ⟨10, 22, .ro, 0⟩]⟩,
  ⟨"LAST_CUT_LINE", 0xD0240, 0x0, 1, 1, [⟨0, 32, .ro, 0⟩]⟩,
  ⟨"TH_CFG", 0xD0244, 0x0, 1, 1, [⟨0, 12, .rwf, 4032⟩, ⟨16, 12, .rwf, 64⟩]⟩,
  ⟨"INT_STATUS", 0xD0248, 0x0, 1, 1, [⟨0, 1, .w1c, 0⟩, ⟨1, 1, .w1c, 0⟩, ⟨2, 1, .w1c, 0⟩, ⟨3, 1, .w1c, 0⟩, ⟨4, 1, .w1c, 0⟩, ⟨5, 1, .w1c, 0⟩, ⟨6, 1, .w1c, 0⟩]⟩,
  ⟨"INT_ENABLE", 0xD024C, 0x0, 1, 1, [⟨0, 1, .rw, 0⟩, ⟨1, 1, .rw, 0⟩, ⟨2, 1, .rw, 0⟩, ⟨3, 1, .rw, 0⟩, ⟨4, 1, .rw, 0⟩, ⟨5, 1, .rw, 0⟩, ⟨6, 1, .rw, 0⟩]⟩,
  ⟨"TRI_FILTER", 0xD0250, 0x0, 1, 1, [⟨0, 32, .rwf, 134744072⟩]⟩,
  ⟨"TRI_WD_CFG", 0xD0254, 0x0, 1, 1, [⟨0, 10, .rwf, 100⟩, ⟨16, 10, .rwf, 100⟩]⟩,
  ⟨"TRI_LOCK", 0xD0258, 0x0, 1, 1, [⟨0, 1, .ro, 0⟩]⟩,
  ⟨"TRI_STATUS", 0xD025C, 0x0, 1, 1, [⟨0, 3, .ro, 0⟩, ⟨3, 3, .ro, 0⟩, ⟨6, 1, .ro, 0⟩, ⟨7, 1, .ro, 0⟩, ⟨8, 3, .ro, 0⟩, ⟨11, 3, .ro, 0⟩]⟩,
  ⟨"TRI_INPUTS", 0xD0260, 0x0, 1, 1, [⟨0, 12, .ro, 0⟩, ⟨12, 4, .ro, 0⟩]⟩,
  ⟨"TRI_CAUSE", 0xD0264, 0x0, 1, 1, [⟨0, 5, .ro, 0⟩, ⟨5, 3, .ro, 0⟩]⟩,
  ⟨"WD_KICK0", 0xD0268, 0x0, 1, 1, [⟨0, 32, .rwf, 0⟩]⟩]

/-- Registers of prefix THERM, part 2. -/
def rowsTHERMB : List RegRow := [
  ⟨"WD_KICK1", 0xD026C, 0x0, 1, 1, [⟨0, 32, .rwf, 0⟩]⟩,
  ⟨"WD_KICK2", 0xD0270, 0x0, 1, 1, [⟨0, 32, .rwf, 0⟩]⟩,
  ⟨"TRI_INT_STATUS", 0xD0274, 0x0, 1, 1, [⟨0, 1, .w1c, 0⟩, ⟨1, 1, .w1c, 0⟩, ⟨2, 1, .w1c, 0⟩, ⟨3, 1, .w1c, 0⟩, ⟨4, 1, .w1c, 0⟩]⟩,
  ⟨"TRI_INT_ENABLE", 0xD0278, 0x0, 1, 1, [⟨0, 1, .rw, 0⟩, ⟨1, 1, .rw, 0⟩, ⟨2, 1, .rw, 0⟩, ⟨3, 1, .rw, 0⟩, ⟨4, 1, .rw, 0⟩]⟩,
  ⟨"WD_STATUS", 0xD027C, 0x0, 1, 1, [⟨0, 16, .ro, 0⟩, ⟨16, 1, .ro, 0⟩, ⟨17, 1, .ro, 0⟩, ⟨18, 10, .ro, 0⟩]⟩]

/-- Registers of prefix HEALTH. -/
def rowsHEALTH : List RegRow := [
  ⟨"HEALTH_CTRL", 0xE0000, 0x0, 1, 1, [⟨0, 1, .rwf, 0⟩, ⟨1, 1, .rwf, 0⟩]⟩,
  ⟨"HEALTH_STATUS", 0xE0004, 0x0, 1, 1, [⟨0, 1, .ro, 0⟩, ⟨1, 1, .ro, 0⟩, ⟨2, 1, .ro, 0⟩, ⟨8, 5, .ro, 0⟩]⟩,
  ⟨"LIMP_PRESENT", 0xE0008, 0x0, 1, 1, [⟨1, 16, .ro, 0⟩]⟩,
  ⟨"LIMP_SEEN", 0xE000C, 0x0, 1, 1, [⟨1, 16, .ro, 0⟩]⟩,
  ⟨"INT_STATUS", 0xE0010, 0x0, 1, 1, [⟨0, 1, .w1c, 0⟩, ⟨1, 1, .w1c, 0⟩, ⟨2, 1, .w1c, 0⟩, ⟨3, 1, .w1c, 0⟩]⟩,
  ⟨"INT_ENABLE", 0xE0014, 0x0, 1, 1, [⟨0, 1, .rw, 0⟩, ⟨1, 1, .rw, 0⟩, ⟨2, 1, .rw, 0⟩, ⟨3, 1, .rw, 0⟩]⟩,
  ⟨"ALERT_STATUS", 0xE0018, 0x0, 1, 1, [⟨0, 1, .w1c, 0⟩, ⟨1, 1, .w1c, 0⟩, ⟨2, 1, .w1c, 0⟩, ⟨3, 1, .w1c, 0⟩, ⟨4, 1, .w1c, 0⟩]⟩,
  ⟨"ALERT_ENABLE", 0xE001C, 0x0, 1, 1, [⟨0, 1, .rw, 1⟩, ⟨1, 1, .rw, 1⟩, ⟨2, 1, .rw, 1⟩, ⟨3, 1, .rw, 1⟩, ⟨4, 1, .rw, 1⟩]⟩,
  ⟨"PINS", 0xE0020, 0x0, 1, 1, [⟨0, 1, .ro, 0⟩, ⟨1, 1, .ro, 0⟩]⟩,
  ⟨"VECTOR_PEND", 0xE0024, 0x0, 1, 1, [⟨0, 15, .ro, 0⟩]⟩,
  ⟨"INTN_ROUTE", 0xE0028, 0x0, 1, 1, [⟨2, 13, .rw, 0⟩]⟩,
  ⟨"LOG_STATUS", 0xE002C, 0x0, 1, 1, [⟨0, 9, .ro, 0⟩, ⟨9, 1, .ro, 0⟩, ⟨16, 16, .ro, 0⟩]⟩,
  ⟨"LAST_LIMP", 0xE0030, 0x0, 1, 1, [⟨0, 5, .ro, 0⟩, ⟨5, 1, .ro, 0⟩, ⟨6, 1, .ro, 0⟩, ⟨7, 1, .ro, 0⟩, ⟨8, 24, .ro, 0⟩]⟩,
  ⟨"LAST_LIMP_TIME", 0xE0034, 0x0, 1, 1, [⟨0, 32, .ro, 0⟩]⟩,
  ⟨"HP_HEARTBEAT", 0xE0038, 0x0, 1, 1, [⟨0, 32, .ro, 0⟩]⟩,
  ⟨"REPORT_SEQ", 0xE003C, 0x0, 1, 1, [⟨0, 32, .ro, 0⟩]⟩,
  ⟨"LIMP_COUNT", 0xE0040, 0x0, 1, 16, [⟨0, 8, .ro, 0⟩, ⟨16, 16, .ro, 0⟩]⟩,
  ⟨"LIMP_INFO", 0xE0080, 0x0, 1, 16, [⟨0, 24, .ro, 0⟩, ⟨24, 1, .ro, 0⟩]⟩,
  ⟨"SUMMARY", 0xE00C0, 0x0, 1, 16, [⟨0, 32, .ro, 0⟩]⟩]

/-- Registers of prefix GLOBAL, part 1. -/
def rowsGLOBALA : List RegRow := [
  ⟨"ID", 0x0, 0x0, 1, 1, [⟨0, 16, .ro, 8115⟩, ⟨16, 16, .ro, 21056⟩]⟩,
  ⟨"REVISION", 0x4, 0x0, 1, 1, [⟨0, 8, .ro, 0⟩, ⟨8, 4, .ro, 0⟩]⟩,
  ⟨"SERIAL_LO", 0x8, 0x0, 1, 1, [⟨0, 32, .ro, 0⟩]⟩,
  ⟨"SERIAL_HI", 0xC, 0x0, 1, 1, [⟨0, 32, .ro, 0⟩]⟩,
  ⟨"FW_ID", 0x10, 0x0, 1, 1, [⟨0, 8, .ro, 0⟩, ⟨8, 8, .ro, 0⟩, ⟨16, 1, .ro, 0⟩, ⟨17, 1, .ro, 0⟩]⟩,
  ⟨"FW_VERSION", 0x14, 0x0, 1, 1, [⟨0, 32, .ro, 0⟩]⟩,
  ⟨"ROM_VERSION", 0x18, 0x0, 1, 1, [⟨0, 32, .ro, 0⟩]⟩,
  ⟨"CAP0", 0x1C, 0x0, 1, 1, [⟨0, 8, .ro, 128⟩, ⟨8, 8, .ro, 128⟩, ⟨16, 4, .ro, 12⟩, ⟨20, 4, .ro, 12⟩, ⟨24, 4, .ro, 8⟩, ⟨28, 2, .ro, 2⟩]⟩,
  ⟨"CAP1", 0x20, 0x0, 1, 1, [⟨0, 5, .ro, 16⟩, ⟨5, 3, .ro, 5⟩, ⟨8, 5, .ro, 16⟩, ⟨13, 3, .ro, 4⟩, ⟨16, 5, .ro, 16⟩, ⟨21, 5, .ro, 16⟩, ⟨26, 2, .ro, 2⟩, ⟨28, 3, .ro, 4⟩]⟩,
  ⟨"CAP2", 0x24, 0x0, 1, 1, [⟨0, 6, .ro, 32⟩, ⟨6, 5, .ro, 16⟩, ⟨11, 6, .ro, 32⟩, ⟨17, 5, .ro, 22⟩, ⟨22, 3, .ro, 7⟩]⟩,
  ⟨"MODE", 0x28, 0x0, 1, 1, [⟨0, 3, .ro, 0⟩, ⟨3, 1, .ro, 0⟩]⟩,
  ⟨"RESET_CTRL", 0x2C, 0x0, 1, 1, [⟨0, 1, .rw, 1⟩]⟩,
  ⟨"RESET_CAUSE", 0x30, 0x0, 1, 1, [⟨0, 3, .ro, 0⟩, ⟨3, 1, .w1c, 0⟩]⟩,
  ⟨"BOOT_CTRL", 0x34, 0x0, 1, 1, [⟨0, 1, .rw, 0⟩]⟩,
  ⟨"BOOT_STATUS", 0x38, 0x0, 1, 1, [⟨0, 2, .ro, 0⟩, ⟨2, 3, .ro, 0⟩, ⟨5, 1, .ro, 0⟩]⟩,
  ⟨"BOOT_INT_STATUS", 0x3C, 0x0, 1, 1, [⟨0, 1, .w1c, 0⟩, ⟨1, 1, .w1c, 0⟩, ⟨2, 1, .w1c, 0⟩]⟩,
  ⟨"BOOT_INT_ENABLE", 0x40, 0x0, 1, 1, [⟨0, 1, .rw, 0⟩, ⟨1, 1, .rw, 0⟩, ⟨2, 1, .rw, 0⟩]⟩,
  ⟨"ACCESS_ERR", 0x44, 0x0, 1, 1, [⟨0, 32, .rc, 0⟩]⟩,
  ⟨"LAST_ACCESS_ERR", 0x48, 0x0, 1, 1, [⟨0, 20, .ro, 0⟩, ⟨20, 3, .ro, 0⟩, ⟨23, 1, .ro, 0⟩, ⟨24, 1, .ro, 0⟩]⟩,
  ⟨"SPI_FRAMES", 0x4C, 0x0, 1, 1, [⟨0, 32, .rc, 0⟩]⟩,
  ⟨"SPI_ABORTS", 0x50, 0x0, 1, 1, [⟨0, 32, .rc, 0⟩]⟩,
  ⟨"TIME_LO", 0x54, 0x0, 1, 1, [⟨0, 32, .ro, 0⟩]⟩,
  ⟨"TIME_HI", 0x58, 0x0, 1, 1, [⟨0, 32, .ro, 0⟩]⟩,
  ⟨"UPTIME", 0x5C, 0x0, 1, 1, [⟨0, 32, .ro, 0⟩]⟩]

/-- Registers of prefix GLOBAL, part 2. -/
def rowsGLOBALB : List RegRow := [
  ⟨"FEATURE_OFFER", 0x60, 0x0, 1, 8, [⟨0, 32, .ro, 0⟩]⟩,
  ⟨"FEATURE_ACCEPT", 0x80, 0x0, 1, 8, [⟨0, 32, .rw, 0⟩]⟩,
  ⟨"FEATURE_ACTIVE", 0xA0, 0x0, 1, 8, [⟨0, 32, .ro, 0⟩]⟩,
  ⟨"FEATURE_STATUS", 0xC0, 0x0, 1, 1, [⟨0, 1, .ro, 0⟩]⟩,
  ⟨"PCIE_STATUS", 0xC4, 0x0, 1, 1, [⟨0, 5, .ro, 0⟩, ⟨5, 3, .ro, 0⟩, ⟨8, 1, .ro, 0⟩, ⟨9, 1, .ro, 0⟩, ⟨10, 1, .ro, 0⟩]⟩,
  ⟨"PCIE_ERR", 0xC8, 0x0, 1, 1, [⟨0, 16, .rc, 0⟩, ⟨16, 16, .rc, 0⟩]⟩,
  ⟨"SCRATCH", 0xCC, 0x0, 1, 12, [⟨0, 32, .rw, 0⟩]⟩]

/-- Registers of prefix TS. -/
def rowsTS : List RegRow := [
  ⟨"TS_VALUE", 0xD0000, 0x8, 32, 1, [⟨0, 16, .ro, 0⟩, ⟨16, 16, .ro, 0⟩]⟩,
  ⟨"TS_STATUS", 0xD0004, 0x8, 32, 1, [⟨0, 1, .ro, 0⟩, ⟨1, 1, .ro, 0⟩, ⟨2, 2, .ro, 0⟩, ⟨4, 1, .ro, 0⟩]⟩]

/-- Registers of prefix TH. -/
def rowsTH : List RegRow := [
  ⟨"TH_VALUE", 0xD0100, 0x8, 16, 1, [⟨0, 12, .ro, 0⟩, ⟨16, 16, .ro, 0⟩]⟩,
  ⟨"TH_STATUS", 0xD0104, 0x8, 16, 1, [⟨0, 2, .ro, 0⟩, ⟨2, 1, .ro, 0⟩, ⟨3, 7, .ro, 0⟩, ⟨10, 1, .ro, 0⟩]⟩]

/-- The rows of one 64 KiB block of BAR0 (R545), by the block's index. -/
def blockRows : Nat → List RegRow
  | 0 => rowsGLOBALA ++ rowsGLOBALB
  | 1 => rowsPORCHN ++ rowsPORCH
  | 2 => rowsDWSC ++ rowsDWG ++ rowsDW
  | 3 => rowsSTREAMN ++ rowsSTREAM ++ rowsDECOMP
  | 4 => rowsLE ++ rowsLINE
  | 5 => rowsCH ++ rowsCELLAR
  | 6 => rowsHP ++ rowsHEADPORT
  | 7 => rowsTRACK ++ rowsENC ++ rowsTIMING
  | 8 => rowsWE ++ rowsWP
  | 9 => rowsWATCHA ++ rowsWATCHB
  | 10 => rowsPPA ++ rowsPPB ++ rowsPEALA ++ rowsPEALB
  | 11 => rowsBK ++ rowsPANTRY
  | 12 => rowsOTPA ++ rowsOTPB
  | 13 => rowsTHERMA ++ rowsTHERMB ++ rowsTS ++ rowsTH
  | 14 => rowsHEALTH
  | _ => []

/-- The row `r` holds the register at `off`. -/
def RegRow.covers (r : RegRow) (off : Nat) : Bool :=
  decide (r.base ≤ off) && decide (off % 4 = 0) &&
    (if r.stride = 0 then decide (off - r.base < 4 * r.arr)
     else decide ((off - r.base) / r.stride < r.count) && decide ((off - r.base) % r.stride < 4 * r.arr))

/-- The register at a BAR0 offset, none where the offset is reserved (R544). -/
def regRow (off : Nat) : Option RegRow := (blockRows (off / 0x10000)).find? (·.covers off)

/-- The bits of the fields whose access code satisfies `p`. -/
def RegRow.mask (r : RegRow) (p : Acc → Bool) : Nat :=
  r.fields.foldl (fun m f => if p f.acc then m ||| ((2 ^ f.width - 1) <<< f.lo) else m) 0

/-- The reset value the manual's tables give a register. -/
def RegRow.resetValue (r : RegRow) : Nat := r.fields.foldl (fun m f => m ||| (f.reset <<< f.lo)) 0

/-- What an unlisted register word reads as: its reset value (R545 and the blocks' tables), 0 where reserved (R544). -/
def regReset (off : Nat) : Word :=
  match regRow off with
  | some r => BitVec.ofNat 32 r.resetValue
  | none => 0

namespace F

def CH_CTRL_ENABLE (i : Nat) : Fld := ⟨0x50000 + 0x40 * i, 0, 1⟩
def CH_CTRL_SCRUB_EN (i : Nat) : Fld := ⟨0x50000 + 0x40 * i, 1, 1⟩
def CH_CTRL_FORCE_OFFLINE (i : Nat) : Fld := ⟨0x50000 + 0x40 * i, 2, 1⟩
def CH_CTRL (i : Nat) : Fld := ⟨0x50000 + 0x40 * i, 0, 32⟩
def CH_STATUS_STATE (i : Nat) : Fld := ⟨0x50004 + 0x40 * i, 0, 3⟩
def CH_STATUS_ERASURE (i : Nat) : Fld := ⟨0x50004 + 0x40 * i, 3, 1⟩
def CH_STATUS_ERASED_LANE (i : Nat) : Fld := ⟨0x50004 + 0x40 * i, 4, 6⟩
def CH_STATUS_LOST_CAUSE_VALID (i : Nat) : Fld := ⟨0x50004 + 0x40 * i, 10, 1⟩
def CH_STATUS_LOST_CAUSE (i : Nat) : Fld := ⟨0x50004 + 0x40 * i, 11, 3⟩
def CH_STATUS_DRAM_TEMP (i : Nat) : Fld := ⟨0x50004 + 0x40 * i, 16, 3⟩
def CH_STATUS (i : Nat) : Fld := ⟨0x50004 + 0x40 * i, 0, 32⟩
def CH_CORR1 (i : Nat) : Fld := ⟨0x50008 + 0x40 * i, 0, 32⟩
def CH_CORR2 (i : Nat) : Fld := ⟨0x5000C + 0x40 * i, 0, 32⟩
def CH_UNCORR (i : Nat) : Fld := ⟨0x50010 + 0x40 * i, 0, 32⟩
def CH_ADDR_ERR (i : Nat) : Fld := ⟨0x50014 + 0x40 * i, 0, 32⟩
def CH_RMW (i : Nat) : Fld := ⟨0x50018 + 0x40 * i, 0, 32⟩
def CH_BLANK (i : Nat) : Fld := ⟨0x5001C + 0x40 * i, 0, 32⟩
def CH_LAST_ERR_BLOCK (i : Nat) : Fld := ⟨0x50020 + 0x40 * i, 0, 32⟩
def CH_LAST_ERR_INFO_KIND (i : Nat) : Fld := ⟨0x50024 + 0x40 * i, 0, 1⟩
def CH_LAST_ERR_INFO_BY_SCRUB (i : Nat) : Fld := ⟨0x50024 + 0x40 * i, 1, 1⟩
def CH_LAST_ERR_INFO (i : Nat) : Fld := ⟨0x50024 + 0x40 * i, 0, 32⟩
def CH_LANE_WATCH_LANE (i : Nat) : Fld := ⟨0x50028 + 0x40 * i, 0, 6⟩
def CH_LANE_WATCH_COUNT (i : Nat) : Fld := ⟨0x50028 + 0x40 * i, 6, 11⟩
def CH_LANE_WATCH (i : Nat) : Fld := ⟨0x50028 + 0x40 * i, 0, 32⟩
def CH_SCRUB_POS (i : Nat) : Fld := ⟨0x5002C + 0x40 * i, 0, 32⟩
def CH_BW_READ (i : Nat) : Fld := ⟨0x50030 + 0x40 * i, 0, 32⟩
def CH_BW_WRITE (i : Nat) : Fld := ⟨0x50034 + 0x40 * i, 0, 32⟩
def CH_PROBE_FAIL (i : Nat) : Fld := ⟨0x50038 + 0x40 * i, 0, 32⟩
def CH_SCRUB_CANCEL (i : Nat) : Fld := ⟨0x5003C + 0x40 * i, 0, 32⟩
def CELLAR_CTRL_USE_MASK : Fld := ⟨0x50400, 0, 12⟩
def CELLAR_CTRL_RING_EN : Fld := ⟨0x50400, 16, 1⟩
def CELLAR_CTRL : Fld := ⟨0x50400, 0, 32⟩
def CELLAR_STATUS_ONLINE_MASK : Fld := ⟨0x50404, 0, 12⟩
def CELLAR_STATUS_LAYOUT_N : Fld := ⟨0x50404, 12, 4⟩
def CELLAR_STATUS_REMAP_PENDING : Fld := ⟨0x50404, 16, 1⟩
def CELLAR_STATUS_REMAPPED : Fld := ⟨0x50404, 17, 1⟩
def CELLAR_STATUS_FIT : Fld := ⟨0x50404, 18, 1⟩
def CELLAR_STATUS : Fld := ⟨0x50404, 0, 32⟩
def CELLAR_CAPACITY_DATA_MIB : Fld := ⟨0x50408, 0, 16⟩
def CELLAR_CAPACITY_CHANNELS : Fld := ⟨0x50408, 16, 4⟩
def CELLAR_CAPACITY : Fld := ⟨0x50408, 0, 32⟩
def CELLAR_RING_AREA : Fld := ⟨0x5040C, 0, 32⟩
def CELLAR_RING_NEED : Fld := ⟨0x50410, 0, 32⟩
def CELLAR_TABLE_AREA : Fld := ⟨0x50414, 0, 32⟩
def CELLAR_SCRUB_CFG_PERIOD_MIN : Fld := ⟨0x50418, 0, 11⟩
def CELLAR_SCRUB_CFG : Fld := ⟨0x50418, 0, 32⟩
def CELLAR_SCRUB_STATUS_PROGRESS : Fld := ⟨0x5041C, 0, 8⟩
def CELLAR_SCRUB_STATUS_PASSES : Fld := ⟨0x5041C, 8, 24⟩
def CELLAR_SCRUB_STATUS : Fld := ⟨0x5041C, 0, 32⟩
def CELLAR_INT_STATUS_CORR : Fld := ⟨0x50420, 0, 1⟩
def CELLAR_INT_STATUS_UNCORR : Fld := ⟨0x50420, 1, 1⟩
def CELLAR_INT_STATUS_ADDR_ERR : Fld := ⟨0x50420, 2, 1⟩
def CELLAR_INT_STATUS_LANE_ERASED : Fld := ⟨0x50420, 3, 1⟩
def CELLAR_INT_STATUS_CHANNEL_LOST : Fld := ⟨0x50420, 4, 1⟩
def CELLAR_INT_STATUS_REMAPPED : Fld := ⟨0x50420, 5, 1⟩
def CELLAR_INT_STATUS_SCRUB_PASS : Fld := ⟨0x50420, 6, 1⟩
def CELLAR_INT_STATUS_RMW_ERR : Fld := ⟨0x50420, 7, 1⟩
def CELLAR_INT_STATUS : Fld := ⟨0x50420, 0, 32⟩
def CELLAR_INT_ENABLE_CORR : Fld := ⟨0x50424, 0, 1⟩
def CELLAR_INT_ENABLE_UNCORR : Fld := ⟨0x50424, 1, 1⟩
def CELLAR_INT_ENABLE_ADDR_ERR : Fld := ⟨0x50424, 2, 1⟩
def CELLAR_INT_ENABLE_LANE_ERASED : Fld := ⟨0x50424, 3, 1⟩
def CELLAR_INT_ENABLE_CHANNEL_LOST : Fld := ⟨0x50424, 4, 1⟩
def CELLAR_INT_ENABLE_REMAPPED : Fld := ⟨0x50424, 5, 1⟩
def CELLAR_INT_ENABLE_SCRUB_PASS : Fld := ⟨0x50424, 6, 1⟩
def CELLAR_INT_ENABLE_RMW_ERR : Fld := ⟨0x50424, 7, 1⟩
def CELLAR_INT_ENABLE : Fld := ⟨0x50424, 0, 32⟩
def CELLAR_BW_STATUS_LOAD : Fld := ⟨0x50428, 0, 8⟩
def CELLAR_BW_STATUS_BUSIEST : Fld := ⟨0x50428, 8, 4⟩
def CELLAR_BW_STATUS : Fld := ⟨0x50428, 0, 32⟩
def CELLAR_BW_LIMIT_LIMIT : Fld := ⟨0x5042C, 0, 8⟩
def CELLAR_BW_LIMIT : Fld := ⟨0x5042C, 0, 32⟩
def CELLAR_CORR_TOTAL : Fld := ⟨0x50430, 0, 32⟩
def CELLAR_UNCORR_TOTAL : Fld := ⟨0x50434, 0, 32⟩
def CELLAR_BLANK_TOTAL : Fld := ⟨0x50438, 0, 32⟩
def CELLAR_RMW_TOTAL : Fld := ⟨0x5043C, 0, 32⟩
def CELLAR_PLANE_NEED (j : Nat) : Fld := ⟨0x50440 + 4 * j, 0, 32⟩
def SN_TAIL_TAIL (i : Nat) : Fld := ⟨0x30000 + 0x10 * i, 0, 16⟩
def SN_TAIL (i : Nat) : Fld := ⟨0x30000 + 0x10 * i, 0, 32⟩
def SN_HEAD_STATE_HEAD (i : Nat) : Fld := ⟨0x30004 + 0x10 * i, 0, 16⟩
def SN_HEAD_STATE_STATE (i : Nat) : Fld := ⟨0x30004 + 0x10 * i, 16, 2⟩
def SN_HEAD_STATE_DECOMP (i : Nat) : Fld := ⟨0x30004 + 0x10 * i, 18, 3⟩
def SN_HEAD_STATE_GATE (i : Nat) : Fld := ⟨0x30004 + 0x10 * i, 21, 1⟩
def SN_HEAD_STATE_FILL_KIB (i : Nat) : Fld := ⟨0x30004 + 0x10 * i, 23, 9⟩
def SN_HEAD_STATE (i : Nat) : Fld := ⟨0x30004 + 0x10 * i, 0, 32⟩
def SN_RUNWAY_RUNWAY (i : Nat) : Fld := ⟨0x30008 + 0x10 * i, 0, 16⟩
def SN_RUNWAY_MIN_RUNWAY (i : Nat) : Fld := ⟨0x30008 + 0x10 * i, 16, 16⟩
def SN_RUNWAY (i : Nat) : Fld := ⟨0x30008 + 0x10 * i, 0, 32⟩
def SN_FAULTS_UNDERRUN (i : Nat) : Fld := ⟨0x3000C + 0x10 * i, 0, 4⟩
def SN_FAULTS_CRC (i : Nat) : Fld := ⟨0x3000C + 0x10 * i, 4, 4⟩
def SN_FAULTS_CORRUPT (i : Nat) : Fld := ⟨0x3000C + 0x10 * i, 8, 4⟩
def SN_FAULTS_GAP (i : Nat) : Fld := ⟨0x3000C + 0x10 * i, 12, 4⟩
def SN_FAULTS_DUP (i : Nat) : Fld := ⟨0x3000C + 0x10 * i, 16, 4⟩
def SN_FAULTS_ORDER (i : Nat) : Fld := ⟨0x3000C + 0x10 * i, 20, 4⟩
def SN_FAULTS_LATE (i : Nat) : Fld := ⟨0x3000C + 0x10 * i, 24, 4⟩
def SN_FAULTS_DESC (i : Nat) : Fld := ⟨0x3000C + 0x10 * i, 28, 4⟩
def SN_FAULTS (i : Nat) : Fld := ⟨0x3000C + 0x10 * i, 0, 32⟩
def STREAM_CTRL_INGRESS_EN : Fld := ⟨0x30800, 0, 1⟩
def STREAM_CTRL_DECODE_EN : Fld := ⟨0x30800, 1, 1⟩
def STREAM_CTRL : Fld := ⟨0x30800, 0, 32⟩
def STREAM_OPEN (j : Nat) : Fld := ⟨0x30804 + 4 * j, 0, 32⟩
def STREAM_FAULT_PEND (j : Nat) : Fld := ⟨0x30814 + 4 * j, 0, 32⟩
def STREAM_INT_STATUS_FAULT : Fld := ⟨0x30824, 0, 1⟩
def STREAM_INT_STATUS_UNDERRUN : Fld := ⟨0x30824, 1, 1⟩
def STREAM_INT_STATUS_DRAINED : Fld := ⟨0x30824, 2, 1⟩
def STREAM_INT_STATUS_STOPPED : Fld := ⟨0x30824, 3, 1⟩
def STREAM_INT_STATUS_DESC_ERR : Fld := ⟨0x30824, 4, 1⟩
def STREAM_INT_STATUS_DECOMP_OFFLINE : Fld := ⟨0x30824, 5, 1⟩
def STREAM_INT_STATUS : Fld := ⟨0x30824, 0, 32⟩
def STREAM_INT_ENABLE_FAULT : Fld := ⟨0x30828, 0, 1⟩
def STREAM_INT_ENABLE_UNDERRUN : Fld := ⟨0x30828, 1, 1⟩
def STREAM_INT_ENABLE_DRAINED : Fld := ⟨0x30828, 2, 1⟩
def STREAM_INT_ENABLE_STOPPED : Fld := ⟨0x30828, 3, 1⟩
def STREAM_INT_ENABLE_DESC_ERR : Fld := ⟨0x30828, 4, 1⟩
def STREAM_INT_ENABLE_DECOMP_OFFLINE : Fld := ⟨0x30828, 5, 1⟩
def STREAM_INT_ENABLE : Fld := ⟨0x30828, 0, 32⟩
def STREAM_MIN_RUNWAY_RUNWAY : Fld := ⟨0x3082C, 0, 16⟩
def STREAM_MIN_RUNWAY_STREAM : Fld := ⟨0x3082C, 16, 7⟩
def STREAM_MIN_RUNWAY : Fld := ⟨0x3082C, 0, 32⟩
def STREAM_UNDERRUN_TOTAL : Fld := ⟨0x30830, 0, 32⟩
def STREAM_BLANK_TOTAL : Fld := ⟨0x30834, 0, 32⟩
def STREAM_LAST_FAULT_STREAM : Fld := ⟨0x30838, 0, 7⟩
def STREAM_LAST_FAULT_VALID : Fld := ⟨0x30838, 7, 1⟩
def STREAM_LAST_FAULT_KIND : Fld := ⟨0x30838, 8, 4⟩
def STREAM_LAST_FAULT_PLANE : Fld := ⟨0x30838, 12, 4⟩
def STREAM_LAST_FAULT_LINE_HI : Fld := ⟨0x30838, 16, 16⟩
def STREAM_LAST_FAULT : Fld := ⟨0x30838, 0, 32⟩
def STREAM_LAST_FAULT_LINE : Fld := ⟨0x3083C, 0, 32⟩
def DECOMP_DC_CTRL_ENABLE (i : Nat) : Fld := ⟨0x31000 + 0x20 * i, 0, 1⟩
def DECOMP_DC_CTRL_FORCE_OFFLINE (i : Nat) : Fld := ⟨0x31000 + 0x20 * i, 1, 1⟩
def DECOMP_DC_CTRL (i : Nat) : Fld := ⟨0x31000 + 0x20 * i, 0, 32⟩
def DECOMP_DC_STATUS_STATE (i : Nat) : Fld := ⟨0x31004 + 0x20 * i, 0, 2⟩
def DECOMP_DC_STATUS_STREAM (i : Nat) : Fld := ⟨0x31004 + 0x20 * i, 2, 7⟩
def DECOMP_DC_STATUS_STREAM_VALID (i : Nat) : Fld := ⟨0x31004 + 0x20 * i, 9, 1⟩
def DECOMP_DC_STATUS_OFF_CAUSE (i : Nat) : Fld := ⟨0x31004 + 0x20 * i, 10, 2⟩
def DECOMP_DC_STATUS (i : Nat) : Fld := ⟨0x31004 + 0x20 * i, 0, 32⟩
def DECOMP_DC_STREAMS_COUNT (i : Nat) : Fld := ⟨0x31008 + 0x20 * i, 0, 8⟩
def DECOMP_DC_STREAMS (i : Nat) : Fld := ⟨0x31008 + 0x20 * i, 0, 32⟩
def DECOMP_PACKETS (i : Nat) : Fld := ⟨0x3100C + 0x20 * i, 0, 32⟩
def DECOMP_LINES (i : Nat) : Fld := ⟨0x31010 + 0x20 * i, 0, 32⟩
def DECOMP_BYTES_OUT (i : Nat) : Fld := ⟨0x31014 + 0x20 * i, 0, 32⟩
def DECOMP_CRC_ERR (i : Nat) : Fld := ⟨0x31018 + 0x20 * i, 0, 32⟩
def DECOMP_CORRUPT (i : Nat) : Fld := ⟨0x3101C + 0x20 * i, 0, 32⟩
def LE_CTRL_ENABLE (i : Nat) : Fld := ⟨0x40000 + 0x40 * i, 0, 1⟩
def LE_CTRL_FORCE_OFFLINE (i : Nat) : Fld := ⟨0x40000 + 0x40 * i, 1, 1⟩
def LE_CTRL (i : Nat) : Fld := ⟨0x40000 + 0x40 * i, 0, 32⟩
def LE_STATUS_STATE (i : Nat) : Fld := ⟨0x40004 + 0x40 * i, 0, 2⟩
def LE_STATUS_OFF_CAUSE (i : Nat) : Fld := ⟨0x40004 + 0x40 * i, 2, 2⟩
def LE_STATUS_SLICE (i : Nat) : Fld := ⟨0x40004 + 0x40 * i, 4, 4⟩
def LE_STATUS_ACTIVE (i : Nat) : Fld := ⟨0x40004 + 0x40 * i, 8, 4⟩
def LE_STATUS (i : Nat) : Fld := ⟨0x40004 + 0x40 * i, 0, 32⟩
def LE_LINES (i : Nat) : Fld := ⟨0x40008 + 0x40 * i, 0, 32⟩
def LE_BYTES_IN (i : Nat) : Fld := ⟨0x4000C + 0x40 * i, 0, 32⟩
def LE_SUBST (i : Nat) : Fld := ⟨0x40010 + 0x40 * i, 0, 32⟩
def LE_SPREAD (i : Nat) : Fld := ⟨0x40014 + 0x40 * i, 0, 32⟩
def LE_SPREAD_DROP (i : Nat) : Fld := ⟨0x40018 + 0x40 * i, 0, 32⟩
def LE_BLANK_LINES (i : Nat) : Fld := ⟨0x4001C + 0x40 * i, 0, 32⟩
def LE_MAX_SLICE_TIME (i : Nat) : Fld := ⟨0x40020 + 0x40 * i, 0, 32⟩
def LE_LOAD_LOAD (i : Nat) : Fld := ⟨0x40024 + 0x40 * i, 0, 8⟩
def LE_LOAD (i : Nat) : Fld := ⟨0x40024 + 0x40 * i, 0, 32⟩
def LE_LAST_LINE_STREAM (i : Nat) : Fld := ⟨0x40028 + 0x40 * i, 0, 7⟩
def LE_LAST_LINE_VALID (i : Nat) : Fld := ⟨0x40028 + 0x40 * i, 7, 1⟩
def LE_LAST_LINE_LINE_LO (i : Nat) : Fld := ⟨0x40028 + 0x40 * i, 8, 24⟩
def LE_LAST_LINE (i : Nat) : Fld := ⟨0x40028 + 0x40 * i, 0, 32⟩
def LE_STATE_EPOCH (i : Nat) : Fld := ⟨0x4002C + 0x40 * i, 0, 32⟩
def LINE_CTRL_ENABLE_MASK : Fld := ⟨0x40400, 0, 12⟩
def LINE_CTRL : Fld := ⟨0x40400, 0, 32⟩
def LINE_STATUS_ONLINE_MASK : Fld := ⟨0x40404, 0, 12⟩
def LINE_STATUS_ACTIVE : Fld := ⟨0x40404, 12, 4⟩
def LINE_STATUS : Fld := ⟨0x40404, 0, 32⟩
def LINE_INT_STATUS_ENGINE_OFFLINE : Fld := ⟨0x40408, 0, 1⟩
def LINE_INT_STATUS_PARTIAL : Fld := ⟨0x40408, 1, 1⟩
def LINE_INT_STATUS_MASK_ZERO : Fld := ⟨0x40408, 2, 1⟩
def LINE_INT_STATUS_SPREAD_DROP : Fld := ⟨0x40408, 3, 1⟩
def LINE_INT_STATUS : Fld := ⟨0x40408, 0, 32⟩
def LINE_INT_ENABLE_ENGINE_OFFLINE : Fld := ⟨0x4040C, 0, 1⟩
def LINE_INT_ENABLE_PARTIAL : Fld := ⟨0x4040C, 1, 1⟩
def LINE_INT_ENABLE_MASK_ZERO : Fld := ⟨0x4040C, 2, 1⟩
def LINE_INT_ENABLE_SPREAD_DROP : Fld := ⟨0x4040C, 3, 1⟩
def LINE_INT_ENABLE : Fld := ⟨0x4040C, 0, 32⟩
def LINE_LOAD_BUSIEST : Fld := ⟨0x40410, 0, 8⟩
def LINE_LOAD_ENGINE : Fld := ⟨0x40410, 8, 4⟩
def LINE_LOAD : Fld := ⟨0x40410, 0, 32⟩
def LINE_BW_LIMIT_LIMIT : Fld := ⟨0x40414, 0, 8⟩
def LINE_BW_LIMIT : Fld := ⟨0x40414, 0, 32⟩
def LINE_SUBST_TOTAL : Fld := ⟨0x40418, 0, 32⟩
def LINE_SPREAD_TOTAL : Fld := ⟨0x4041C, 0, 32⟩
def LINE_SPREAD_DROP_TOTAL : Fld := ⟨0x40420, 0, 32⟩
def LINE_PARTIAL_TOTAL : Fld := ⟨0x40424, 0, 32⟩
def LINE_LAST_PARTIAL_STREAM : Fld := ⟨0x40428, 0, 7⟩
def LINE_LAST_PARTIAL_VALID : Fld := ⟨0x40428, 7, 1⟩
def LINE_LAST_PARTIAL_ENGINE : Fld := ⟨0x40428, 8, 4⟩
def LINE_LAST_PARTIAL_LINE_HI : Fld := ⟨0x40428, 12, 16⟩
def LINE_LAST_PARTIAL : Fld := ⟨0x40428, 0, 32⟩
def LINE_LAST_PARTIAL_LINE : Fld := ⟨0x4042C, 0, 32⟩
def LINE_STATE_EPOCH : Fld := ⟨0x40430, 0, 32⟩
def LINE_MASK_VALID_PLANES : Fld := ⟨0x40434, 0, 16⟩
def LINE_MASK_VALID : Fld := ⟨0x40434, 0, 32⟩
def LINE_GEN_STATUS_BUSY : Fld := ⟨0x40438, 0, 1⟩
def LINE_GEN_STATUS_PLANE : Fld := ⟨0x40438, 1, 4⟩
def LINE_GEN_STATUS : Fld := ⟨0x40438, 0, 32⟩
def LINE_MASK_ZERO : Fld := ⟨0x4043C, 0, 32⟩
def TRACK_TR_CTRL_SOURCE (i : Nat) : Fld := ⟨0x70000 + 0x40 * i, 0, 2⟩
def TRACK_TR_CTRL_ENC (i : Nat) : Fld := ⟨0x70000 + 0x40 * i, 2, 2⟩
def TRACK_TR_CTRL_ENC_VALID (i : Nat) : Fld := ⟨0x70000 + 0x40 * i, 4, 1⟩
def TRACK_TR_CTRL_REPORT_ONLY (i : Nat) : Fld := ⟨0x70000 + 0x40 * i, 5, 1⟩
def TRACK_TR_CTRL (i : Nat) : Fld := ⟨0x70000 + 0x40 * i, 0, 32⟩
def TRACK_TR_STATUS_STATE (i : Nat) : Fld := ⟨0x70004 + 0x40 * i, 0, 2⟩
def TRACK_TR_STATUS_CAUSE (i : Nat) : Fld := ⟨0x70004 + 0x40 * i, 2, 3⟩
def TRACK_TR_STATUS_OVERSPEED (i : Nat) : Fld := ⟨0x70004 + 0x40 * i, 5, 1⟩
def TRACK_TR_STATUS_MOVING (i : Nat) : Fld := ⟨0x70004 + 0x40 * i, 6, 1⟩
def TRACK_TR_STATUS (i : Nat) : Fld := ⟨0x70004 + 0x40 * i, 0, 32⟩
def TRACK_PITCH_LO (i : Nat) : Fld := ⟨0x70008 + 0x40 * i, 0, 32⟩
def TRACK_PITCH_HI (i : Nat) : Fld := ⟨0x7000C + 0x40 * i, 0, 32⟩
def TRACK_PERIOD_PS (i : Nat) : Fld := ⟨0x70010 + 0x40 * i, 0, 32⟩
def TRACK_TRIM_PPM (i : Nat) : Fld := ⟨0x70014 + 0x40 * i, 0, 32⟩
def TRACK_LEADS_LEAD_US (i : Nat) : Fld := ⟨0x70018 + 0x40 * i, 0, 11⟩
def TRACK_LEADS_FETCH_US (i : Nat) : Fld := ⟨0x70018 + 0x40 * i, 16, 11⟩
def TRACK_LEADS (i : Nat) : Fld := ⟨0x70018 + 0x40 * i, 0, 32⟩
def TRACK_SLACK_TOL_SLACK (i : Nat) : Fld := ⟨0x7001C + 0x40 * i, 0, 8⟩
def TRACK_SLACK_TOL_TOLERANCE (i : Nat) : Fld := ⟨0x7001C + 0x40 * i, 8, 12⟩
def TRACK_SLACK_TOL_REVERSE (i : Nat) : Fld := ⟨0x7001C + 0x40 * i, 20, 12⟩
def TRACK_SLACK_TOL (i : Nat) : Fld := ⟨0x7001C + 0x40 * i, 0, 32⟩
def TRACK_LINE_LO (i : Nat) : Fld := ⟨0x70020 + 0x40 * i, 0, 32⟩
def TRACK_LINE_HI (i : Nat) : Fld := ⟨0x70024 + 0x40 * i, 0, 16⟩
def TRACK_LINE_HI_REG (i : Nat) : Fld := ⟨0x70024 + 0x40 * i, 0, 32⟩
def TRACK_TL_LO (i : Nat) : Fld := ⟨0x70028 + 0x40 * i, 0, 32⟩
def TRACK_TL_HI (i : Nat) : Fld := ⟨0x7002C + 0x40 * i, 0, 32⟩
def TRACK_RATE (i : Nat) : Fld := ⟨0x70030 + 0x40 * i, 0, 20⟩
def TRACK_RATE_REG (i : Nat) : Fld := ⟨0x70030 + 0x40 * i, 0, 32⟩
def TRACK_OVERSPEED_LATE (i : Nat) : Fld := ⟨0x70034 + 0x40 * i, 0, 16⟩
def TRACK_OVERSPEED_DROPPED (i : Nat) : Fld := ⟨0x70034 + 0x40 * i, 16, 16⟩
def TRACK_OVERSPEED (i : Nat) : Fld := ⟨0x70034 + 0x40 * i, 0, 32⟩
def TRACK_RATED (i : Nat) : Fld := ⟨0x70038 + 0x40 * i, 0, 20⟩
def TRACK_RATED_REG (i : Nat) : Fld := ⟨0x70038 + 0x40 * i, 0, 32⟩
def TRACK_START (i : Nat) : Fld := ⟨0x7003C + 0x40 * i, 0, 32⟩
def ENC_EN_CTRL_KIND (i : Nat) : Fld := ⟨0x71000 + 0x40 * i, 0, 2⟩
def ENC_EN_CTRL_DIR_INVERT (i : Nat) : Fld := ⟨0x71000 + 0x40 * i, 2, 1⟩
def ENC_EN_CTRL_Z_EN (i : Nat) : Fld := ⟨0x71000 + 0x40 * i, 3, 1⟩
def ENC_EN_CTRL_TERM_EN (i : Nat) : Fld := ⟨0x71000 + 0x40 * i, 4, 1⟩
def ENC_EN_CTRL_GRAY (i : Nat) : Fld := ⟨0x71000 + 0x40 * i, 5, 1⟩
def ENC_EN_CTRL_FILTER (i : Nat) : Fld := ⟨0x71000 + 0x40 * i, 8, 8⟩
def ENC_EN_CTRL_BITS (i : Nat) : Fld := ⟨0x71000 + 0x40 * i, 16, 6⟩
def ENC_EN_CTRL (i : Nat) : Fld := ⟨0x71000 + 0x40 * i, 0, 32⟩
def ENC_EN_STATUS_STATE (i : Nat) : Fld := ⟨0x71004 + 0x40 * i, 0, 2⟩
def ENC_EN_STATUS_FAULT (i : Nat) : Fld := ⟨0x71004 + 0x40 * i, 2, 2⟩
def ENC_EN_STATUS_ARMED (i : Nat) : Fld := ⟨0x71004 + 0x40 * i, 4, 1⟩
def ENC_EN_STATUS_WARN (i : Nat) : Fld := ⟨0x71004 + 0x40 * i, 5, 1⟩
def ENC_EN_STATUS_LEVELS (i : Nat) : Fld := ⟨0x71004 + 0x40 * i, 6, 3⟩
def ENC_EN_STATUS_REJECTS (i : Nat) : Fld := ⟨0x71004 + 0x40 * i, 16, 8⟩
def ENC_EN_STATUS (i : Nat) : Fld := ⟨0x71004 + 0x40 * i, 0, 32⟩
def ENC_POS_LO (i : Nat) : Fld := ⟨0x71008 + 0x40 * i, 0, 32⟩
def ENC_POS_HI (i : Nat) : Fld := ⟨0x7100C + 0x40 * i, 0, 32⟩
def ENC_VELOCITY (i : Nat) : Fld := ⟨0x71010 + 0x40 * i, 0, 32⟩
def ENC_ABS_CFG_CLOCK_KHZ (i : Nat) : Fld := ⟨0x71014 + 0x40 * i, 0, 14⟩
def ENC_ABS_CFG_SAMPLE_US (i : Nat) : Fld := ⟨0x71014 + 0x40 * i, 16, 10⟩
def ENC_ABS_CFG (i : Nat) : Fld := ⟨0x71014 + 0x40 * i, 0, 32⟩
def ENC_ALPHA_BETA_ALPHA (i : Nat) : Fld := ⟨0x71018 + 0x40 * i, 0, 16⟩
def ENC_ALPHA_BETA_BETA (i : Nat) : Fld := ⟨0x71018 + 0x40 * i, 16, 16⟩
def ENC_ALPHA_BETA (i : Nat) : Fld := ⟨0x71018 + 0x40 * i, 0, 32⟩
def ENC_WD_TIME (i : Nat) : Fld := ⟨0x7101C + 0x40 * i, 0, 20⟩
def ENC_WD_TIME_REG (i : Nat) : Fld := ⟨0x7101C + 0x40 * i, 0, 32⟩
def ENC_WD_ARM (i : Nat) : Fld := ⟨0x71020 + 0x40 * i, 0, 24⟩
def ENC_WD_ARM_REG (i : Nat) : Fld := ⟨0x71020 + 0x40 * i, 0, 32⟩
def ENC_MAX_ACCEL (i : Nat) : Fld := ⟨0x71024 + 0x40 * i, 0, 32⟩
def ENC_PLAUS_MARGIN (i : Nat) : Fld := ⟨0x71028 + 0x40 * i, 0, 16⟩
def ENC_PLAUS_LIMIT (i : Nat) : Fld := ⟨0x71028 + 0x40 * i, 16, 8⟩
def ENC_PLAUS (i : Nat) : Fld := ⟨0x71028 + 0x40 * i, 0, 32⟩
def ENC_LATCH_NS (i : Nat) : Fld := ⟨0x7102C + 0x40 * i, 0, 16⟩
def ENC_LATCH_NS_REG (i : Nat) : Fld := ⟨0x7102C + 0x40 * i, 0, 32⟩
def ENC_ERRORS_ILLEGAL (i : Nat) : Fld := ⟨0x71030 + 0x40 * i, 0, 8⟩
def ENC_ERRORS_FRAME (i : Nat) : Fld := ⟨0x71030 + 0x40 * i, 8, 8⟩
def ENC_ERRORS_IMPLAUSIBLE (i : Nat) : Fld := ⟨0x71030 + 0x40 * i, 16, 8⟩
def ENC_ERRORS_WD_LATE (i : Nat) : Fld := ⟨0x71030 + 0x40 * i, 24, 8⟩
def ENC_ERRORS (i : Nat) : Fld := ⟨0x71030 + 0x40 * i, 0, 32⟩
def ENC_Z_POS (i : Nat) : Fld := ⟨0x71034 + 0x40 * i, 0, 32⟩
def ENC_SAMPLE_TIME (i : Nat) : Fld := ⟨0x71038 + 0x40 * i, 0, 32⟩
def ENC_SAMPLES (i : Nat) : Fld := ⟨0x7103C + 0x40 * i, 0, 32⟩
def TIMING_GOV_CTRL_PWM_EN : Fld := ⟨0x72000, 0, 1⟩
def TIMING_GOV_CTRL_SERIAL_EN : Fld := ⟨0x72000, 1, 1⟩
def TIMING_GOV_CTRL_HOST_CAP : Fld := ⟨0x72000, 8, 5⟩
def TIMING_GOV_CTRL_IDLE_P : Fld := ⟨0x72000, 16, 5⟩
def TIMING_GOV_CTRL : Fld := ⟨0x72000, 0, 32⟩
def TIMING_GOV_STATUS_P : Fld := ⟨0x72004, 0, 5⟩
def TIMING_GOV_STATUS_REASON : Fld := ⟨0x72004, 5, 11⟩
def TIMING_GOV_STATUS_COUNTER : Fld := ⟨0x72004, 16, 15⟩
def TIMING_GOV_STATUS : Fld := ⟨0x72004, 0, 32⟩
def TIMING_LIMITS_A_RUNWAY : Fld := ⟨0x72008, 0, 5⟩
def TIMING_LIMITS_A_THERMAL : Fld := ⟨0x72008, 8, 5⟩
def TIMING_LIMITS_A_RATE : Fld := ⟨0x72008, 16, 5⟩
def TIMING_LIMITS_A_BANDWIDTH : Fld := ⟨0x72008, 24, 5⟩
def TIMING_LIMITS_A : Fld := ⟨0x72008, 0, 32⟩
def TIMING_LIMITS_B_RING : Fld := ⟨0x7200C, 0, 5⟩
def TIMING_LIMITS_B_OVERSPEED : Fld := ⟨0x7200C, 8, 5⟩
def TIMING_LIMITS_B_LOCAL : Fld := ⟨0x7200C, 16, 5⟩
def TIMING_LIMITS_B : Fld := ⟨0x7200C, 0, 32⟩
def TIMING_RUNWAY_TARGET : Fld := ⟨0x72010, 0, 11⟩
def TIMING_RUNWAY_TARGET_REG : Fld := ⟨0x72010, 0, 32⟩
def TIMING_HYST : Fld := ⟨0x72014, 0, 13⟩
def TIMING_HYST_REG : Fld := ⟨0x72014, 0, 32⟩
def TIMING_FRAME : Fld := ⟨0x72018, 0, 32⟩
def TIMING_TM_INT_STATUS_OVERSPEED : Fld := ⟨0x7201C, 0, 1⟩
def TIMING_TM_INT_STATUS_TRACK_STOPPED : Fld := ⟨0x7201C, 1, 1⟩
def TIMING_TM_INT_STATUS_ENC_STALL : Fld := ⟨0x7201C, 2, 1⟩
def TIMING_TM_INT_STATUS_ENC_SIGNAL : Fld := ⟨0x7201C, 3, 1⟩
def TIMING_TM_INT_STATUS_ENC_INPUT : Fld := ⟨0x7201C, 4, 1⟩
def TIMING_TM_INT_STATUS_ENC_REVERSE : Fld := ⟨0x7201C, 5, 1⟩
def TIMING_TM_INT_STATUS_MISMATCH : Fld := ⟨0x7201C, 6, 1⟩
def TIMING_TM_INT_STATUS_WD_LATE : Fld := ⟨0x7201C, 7, 1⟩
def TIMING_TM_INT_STATUS : Fld := ⟨0x7201C, 0, 32⟩
def TIMING_TM_INT_ENABLE_OVERSPEED : Fld := ⟨0x72020, 0, 1⟩
def TIMING_TM_INT_ENABLE_TRACK_STOPPED : Fld := ⟨0x72020, 1, 1⟩
def TIMING_TM_INT_ENABLE_ENC_STALL : Fld := ⟨0x72020, 2, 1⟩
def TIMING_TM_INT_ENABLE_ENC_SIGNAL : Fld := ⟨0x72020, 3, 1⟩
def TIMING_TM_INT_ENABLE_ENC_INPUT : Fld := ⟨0x72020, 4, 1⟩
def TIMING_TM_INT_ENABLE_ENC_REVERSE : Fld := ⟨0x72020, 5, 1⟩
def TIMING_TM_INT_ENABLE_MISMATCH : Fld := ⟨0x72020, 6, 1⟩
def TIMING_TM_INT_ENABLE_WD_LATE : Fld := ⟨0x72020, 7, 1⟩
def TIMING_TM_INT_ENABLE : Fld := ⟨0x72020, 0, 32⟩
def TIMING_GOV_INT_STATUS_LOWERED : Fld := ⟨0x72024, 0, 1⟩
def TIMING_GOV_INT_STATUS_RAISED : Fld := ⟨0x72024, 1, 1⟩
def TIMING_GOV_INT_STATUS_AT_ZERO : Fld := ⟨0x72024, 2, 1⟩
def TIMING_GOV_INT_STATUS_RING_LIMIT : Fld := ⟨0x72024, 3, 1⟩
def TIMING_GOV_INT_STATUS : Fld := ⟨0x72024, 0, 32⟩
def TIMING_GOV_INT_ENABLE_LOWERED : Fld := ⟨0x72028, 0, 1⟩
def TIMING_GOV_INT_ENABLE_RAISED : Fld := ⟨0x72028, 1, 1⟩
def TIMING_GOV_INT_ENABLE_AT_ZERO : Fld := ⟨0x72028, 2, 1⟩
def TIMING_GOV_INT_ENABLE_RING_LIMIT : Fld := ⟨0x72028, 3, 1⟩
def TIMING_GOV_INT_ENABLE : Fld := ⟨0x72028, 0, 32⟩
def TIMING_TRACK_FAULT : Fld := ⟨0x7202C, 0, 16⟩
def TIMING_TRACK_FAULT_REG : Fld := ⟨0x7202C, 0, 32⟩
def TIMING_LTRIG_EN (j : Nat) : Fld := ⟨0x72030 + 4 * j, 0, 1⟩
def TIMING_LTRIG_ACTIVE_LOW (j : Nat) : Fld := ⟨0x72030 + 4 * j, 1, 1⟩
def TIMING_LTRIG_TRACK (j : Nat) : Fld := ⟨0x72030 + 4 * j, 2, 4⟩
def TIMING_LTRIG_WIDTH (j : Nat) : Fld := ⟨0x72030 + 4 * j, 6, 6⟩
def TIMING_LTRIG_DIVIDE (j : Nat) : Fld := ⟨0x72030 + 4 * j, 12, 8⟩
def TIMING_LTRIG_OFFSET (j : Nat) : Fld := ⟨0x72030 + 4 * j, 20, 12⟩
def TIMING_LTRIG (j : Nat) : Fld := ⟨0x72030 + 4 * j, 0, 32⟩
def WE_CTRL_ENABLE (i : Nat) : Fld := ⟨0x80000 + 0x80 * i, 0, 1⟩
def WE_CTRL_FORCE_OFFLINE (i : Nat) : Fld := ⟨0x80000 + 0x80 * i, 1, 1⟩
def WE_CTRL (i : Nat) : Fld := ⟨0x80000 + 0x80 * i, 0, 32⟩
def WE_STATUS_STATE (i : Nat) : Fld := ⟨0x80004 + 0x80 * i, 0, 2⟩
def WE_STATUS_OFF_CAUSE (i : Nat) : Fld := ⟨0x80004 + 0x80 * i, 2, 2⟩
def WE_STATUS_TAKEOVER (i : Nat) : Fld := ⟨0x80004 + 0x80 * i, 4, 1⟩
def WE_STATUS_SERVED_COUNT (i : Nat) : Fld := ⟨0x80004 + 0x80 * i, 8, 8⟩
def WE_STATUS (i : Nat) : Fld := ⟨0x80004 + 0x80 * i, 0, 32⟩
def WE_INT_STATUS_OFFLINE (i : Nat) : Fld := ⟨0x80008 + 0x80 * i, 0, 1⟩
def WE_INT_STATUS_TAKEOVER (i : Nat) : Fld := ⟨0x80008 + 0x80 * i, 1, 1⟩
def WE_INT_STATUS_TEMP_MISSING (i : Nat) : Fld := ⟨0x80008 + 0x80 * i, 2, 1⟩
def WE_INT_STATUS_STEP_UP (i : Nat) : Fld := ⟨0x80008 + 0x80 * i, 3, 1⟩
def WE_INT_STATUS_STEP_DOWN (i : Nat) : Fld := ⟨0x80008 + 0x80 * i, 4, 1⟩
def WE_INT_STATUS (i : Nat) : Fld := ⟨0x80008 + 0x80 * i, 0, 32⟩
def WE_INT_ENABLE_OFFLINE (i : Nat) : Fld := ⟨0x8000C + 0x80 * i, 0, 1⟩
def WE_INT_ENABLE_TAKEOVER (i : Nat) : Fld := ⟨0x8000C + 0x80 * i, 1, 1⟩
def WE_INT_ENABLE_TEMP_MISSING (i : Nat) : Fld := ⟨0x8000C + 0x80 * i, 2, 1⟩
def WE_INT_ENABLE_STEP_UP (i : Nat) : Fld := ⟨0x8000C + 0x80 * i, 3, 1⟩
def WE_INT_ENABLE_STEP_DOWN (i : Nat) : Fld := ⟨0x8000C + 0x80 * i, 4, 1⟩
def WE_INT_ENABLE (i : Nat) : Fld := ⟨0x8000C + 0x80 * i, 0, 32⟩
def WE_SERVED (i j : Nat) : Fld := ⟨0x80010 + 0x80 * i + 4 * j, 0, 32⟩
def WE_PASSES (i : Nat) : Fld := ⟨0x80020 + 0x80 * i, 0, 32⟩
def WE_PASS_TIME_MAX (i : Nat) : Fld := ⟨0x80024 + 0x80 * i, 0, 32⟩
def WE_UPDATES (i : Nat) : Fld := ⟨0x80028 + 0x80 * i, 0, 32⟩
def WE_TEMP_MISSING (i : Nat) : Fld := ⟨0x8002C + 0x80 * i, 0, 32⟩
def WE_STEP_CHANGES (i : Nat) : Fld := ⟨0x80030 + 0x80 * i, 0, 32⟩
def WE_DEADBAND (i : Nat) : Fld := ⟨0x80034 + 0x80 * i, 0, 11⟩
def WE_DEADBAND_REG (i : Nat) : Fld := ⟨0x80034 + 0x80 * i, 0, 32⟩
def WE_LAST_UPDATE_PORT (i : Nat) : Fld := ⟨0x80038 + 0x80 * i, 0, 7⟩
def WE_LAST_UPDATE_WAVE (i : Nat) : Fld := ⟨0x80038 + 0x80 * i, 7, 6⟩
def WE_LAST_UPDATE_VALID (i : Nat) : Fld := ⟨0x80038 + 0x80 * i, 13, 1⟩
def WE_LAST_UPDATE_SCALE (i : Nat) : Fld := ⟨0x80038 + 0x80 * i, 16, 16⟩
def WE_LAST_UPDATE (i : Nat) : Fld := ⟨0x80038 + 0x80 * i, 0, 32⟩
def WE_STEP_MAX_STEP (i : Nat) : Fld := ⟨0x8003C + 0x80 * i, 0, 4⟩
def WE_STEP_MAX_PORT (i : Nat) : Fld := ⟨0x8003C + 0x80 * i, 4, 7⟩
def WE_STEP_MAX (i : Nat) : Fld := ⟨0x8003C + 0x80 * i, 0, 32⟩
def WE_STEP (i j : Nat) : Fld := ⟨0x80040 + 0x80 * i + 4 * j, 0, 32⟩
def WP_CTRL_EN (i : Nat) : Fld := ⟨0x80100 + 0x10 * i, 0, 1⟩
def WP_CTRL_RATE (i : Nat) : Fld := ⟨0x80100 + 0x10 * i, 1, 2⟩
def WP_CTRL_PORT (i : Nat) : Fld := ⟨0x80100 + 0x10 * i, 3, 7⟩
def WP_CTRL (i : Nat) : Fld := ⟨0x80100 + 0x10 * i, 0, 32⟩
def WP_LEVEL_IDLE_LEVEL (i : Nat) : Fld := ⟨0x80104 + 0x10 * i, 0, 14⟩
def WP_LEVEL (i : Nat) : Fld := ⟨0x80104 + 0x10 * i, 0, 32⟩
def WP_DELAY_DELAY_NS (i : Nat) : Fld := ⟨0x80108 + 0x10 * i, 0, 16⟩
def WP_DELAY (i : Nat) : Fld := ⟨0x80108 + 0x10 * i, 0, 32⟩
def WP_STATUS_STATE (i : Nat) : Fld := ⟨0x8010C + 0x10 * i, 0, 2⟩
def WP_STATUS_LAST_WAVE (i : Nat) : Fld := ⟨0x8010C + 0x10 * i, 2, 6⟩
def WP_STATUS_STREAMED (i : Nat) : Fld := ⟨0x8010C + 0x10 * i, 16, 16⟩
def WP_STATUS (i : Nat) : Fld := ⟨0x8010C + 0x10 * i, 0, 32⟩
def HP_CTRL_ENABLE (i : Nat) : Fld := ⟨0x60000 + 0x10 * i, 0, 1⟩
def HP_CTRL_GEN (i : Nat) : Fld := ⟨0x60000 + 0x10 * i, 1, 2⟩
def HP_CTRL_RATE (i : Nat) : Fld := ⟨0x60000 + 0x10 * i, 3, 2⟩
def HP_CTRL_OPTIONAL (i : Nat) : Fld := ⟨0x60000 + 0x10 * i, 5, 1⟩
def HP_CTRL_AUTO_RELINK (i : Nat) : Fld := ⟨0x60000 + 0x10 * i, 6, 1⟩
def HP_CTRL_REVERSE_SHIFT (i : Nat) : Fld := ⟨0x60000 + 0x10 * i, 7, 1⟩
def HP_CTRL_TH (i : Nat) : Fld := ⟨0x60000 + 0x10 * i, 8, 4⟩
def HP_CTRL_TH_VALID (i : Nat) : Fld := ⟨0x60000 + 0x10 * i, 12, 1⟩
def HP_CTRL (i : Nat) : Fld := ⟨0x60000 + 0x10 * i, 0, 32⟩
def HP_STATUS_STATE (i : Nat) : Fld := ⟨0x60004 + 0x10 * i, 0, 4⟩
def HP_STATUS_LANES (i : Nat) : Fld := ⟨0x60004 + 0x10 * i, 4, 2⟩
def HP_STATUS_AUTH (i : Nat) : Fld := ⟨0x60004 + 0x10 * i, 6, 2⟩
def HP_STATUS_F_MAX_KHZ (i : Nat) : Fld := ⟨0x60004 + 0x10 * i, 8, 7⟩
def HP_STATUS_REFUSE (i : Nat) : Fld := ⟨0x60004 + 0x10 * i, 15, 5⟩
def HP_STATUS_TEMP_VALID (i : Nat) : Fld := ⟨0x60004 + 0x10 * i, 20, 1⟩
def HP_STATUS (i : Nat) : Fld := ⟨0x60004 + 0x10 * i, 0, 32⟩
def HP_LINK_ERR_RETRY (i : Nat) : Fld := ⟨0x60008 + 0x10 * i, 0, 8⟩
def HP_LINK_ERR_NAK (i : Nat) : Fld := ⟨0x60008 + 0x10 * i, 8, 8⟩
def HP_LINK_ERR_TIMEOUT (i : Nat) : Fld := ⟨0x60008 + 0x10 * i, 16, 8⟩
def HP_LINK_ERR_DOWN (i : Nat) : Fld := ⟨0x60008 + 0x10 * i, 24, 8⟩
def HP_LINK_ERR (i : Nat) : Fld := ⟨0x60008 + 0x10 * i, 0, 32⟩
def HP_LINE_ERR_BLANK (i : Nat) : Fld := ⟨0x6000C + 0x10 * i, 0, 16⟩
def HP_LINE_ERR_DROPPED (i : Nat) : Fld := ⟨0x6000C + 0x10 * i, 16, 16⟩
def HP_LINE_ERR (i : Nat) : Fld := ⟨0x6000C + 0x10 * i, 0, 32⟩
def HEADPORT_HEADS_CTRL_LINK_EN : Fld := ⟨0x61000, 0, 1⟩
def HEADPORT_HEADS_CTRL : Fld := ⟨0x61000, 0, 32⟩
def HEADPORT_INT_STATUS_LINK_UP : Fld := ⟨0x61004, 0, 1⟩
def HEADPORT_INT_STATUS_LINK_DOWN : Fld := ⟨0x61004, 1, 1⟩
def HEADPORT_INT_STATUS_REFUSED : Fld := ⟨0x61004, 2, 1⟩
def HEADPORT_INT_STATUS_LANE_LOST : Fld := ⟨0x61004, 3, 1⟩
def HEADPORT_INT_STATUS_DEADLINE_BLANK : Fld := ⟨0x61004, 4, 1⟩
def HEADPORT_INT_STATUS_AUTH_FAIL : Fld := ⟨0x61004, 5, 1⟩
def HEADPORT_INT_STATUS_STROBE_SLIP : Fld := ⟨0x61004, 6, 1⟩
def HEADPORT_INT_STATUS_DROPPED : Fld := ⟨0x61004, 7, 1⟩
def HEADPORT_INT_STATUS : Fld := ⟨0x61004, 0, 32⟩
def HEADPORT_INT_ENABLE_LINK_UP : Fld := ⟨0x61008, 0, 1⟩
def HEADPORT_INT_ENABLE_LINK_DOWN : Fld := ⟨0x61008, 1, 1⟩
def HEADPORT_INT_ENABLE_REFUSED : Fld := ⟨0x61008, 2, 1⟩
def HEADPORT_INT_ENABLE_LANE_LOST : Fld := ⟨0x61008, 3, 1⟩
def HEADPORT_INT_ENABLE_DEADLINE_BLANK : Fld := ⟨0x61008, 4, 1⟩
def HEADPORT_INT_ENABLE_AUTH_FAIL : Fld := ⟨0x61008, 5, 1⟩
def HEADPORT_INT_ENABLE_STROBE_SLIP : Fld := ⟨0x61008, 6, 1⟩
def HEADPORT_INT_ENABLE_DROPPED : Fld := ⟨0x61008, 7, 1⟩
def HEADPORT_INT_ENABLE : Fld := ⟨0x61008, 0, 32⟩
def HEADPORT_LAST_EVENT_PORT : Fld := ⟨0x6100C, 0, 7⟩
def HEADPORT_LAST_EVENT_VALID : Fld := ⟨0x6100C, 7, 1⟩
def HEADPORT_LAST_EVENT_CAUSE : Fld := ⟨0x6100C, 8, 3⟩
def HEADPORT_LAST_EVENT : Fld := ⟨0x6100C, 0, 32⟩
def HEADPORT_LAST_REFUSE_PORT : Fld := ⟨0x61010, 0, 7⟩
def HEADPORT_LAST_REFUSE_VALID : Fld := ⟨0x61010, 7, 1⟩
def HEADPORT_LAST_REFUSE_CODE : Fld := ⟨0x61010, 8, 5⟩
def HEADPORT_LAST_REFUSE : Fld := ⟨0x61010, 0, 32⟩
def HEADPORT_SYNC_STATUS_PORT : Fld := ⟨0x61014, 0, 7⟩
def HEADPORT_SYNC_STATUS_VALID : Fld := ⟨0x61014, 7, 1⟩
def HEADPORT_SYNC_STATUS_DRIFT_NS : Fld := ⟨0x61014, 8, 8⟩
def HEADPORT_SYNC_STATUS : Fld := ⟨0x61014, 0, 32⟩
def HEADPORT_UP (j : Nat) : Fld := ⟨0x61018 + 4 * j, 0, 32⟩
def HEADPORT_DEGRADED (j : Nat) : Fld := ⟨0x61028 + 4 * j, 0, 32⟩
def HEADPORT_REFUSED (j : Nat) : Fld := ⟨0x61038 + 4 * j, 0, 32⟩
def HEADPORT_FAULT_PEND (j : Nat) : Fld := ⟨0x61048 + 4 * j, 0, 32⟩
def HEADPORT_RETRY_TOTAL : Fld := ⟨0x61058, 0, 32⟩
def HEADPORT_NAK_TOTAL : Fld := ⟨0x6105C, 0, 32⟩
def HEADPORT_TIMEOUT_TOTAL : Fld := ⟨0x61060, 0, 32⟩
def HEADPORT_LATE_ACK : Fld := ⟨0x61064, 0, 32⟩
def HEADPORT_BLANK_TOTAL : Fld := ⟨0x61068, 0, 32⟩
def HEADPORT_DROPPED_TOTAL : Fld := ⟨0x6106C, 0, 32⟩
def HEADPORT_LINK_DOWN_TOTAL : Fld := ⟨0x61070, 0, 32⟩
def HEADPORT_AUTH_FAIL_TOTAL : Fld := ⟨0x61074, 0, 32⟩
def HEADPORT_USAGE_UNITS_TOTAL : Fld := ⟨0x61078, 0, 32⟩
def HEADPORT_STROBE_SLIP : Fld := ⟨0x6107C, 0, 32⟩
def WATCH_CTRL_ENABLE : Fld := ⟨0x90000, 0, 1⟩
def WATCH_CTRL_AUTO_RECOVER : Fld := ⟨0x90000, 1, 1⟩
def WATCH_CTRL : Fld := ⟨0x90000, 0, 32⟩
def WATCH_STATUS_ACTIVE : Fld := ⟨0x90004, 0, 1⟩
def WATCH_STATUS_LEARN_BUSY : Fld := ⟨0x90004, 1, 1⟩
def WATCH_STATUS_LEARN_PORT : Fld := ⟨0x90004, 2, 7⟩
def WATCH_STATUS_REF_CLEARED : Fld := ⟨0x90004, 9, 1⟩
def WATCH_STATUS : Fld := ⟨0x90004, 0, 32⟩
def WATCH_INT_STATUS_OUT : Fld := ⟨0x90008, 0, 1⟩
def WATCH_INT_STATUS_SUSPECT : Fld := ⟨0x90008, 1, 1⟩
def WATCH_INT_STATUS_RECOVERED : Fld := ⟨0x90008, 2, 1⟩
def WATCH_INT_STATUS_LATE : Fld := ⟨0x90008, 3, 1⟩
def WATCH_INT_STATUS_BAD_SENSE : Fld := ⟨0x90008, 4, 1⟩
def WATCH_INT_STATUS_QC_DROP : Fld := ⟨0x90008, 5, 1⟩
def WATCH_INT_STATUS_QC_OVERFLOW : Fld := ⟨0x90008, 6, 1⟩
def WATCH_INT_STATUS_LEARN_DONE : Fld := ⟨0x90008, 7, 1⟩
def WATCH_INT_STATUS_BANK_ERR : Fld := ⟨0x90008, 8, 1⟩
def WATCH_INT_STATUS : Fld := ⟨0x90008, 0, 32⟩
def WATCH_INT_ENABLE_OUT : Fld := ⟨0x9000C, 0, 1⟩
def WATCH_INT_ENABLE_SUSPECT : Fld := ⟨0x9000C, 1, 1⟩
def WATCH_INT_ENABLE_RECOVERED : Fld := ⟨0x9000C, 2, 1⟩
def WATCH_INT_ENABLE_LATE : Fld := ⟨0x9000C, 3, 1⟩
def WATCH_INT_ENABLE_BAD_SENSE : Fld := ⟨0x9000C, 4, 1⟩
def WATCH_INT_ENABLE_QC_DROP : Fld := ⟨0x9000C, 5, 1⟩
def WATCH_INT_ENABLE_QC_OVERFLOW : Fld := ⟨0x9000C, 6, 1⟩
def WATCH_INT_ENABLE_LEARN_DONE : Fld := ⟨0x9000C, 7, 1⟩
def WATCH_INT_ENABLE_BANK_ERR : Fld := ⟨0x9000C, 8, 1⟩
def WATCH_INT_ENABLE : Fld := ⟨0x9000C, 0, 32⟩
def WATCH_EPOCH : Fld := ⟨0x90010, 0, 32⟩
def WATCH_THRESH_AMP : Fld := ⟨0x90014, 0, 8⟩
def WATCH_THRESH_FREQ : Fld := ⟨0x90014, 8, 8⟩
def WATCH_THRESH_DECAY : Fld := ⟨0x90014, 16, 8⟩
def WATCH_THRESH_PHASE : Fld := ⟨0x90014, 24, 8⟩
def WATCH_THRESH : Fld := ⟨0x90014, 0, 32⟩
def WATCH_WINDOW_SENSE_WINDOW_US : Fld := ⟨0x90018, 0, 13⟩
def WATCH_WINDOW : Fld := ⟨0x90018, 0, 32⟩
def WATCH_REF_CODE (j : Nat) : Fld := ⟨0x9001C + 4 * j, 0, 32⟩
def WATCH_STATE_COUNT (j : Nat) : Fld := ⟨0x90024 + 4 * j, 0, 32⟩
def WATCH_SAMPLES : Fld := ⟨0x90034, 0, 32⟩
def WATCH_OUTLIERS : Fld := ⟨0x90038, 0, 32⟩
def WATCH_FEATURE_OUT_AMP : Fld := ⟨0x9003C, 0, 8⟩
def WATCH_FEATURE_OUT_FREQ : Fld := ⟨0x9003C, 8, 8⟩
def WATCH_FEATURE_OUT_DECAY : Fld := ⟨0x9003C, 16, 8⟩
def WATCH_FEATURE_OUT_PHASE : Fld := ⟨0x9003C, 24, 8⟩
def WATCH_FEATURE_OUT : Fld := ⟨0x9003C, 0, 32⟩
def WATCH_LATE : Fld := ⟨0x90040, 0, 32⟩
def WATCH_NO_REF : Fld := ⟨0x90044, 0, 32⟩
def WATCH_SKIPPED : Fld := ⟨0x90048, 0, 32⟩
def WATCH_BAD_SENSE : Fld := ⟨0x9004C, 0, 32⟩
def WATCH_QC_COVERED : Fld := ⟨0x90050, 0, 32⟩
def WATCH_QC_DROP : Fld := ⟨0x90054, 0, 32⟩
def WATCH_QC_LINES : Fld := ⟨0x90058, 0, 32⟩
def WATCH_QC_OVERFLOW : Fld := ⟨0x9005C, 0, 32⟩
def WATCH_TRANSITIONS : Fld := ⟨0x90060, 0, 32⟩
def WATCH_AUTO_RECOVERED : Fld := ⟨0x90064, 0, 32⟩
def WATCH_HOST_SETS : Fld := ⟨0x90068, 0, 32⟩
def WATCH_LAST_CHANGE_NOZZLE : Fld := ⟨0x9006C, 0, 23⟩
def WATCH_LAST_CHANGE_FROM : Fld := ⟨0x9006C, 23, 2⟩
def WATCH_LAST_CHANGE_TO : Fld := ⟨0x9006C, 25, 2⟩
def WATCH_LAST_CHANGE_CAUSE : Fld := ⟨0x9006C, 27, 2⟩
def WATCH_LAST_CHANGE_VALID : Fld := ⟨0x9006C, 29, 1⟩
def WATCH_LAST_CHANGE : Fld := ⟨0x9006C, 0, 32⟩
def WATCH_LAST_CHANGE_LINE : Fld := ⟨0x90070, 0, 32⟩
def WATCH_LEARN_STATUS_FIRINGS : Fld := ⟨0x90074, 0, 23⟩
def WATCH_LEARN_STATUS_CLASS : Fld := ⟨0x90074, 23, 1⟩
def WATCH_LEARN_STATUS : Fld := ⟨0x90074, 0, 32⟩
def WATCH_LOG_STATUS_COUNT : Fld := ⟨0x90078, 0, 7⟩
def WATCH_LOG_STATUS_WRAPPED : Fld := ⟨0x90078, 7, 1⟩
def WATCH_LOG_STATUS : Fld := ⟨0x90078, 0, 32⟩
def WATCH_TABLE_BASE : Fld := ⟨0x9007C, 0, 32⟩
def WATCH_LATENCY_MAX : Fld := ⟨0x90080, 0, 32⟩
def WATCH_PUBLISH_MAX : Fld := ⟨0x90084, 0, 32⟩
def WATCH_BANK_ERR : Fld := ⟨0x90088, 0, 32⟩
def WATCH_SENSE_FRAMES : Fld := ⟨0x9008C, 0, 32⟩
def WATCH_SENSE_EN (j : Nat) : Fld := ⟨0x90090 + 4 * j, 0, 32⟩
def WATCH_QC_EN (j : Nat) : Fld := ⟨0x900A0 + 4 * j, 0, 32⟩
def WATCH_REF_VALID (j : Nat) : Fld := ⟨0x900B0 + 4 * j, 0, 32⟩
def WATCH_COVER_FULL (j : Nat) : Fld := ⟨0x900C0 + 4 * j, 0, 32⟩
def WATCH_OUT_PEND (j : Nat) : Fld := ⟨0x900D0 + 4 * j, 0, 32⟩
def WATCH_SUSPECT_PEND (j : Nat) : Fld := ⟨0x900E0 + 4 * j, 0, 32⟩
def WATCH_UNUSABLE (j : Nat) : Fld := ⟨0x900F0 + 4 * j, 0, 32⟩
def WATCH_LAST_LATE_PORT : Fld := ⟨0x90100, 0, 7⟩
def WATCH_LAST_LATE_VALID : Fld := ⟨0x90100, 7, 1⟩
def WATCH_LAST_LATE_LINE_LO : Fld := ⟨0x90100, 8, 24⟩
def WATCH_LAST_LATE : Fld := ⟨0x90100, 0, 32⟩
def PP_CTRL_EN (i : Nat) : Fld := ⟨0xA0000 + 0x80 * i, 0, 1⟩
def PP_CTRL (i : Nat) : Fld := ⟨0xA0000 + 0x80 * i, 0, 32⟩
def PP_STATUS_STATE (i : Nat) : Fld := ⟨0xA0004 + 0x80 * i, 0, 2⟩
def PP_STATUS_REF (i : Nat) : Fld := ⟨0xA0004 + 0x80 * i, 2, 1⟩
def PP_STATUS_TO_MASTER (i : Nat) : Fld := ⟨0xA0004 + 0x80 * i, 3, 1⟩
def PP_STATUS_DOWN_CAUSE (i : Nat) : Fld := ⟨0xA0004 + 0x80 * i, 4, 2⟩
def PP_STATUS (i : Nat) : Fld := ⟨0xA0004 + 0x80 * i, 0, 32⟩
def PP_HOP_DELAY (i : Nat) : Fld := ⟨0xA0008 + 0x80 * i, 0, 32⟩
def PP_HOP_OFFSET (i : Nat) : Fld := ⟨0xA000C + 0x80 * i, 0, 32⟩
def PP_NEIGHBOUR_ID (i : Nat) : Fld := ⟨0xA0010 + 0x80 * i, 0, 16⟩
def PP_NEIGHBOUR_PORT (i : Nat) : Fld := ⟨0xA0010 + 0x80 * i, 16, 1⟩
def PP_NEIGHBOUR_VALID (i : Nat) : Fld := ⟨0xA0010 + 0x80 * i, 17, 1⟩
def PP_NEIGHBOUR (i : Nat) : Fld := ⟨0xA0010 + 0x80 * i, 0, 32⟩
def PP_LINK_UP_TIME (i : Nat) : Fld := ⟨0xA0014 + 0x80 * i, 0, 32⟩
def PP_RX_FRAMES (i : Nat) : Fld := ⟨0xA0018 + 0x80 * i, 0, 32⟩
def PP_TX_FRAMES (i : Nat) : Fld := ⟨0xA001C + 0x80 * i, 0, 32⟩
def PP_RX_BYTES (i : Nat) : Fld := ⟨0xA0020 + 0x80 * i, 0, 32⟩
def PP_TX_BYTES (i : Nat) : Fld := ⟨0xA0024 + 0x80 * i, 0, 32⟩
def PP_CRC_ERR (i : Nat) : Fld := ⟨0xA0028 + 0x80 * i, 0, 32⟩
def PP_BLOCK_ERR (i : Nat) : Fld := ⟨0xA002C + 0x80 * i, 0, 32⟩
def PP_LOCK_LOSS (i : Nat) : Fld := ⟨0xA0030 + 0x80 * i, 0, 32⟩
def PP_DUP_DISCARD (i : Nat) : Fld := ⟨0xA0034 + 0x80 * i, 0, 32⟩
def PP_LOOP_DISCARD (i : Nat) : Fld := ⟨0xA0038 + 0x80 * i, 0, 32⟩
def PP_FORWARDED (i : Nat) : Fld := ⟨0xA003C + 0x80 * i, 0, 32⟩
def PP_TOLL_RX (i : Nat) : Fld := ⟨0xA0040 + 0x80 * i, 0, 32⟩
def PP_CHIME_RX (i : Nat) : Fld := ⟨0xA0044 + 0x80 * i, 0, 32⟩
def PP_PACE_RX (i : Nat) : Fld := ⟨0xA0048 + 0x80 * i, 0, 32⟩
def PP_SYNC_RX (i : Nat) : Fld := ⟨0xA004C + 0x80 * i, 0, 32⟩
def PP_TUNNEL_RX (i : Nat) : Fld := ⟨0xA0050 + 0x80 * i, 0, 32⟩
def PP_TUNNEL_TX (i : Nat) : Fld := ⟨0xA0054 + 0x80 * i, 0, 32⟩
def PP_DISCOVER_RX (i : Nat) : Fld := ⟨0xA0058 + 0x80 * i, 0, 32⟩
def PP_STATUS_RX (i : Nat) : Fld := ⟨0xA005C + 0x80 * i, 0, 32⟩
def PP_MASTER_CHIME_AGE (i : Nat) : Fld := ⟨0xA0060 + 0x80 * i, 0, 32⟩
def PP_DEPUTY_CHIME_AGE (i : Nat) : Fld := ⟨0xA0064 + 0x80 * i, 0, 32⟩
def PP_SYNC_SPREAD (i : Nat) : Fld := ⟨0xA0068 + 0x80 * i, 0, 32⟩
def PP_EXPRESS_WAIT_MAX (i : Nat) : Fld := ⟨0xA006C + 0x80 * i, 0, 32⟩
def PP_FORWARD_LAT_MAX (i : Nat) : Fld := ⟨0xA0070 + 0x80 * i, 0, 32⟩
def PP_FORMAT_ERR (i : Nat) : Fld := ⟨0xA0074 + 0x80 * i, 0, 32⟩
def PP_LAST_ERR_KIND (i : Nat) : Fld := ⟨0xA0078 + 0x80 * i, 0, 3⟩
def PP_LAST_ERR_VALID (i : Nat) : Fld := ⟨0xA0078 + 0x80 * i, 3, 1⟩
def PP_LAST_ERR_SRC (i : Nat) : Fld := ⟨0xA0078 + 0x80 * i, 16, 16⟩
def PP_LAST_ERR (i : Nat) : Fld := ⟨0xA0078 + 0x80 * i, 0, 32⟩
def PP_LAST_RX_TIME (i : Nat) : Fld := ⟨0xA007C + 0x80 * i, 0, 32⟩
def PEAL_RING_CTRL_ROLE : Fld := ⟨0xA0100, 0, 2⟩
def PEAL_RING_CTRL_PA_EN : Fld := ⟨0xA0100, 2, 1⟩
def PEAL_RING_CTRL_PB_EN : Fld := ⟨0xA0100, 3, 1⟩
def PEAL_RING_CTRL_TUNNEL_ACCEPT : Fld := ⟨0xA0100, 4, 1⟩
def PEAL_RING_CTRL_CLAPPER_WIRED : Fld := ⟨0xA0100, 5, 1⟩
def PEAL_RING_CTRL_BASE_ID : Fld := ⟨0xA0100, 16, 16⟩
def PEAL_RING_CTRL : Fld := ⟨0xA0100, 0, 32⟩
def PEAL_RING_STATUS_STATE : Fld := ⟨0xA0104, 0, 3⟩
def PEAL_RING_STATUS_TOPOLOGY : Fld := ⟨0xA0104, 3, 2⟩
def PEAL_RING_STATUS_ROLE : Fld := ⟨0xA0104, 5, 2⟩
def PEAL_RING_STATUS_REF_PORT : Fld := ⟨0xA0104, 7, 1⟩
def PEAL_RING_STATUS_HOLDOVER : Fld := ⟨0xA0104, 8, 1⟩
def PEAL_RING_STATUS_DEPUTY_READY : Fld := ⟨0xA0104, 9, 1⟩
def PEAL_RING_STATUS_ROLE_CONFLICT : Fld := ⟨0xA0104, 10, 1⟩
def PEAL_RING_STATUS : Fld := ⟨0xA0104, 0, 32⟩
def PEAL_DEVICE_ID_ID : Fld := ⟨0xA0108, 0, 16⟩
def PEAL_DEVICE_ID_MASTER : Fld := ⟨0xA0108, 16, 16⟩
def PEAL_DEVICE_ID : Fld := ⟨0xA0108, 0, 32⟩
def PEAL_RING_SIZE_COUNT : Fld := ⟨0xA010C, 0, 16⟩
def PEAL_RING_SIZE_HOPS : Fld := ⟨0xA010C, 16, 16⟩
def PEAL_RING_SIZE : Fld := ⟨0xA010C, 0, 32⟩
def PEAL_WORST_PATH : Fld := ⟨0xA0110, 0, 32⟩
def PEAL_LOSS_TIME_LOSS_TIME_US : Fld := ⟨0xA0114, 0, 14⟩
def PEAL_LOSS_TIME : Fld := ⟨0xA0114, 0, 32⟩
def PEAL_INT_STATUS_PORT_DOWN : Fld := ⟨0xA0118, 0, 1⟩
def PEAL_INT_STATUS_PORT_UP : Fld := ⟨0xA0118, 1, 1⟩
def PEAL_INT_STATUS_RING_FORMED : Fld := ⟨0xA0118, 2, 1⟩
def PEAL_INT_STATUS_RING_FAILED : Fld := ⟨0xA0118, 3, 1⟩
def PEAL_INT_STATUS_TAKEOVER : Fld := ⟨0xA0118, 4, 1⟩
def PEAL_INT_STATUS_PAIR_LINK_LOST : Fld := ⟨0xA0118, 5, 1⟩
def PEAL_INT_STATUS_DEPUTY_LOST : Fld := ⟨0xA0118, 6, 1⟩
def PEAL_INT_STATUS_TOLL_LOSS : Fld := ⟨0xA0118, 7, 1⟩
def PEAL_INT_STATUS_TOLL_MISS : Fld := ⟨0xA0118, 8, 1⟩
def PEAL_INT_STATUS_REPORT_INCOMPLETE : Fld := ⟨0xA0118, 9, 1⟩
def PEAL_INT_STATUS_ROLE_CONFLICT : Fld := ⟨0xA0118, 10, 1⟩
def PEAL_INT_STATUS_CLAPPER_FAULT : Fld := ⟨0xA0118, 11, 1⟩
def PEAL_INT_STATUS_HOLDOVER : Fld := ⟨0xA0118, 12, 1⟩
def PEAL_INT_STATUS : Fld := ⟨0xA0118, 0, 32⟩
def PEAL_INT_ENABLE_PORT_DOWN : Fld := ⟨0xA011C, 0, 1⟩
def PEAL_INT_ENABLE_PORT_UP : Fld := ⟨0xA011C, 1, 1⟩
def PEAL_INT_ENABLE_RING_FORMED : Fld := ⟨0xA011C, 2, 1⟩
def PEAL_INT_ENABLE_RING_FAILED : Fld := ⟨0xA011C, 3, 1⟩
def PEAL_INT_ENABLE_TAKEOVER : Fld := ⟨0xA011C, 4, 1⟩
def PEAL_INT_ENABLE_PAIR_LINK_LOST : Fld := ⟨0xA011C, 5, 1⟩
def PEAL_INT_ENABLE_DEPUTY_LOST : Fld := ⟨0xA011C, 6, 1⟩
def PEAL_INT_ENABLE_TOLL_LOSS : Fld := ⟨0xA011C, 7, 1⟩
def PEAL_INT_ENABLE_TOLL_MISS : Fld := ⟨0xA011C, 8, 1⟩
def PEAL_INT_ENABLE_REPORT_INCOMPLETE : Fld := ⟨0xA011C, 9, 1⟩
def PEAL_INT_ENABLE_ROLE_CONFLICT : Fld := ⟨0xA011C, 10, 1⟩
def PEAL_INT_ENABLE_CLAPPER_FAULT : Fld := ⟨0xA011C, 11, 1⟩
def PEAL_INT_ENABLE_HOLDOVER : Fld := ⟨0xA011C, 12, 1⟩
def PEAL_INT_ENABLE : Fld := ⟨0xA011C, 0, 32⟩
def PEAL_RING_TIME_LO : Fld := ⟨0xA0120, 0, 32⟩
def PEAL_RING_TIME_HI : Fld := ⟨0xA0124, 0, 32⟩
def PEAL_SYNC_RESIDUAL : Fld := ⟨0xA0128, 0, 32⟩
def PEAL_CLAPPER_RELEASED : Fld := ⟨0xA012C, 0, 1⟩
def PEAL_CLAPPER_HELD : Fld := ⟨0xA012C, 1, 1⟩
def PEAL_CLAPPER_PERMIT : Fld := ⟨0xA012C, 2, 3⟩
def PEAL_CLAPPER_RELEASED_US : Fld := ⟨0xA012C, 8, 16⟩
def PEAL_CLAPPER : Fld := ⟨0xA012C, 0, 32⟩
def PEAL_TAKEOVER_FORMER : Fld := ⟨0xA0130, 0, 16⟩
def PEAL_TAKEOVER_VALID : Fld := ⟨0xA0130, 16, 1⟩
def PEAL_TAKEOVER : Fld := ⟨0xA0130, 0, 32⟩
def PEAL_TAKEOVER_LINE : Fld := ⟨0xA0134, 0, 32⟩
def PEAL_TOLL_STOPS : Fld := ⟨0xA0138, 0, 32⟩
def PEAL_TOLL_MISS : Fld := ⟨0xA013C, 0, 32⟩
def PEAL_TOLL_DUP : Fld := ⟨0xA0140, 0, 32⟩
def PEAL_TOLL_LATE : Fld := ⟨0xA0144, 0, 32⟩
def PEAL_TOLL_IGNORED : Fld := ⟨0xA0148, 0, 32⟩
def PEAL_PAIR_LINK_LOST : Fld := ⟨0xA014C, 0, 32⟩
def PEAL_REPORT_INCOMPLETE : Fld := ⟨0xA0150, 0, 32⟩
def PEAL_RING_P_RING_VALUE : Fld := ⟨0xA0154, 0, 5⟩
def PEAL_RING_P_RING_LIMIT : Fld := ⟨0xA0154, 8, 5⟩
def PEAL_RING_P_STALE : Fld := ⟨0xA0154, 13, 1⟩
def PEAL_RING_P_LOWEST : Fld := ⟨0xA0154, 16, 16⟩
def PEAL_RING_P : Fld := ⟨0xA0154, 0, 32⟩
def PEAL_TUNNEL_IN : Fld := ⟨0xA0158, 0, 32⟩
def PEAL_TUNNEL_REFUSED : Fld := ⟨0xA015C, 0, 32⟩
def PEAL_DISCOVERY_ROUND : Fld := ⟨0xA0160, 0, 8⟩
def PEAL_DISCOVERY_RESULT : Fld := ⟨0xA0160, 8, 3⟩
def PEAL_DISCOVERY : Fld := ⟨0xA0160, 0, 32⟩
def PEAL_LAST_EVENT_CAUSE : Fld := ⟨0xA0164, 0, 4⟩
def PEAL_LAST_EVENT_VALID : Fld := ⟨0xA0164, 4, 1⟩
def PEAL_LAST_EVENT_ID : Fld := ⟨0xA0164, 16, 16⟩
def PEAL_LAST_EVENT : Fld := ⟨0xA0164, 0, 32⟩
def PEAL_TOLL_TX : Fld := ⟨0xA0168, 0, 32⟩
def PEAL_CHIME_TX : Fld := ⟨0xA016C, 0, 32⟩
def PEAL_ROLE_CONFLICT : Fld := ⟨0xA0170, 0, 32⟩
def PEAL_HOLDOVER_US : Fld := ⟨0xA0174, 0, 32⟩
def PEAL_DEPUTY_STATUS_DEPUTY : Fld := ⟨0xA0178, 0, 16⟩
def PEAL_DEPUTY_STATUS_READY : Fld := ⟨0xA0178, 16, 1⟩
def PEAL_DEPUTY_STATUS : Fld := ⟨0xA0178, 0, 32⟩
def PEAL_REF_SWITCH : Fld := ⟨0xA017C, 0, 32⟩
def PR_DOORBELL (i : Nat) : Fld := ⟨0x10000 + 0x10 * i, 0, 32⟩
def PR_STATE_STATE (i : Nat) : Fld := ⟨0x10004 + 0x10 * i, 0, 2⟩
def PR_STATE_EXPECT_VALID (i : Nat) : Fld := ⟨0x10004 + 0x10 * i, 2, 1⟩
def PR_STATE_PREPARED (i : Nat) : Fld := ⟨0x10004 + 0x10 * i, 3, 1⟩
def PR_STATE_LAST_STATUS (i : Nat) : Fld := ⟨0x10004 + 0x10 * i, 8, 8⟩
def PR_STATE_LAST_OPCODE (i : Nat) : Fld := ⟨0x10004 + 0x10 * i, 16, 16⟩
def PR_STATE (i : Nat) : Fld := ⟨0x10004 + 0x10 * i, 0, 32⟩
def PR_DONE_SEQ (i : Nat) : Fld := ⟨0x10008 + 0x10 * i, 0, 32⟩
def PR_EXPECT_SEQ (i : Nat) : Fld := ⟨0x1000C + 0x10 * i, 0, 32⟩
def PORCH_CTRL_ENABLE : Fld := ⟨0x10100, 0, 14⟩
def PORCH_CTRL_EVENTS_EN : Fld := ⟨0x10100, 14, 1⟩
def PORCH_CTRL : Fld := ⟨0x10100, 0, 32⟩
def PORCH_STATUS_COLLIDE : Fld := ⟨0x10104, 0, 1⟩
def PORCH_STATUS_FW_READY : Fld := ⟨0x10104, 1, 1⟩
def PORCH_STATUS_EV_FULL : Fld := ⟨0x10104, 2, 1⟩
def PORCH_STATUS_PREPARED : Fld := ⟨0x10104, 8, 8⟩
def PORCH_STATUS : Fld := ⟨0x10104, 0, 32⟩
def PORCH_DONE_PEND_PEND : Fld := ⟨0x10108, 0, 16⟩
def PORCH_DONE_PEND : Fld := ⟨0x10108, 0, 32⟩
def PORCH_DONE_ENABLE_MSI_EN : Fld := ⟨0x1010C, 0, 16⟩
def PORCH_DONE_ENABLE_INTN_EN : Fld := ⟨0x1010C, 16, 16⟩
def PORCH_DONE_ENABLE : Fld := ⟨0x1010C, 0, 32⟩
def PORCH_EV_INT_STATUS_RECORD : Fld := ⟨0x10110, 0, 1⟩
def PORCH_EV_INT_STATUS_LOST : Fld := ⟨0x10110, 1, 1⟩
def PORCH_EV_INT_STATUS : Fld := ⟨0x10110, 0, 32⟩
def PORCH_EV_INT_ENABLE_RECORD_MSI : Fld := ⟨0x10114, 0, 1⟩
def PORCH_EV_INT_ENABLE_LOST_MSI : Fld := ⟨0x10114, 1, 1⟩
def PORCH_EV_INT_ENABLE_RECORD_INTN : Fld := ⟨0x10114, 2, 1⟩
def PORCH_EV_INT_ENABLE_LOST_INTN : Fld := ⟨0x10114, 3, 1⟩
def PORCH_EV_INT_ENABLE : Fld := ⟨0x10114, 0, 32⟩
def PORCH_EV_WRITE : Fld := ⟨0x10118, 0, 32⟩
def PORCH_EV_READ : Fld := ⟨0x1011C, 0, 32⟩
def PORCH_EV_LOST : Fld := ⟨0x10120, 0, 32⟩
def PORCH_COLLIDE_COUNT : Fld := ⟨0x10124, 0, 32⟩
def PORCH_LAST_COLLIDE_WORD : Fld := ⟨0x10128, 0, 13⟩
def PORCH_LAST_COLLIDE_VALID : Fld := ⟨0x10128, 13, 1⟩
def PORCH_LAST_COLLIDE : Fld := ⟨0x10128, 0, 32⟩
def PORCH_CMD_TOTAL : Fld := ⟨0x1012C, 0, 32⟩
def PORCH_ERR_TOTAL : Fld := ⟨0x10130, 0, 32⟩
def PORCH_TIMEOUT_TOTAL : Fld := ⟨0x10134, 0, 32⟩
def PORCH_LAST_ERR_PORCH : Fld := ⟨0x10138, 0, 4⟩
def PORCH_LAST_ERR_VALID : Fld := ⟨0x10138, 4, 1⟩
def PORCH_LAST_ERR_STATUS : Fld := ⟨0x10138, 8, 8⟩
def PORCH_LAST_ERR_OPCODE : Fld := ⟨0x10138, 16, 16⟩
def PORCH_LAST_ERR : Fld := ⟨0x10138, 0, 32⟩
def PORCH_BULK_FAULT : Fld := ⟨0x1013C, 0, 32⟩
def BK_CTRL_POWER (i : Nat) : Fld := ⟨0xB0000 + 0x10 * i, 0, 2⟩
def BK_CTRL (i : Nat) : Fld := ⟨0xB0000 + 0x10 * i, 0, 32⟩
def BK_STATUS_REST (i : Nat) : Fld := ⟨0xB0004 + 0x10 * i, 0, 2⟩
def BK_STATUS_WAKING (i : Nat) : Fld := ⟨0xB0004 + 0x10 * i, 2, 1⟩
def BK_STATUS_PHASE (i : Nat) : Fld := ⟨0xB0004 + 0x10 * i, 3, 3⟩
def BK_STATUS_REPAIR_USED (i : Nat) : Fld := ⟨0xB0004 + 0x10 * i, 6, 1⟩
def BK_STATUS_PATROL_USED (i : Nat) : Fld := ⟨0xB0004 + 0x10 * i, 7, 1⟩
def BK_STATUS_SEGMENT (i : Nat) : Fld := ⟨0xB0004 + 0x10 * i, 8, 11⟩
def BK_STATUS_REPAIRED_SEG (i : Nat) : Fld := ⟨0xB0004 + 0x10 * i, 19, 11⟩
def BK_STATUS (i : Nat) : Fld := ⟨0xB0004 + 0x10 * i, 0, 32⟩
def BK_ERR_CORR (i : Nat) : Fld := ⟨0xB0008 + 0x10 * i, 0, 16⟩
def BK_ERR_UNCORR (i : Nat) : Fld := ⟨0xB0008 + 0x10 * i, 16, 16⟩
def BK_ERR (i : Nat) : Fld := ⟨0xB0008 + 0x10 * i, 0, 32⟩
def BK_PATROL_PASSES (i : Nat) : Fld := ⟨0xB000C + 0x10 * i, 0, 16⟩
def BK_PATROL_CONSUMED_SEG (i : Nat) : Fld := ⟨0xB000C + 0x10 * i, 16, 11⟩
def BK_PATROL (i : Nat) : Fld := ⟨0xB000C + 0x10 * i, 0, 32⟩
def PANTRY_CTRL_PATROL_EN : Fld := ⟨0xB0200, 0, 1⟩
def PANTRY_CTRL : Fld := ⟨0xB0200, 0, 32⟩
def PANTRY_PATROL_INTERVAL : Fld := ⟨0xB0204, 0, 17⟩
def PANTRY_PATROL_INTERVAL_REG : Fld := ⟨0xB0204, 0, 32⟩
def PANTRY_PATROL_MASK : Fld := ⟨0xB0208, 0, 22⟩
def PANTRY_PATROL_MASK_REG : Fld := ⟨0xB0208, 0, 32⟩
def PANTRY_INT_STATUS_CORR : Fld := ⟨0xB020C, 0, 1⟩
def PANTRY_INT_STATUS_UNCORR : Fld := ⟨0xB020C, 1, 1⟩
def PANTRY_INT_STATUS_REPAIRED : Fld := ⟨0xB020C, 2, 1⟩
def PANTRY_INT_STATUS_EXHAUSTED : Fld := ⟨0xB020C, 3, 1⟩
def PANTRY_INT_STATUS : Fld := ⟨0xB020C, 0, 32⟩
def PANTRY_INT_ENABLE_CORR : Fld := ⟨0xB0210, 0, 1⟩
def PANTRY_INT_ENABLE_UNCORR : Fld := ⟨0xB0210, 1, 1⟩
def PANTRY_INT_ENABLE_REPAIRED : Fld := ⟨0xB0210, 2, 1⟩
def PANTRY_INT_ENABLE_EXHAUSTED : Fld := ⟨0xB0210, 3, 1⟩
def PANTRY_INT_ENABLE : Fld := ⟨0xB0210, 0, 32⟩
def PANTRY_CORR_TOTAL : Fld := ⟨0xB0214, 0, 32⟩
def PANTRY_UNCORR_TOTAL : Fld := ⟨0xB0218, 0, 32⟩
def PANTRY_LAST_ERR_BANK : Fld := ⟨0xB021C, 0, 5⟩
def PANTRY_LAST_ERR_VALID : Fld := ⟨0xB021C, 5, 1⟩
def PANTRY_LAST_ERR_BY_PATROL : Fld := ⟨0xB021C, 6, 1⟩
def PANTRY_LAST_ERR : Fld := ⟨0xB021C, 0, 32⟩
def PANTRY_LAST_ERR_ADDR : Fld := ⟨0xB0220, 0, 32⟩
def PANTRY_REPAIRED : Fld := ⟨0xB0224, 0, 32⟩
def PANTRY_EXHAUSTED : Fld := ⟨0xB0228, 0, 32⟩
def PANTRY_REDIRECT_WAITS : Fld := ⟨0xB022C, 0, 32⟩
def PANTRY_COPY_SUPPRESS : Fld := ⟨0xB0230, 0, 32⟩
def PANTRY_WAKE_TOTAL : Fld := ⟨0xB0234, 0, 32⟩
def PANTRY_DW_STALL : Fld := ⟨0xB0238, 0, 32⟩
def PANTRY_PASSES : Fld := ⟨0xB023C, 0, 32⟩
def SC_CTRL_ENABLE (i : Nat) : Fld := ⟨0x20000 + 0x10 * i, 0, 1⟩
def SC_CTRL_PRIORITY (i : Nat) : Fld := ⟨0x20000 + 0x10 * i, 1, 3⟩
def SC_CTRL (i : Nat) : Fld := ⟨0x20000 + 0x10 * i, 0, 32⟩
def SC_STATUS_STATE (i : Nat) : Fld := ⟨0x20004 + 0x10 * i, 0, 3⟩
def SC_STATUS_GATE (i : Nat) : Fld := ⟨0x20004 + 0x10 * i, 3, 1⟩
def SC_STATUS_PC (i : Nat) : Fld := ⟨0x20004 + 0x10 * i, 4, 12⟩
def SC_STATUS_IN_FLIGHT (i : Nat) : Fld := ⟨0x20004 + 0x10 * i, 16, 5⟩
def SC_STATUS (i : Nat) : Fld := ⟨0x20004 + 0x10 * i, 0, 32⟩
def SC_FAULT_INDEX (i : Nat) : Fld := ⟨0x20008 + 0x10 * i, 0, 12⟩
def SC_FAULT_CAUSE (i : Nat) : Fld := ⟨0x20008 + 0x10 * i, 12, 4⟩
def SC_FAULT_UNITS (i : Nat) : Fld := ⟨0x20008 + 0x10 * i, 16, 12⟩
def SC_FAULT_LATE (i : Nat) : Fld := ⟨0x20008 + 0x10 * i, 28, 1⟩
def SC_FAULT_VALID (i : Nat) : Fld := ⟨0x20008 + 0x10 * i, 29, 1⟩
def SC_FAULT_MORE (i : Nat) : Fld := ⟨0x20008 + 0x10 * i, 30, 1⟩
def SC_FAULT (i : Nat) : Fld := ⟨0x20008 + 0x10 * i, 0, 32⟩
def SC_BYTES (i : Nat) : Fld := ⟨0x2000C + 0x10 * i, 0, 32⟩
def GC_CTRL_ENABLE (i : Nat) : Fld := ⟨0x21000 + 0x40 * i, 0, 1⟩
def GC_CTRL_MODE (i : Nat) : Fld := ⟨0x21000 + 0x40 * i, 1, 1⟩
def GC_CTRL_START (i : Nat) : Fld := ⟨0x21000 + 0x40 * i, 2, 1⟩
def GC_CTRL_STOP (i : Nat) : Fld := ⟨0x21000 + 0x40 * i, 3, 1⟩
def GC_CTRL_PRIORITY (i : Nat) : Fld := ⟨0x21000 + 0x40 * i, 4, 3⟩
def GC_CTRL_PRIV (i : Nat) : Fld := ⟨0x21000 + 0x40 * i, 7, 1⟩
def GC_CTRL (i : Nat) : Fld := ⟨0x21000 + 0x40 * i, 0, 32⟩
def GC_STATUS_STATE (i : Nat) : Fld := ⟨0x21004 + 0x40 * i, 0, 3⟩
def GC_STATUS_SHADOW_GO (i : Nat) : Fld := ⟨0x21004 + 0x40 * i, 3, 1⟩
def GC_STATUS_PC (i : Nat) : Fld := ⟨0x21004 + 0x40 * i, 4, 12⟩
def GC_STATUS_FAULT_ITER (i : Nat) : Fld := ⟨0x21004 + 0x40 * i, 16, 16⟩
def GC_STATUS (i : Nat) : Fld := ⟨0x21004 + 0x40 * i, 0, 32⟩
def GC_PROG (i : Nat) : Fld := ⟨0x21008 + 0x40 * i, 0, 32⟩
def GC_HOST_BASE (i : Nat) : Fld := ⟨0x2100C + 0x40 * i, 0, 32⟩
def GC_SRC_LO (i : Nat) : Fld := ⟨0x21010 + 0x40 * i, 0, 32⟩
def GC_SRC_HI (i : Nat) : Fld := ⟨0x21014 + 0x40 * i, 0, 8⟩
def GC_SRC_HI_REG (i : Nat) : Fld := ⟨0x21014 + 0x40 * i, 0, 32⟩
def GC_DST_LO (i : Nat) : Fld := ⟨0x21018 + 0x40 * i, 0, 32⟩
def GC_DST_HI (i : Nat) : Fld := ⟨0x2101C + 0x40 * i, 0, 8⟩
def GC_DST_HI_REG (i : Nat) : Fld := ⟨0x2101C + 0x40 * i, 0, 32⟩
def GC_XFER_OP (i : Nat) : Fld := ⟨0x21020 + 0x40 * i, 0, 4⟩
def GC_XFER_SETTLE (i : Nat) : Fld := ⟨0x21020 + 0x40 * i, 4, 1⟩
def GC_XFER_SIGNAL_EN (i : Nat) : Fld := ⟨0x21020 + 0x40 * i, 5, 1⟩
def GC_XFER_EV (i : Nat) : Fld := ⟨0x21020 + 0x40 * i, 6, 5⟩
def GC_XFER_GO (i : Nat) : Fld := ⟨0x21020 + 0x40 * i, 11, 1⟩
def GC_XFER_COUNT (i : Nat) : Fld := ⟨0x21020 + 0x40 * i, 12, 20⟩
def GC_XFER (i : Nat) : Fld := ⟨0x21020 + 0x40 * i, 0, 32⟩
def GC_SH_SRC_LO (i : Nat) : Fld := ⟨0x21024 + 0x40 * i, 0, 32⟩
def GC_SH_SRC_HI (i : Nat) : Fld := ⟨0x21028 + 0x40 * i, 0, 8⟩
def GC_SH_SRC_HI_REG (i : Nat) : Fld := ⟨0x21028 + 0x40 * i, 0, 32⟩
def GC_SH_DST_LO (i : Nat) : Fld := ⟨0x2102C + 0x40 * i, 0, 32⟩
def GC_SH_DST_HI (i : Nat) : Fld := ⟨0x21030 + 0x40 * i, 0, 8⟩
def GC_SH_DST_HI_REG (i : Nat) : Fld := ⟨0x21030 + 0x40 * i, 0, 32⟩
def GC_SH_XFER_OP (i : Nat) : Fld := ⟨0x21034 + 0x40 * i, 0, 4⟩
def GC_SH_XFER_SETTLE (i : Nat) : Fld := ⟨0x21034 + 0x40 * i, 4, 1⟩
def GC_SH_XFER_SIGNAL_EN (i : Nat) : Fld := ⟨0x21034 + 0x40 * i, 5, 1⟩
def GC_SH_XFER_EV (i : Nat) : Fld := ⟨0x21034 + 0x40 * i, 6, 5⟩
def GC_SH_XFER_GO (i : Nat) : Fld := ⟨0x21034 + 0x40 * i, 11, 1⟩
def GC_SH_XFER_COUNT (i : Nat) : Fld := ⟨0x21034 + 0x40 * i, 12, 20⟩
def GC_SH_XFER (i : Nat) : Fld := ⟨0x21034 + 0x40 * i, 0, 32⟩
def GC_FAULT_INDEX (i : Nat) : Fld := ⟨0x21038 + 0x40 * i, 0, 12⟩
def GC_FAULT_CAUSE (i : Nat) : Fld := ⟨0x21038 + 0x40 * i, 12, 4⟩
def GC_FAULT_UNITS (i : Nat) : Fld := ⟨0x21038 + 0x40 * i, 16, 12⟩
def GC_FAULT_LATE (i : Nat) : Fld := ⟨0x21038 + 0x40 * i, 28, 1⟩
def GC_FAULT_VALID (i : Nat) : Fld := ⟨0x21038 + 0x40 * i, 29, 1⟩
def GC_FAULT_MORE (i : Nat) : Fld := ⟨0x21038 + 0x40 * i, 30, 1⟩
def GC_FAULT (i : Nat) : Fld := ⟨0x21038 + 0x40 * i, 0, 32⟩
def GC_MISMATCH (i : Nat) : Fld := ⟨0x2103C + 0x40 * i, 0, 32⟩
def DW_CTRL_ENABLE : Fld := ⟨0x22000, 0, 1⟩
def DW_CTRL_STREAM_EN : Fld := ⟨0x22000, 1, 1⟩
def DW_CTRL_GENERAL_EN : Fld := ⟨0x22000, 2, 1⟩
def DW_CTRL : Fld := ⟨0x22000, 0, 32⟩
def DW_STATUS_IN_FLIGHT : Fld := ⟨0x22004, 0, 9⟩
def DW_STATUS_ACTIVE : Fld := ⟨0x22004, 9, 8⟩
def DW_STATUS_LEVEL : Fld := ⟨0x22004, 17, 3⟩
def DW_STATUS : Fld := ⟨0x22004, 0, 32⟩
def DW_INT_STATUS_BAD : Fld := ⟨0x22008, 0, 1⟩
def DW_INT_STATUS_LATE : Fld := ⟨0x22008, 1, 1⟩
def DW_INT_STATUS_WAIT_TIMEOUT : Fld := ⟨0x22008, 2, 1⟩
def DW_INT_STATUS_WAIT_LATE : Fld := ⟨0x22008, 3, 1⟩
def DW_INT_STATUS_PRIV_DENIED : Fld := ⟨0x22008, 4, 1⟩
def DW_INT_STATUS : Fld := ⟨0x22008, 0, 32⟩
def DW_INT_ENABLE_BAD : Fld := ⟨0x2200C, 0, 1⟩
def DW_INT_ENABLE_LATE : Fld := ⟨0x2200C, 1, 1⟩
def DW_INT_ENABLE_WAIT_TIMEOUT : Fld := ⟨0x2200C, 2, 1⟩
def DW_INT_ENABLE_WAIT_LATE : Fld := ⟨0x2200C, 3, 1⟩
def DW_INT_ENABLE_PRIV_DENIED : Fld := ⟨0x2200C, 4, 1⟩
def DW_INT_ENABLE : Fld := ⟨0x2200C, 0, 32⟩
def DW_FV_PEND : Fld := ⟨0x22010, 0, 32⟩
def DW_FV_ENABLE : Fld := ⟨0x22014, 0, 32⟩
def DW_ACTIVE (j : Nat) : Fld := ⟨0x22018 + 4 * j, 0, 32⟩
def DW_FAULT_PEND (j : Nat) : Fld := ⟨0x2202C + 4 * j, 0, 32⟩
def DW_EV_SEEN (j : Nat) : Fld := ⟨0x22040 + 4 * j, 0, 32⟩
def DW_BAD_TOTAL : Fld := ⟨0x22048, 0, 32⟩
def DW_LATE_TOTAL : Fld := ⟨0x2204C, 0, 32⟩
def DW_OVERLAP_TOTAL : Fld := ⟨0x22050, 0, 32⟩
def DW_SPLIT_TOTAL : Fld := ⟨0x22054, 0, 32⟩
def DW_WAIT_TIMEOUT_TOTAL : Fld := ⟨0x22058, 0, 32⟩
def DW_WAIT_LATE_TOTAL : Fld := ⟨0x2205C, 0, 32⟩
def DW_BURST_TOTAL : Fld := ⟨0x22060, 0, 32⟩
def DW_BYTE_TOTAL : Fld := ⟨0x22064, 0, 32⟩
def DW_LAST_FAULT_CHANNEL : Fld := ⟨0x22068, 0, 8⟩
def DW_LAST_FAULT_INDEX : Fld := ⟨0x22068, 8, 12⟩
def DW_LAST_FAULT_CAUSE : Fld := ⟨0x22068, 20, 4⟩
def DW_LAST_FAULT_LATE : Fld := ⟨0x22068, 24, 1⟩
def DW_LAST_FAULT_VALID : Fld := ⟨0x22068, 25, 1⟩
def DW_LAST_FAULT : Fld := ⟨0x22068, 0, 32⟩
def DW_LAST_FAULT_ITER : Fld := ⟨0x2206C, 0, 32⟩
def DW_IGNORED_WRITES : Fld := ⟨0x22070, 0, 32⟩
def DW_PROMOTIONS : Fld := ⟨0x22074, 0, 32⟩
def DW_SETTLE_MAX : Fld := ⟨0x22078, 0, 32⟩
def DW_PRIV_DENIED : Fld := ⟨0x2207C, 0, 32⟩
def OTP_STATUS_STATE : Fld := ⟨0xC0000, 0, 2⟩
def OTP_STATUS_SENSED : Fld := ⟨0xC0000, 2, 1⟩
def OTP_STATUS_LOCK_DEFAULT : Fld := ⟨0xC0000, 3, 1⟩
def OTP_STATUS : Fld := ⟨0xC0000, 0, 32⟩
def OTP_REGION_STATE_STATE_r : Fld := ⟨0xC0004, 0, 27⟩
def OTP_REGION_STATE : Fld := ⟨0xC0004, 0, 32⟩
def OTP_STICKY_PROG_LOCK : Fld := ⟨0xC0008, 0, 1⟩
def OTP_STICKY_READ_LOCK_FWKEY : Fld := ⟨0xC0008, 1, 1⟩
def OTP_STICKY_READ_LOCK_CONSKEY : Fld := ⟨0xC0008, 2, 1⟩
def OTP_STICKY : Fld := ⟨0xC0008, 0, 32⟩
def OTP_PROG_KEY : Fld := ⟨0xC000C, 0, 32⟩
def OTP_PROG_ADDR_WORD : Fld := ⟨0xC0010, 0, 11⟩
def OTP_PROG_ADDR : Fld := ⟨0xC0010, 0, 32⟩
def OTP_PROG_DATA : Fld := ⟨0xC0014, 0, 32⟩
def OTP_PROG_CMD_GO : Fld := ⟨0xC0018, 0, 1⟩
def OTP_PROG_CMD : Fld := ⟨0xC0018, 0, 32⟩
def OTP_PROG_RESULT_RESULT : Fld := ⟨0xC001C, 0, 2⟩
def OTP_PROG_RESULT_BUSY : Fld := ⟨0xC001C, 2, 1⟩
def OTP_PROG_RESULT_PULSES : Fld := ⟨0xC001C, 3, 4⟩
def OTP_PROG_RESULT_CAUSE : Fld := ⟨0xC001C, 7, 4⟩
def OTP_PROG_RESULT_CHECK_MASK : Fld := ⟨0xC001C, 11, 7⟩
def OTP_PROG_RESULT : Fld := ⟨0xC001C, 0, 32⟩
def OTP_PROG_MASK : Fld := ⟨0xC0020, 0, 32⟩
def OTP_READ_ADDR_WORD : Fld := ⟨0xC0024, 0, 11⟩
def OTP_READ_ADDR : Fld := ⟨0xC0024, 0, 32⟩
def OTP_READ_DATA : Fld := ⟨0xC0028, 0, 32⟩
def OTP_READ_INFO_BUSY : Fld := ⟨0xC002C, 0, 1⟩
def OTP_READ_INFO_MARGINAL : Fld := ⟨0xC002C, 1, 1⟩
def OTP_READ_INFO_CORRECTED : Fld := ⟨0xC002C, 2, 1⟩
def OTP_READ_INFO_UNCORR : Fld := ⟨0xC002C, 3, 1⟩
def OTP_READ_INFO_ABSENT : Fld := ⟨0xC002C, 4, 1⟩
def OTP_READ_INFO_DENIED : Fld := ⟨0xC002C, 5, 1⟩
def OTP_READ_INFO_CHECK : Fld := ⟨0xC002C, 6, 7⟩
def OTP_READ_INFO : Fld := ⟨0xC002C, 0, 32⟩
def OTP_MARGINAL_WORDS : Fld := ⟨0xC0030, 0, 12⟩
def OTP_MARGINAL_COPIES : Fld := ⟨0xC0030, 12, 8⟩
def OTP_MARGINAL : Fld := ⟨0xC0030, 0, 32⟩
def OTP_FIRST_MARGINAL_WORD : Fld := ⟨0xC0034, 0, 11⟩
def OTP_FIRST_MARGINAL_VALID : Fld := ⟨0xC0034, 11, 1⟩
def OTP_FIRST_MARGINAL : Fld := ⟨0xC0034, 0, 32⟩
def OTP_RESENSE_PASSES : Fld := ⟨0xC0038, 0, 16⟩
def OTP_RESENSE_POSITION : Fld := ⟨0xC0038, 16, 11⟩
def OTP_RESENSE : Fld := ⟨0xC0038, 0, 32⟩
def OTP_RESENSE_DIFF : Fld := ⟨0xC003C, 0, 32⟩
def OTP_INT_STATUS_MARGINAL : Fld := ⟨0xC0040, 0, 1⟩
def OTP_INT_STATUS_CRIT_MARGINAL : Fld := ⟨0xC0040, 1, 1⟩
def OTP_INT_STATUS_CRIT_DEFAULT : Fld := ⟨0xC0040, 2, 1⟩
def OTP_INT_STATUS_PROG_DONE : Fld := ⟨0xC0040, 3, 1⟩
def OTP_INT_STATUS_PROG_FAIL : Fld := ⟨0xC0040, 4, 1⟩
def OTP_INT_STATUS_LOCKED : Fld := ⟨0xC0040, 5, 1⟩
def OTP_INT_STATUS_INCOMPLETE : Fld := ⟨0xC0040, 6, 1⟩
def OTP_INT_STATUS_RESENSE_DIFF : Fld := ⟨0xC0040, 7, 1⟩
def OTP_INT_STATUS : Fld := ⟨0xC0040, 0, 32⟩
def OTP_INT_ENABLE_MARGINAL : Fld := ⟨0xC0044, 0, 1⟩
def OTP_INT_ENABLE_CRIT_MARGINAL : Fld := ⟨0xC0044, 1, 1⟩
def OTP_INT_ENABLE_CRIT_DEFAULT : Fld := ⟨0xC0044, 2, 1⟩
def OTP_INT_ENABLE_PROG_DONE : Fld := ⟨0xC0044, 3, 1⟩
def OTP_INT_ENABLE_PROG_FAIL : Fld := ⟨0xC0044, 4, 1⟩
def OTP_INT_ENABLE_LOCKED : Fld := ⟨0xC0044, 5, 1⟩
def OTP_INT_ENABLE_INCOMPLETE : Fld := ⟨0xC0044, 6, 1⟩
def OTP_INT_ENABLE_RESENSE_DIFF : Fld := ⟨0xC0044, 7, 1⟩
def OTP_INT_ENABLE : Fld := ⟨0xC0044, 0, 32⟩
def OTP_CRIT_MARGINAL_LO : Fld := ⟨0xC0048, 0, 32⟩
def OTP_CRIT_MARGINAL_HI : Fld := ⟨0xC004C, 0, 32⟩
def OTP_CRIT_DEFAULT_LO : Fld := ⟨0xC0050, 0, 32⟩
def OTP_CRIT_DEFAULT_HI : Fld := ⟨0xC0054, 0, 32⟩
def OTP_ENV_VIN : Fld := ⟨0xC0058, 0, 10⟩
def OTP_ENV_VIN_OK : Fld := ⟨0xC0058, 10, 1⟩
def OTP_ENV_TJ_MAX : Fld := ⟨0xC0058, 11, 8⟩
def OTP_ENV_TJ_MIN : Fld := ⟨0xC0058, 19, 8⟩
def OTP_ENV_TJ_OK : Fld := ⟨0xC0058, 27, 1⟩
def OTP_ENV_PERMIT : Fld := ⟨0xC0058, 28, 1⟩
def OTP_ENV : Fld := ⟨0xC0058, 0, 32⟩
def OTP_FLOOR_FLOOR : Fld := ⟨0xC005C, 0, 13⟩
def OTP_FLOOR_PENDING : Fld := ⟨0xC005C, 16, 13⟩
def OTP_FLOOR : Fld := ⟨0xC005C, 0, 32⟩
def OTP_FWKEY_STATE_USABLE : Fld := ⟨0xC0060, 0, 4⟩
def OTP_FWKEY_STATE_PROGRAMMED : Fld := ⟨0xC0060, 4, 4⟩
def OTP_FWKEY_STATE_REVOKED : Fld := ⟨0xC0060, 8, 4⟩
def OTP_FWKEY_STATE_DEV_ALLOWED : Fld := ⟨0xC0060, 12, 1⟩
def OTP_FWKEY_STATE : Fld := ⟨0xC0060, 0, 32⟩
def OTP_CONSKEY_STATE_PRESENT : Fld := ⟨0xC0064, 0, 16⟩
def OTP_CONSKEY_STATE_REFUSE : Fld := ⟨0xC0064, 16, 16⟩
def OTP_CONSKEY_STATE : Fld := ⟨0xC0064, 0, 32⟩
def OTP_SEAL_STATUS_PROGRAMMED : Fld := ⟨0xC0068, 0, 5⟩
def OTP_SEAL_STATUS_VERIFIES : Fld := ⟨0xC0068, 8, 5⟩
def OTP_SEAL_STATUS_SEAL_BAD : Fld := ⟨0xC0068, 16, 5⟩
def OTP_SEAL_STATUS : Fld := ⟨0xC0068, 0, 32⟩
def OTP_PROG_TOTAL : Fld := ⟨0xC006C, 0, 32⟩
def OTP_FAIL_TOTAL : Fld := ⟨0xC0070, 0, 32⟩
def OTP_CORR_TOTAL : Fld := ⟨0xC0074, 0, 32⟩
def OTP_DEBUG_DEBUG_DISABLED : Fld := ⟨0xC0078, 0, 1⟩
def OTP_DEBUG_DEFAULTED : Fld := ⟨0xC0078, 1, 1⟩
def OTP_DEBUG : Fld := ⟨0xC0078, 0, 32⟩
def OTP_LAST_PROG_WORD : Fld := ⟨0xC007C, 0, 11⟩
def OTP_LAST_PROG_RESULT : Fld := ⟨0xC007C, 11, 2⟩
def OTP_LAST_PROG_VALID : Fld := ⟨0xC007C, 13, 1⟩
def OTP_LAST_PROG_VIA_REG : Fld := ⟨0xC007C, 14, 1⟩
def OTP_LAST_PROG : Fld := ⟨0xC007C, 0, 32⟩
def THERM_DIE_CFG_THROTTLE : Fld := ⟨0xD0200, 0, 8⟩
def THERM_DIE_CFG_HYST : Fld := ⟨0xD0200, 8, 4⟩
def THERM_DIE_CFG : Fld := ⟨0xD0200, 0, 32⟩
def THERM_DIE_STATUS_T_DIE : Fld := ⟨0xD0204, 0, 16⟩
def THERM_DIE_STATUS_STEP : Fld := ⟨0xD0204, 16, 3⟩
def THERM_DIE_STATUS_HOTTEST : Fld := ⟨0xD0204, 19, 5⟩
def THERM_DIE_STATUS : Fld := ⟨0xD0204, 0, 32⟩
def THERM_SHUTDOWN_CFG_LIMIT : Fld := ⟨0xD0208, 0, 8⟩
def THERM_SHUTDOWN_CFG_FUSE_LIMIT : Fld := ⟨0xD0208, 8, 8⟩
def THERM_SHUTDOWN_CFG : Fld := ⟨0xD0208, 0, 32⟩
def THERM_SHUTDOWN_LOG_TEMP : Fld := ⟨0xD020C, 0, 16⟩
def THERM_SHUTDOWN_LOG_SENSOR : Fld := ⟨0xD020C, 16, 5⟩
def THERM_SHUTDOWN_LOG_VALID : Fld := ⟨0xD020C, 21, 1⟩
def THERM_SHUTDOWN_LOG : Fld := ⟨0xD020C, 0, 32⟩
def THERM_HEAD_CFG_HYST : Fld := ⟨0xD0210, 0, 4⟩
def THERM_HEAD_CFG_LOSS_MS : Fld := ⟨0xD0210, 4, 13⟩
def THERM_HEAD_CFG : Fld := ⟨0xD0210, 0, 32⟩
def THERM_HEAD_STATUS_T_HEAD : Fld := ⟨0xD0214, 0, 16⟩
def THERM_HEAD_STATUS_PORT : Fld := ⟨0xD0214, 16, 7⟩
def THERM_HEAD_STATUS_K_T_MAX : Fld := ⟨0xD0214, 23, 4⟩
def THERM_HEAD_STATUS_VALID : Fld := ⟨0xD0214, 27, 1⟩
def THERM_HEAD_STATUS : Fld := ⟨0xD0214, 0, 32⟩
def THERM_TRI_DROPPED : Fld := ⟨0xD0218, 0, 32⟩
def THERM_TRI_CUT_LINES : Fld := ⟨0xD021C, 0, 32⟩
def THERM_CLOCK_STATUS_RATIO_PPM : Fld := ⟨0xD0220, 0, 16⟩
def THERM_CLOCK_STATUS_OSC_OK : Fld := ⟨0xD0220, 16, 3⟩
def THERM_CLOCK_STATUS : Fld := ⟨0xD0220, 0, 32⟩
def THERM_VIN_STATUS_VIN : Fld := ⟨0xD0224, 0, 10⟩
def THERM_VIN_STATUS_LOW_WARN : Fld := ⟨0xD0224, 10, 1⟩
def THERM_VIN_STATUS_HIGH_WARN : Fld := ⟨0xD0224, 11, 1⟩
def THERM_VIN_STATUS_LAST_SHUTDOWN : Fld := ⟨0xD0224, 12, 2⟩
def THERM_VIN_STATUS : Fld := ⟨0xD0224, 0, 32⟩
def THERM_HEAD_CUT (j : Nat) : Fld := ⟨0xD0228 + 4 * j, 0, 32⟩
def THERM_HEAD_CUT_TOTAL : Fld := ⟨0xD0238, 0, 32⟩
def THERM_LAST_CUT_PORT : Fld := ⟨0xD023C, 0, 7⟩
def THERM_LAST_CUT_VALID : Fld := ⟨0xD023C, 7, 1⟩
def THERM_LAST_CUT_CAUSE : Fld := ⟨0xD023C, 8, 2⟩
def THERM_LAST_CUT_LINE_HI : Fld := ⟨0xD023C, 10, 22⟩
def THERM_LAST_CUT : Fld := ⟨0xD023C, 0, 32⟩
def THERM_LAST_CUT_LINE : Fld := ⟨0xD0240, 0, 32⟩
def THERM_TH_CFG_OPEN : Fld := ⟨0xD0244, 0, 12⟩
def THERM_TH_CFG_SHORT : Fld := ⟨0xD0244, 16, 12⟩
def THERM_TH_CFG : Fld := ⟨0xD0244, 0, 32⟩
def THERM_INT_STATUS_DIE_STEP : Fld := ⟨0xD0248, 0, 1⟩
def THERM_INT_STATUS_SENSOR_EXCLUDED : Fld := ⟨0xD0248, 1, 1⟩
def THERM_INT_STATUS_HEAD_WARN : Fld := ⟨0xD0248, 2, 1⟩
def THERM_INT_STATUS_HEAD_THROTTLE : Fld := ⟨0xD0248, 3, 1⟩
def THERM_INT_STATUS_HEAD_CUT : Fld := ⟨0xD0248, 4, 1⟩
def THERM_INT_STATUS_TH_FAULT : Fld := ⟨0xD0248, 5, 1⟩
def THERM_INT_STATUS_VIN_WARN : Fld := ⟨0xD0248, 6, 1⟩
def THERM_INT_STATUS : Fld := ⟨0xD0248, 0, 32⟩
def THERM_INT_ENABLE_DIE_STEP : Fld := ⟨0xD024C, 0, 1⟩
def THERM_INT_ENABLE_SENSOR_EXCLUDED : Fld := ⟨0xD024C, 1, 1⟩
def THERM_INT_ENABLE_HEAD_WARN : Fld := ⟨0xD024C, 2, 1⟩
def THERM_INT_ENABLE_HEAD_THROTTLE : Fld := ⟨0xD024C, 3, 1⟩
def THERM_INT_ENABLE_HEAD_CUT : Fld := ⟨0xD024C, 4, 1⟩
def THERM_INT_ENABLE_TH_FAULT : Fld := ⟨0xD024C, 5, 1⟩
def THERM_INT_ENABLE_VIN_WARN : Fld := ⟨0xD024C, 6, 1⟩
def THERM_INT_ENABLE : Fld := ⟨0xD024C, 0, 32⟩
def THERM_TRI_FILTER_FILT : Fld := ⟨0xD0250, 0, 32⟩
def THERM_TRI_FILTER : Fld := ⟨0xD0250, 0, 32⟩
def THERM_TRI_WD_CFG_WD_TIME : Fld := ⟨0xD0254, 0, 10⟩
def THERM_TRI_WD_CFG_DISCREPANCY : Fld := ⟨0xD0254, 16, 10⟩
def THERM_TRI_WD_CFG : Fld := ⟨0xD0254, 0, 32⟩
def THERM_TRI_LOCK_LOCKED : Fld := ⟨0xD0258, 0, 1⟩
def THERM_TRI_LOCK : Fld := ⟨0xD0258, 0, 32⟩
def THERM_TRI_STATUS_FE : Fld := ⟨0xD025C, 0, 3⟩
def THERM_TRI_STATUS_HS : Fld := ⟨0xD025C, 3, 3⟩
def THERM_TRI_STATUS_FIRE_EN : Fld := ⟨0xD025C, 6, 1⟩
def THERM_TRI_STATUS_HSUP_EN : Fld := ⟨0xD025C, 7, 1⟩
def THERM_TRI_STATUS_DISAGREE : Fld := ⟨0xD025C, 8, 3⟩
def THERM_TRI_STATUS_SHUT_VOTE : Fld := ⟨0xD025C, 11, 3⟩
def THERM_TRI_STATUS : Fld := ⟨0xD025C, 0, 32⟩
def THERM_TRI_INPUTS_ACCEPTED : Fld := ⟨0xD0260, 0, 12⟩
def THERM_TRI_INPUTS_PINS : Fld := ⟨0xD0260, 12, 4⟩
def THERM_TRI_INPUTS : Fld := ⟨0xD0260, 0, 32⟩
def THERM_TRI_CAUSE_CUT : Fld := ⟨0xD0264, 0, 5⟩
def THERM_TRI_CAUSE_HOLD : Fld := ⟨0xD0264, 5, 3⟩
def THERM_TRI_CAUSE : Fld := ⟨0xD0264, 0, 32⟩
def THERM_WD_KICK0 : Fld := ⟨0xD0268, 0, 32⟩
def THERM_WD_KICK1 : Fld := ⟨0xD026C, 0, 32⟩
def THERM_WD_KICK2 : Fld := ⟨0xD0270, 0, 32⟩
def THERM_TRI_INT_STATUS_CUT : Fld := ⟨0xD0274, 0, 1⟩
def THERM_TRI_INT_STATUS_HOLD : Fld := ⟨0xD0274, 1, 1⟩
def THERM_TRI_INT_STATUS_DISAGREE : Fld := ⟨0xD0274, 2, 1⟩
def THERM_TRI_INT_STATUS_BAD_KICK : Fld := ⟨0xD0274, 3, 1⟩
def THERM_TRI_INT_STATUS_CLOCK_MARGINAL : Fld := ⟨0xD0274, 4, 1⟩
def THERM_TRI_INT_STATUS : Fld := ⟨0xD0274, 0, 32⟩
def THERM_TRI_INT_ENABLE_CUT : Fld := ⟨0xD0278, 0, 1⟩
def THERM_TRI_INT_ENABLE_HOLD : Fld := ⟨0xD0278, 1, 1⟩
def THERM_TRI_INT_ENABLE_DISAGREE : Fld := ⟨0xD0278, 2, 1⟩
def THERM_TRI_INT_ENABLE_BAD_KICK : Fld := ⟨0xD0278, 3, 1⟩
def THERM_TRI_INT_ENABLE_CLOCK_MARGINAL : Fld := ⟨0xD0278, 4, 1⟩
def THERM_TRI_INT_ENABLE : Fld := ⟨0xD0278, 0, 32⟩
def THERM_WD_STATUS_NEXT : Fld := ⟨0xD027C, 0, 16⟩
def THERM_WD_STATUS_ARMED : Fld := ⟨0xD027C, 16, 1⟩
def THERM_WD_STATUS_BAD_KICK : Fld := ⟨0xD027C, 17, 1⟩
def THERM_WD_STATUS_REMAIN_MS : Fld := ⟨0xD027C, 18, 10⟩
def THERM_WD_STATUS : Fld := ⟨0xD027C, 0, 32⟩
def HEALTH_CTRL_REPLACE_PIN_EN : Fld := ⟨0xE0000, 0, 1⟩
def HEALTH_CTRL_ALERT_PIN_EN : Fld := ⟨0xE0000, 1, 1⟩
def HEALTH_CTRL : Fld := ⟨0xE0000, 0, 32⟩
def HEALTH_STATUS_HP_RUNNING : Fld := ⟨0xE0004, 0, 1⟩
def HEALTH_STATUS_REPLACE : Fld := ⟨0xE0004, 1, 1⟩
def HEALTH_STATUS_ADVISORY : Fld := ⟨0xE0004, 2, 1⟩
def HEALTH_STATUS_CODES : Fld := ⟨0xE0004, 8, 5⟩
def HEALTH_STATUS : Fld := ⟨0xE0004, 0, 32⟩
def HEALTH_LIMP_PRESENT_CODE : Fld := ⟨0xE0008, 1, 16⟩
def HEALTH_LIMP_PRESENT : Fld := ⟨0xE0008, 0, 32⟩
def HEALTH_LIMP_SEEN_CODE : Fld := ⟨0xE000C, 1, 16⟩
def HEALTH_LIMP_SEEN : Fld := ⟨0xE000C, 0, 32⟩
def HEALTH_INT_STATUS_RAISED : Fld := ⟨0xE0010, 0, 1⟩
def HEALTH_INT_STATUS_CLEARED : Fld := ⟨0xE0010, 1, 1⟩
def HEALTH_INT_STATUS_REPLACE : Fld := ⟨0xE0010, 2, 1⟩
def HEALTH_INT_STATUS_LOG_LOST : Fld := ⟨0xE0010, 3, 1⟩
def HEALTH_INT_STATUS : Fld := ⟨0xE0010, 0, 32⟩
def HEALTH_INT_ENABLE_RAISED : Fld := ⟨0xE0014, 0, 1⟩
def HEALTH_INT_ENABLE_CLEARED : Fld := ⟨0xE0014, 1, 1⟩
def HEALTH_INT_ENABLE_REPLACE : Fld := ⟨0xE0014, 2, 1⟩
def HEALTH_INT_ENABLE_LOG_LOST : Fld := ⟨0xE0014, 3, 1⟩
def HEALTH_INT_ENABLE : Fld := ⟨0xE0014, 0, 32⟩
def HEALTH_ALERT_STATUS_LIMP_RAISED : Fld := ⟨0xE0018, 0, 1⟩
def HEALTH_ALERT_STATUS_REPLACE_RAISED : Fld := ⟨0xE0018, 1, 1⟩
def HEALTH_ALERT_STATUS_HALTED : Fld := ⟨0xE0018, 2, 1⟩
def HEALTH_ALERT_STATUS_THERMAL_RESTART : Fld := ⟨0xE0018, 3, 1⟩
def HEALTH_ALERT_STATUS_VIN_SHUTDOWN : Fld := ⟨0xE0018, 4, 1⟩
def HEALTH_ALERT_STATUS : Fld := ⟨0xE0018, 0, 32⟩
def HEALTH_ALERT_ENABLE_LIMP_RAISED : Fld := ⟨0xE001C, 0, 1⟩
def HEALTH_ALERT_ENABLE_REPLACE_RAISED : Fld := ⟨0xE001C, 1, 1⟩
def HEALTH_ALERT_ENABLE_HALTED : Fld := ⟨0xE001C, 2, 1⟩
def HEALTH_ALERT_ENABLE_THERMAL_RESTART : Fld := ⟨0xE001C, 3, 1⟩
def HEALTH_ALERT_ENABLE_VIN_SHUTDOWN : Fld := ⟨0xE001C, 4, 1⟩
def HEALTH_ALERT_ENABLE : Fld := ⟨0xE001C, 0, 32⟩
def HEALTH_PINS_REPLACE_N : Fld := ⟨0xE0020, 0, 1⟩
def HEALTH_PINS_ALERT_N : Fld := ⟨0xE0020, 1, 1⟩
def HEALTH_PINS : Fld := ⟨0xE0020, 0, 32⟩
def HEALTH_VECTOR_PEND_PEND : Fld := ⟨0xE0024, 0, 15⟩
def HEALTH_VECTOR_PEND : Fld := ⟨0xE0024, 0, 32⟩
def HEALTH_INTN_ROUTE_ROUTE : Fld := ⟨0xE0028, 2, 13⟩
def HEALTH_INTN_ROUTE : Fld := ⟨0xE0028, 0, 32⟩
def HEALTH_LOG_STATUS_COUNT : Fld := ⟨0xE002C, 0, 9⟩
def HEALTH_LOG_STATUS_WRAPPED : Fld := ⟨0xE002C, 9, 1⟩
def HEALTH_LOG_STATUS_LOST : Fld := ⟨0xE002C, 16, 16⟩
def HEALTH_LOG_STATUS : Fld := ⟨0xE002C, 0, 32⟩
def HEALTH_LAST_LIMP_CODE : Fld := ⟨0xE0030, 0, 5⟩
def HEALTH_LAST_LIMP_RAISED : Fld := ⟨0xE0030, 5, 1⟩
def HEALTH_LAST_LIMP_VALID : Fld := ⟨0xE0030, 6, 1⟩
def HEALTH_LAST_LIMP_CLASS : Fld := ⟨0xE0030, 7, 1⟩
def HEALTH_LAST_LIMP_INSTANCE : Fld := ⟨0xE0030, 8, 24⟩
def HEALTH_LAST_LIMP : Fld := ⟨0xE0030, 0, 32⟩
def HEALTH_LAST_LIMP_TIME : Fld := ⟨0xE0034, 0, 32⟩
def HEALTH_HP_HEARTBEAT : Fld := ⟨0xE0038, 0, 32⟩
def HEALTH_REPORT_SEQ : Fld := ⟨0xE003C, 0, 32⟩
def HEALTH_LIMP_COUNT_PRESENT (j : Nat) : Fld := ⟨0xE0040 + 4 * j, 0, 8⟩
def HEALTH_LIMP_COUNT_RAISES (j : Nat) : Fld := ⟨0xE0040 + 4 * j, 16, 16⟩
def HEALTH_LIMP_COUNT (j : Nat) : Fld := ⟨0xE0040 + 4 * j, 0, 32⟩
def HEALTH_LIMP_INFO_INSTANCE (j : Nat) : Fld := ⟨0xE0080 + 4 * j, 0, 24⟩
def HEALTH_LIMP_INFO_VALID (j : Nat) : Fld := ⟨0xE0080 + 4 * j, 24, 1⟩
def HEALTH_LIMP_INFO (j : Nat) : Fld := ⟨0xE0080 + 4 * j, 0, 32⟩
def HEALTH_SUMMARY (j : Nat) : Fld := ⟨0xE00C0 + 4 * j, 0, 32⟩
def GL_ID_VENDOR : Fld := ⟨0x0, 0, 16⟩
def GL_ID_DEVICE : Fld := ⟨0x0, 16, 16⟩
def GL_ID : Fld := ⟨0x0, 0, 32⟩
def GL_REVISION_REV : Fld := ⟨0x4, 0, 8⟩
def GL_REVISION_VERSION : Fld := ⟨0x4, 8, 4⟩
def GL_REVISION : Fld := ⟨0x4, 0, 32⟩
def GL_SERIAL_LO : Fld := ⟨0x8, 0, 32⟩
def GL_SERIAL_HI : Fld := ⟨0xC, 0, 32⟩
def GL_FW_ID_LEVEL_MINOR : Fld := ⟨0x10, 0, 8⟩
def GL_FW_ID_LEVEL_MAJOR : Fld := ⟨0x10, 8, 8⟩
def GL_FW_ID_VALID : Fld := ⟨0x10, 16, 1⟩
def GL_FW_ID_DEVELOPMENT : Fld := ⟨0x10, 17, 1⟩
def GL_FW_ID : Fld := ⟨0x10, 0, 32⟩
def GL_FW_VERSION : Fld := ⟨0x14, 0, 32⟩
def GL_ROM_VERSION : Fld := ⟨0x18, 0, 32⟩
def GL_CAP0_HEAD_PORTS : Fld := ⟨0x1C, 0, 8⟩
def GL_CAP0_STREAMS : Fld := ⟨0x1C, 8, 8⟩
def GL_CAP0_LINE_ENGINES : Fld := ⟨0x1C, 16, 4⟩
def GL_CAP0_CELLAR_CHANNELS : Fld := ⟨0x1C, 20, 4⟩
def GL_CAP0_DECOMPRESSORS : Fld := ⟨0x1C, 24, 4⟩
def GL_CAP0_PEAL_PORTS : Fld := ⟨0x1C, 28, 2⟩
def GL_CAP0 : Fld := ⟨0x1C, 0, 32⟩
def GL_CAP1_PCIE_WIDTH : Fld := ⟨0x20, 0, 5⟩
def GL_CAP1_PCIE_SPEED : Fld := ⟨0x20, 5, 3⟩
def GL_CAP1_TRACKS : Fld := ⟨0x20, 8, 5⟩
def GL_CAP1_ENCODERS : Fld := ⟨0x20, 13, 3⟩
def GL_CAP1_WAVE_PORTS : Fld := ⟨0x20, 16, 5⟩
def GL_CAP1_TH_INPUTS : Fld := ⟨0x20, 21, 5⟩
def GL_CAP1_WAVE_ENGINES : Fld := ⟨0x20, 26, 2⟩
def GL_CAP1_LTRIG : Fld := ⟨0x20, 28, 3⟩
def GL_CAP1 : Fld := ⟨0x20, 0, 32⟩
def GL_CAP2_GENERAL_CHANNELS : Fld := ⟨0x24, 0, 6⟩
def GL_CAP2_PORCHES : Fld := ⟨0x24, 6, 5⟩
def GL_CAP2_MSIX_VECTORS : Fld := ⟨0x24, 11, 6⟩
def GL_CAP2_PANTRY_BANKS : Fld := ⟨0x24, 17, 5⟩
def GL_CAP2_HL_GENS : Fld := ⟨0x24, 22, 3⟩
def GL_CAP2 : Fld := ⟨0x24, 0, 32⟩
def GL_MODE_MODE : Fld := ⟨0x28, 0, 3⟩
def GL_MODE_COMMITTED : Fld := ⟨0x28, 3, 1⟩
def GL_MODE : Fld := ⟨0x28, 0, 32⟩
def GL_RESET_CTRL_PERST_FULL : Fld := ⟨0x2C, 0, 1⟩
def GL_RESET_CTRL : Fld := ⟨0x2C, 0, 32⟩
def GL_RESET_CAUSE_CODE : Fld := ⟨0x30, 0, 3⟩
def GL_RESET_CAUSE_LINK_ONLY : Fld := ⟨0x30, 3, 1⟩
def GL_RESET_CAUSE : Fld := ⟨0x30, 0, 32⟩
def GL_BOOT_CTRL_PAGE : Fld := ⟨0x34, 0, 1⟩
def GL_BOOT_CTRL : Fld := ⟨0x34, 0, 32⟩
def GL_BOOT_STATUS_STATE : Fld := ⟨0x38, 0, 2⟩
def GL_BOOT_STATUS_RESULT : Fld := ⟨0x38, 2, 3⟩
def GL_BOOT_STATUS_FW_RUNNING : Fld := ⟨0x38, 5, 1⟩
def GL_BOOT_STATUS : Fld := ⟨0x38, 0, 32⟩
def GL_BOOT_INT_STATUS_WAITING : Fld := ⟨0x3C, 0, 1⟩
def GL_BOOT_INT_STATUS_RUN_FAILED : Fld := ⟨0x3C, 1, 1⟩
def GL_BOOT_INT_STATUS_FW_STARTED : Fld := ⟨0x3C, 2, 1⟩
def GL_BOOT_INT_STATUS : Fld := ⟨0x3C, 0, 32⟩
def GL_BOOT_INT_ENABLE_WAITING : Fld := ⟨0x40, 0, 1⟩
def GL_BOOT_INT_ENABLE_RUN_FAILED : Fld := ⟨0x40, 1, 1⟩
def GL_BOOT_INT_ENABLE_FW_STARTED : Fld := ⟨0x40, 2, 1⟩
def GL_BOOT_INT_ENABLE : Fld := ⟨0x40, 0, 32⟩
def GL_ACCESS_ERR : Fld := ⟨0x44, 0, 32⟩
def GL_LAST_ACCESS_ERR_WORD : Fld := ⟨0x48, 0, 20⟩
def GL_LAST_ACCESS_ERR_KIND : Fld := ⟨0x48, 20, 3⟩
def GL_LAST_ACCESS_ERR_PATH : Fld := ⟨0x48, 23, 1⟩
def GL_LAST_ACCESS_ERR_VALID : Fld := ⟨0x48, 24, 1⟩
def GL_LAST_ACCESS_ERR : Fld := ⟨0x48, 0, 32⟩
def GL_SPI_FRAMES : Fld := ⟨0x4C, 0, 32⟩
def GL_SPI_ABORTS : Fld := ⟨0x50, 0, 32⟩
def GL_TIME_LO : Fld := ⟨0x54, 0, 32⟩
def GL_TIME_HI : Fld := ⟨0x58, 0, 32⟩
def GL_UPTIME : Fld := ⟨0x5C, 0, 32⟩
def GL_FEATURE_OFFER (j : Nat) : Fld := ⟨0x60 + 4 * j, 0, 32⟩
def GL_FEATURE_ACCEPT (j : Nat) : Fld := ⟨0x80 + 4 * j, 0, 32⟩
def GL_FEATURE_ACTIVE (j : Nat) : Fld := ⟨0xA0 + 4 * j, 0, 32⟩
def GL_FEATURE_STATUS_CLOSED : Fld := ⟨0xC0, 0, 1⟩
def GL_FEATURE_STATUS : Fld := ⟨0xC0, 0, 32⟩
def GL_PCIE_STATUS_WIDTH : Fld := ⟨0xC4, 0, 5⟩
def GL_PCIE_STATUS_SPEED : Fld := ⟨0xC4, 5, 3⟩
def GL_PCIE_STATUS_LINK_UP : Fld := ⟨0xC4, 8, 1⟩
def GL_PCIE_STATUS_BUS_MASTER : Fld := ⟨0xC4, 9, 1⟩
def GL_PCIE_STATUS_MSIX_EN : Fld := ⟨0xC4, 10, 1⟩
def GL_PCIE_STATUS : Fld := ⟨0xC4, 0, 32⟩
def GL_PCIE_ERR_CORRECTABLE : Fld := ⟨0xC8, 0, 16⟩
def GL_PCIE_ERR_UNCORRECTABLE : Fld := ⟨0xC8, 16, 16⟩
def GL_PCIE_ERR : Fld := ⟨0xC8, 0, 32⟩
def GL_SCRATCH (j : Nat) : Fld := ⟨0xCC + 4 * j, 0, 32⟩
def TS_VALUE_TEMP (i : Nat) : Fld := ⟨0xD0000 + 0x8 * i, 0, 16⟩
def TS_VALUE_COUNT (i : Nat) : Fld := ⟨0xD0000 + 0x8 * i, 16, 16⟩
def TS_VALUE (i : Nat) : Fld := ⟨0xD0000 + 0x8 * i, 0, 32⟩
def TS_STATUS_VALID (i : Nat) : Fld := ⟨0xD0004 + 0x8 * i, 0, 1⟩
def TS_STATUS_EXCLUDED (i : Nat) : Fld := ⟨0xD0004 + 0x8 * i, 1, 1⟩
def TS_STATUS_CHANNEL (i : Nat) : Fld := ⟨0xD0004 + 0x8 * i, 2, 2⟩
def TS_STATUS_DEFAULTED (i : Nat) : Fld := ⟨0xD0004 + 0x8 * i, 4, 1⟩
def TS_STATUS (i : Nat) : Fld := ⟨0xD0004 + 0x8 * i, 0, 32⟩
def TH_VALUE_CODE (i : Nat) : Fld := ⟨0xD0100 + 0x8 * i, 0, 12⟩
def TH_VALUE_TEMP (i : Nat) : Fld := ⟨0xD0100 + 0x8 * i, 16, 16⟩
def TH_VALUE (i : Nat) : Fld := ⟨0xD0100 + 0x8 * i, 0, 32⟩
def TH_STATUS_STATE (i : Nat) : Fld := ⟨0xD0104 + 0x8 * i, 0, 2⟩
def TH_STATUS_TABLE (i : Nat) : Fld := ⟨0xD0104 + 0x8 * i, 2, 1⟩
def TH_STATUS_PORT (i : Nat) : Fld := ⟨0xD0104 + 0x8 * i, 3, 7⟩
def TH_STATUS_BOUND (i : Nat) : Fld := ⟨0xD0104 + 0x8 * i, 10, 1⟩
def TH_STATUS (i : Nat) : Fld := ⟨0xD0104 + 0x8 * i, 0, 32⟩

end F

end Sys2Proof.Machine
end

