-- ==== Sys2Proof/Config.lean ====
section
/-! DEFINITION. What an implementation fixes, and the free values: constants with no body, of which nothing can be
proved. -/

namespace Sys2Proof.Config

/-- Free: the slots of the standard ingress program that read a descriptor (0), read a buffer (1) and write back (2);
the firmware supplies that program and the manual does not give it (R409, R415).
Log 20 (DEDUCED). Log 99 (DESIGN CHOICE). -/
opaque ingressSlot : Nat → Nat

/-- Free: whether a value that its register or field cannot hold exactly is rounded up; the manual states no rounding
for the tracker, T_L, VELOCITY and the fields of TIMING_QUERY (R149, R154, R156, R185). Log 32 (DESIGN CHOICE). -/
opaque roundUp : Rat → Bool

/-- Free: which of two values at the same distance an absolute reading (R147) or a phase (R265) is unwrapped to, true for
the upper one. Log 33 (DESIGN CHOICE). -/
opaque unwrapUp : Int → Bool

/-- Free: a field that the manual calls valid only in another state (the stop line of TIMING_QUERY, R185).
Log 14 (DESIGN CHOICE). Log 22 (DESIGN CHOICE). Log 34 (DESIGN CHOICE). Log 66 (DESIGN CHOICE). Log 78 (DESIGN CHOICE). -/
opaque staleField : Nat → Nat

/-- Free: the fresh values that the device draws: CHALLENGE of OTP_QUERY, NONCE_D of AUTH_CHAL (R253, R456).
Log 14 (DESIGN CHOICE). Log 52 (DEDUCED). -/
opaque fresh : Nat → Nat

/-- Free: the general channel (0) and the slot of its program (1) with which the firmware moves bulk data (R343).
Log 83 (DEDUCED). Log 99 (DESIGN CHOICE). -/
opaque bulkSlot : Nat → Nat

/-- Free: bytes that the manual leaves undefined (R343). Log 14 (DESIGN CHOICE). Log 83 (DEDUCED). -/
opaque freeByte : Nat → Byte

/-- Free: the latency in ps from the master to a device that the assignment of this device does not give it, by round and
device ID (R288). Log 66 (DESIGN CHOICE). -/
opaque ringPath : Nat → Nat

/-- Free: values that are particular to each part or release (R552): 0 REVISION.REV, 1 REVISION.VERSION, 2 SERIAL_LO,
3 SERIAL_HI, 4 ROM_VERSION. Log 7 (DESIGN CHOICE). Log 90 (DESIGN CHOICE). -/
opaque partId : Nat → Nat

/-- Free: the least count that any member of the family has, for the capability fields that R1 does not give, by the field's
place (R552). Log 89 (DESIGN CHOICE). -/
opaque leastCount : Nat → Nat

end Sys2Proof.Config
end

