-- ==== Sys2Proof/Machine/State.lean ====
section
/-! DEFINITION. The state of the KZ-5240 as plain data: every register, queue, buffer, counter, mode and pin the
manual names, the queue of waiting commands, the reasons a step can stop, and the state right after reset. -/

namespace Sys2Proof.Machine

/-- The modes of R27 and R376, code 0 first. -/
inductive Mode where
  | boot | configure | ready | track | clock | maintain | diagnose | halt
  deriving DecidableEq, Repr

/-- A declared plane (R36). -/
structure Plane where
  /-- bits per dot, 1 to 4 -/
  bits : Nat := 1
  /-- headroom H in lines, 64 to 1,024 (R36, R42) -/
  headroom : Nat := 64
  /-- columns of the plane (R36) -/
  columns : Nat := 1
  deriving DecidableEq, Repr

/-- One row table entry (R34). -/
structure RowEntry where
  port : Nat := 0
  row : Nat := 0
  plane : Nat := 0
  reverse : Bool := false
  firstLocal : Nat := 0
  n : Nat := 1
  localStep : Nat := 1
  columnStep : Nat := 1
  firstColumn : Nat := 0
  /-- row delay d_r (R33) -/
  delay : Nat := 0
  /-- fine offset in 1/1,024 line (R161) -/
  fine : Int := 0
  /-- waveform row group (R194) -/
  group : Nat := 0
  deriving DecidableEq, Repr

/-- A row set: its plane and its members (port, row) in rotation order (R31, R35). -/
structure RowSet where
  plane : Nat := 0
  members : List (Nat × Nat) := []
  deriving DecidableEq, Repr

/-- The delay ring of a row (R42): first block, depth D_r in lines, slot size S_r in blocks. -/
structure Ring where
  port : Nat := 0
  row : Nat := 0
  base : Nat := 0
  depth : Nat := 1
  slot : Nat := 1
  deriving DecidableEq, Repr

/-- The geometry (R29 to R42). -/
structure Geo where
  /-- declared planes, keyed 0 to 15 (R36) -/
  planes : Tbl Plane := {}
  /-- row table entries, ascending (port, row) (R34, R37) -/
  rows : List RowEntry := []
  /-- row sets (R35) -/
  sets : List RowSet := []
  /-- rings as placed at the last commit or remap (R42) -/
  rings : List Ring := []
  deriving DecidableEq, Repr

/-- One Cellar channel's hidden state; the rest of it stands in its registers (R55, R59, R62). -/
structure Chan where
  /-- lanes corrected in the last 1,024 corrected codewords, newest first (R55) -/
  history : List (List Nat) := []
  /-- consecutive probe failures (R62) -/
  probeFails : Nat := 0
  /-- times of uncorrectable reads in the last 1 ms (R62) -/
  uncorrAt : List Nat := []
  /-- block read by scrub whose write-back is outstanding, with its corrected codeword (R59) -/
  scrub : Option (Nat × Codeword) := none
  /-- scrub passes completed (SCRUB_STATUS) -/
  passes : Nat := 0
  /-- blocks read and written since the last 100 µs boundary (BW_READ, BW_WRITE) -/
  reads : Nat := 0
  writes : Nat := 0
  deriving DecidableEq, Repr

/-- The Cellar (R40 to R67). -/
structure Cellar where
  /-- stored codewords by logical block; an unlisted block holds the codeword of 64 zero bytes -/
  words : Tbl Codeword := {}
  /-- channel states, keyed 0 to 11 -/
  chan : Tbl Chan := {}
  /-- the channels of the layout in force, ascending (R40) -/
  layout : List Nat := []
  deriving DecidableEq, Repr

/-- What STREAM_OPEN binds (R69, R107). -/
structure Binding where
  track : Nat := 0
  bits : Nat := 1
  underrunStop : Bool := false
  planeMask : Nat := 0
  decomp : Nat := 0xFF
  priority : Nat := 4
  firstColumn : Nat := 0
  columnCount : Nat := 1
  barOffset : Nat := 0
  ringSize : Nat := 1024
  ringAddr : Nat := 0
  wbAddr : Nat := 0
  /-- low and high water marks in KiB (R81) -/
  low : Nat := 64
  high : Nat := 192
  deriving DecidableEq, Repr

/-- One buffer in a stream's staging queue: bytes not yet decoded, and whether more will arrive (R77, R79). -/
structure QBuf where
  descIndex : Nat := 0
  bytes : List Byte := []
  /-- bytes of the buffer not yet consumed, arrived or not -/
  left : Nat := 0
  /-- bytes of a lost packet still to be dropped as they arrive (R102) -/
  skip : Nat := 0
  /-- a word of the packet at its front was read uncorrectable (R396) -/
  bad : Bool := false
  deriving DecidableEq, Repr

/-- The buffer being fetched by a stream channel (R78, R79). -/
structure Fetch where
  descIndex : Nat := 0
  addr : Nat := 0
  len : Nat := 0
  /-- bytes for which bursts have been issued -/
  issued : Nat := 0
  /-- bytes whose bursts have completed -/
  done : Nat := 0
  /-- lengths of the bursts in flight, oldest first -/
  flight : List Nat := []
  /-- the rest is discarded (R78, R89, R93) -/
  discard : Bool := false
  deriving DecidableEq, Repr

/-- The state of one plane of a stream (R88, R90, R94, R98, R103). -/
structure PlaneSt where
  /-- last line handled, none when line 0 is expected (R90, R92) -/
  last : Option Nat := none
  /-- the reference line's levels; none for a blank one (R88) -/
  ref : Option (List Nat) := none
  /-- the reference was handed blank for a fault or an underrun (R96) -/
  refFault : Bool := false
  /-- END_OF_JOB received (R98) -/
  eoj : Bool := false
  /-- an underrun was declared since a packet was last accepted (R90) -/
  underSince : Bool := false
  /-- the next gap counts whatever GAP_OK says (R94, R102) -/
  gapMark : Bool := false
  /-- lines stored: W_stored is this value less 1 (R103) -/
  storedEnd : Nat := 0
  /-- W_next of the earliest-firing row (R103) -/
  next : Nat := 0
  /-- the plane's last write line of the job, once END_OF_JOB came (R72) -/
  lastWrite : Option Nat := none
  deriving DecidableEq, Repr

/-- One fault record of a stream's log (R107, R110). -/
structure FaultRec where
  kind : Nat := 0
  plane : Nat := 0xFF
  desc : Nat := 0
  time : Nat := 0
  line : Nat := 0xFFFFFFFFFFFF
  deriving DecidableEq, Repr

/-- One decompressor, beside its registers (R101, R102): the last stream served, and the packet in progress with the
time at which it was taken. -/
structure Decomp where
  served : Nat := 127
  busy : Option (Nat × Nat) := none
  deriving DecidableEq, Repr

/-- One write-back due (R79): descriptor index, HEAD, LAST_SEQ and CONSUMED after it, and whether it may be made. -/
structure WriteBack where
  desc : Nat := 0
  head : Nat := 0
  lastSeq : Nat := 0
  consumed : Nat := 0
  ready : Bool := true
  deriving DecidableEq, Repr

/-- One stream (R69 to R110). -/
structure Stream where
  /-- 0 CLOSED, 1 OPEN, 2 DRAINED, 3 STOPPED -/
  st : Nat := 0
  bind : Binding := {}
  /-- decompressor assigned at SYS_COMMIT (R100) -/
  decomp : Nat := 0
  head : Nat := 0
  tail : Nat := 0
  consumed : Nat := 0
  /-- expected sequence number (R76) -/
  seqExpect : Option Nat := none
  /-- SEQ of the last descriptor read since STREAM_OPEN (R108) -/
  lastSeq : Nat := 0
  /-- staging queue, oldest buffer first -/
  queue : List QBuf := []
  fetch : Option Fetch := none
  /-- gate open (R81) -/
  gate : Bool := false
  /-- retry time of a failed descriptor read (R78) -/
  retryAt : Option Nat := none
  /-- write-backs due, in order of consumption (R79) -/
  wb : List WriteBack := []
  /-- the twelve query counters of R107, UNDERRUN first -/
  ctr : List Nat := List.replicate 12 0
  /-- fault log, oldest first, at most 16 (R110) -/
  log : List FaultRec := []
  planes : Tbl PlaneSt := {}
  /-- least runway since the last JOB_START -/
  minRunway : Nat := 0
  /-- MARKER lines waiting for their first fetch: plane, write line, image line, MARKER_ID (R99) -/
  markers : List (Nat × Nat × Nat × Nat) := []
  deriving DecidableEq, Repr

/-- A line handed to the line engines and not yet begun (R89, R97, R111). -/
structure Handed where
  stream : Nat := 0
  plane : Nat := 0
  line : Nat := 0
  /-- levels by column of the window; none for a line handed blank -/
  levels : Option (List Nat) := none
  /-- the blank line stands for a fault, not an allowed gap (R24, R25) -/
  faulty : Bool := false
  deriving DecidableEq, Repr

/-- A line begun by the engines whose block writes have not all returned (R103, R114, R129). -/
structure InFlight where
  stream : Nat := 0
  plane : Nat := 0
  /-- image line -/
  line : Nat := 0
  /-- state epoch taken when the first engine began it (R114) -/
  epoch : Nat := 0
  /-- when it was begun -/
  since : Nat := 0
  /-- handed blank (R112), for a fault (R24) -/
  blank : Bool := false
  faulty : Bool := false
  /-- the engines online when it was begun, ascending (R127), and those lost since (R132) -/
  engines : List Nat := []
  lost : List Nat := []
  /-- per column of the window: code after step 1, and the member that prints it after step 3 (port, row, index) -/
  codes : List Nat := []
  members : List (Option (Nat × Nat × Nat)) := []
  /-- the sources of step 4 with their targets, as columns of the window (R123) -/
  sources : List (Nat × Option Nat) := []
  /-- size-boost table and whether neighbour spread is enabled -/
  boost : List Nat := []
  /-- substitutions of each engine (R121) -/
  subs : Tbl Nat := {}
  deriving DecidableEq, Repr

/-- What a slot of a delay ring holds, beside its codes (R115, R132, R133). -/
structure StoredLine where
  /-- write line W; 2^48: the slot holds no line -/
  w : Nat := 0x1000000000000
  /-- state epoch under which it was processed (R115) -/
  epoch : Nat := 0
  /-- codes of the slot stand blank for a fault, on all of its nozzles or on a part of them (R24) -/
  faulty : Bool := false
  deriving DecidableEq, Repr

/-- A redundancy tile (R117 to R120). -/
structure Tile where
  /-- 1 host, 2 generated -/
  source : Nat := 1
  tw : Nat := 1
  th : Nat := 1
  modulus : Nat := 0
  seed : Nat := 0
  deriving DecidableEq, Repr

/-- A plane's tables in the line engines (R116 to R125, R135). -/
structure LinePlane where
  remap : Option (List Nat) := none
  boost : Option (List Nat) := none
  subst : Bool := true
  spread : Bool := true
  tile : Option Tile := none
  deriving DecidableEq, Repr

/-- The line engines' hidden state (R111 to R134). -/
structure Lines where
  planes : Tbl LinePlane := {}
  handed : List Handed := []
  inFlight : List InFlight := []
  /-- by row and slot of its ring -/
  stored : Tbl StoredLine := {}
  /-- image lines (plane, line) already counted in MASK_ZERO -/
  maskZero : List (Nat × Nat) := []
  /-- busy ns of each engine since the last 100 µs boundary -/
  busy : Tbl Nat := {}
  /-- state epoch in use (LINE_QUERY) -/
  epochInUse : Nat := 0
  deriving DecidableEq, Repr

/-- State of an encoder's estimator (R149). -/
inductive EstState where
  | off | acquiring | locked
  deriving DecidableEq, Repr

/-- One encoder front end and its tracker (R139 to R153). -/
structure Enc where
  est : EstState := .off
  /-- position in 1/65,536 count -/
  x : Int := 0
  /-- velocity in counts per ns, exact -/
  v : Rat := 0
  /-- t_prev in 1/2 ns of the interval clock -/
  tPrev : Int := 0
  rejects : Nat := 0
  run : Nat := 0
  /-- a sample has been taken since the start -/
  started : Bool := false
  /-- quadrature count and filtered levels of A, B, Z (R142); for an absolute encoder `b` is the data line -/
  count : Int := 0
  a : Bool := false
  b : Bool := false
  z : Bool := false
  /-- nW was low in the last sample (R145) -/
  warn : Bool := false
  /-- cause of an INPUT fault present (R148) -/
  inputFault : Bool := false
  /-- watchdog: start of the running interval, and an expiry whose late sample has not come (R151) -/
  wdFrom : Nat := 0
  wdLate : Bool := false
  /-- next SSI or BiSS-C reading is due at (R144) -/
  readAt : Nat := 0
  deriving DecidableEq, Repr

/-- A committed line (R157): line, t_L in ns, T_L in 1/65,536 ns, the instant at which it was learned. -/
structure CLine where
  line : Nat := 0
  tl : Int := 0
  interval : Nat := 0
  tc : Nat := 0
  /-- its instant has been given (R157) -/
  given : Bool := false
  deriving DecidableEq, Repr

/-- One track (R136 to R171, R295, R307). Its times are device times. -/
structure Track where
  /-- 0 IDLE, 1 RUNNING, 2 STOPPING, 3 FAULTED -/
  st : Nat := 0
  cause : Nat := 0
  stopLine : Option Nat := none
  tStart : Nat := 0
  /-- X0 in counts, exact (R155) -/
  x0 : Rat := 0
  nextLine : Nat := 0
  /-- t_L of the line before (R156) -/
  tPrevLine : Option Int := none
  /-- position_max in counts, exact (R156) -/
  posMax : Rat := 0
  /-- exact instant of the last clocked line in ns (R158) -/
  clockAcc : Option Rat := none
  /-- committed lines still needed, oldest first; and the last one committed -/
  lines : List CLine := []
  last : Option CLine := none
  /-- missing lines of a ring track (R295), and those Dropped as missing -/
  missing : List Nat := []
  gone : List Nat := []
  /-- the last line whose instant was given (R157) -/
  lastInstant : Option CLine := none
  /-- the monitor's X0 (R159), set at t_0; MISMATCH has arisen since JOB_START (R304) -/
  monX0 : Option Rat := none
  mismatch : Bool := false
  /-- late and dropped counts since the last JOB_START -/
  lateJob : Nat := 0
  dropJob : Nat := 0
  lastOver : Option Nat := none
  /-- last toll: recognition time and CLOCKED flag (R304, R307) -/
  lastToll : Option Nat := none
  lastClocked : Bool := false
  /-- a track of SOURCE 3 that this device continues after a take-over (R307) -/
  continued : Bool := false
  deriving DecidableEq, Repr

/-- One line trigger (R182): pulses still to come (line, start), and the end of the pulse in progress. -/
structure LTrig where
  pulses : List (Nat × Int) := []
  until_ : Int := 0
  deriving DecidableEq, Repr

/-- The speed governor (R172 to R178). -/
structure Governor where
  p : Nat := 0
  lastChange : Nat := 0
  lastEval : Nat := 0
  overLimit : Nat := 16
  lastOver : Option Nat := none
  /-- an overspeed event has been recognised since the last evaluation -/
  overSince : Bool := false
  /-- frames sent since the full reset: COUNTER of the next serial frame -/
  counter : Nat := 0
  minP : Nat := 16
  /-- PACE is high until this time -/
  paceUntil : Nat := 0
  /-- the serial frame being sent and its start -/
  frame : Option (Nat × Nat) := none
  /-- line triggers (R182) -/
  ltrig : Tbl LTrig := {}
  deriving DecidableEq, Repr

/-! ### The Peal ring (R279 to R316) -/

/-- One Peal port, beside its registers. -/
structure PealPort where
  /-- block lock held since -/
  lockAt : Option Nat := none
  /-- SYNC exchanges: δ and θ in ns, newest first, at most 8; T1 of the request outstanding (R291) -/
  sync : List (Nat × Int) := []
  t1 : Option Nat := none
  /-- when any frame last arrived, and the CRC errors of the last 1 ms (R281) -/
  lastRx : Nat := 0
  crcAt : List Nat := []
  upAt : Nat := 0
  /-- it was UP in the discovered topology (R315) -/
  formed : Bool := false
  /-- last chime of the master and of the deputy, and the restart of the deputy's chime timer (R305) -/
  masterChime : Option Nat := none
  deputyChime : Option Nat := none
  timerFrom : Nat := 0
  deriving DecidableEq, Repr

/-- A device in the master's ring table (R289). -/
structure RingDev where
  id : Nat := 0
  role : Nat := 0
  mode : Nat := 0
  /-- FLAGS of its last STATUS, and FETCH_MAX in µs -/
  flags : Nat := 0
  fetchMax : Nat := 0
  /-- when its last STATUS came; none: not present -/
  seen : Option Nat := none
  /-- hops that its last STATUS travelled -/
  hops : Option Nat := none
  deriving DecidableEq, Repr

/-- What a device has been offered in a discovery round and holds from DONE on (R286). -/
structure Offer where
  round : Nat := 0
  id : Nat := 0
  master : Nat := 0
  port : Nat := 0
  path : Nat := 0
  hops : Nat := 0
  deriving DecidableEq, Repr

/-- A REPORT of an evaluation (R309). -/
structure Report where
  eval : Nat := 0
  p : Nat := 16
  incomplete : Bool := false
  lowest : Nat := 0
  reason : Nat := 0
  deriving DecidableEq, Repr

/-- What a failed round gives back to the master (R287, R303): its place, TOTAL, ring table and ring registers. -/
structure Former where
  place : Offer := {}
  total : Nat := 0
  table : List RingDev := []
  regs : List (Nat × Word) := []
  deriving DecidableEq, Repr

/-- The Peal engine, beside its registers. -/
structure Peal where
  ports : Tbl PealPort := {}
  /-- SEQ of the next frame of each type, and the last SEQ accepted by source and type (R284) -/
  seqOut : Tbl Nat := {}
  seqIn : Tbl (Option Nat) := {}
  /-- on the master, the start of the round in progress -/
  roundAt : Option Nat := none
  offer : Option Offer := none
  /-- on the master, the ID in the END of the PB side, and what it held before the round (R286, R287) -/
  pbLast : Nat := 0
  former : Former := {}
  /-- the assignment in force (R286) -/
  place : Offer := {}
  /-- TOTAL in ps, 0 in a chain -/
  total : Nat := 0
  table : List RingDev := []
  /-- L_local of the last evaluations, newest first, at most 20; those whose REPORT is not yet sent (R309) -/
  locals : List Report := []
  unsent : List Nat := []
  /-- the newest REPORTs of each child, by source (R309, R310) -/
  reports : Tbl (List Report) := {}
  /-- ring value as last received, and when a RING frame was last recognised (R311) -/
  ringNext : Nat := 0
  ringAt : Option Nat := none
  /-- the last RING frame as received, and when this device took over (R306) -/
  ringRep : Report := {}
  tookAt : Option Nat := none
  /-- CLAPPER_N: accepted level, since when; whether this device drives it low (R301, R302) -/
  released : Bool := false
  clapperSince : Nat := 0
  held : Bool := false
  /-- the master is waiting to claim since (R303); it has released the line as master (R302) -/
  claimFrom : Option Nat := none
  silenced : Bool := false
  /-- holdover since (R293) -/
  holdFrom : Option Nat := none
  /-- counter bits of HOLDOVER_US: when it was last counted -/
  holdCounted : Nat := 0
  /-- chimes of the master were lost, of the deputy were lost: already reported (R308) -/
  pairLost : Bool := false
  deputyLost : Bool := false
  deriving DecidableEq, Repr

/-- Device time against the interval clock (R292): the step made at DONE, and the offset still to be removed by slewing
since a time, both in ns. -/
structure Clock where
  off : Int := 0
  left : Int := 0
  since : Nat := 0
  deriving DecidableEq, Repr

/-- One waveform (R189, R191). -/
structure Wave where
  startLevel : Nat := 0
  /-- segments: END_LEVEL, DURATION -/
  segs : List (Nat × Nat) := []
  energy : Nat := 0
  deriving DecidableEq, Repr

/-- The waveform data of one port (R189 to R216). Its trims stand in the Cellar's table area. -/
structure WavePort where
  waves : Tbl Wave := {}
  /-- temperature tables: points TEMP, SCALE (R200) -/
  temps : Tbl (List (Int × Nat)) := {}
  /-- maps by row group, 16 entries each; unlisted: every entry 0xFF -/
  maps : Tbl (List Nat) := {}
  /-- POWER_MAX in 0.1 W, 0 not configured (R215) -/
  powerMax : Nat := 0
  step : Nat := 0
  /-- scales in force; unlisted: 32,768 (R206) -/
  scales : Tbl Nat := {}
  /-- waveforms whose scale has been pushed and not yet sent to the head (R205) -/
  pushed : List Nat := []
  /-- E_AVG in 0.01 nJ and DEMAND in 0.01 nW, exact, of the last window (R216) -/
  eAvg : Rat := 0
  demand : Rat := 0
  /-- amplitude trims and nozzle timing trims have been loaded (R199, R186) -/
  ampLoaded : Bool := false
  timeLoaded : Bool := false
  /-- the master copies of the tables stand in the Cellar: not so after a remap until a reload (R65, R219) -/
  master : Bool := true
  deriving DecidableEq, Repr

/-- The waveform that a waveform port sends (R210, R212): its ID, levels and scale, t_0, and when it was abandoned. -/
structure WaveOut where
  id : Nat := 0
  wave : Wave := {}
  scale : Nat := 32768
  t0 : Int := 0
  stop : Option Int := none
  deriving DecidableEq, Repr

/-- Messages of the head link (R243). -/
inductive Msg where
  | line (l row start count : Nat) (codes : List Nat)
  | fireAt (l : Nat) (time : Int) (interval : Nat) (rows : List (Nat × Int))
  | cfgWrite (space applyLine : Nat) (data : List Byte)
  | cfgRead (space count offset : Nat)
  | waveLoad (slot : Nat) (w : Wave)
  | trimLoad (kind start : Nat) (trims : List Int)
  | timeSync (t1 : Nat)
  | idRead
  | authChal (nonce : Nat)
  | usageRead
  | usageAdd (units newCount : Nat) (mac : List Byte)
  | ack (seq : Nat)
  | nak (seq : Nat)
  deriving DecidableEq, Repr

/-- A sequenced frame of a port: kept in the replay buffer until acknowledged (R238 to R247). -/
structure OutFrame where
  seq : Nat := 0
  msg : Msg := .idRead
  blank : Bool := false
  /-- end of its latest transmission, none while it waits to be resent (R240) -/
  sentAt : Option Nat := none
  retries : Nat := 0
  expired : Bool := false
  /-- deadline of a LINE or FIRE_AT frame (R245) -/
  deadline : Option Int := none
  /-- whose answer is awaited: 0 nobody's, 1 LOADING, 2 a porch command (R221, R250), 3 usage (R254) -/
  tag : Nat := 0
  /-- its ACK timer has expired, or it is waiting to be resent (R240, R242) -/
  resend : Bool := false
  deriving DecidableEq, Repr

/-- A head descriptor (R249, R250). -/
structure Descriptor where
  maker : Nat := 0
  model : Nat := 0
  gen : Nat := 0
  rows : Nat := 0
  nozzles : Nat := 0
  maxRate : Nat := 0
  bitsMask : Nat := 0
  waveCap : Nat := 0
  heads : Nat := 0
  flags : Nat := 0
  serial : Nat := 0
  latency : Nat := 0
  rates : Nat := 0
  fwVersion : Nat := 0
  /-- the 64 bytes as received -/
  raw : List Byte := []
  deriving DecidableEq, Repr

/-- What a port's fetch decided for one line, and what has become of it (R24, R164 to R167, R244, R554). -/
structure PortLine where
  track : Nat := 0
  line : Nat := 0
  /-- t_L and T_L of the line (R157) -/
  tl : Int := 0
  interval : Nat := 0
  /-- port fire instant f (R165) -/
  f : Int := 0
  /-- earliest and latest row instant of the port for the line -/
  first : Int := 0
  last : Int := 0
  /-- 1 Fired, 2 Fired late, 3 Fired blank, 4 Dropped, 5 Cut (R24) -/
  outcome : Nat := 1
  /-- rows that fire: row, instant (R162), codes sent, index 0 first -/
  rows : List (Nat × Int × List Nat) := []
  /-- E_line in 0.01 nJ (R214) -/
  energy : Nat := 0
  /-- a firing of a maintenance activity (R257) -/
  maint : Bool := false
  /-- the fire instant has passed; the outcome is final and counted (R25) -/
  started : Bool := false
  ended : Bool := false
  /-- counted already under R246, and under R247 -/
  blanked : Bool := false
  /-- HL-1: shifted, latched, the waveform sent with its scale, the end of that waveform (R205, R230, R231) -/
  shifted : Bool := false
  latched : Bool := false
  wave : Option (Nat × Nat) := none
  waveEnd : Int := 0
  /-- HL-2: row instants whose strobe has been sent (R236) -/
  strobes : List Int := []
  deriving DecidableEq, Repr

/-- A maintenance activity (R256 to R258, R264 to R266). -/
structure Maint where
  /-- 0 spit, 1 purge, 2 pattern, 3 learning -/
  kind : Nat := 0
  code : Nat := 0
  rows : List Nat := []
  rate : Nat := 1
  startAt : Nat := 0
  /-- firings made and firings in all -/
  fired : Nat := 0
  total : Nat := 0
  /-- pattern records: for each record the codes of each row (row, codes) -/
  pattern : List (List (Nat × List Nat)) := []
  cls : Nat := 0
  deriving DecidableEq, Repr

/-- Usage count and authentication of a port (R252 to R255). -/
structure Usage where
  /-- 0 NOT_SUPPORTED, 1 PASS, 2 FAIL, 3 NO_KEY -/
  auth : Nat := 0
  /-- CONSKEY slot of the head, and its policy -/
  slot : Nat := 0
  refuse : Bool := false
  /-- COUNT last confirmed, NONCE_H last received -/
  count : Nat := 0
  nonceH : Nat := 0
  /-- what the head still has to answer, oldest first: none for a USAGE_READ, UNITS, NEW_COUNT and whether the USAGE_ADD
  has been refused for a USAGE_ADD -/
  asked : List (Option (Nat × Nat)) := []
  /-- drops not yet confirmed, and drops since reset -/
  accrued : Nat := 0
  total : Nat := 0
  /-- the last USAGE_READ of the 60 s period -/
  readAt : Nat := 0
  /-- REFUSED with code 8 at the next line boundary (R255) -/
  refuseDue : Bool := false
  deriving DecidableEq, Repr

/-- One temperature reading (R201, R470): its value in 1/16 °C, its fault flag, and when it came. -/
structure Reading where
  temp : Int := 0
  fault : Bool := false
  at_ : Option Nat := none
  deriving DecidableEq, Repr

/-- The temperature of a head port (R470 to R477). -/
structure HeadTherm where
  /-- limits in °C (R473) -/
  warn : Nat := 55
  throttle : Nat := 60
  limit : Nat := 70
  /-- readings of the heads, by head -/
  readings : Tbl Reading := {}
  /-- k_t, and its value at the latest fetch (R473, R474) -/
  kt : Nat := 0
  ktFetch : Nat := 0
  /-- a cut is in force, its cause: 0 T_cut, 1 TEMP_LOST (R475, R477) -/
  cut : Bool := false
  cause : Nat := 0
  /-- T_head has been below T_cut − HYST since; the last time at which a reading was valid -/
  coolFrom : Option Nat := none
  validEnd : Nat := 0
  warned : Bool := false
  deriving DecidableEq, Repr

/-- One head port (R223 to R258). -/
structure Port where
  /-- HL-1 parameters of HEAD_CONFIG (R256) -/
  clockMhz : Nat := 100
  latchNs : Nat := 0
  nozzles : Nat := 0
  rowsCfg : Nat := 0
  bitsMask : Nat := 0
  maxRate : Nat := 0
  /-- state of R226: 0 OFF to 8 REFUSED -/
  st : Nat := 0
  /-- entered the state at -/
  since : Nat := 0
  /-- out lanes reported locked, bit 0 TXA, bit 1 TXB -/
  lanes : Nat := 0
  /-- consecutive STATUS frames reporting one lane unlocked (R251) -/
  laneBad : Nat := 0
  fMax : Nat := 0
  desc : Option Descriptor := none
  /-- SERIAL at the previous link-up since SYS_COMMIT (R229) -/
  lastSerial : Option Nat := none
  /-- next out SEQ, next expected in SEQ, NAK outstanding (R238, R239) -/
  outSeq : Nat := 0
  inSeq : Nat := 0
  nakOut : Bool := false
  /-- acknowledgements owed -/
  owed : List Msg := []
  /-- replay buffer, oldest first -/
  replay : List OutFrame := []
  /-- queues: line messages in order, and every other message (R244) -/
  lineQ : List OutFrame := []
  otherQ : List OutFrame := []
  /-- frames released by an ACK whose replay goes on (R242), and a replay is under way -/
  ghosts : List OutFrame := []
  replayOn : Bool := false
  failures : Nat := 0
  /-- last time any frame arrived on AUX -/
  lastRx : Nat := 0
  /-- TIME_SYNC: exchanges θ, δ newest first; θ and δ in force (R248, R249) -/
  sync : List (Int × Int) := []
  theta : Int := 0
  delta : Int := 0
  /-- authentication: NONCE_D sent, and stage 0 none, 1 challenge sent, 2 usage asked (R253) -/
  nonceD : Nat := 0
  authStage : Nat := 0
  usage : Usage := {}
  /-- frames whose STATUS is awaited: SEQ and tag of R221 and R250; messages not yet sent count too -/
  waits : List (Nat × Nat) := []
  /-- a message of a porch command has been refused (R221) -/
  refused : Bool := false
  /-- the end of the transmission under way (R244), next periodic TIME_SYNC (R249) -/
  busyUntil : Int := 0
  syncAt : Nat := 0
  /-- the loading is under way, a configuration being committed (R226); TIME_SYNC exchanges made in it (R249) -/
  loading : Bool := false
  syncs : Nat := 0
  therm : HeadTherm := {}
  /-- counts since reset: RETRY, NAK, TIMEOUT, LATE_ACK, BLANK, DROPPED, LINK_DOWN, STROBE_SLIP (R256) -/
  counts : List Nat := List.replicate 8 0
  /-- lines fetched, oldest first; end of the last strobe (R236) -/
  lines : List PortLine := []
  strobeEnd : Int := 0
  /-- end of the last HL-1 latch pulse (R231) -/
  latchEnd : Int := 0
  fPrev : Option Int := none
  /-- T_L of the line fired at f_prev (R166) -/
  intervalPrev : Nat := 0
  /-- greatest and least FINE + 4 TRIM over the committed nozzles, in 1/1,024 line (R166) -/
  coefMax : Int := 0
  coefMin : Int := 0
  /-- last track line fetched since the track started (R44) -/
  fetched : Option Nat := none
  maint : Option Maint := none
  deriving DecidableEq, Repr

/-! ### Nozzle watch (R259 to R278) -/

/-- A change of a nozzle's state not yet published (R272): cause 0 sensed, 1 host, 2 auto-recovery, 3 bank. -/
structure WatchChange where
  nozzle : Nat := 0
  old : Nat := 0
  new : Nat := 0
  cause : Nat := 0
  /-- track line of the deciding sample; none for a host or bank change -/
  line : Option Nat := none
  at_ : Nat := 0
  deriving DecidableEq, Repr

/-- A record of the watch log (R277, R278). -/
structure WatchRec where
  nozzle : Nat := 0
  old : Nat := 0
  new : Nat := 0
  cause : Nat := 0
  epoch : Nat := 0
  line : Option Nat := none
  ms : Nat := 0
  deriving DecidableEq, Repr

/-- A nozzle's sample history, newest first, outliers true, and its run of clean samples (R269). -/
structure WatchHist where
  last : List Bool := []
  run : Nat := 0
  deriving DecidableEq, Repr

/-- A learning accumulator (R265): samples, the sum of each feature, the first phase. -/
structure Learned where
  n : Nat := 0
  amp : Nat := 0
  freq : Nat := 0
  decay : Nat := 0
  /-- sum of the unwrapped phases -/
  phase : Int := 0
  firstPhase : Nat := 0
  /-- the reference has been written -/
  done : Bool := false
  deriving DecidableEq, Repr

/-- The nozzle watch beside its registers. -/
structure Watch where
  /-- states by global nozzle ID as published: 0 GOOD, 1 SUSPECT, 2 OUT, 3 HOST_DISABLED -/
  states : Tbl Nat := {}
  hist : Tbl WatchHist := {}
  batch : List WatchChange := []
  /-- the log, oldest first, at most 64 -/
  log : List WatchRec := []
  /-- cover list by port: nozzle ID and epoch (R276) -/
  cover : Tbl (List (Nat × Nat)) := {}
  /-- accumulators of the nozzles being learned, by nozzle ID -/
  learned : Tbl Learned := {}
  deriving DecidableEq, Repr

/-! ### The Pantry's patrol and power, the Dumbwaiter's general channels (R391 to R430) -/

/-- An access of a bank's owner that waits for the bank to wake (R397): a read of the word at an address, or a write of
the bytes of it that a mask of eight enables. -/
structure BankAccess where
  addr : Nat := 0
  /-- the decompressor that makes it, in a staging bank -/
  user : Nat := 0
  write : Bool := false
  enables : Nat := 0
  data : Nat := 0
  deriving DecidableEq, Repr

/-- One Pantry bank beside its registers and its contents (R394 to R406). -/
structure Bank where
  /-- last access, and the time at which a wake or a fill ends -/
  lastUse : Nat := 0
  wakeAt : Option Nat := none
  fillAt : Option Nat := none
  /-- accesses waiting for the wake, oldest first -/
  queue : List BankAccess := []
  /-- next segment cycle is due at; next segment to visit -/
  cycleAt : Nat := 0
  next : Nat := 0
  /-- the phase in progress began at; the march test of this cycle has found the bank's first fault (R405) -/
  phaseAt : Nat := 0
  fault : Bool := false
  deriving DecidableEq, Repr

/-- One level of LOOP (R413). -/
structure Loop where
  first : Nat := 0
  last : Nat := 0
  iter : Nat := 0
  count : Nat := 1
  srcStep : Int := 0
  dstStep : Int := 0
  deriving DecidableEq, Repr

/-- A move-type instruction or a register-mode transfer under way (R411, R412, R427). -/
structure Moving where
  /-- slot, its length in slots, iteration of the innermost loop, and a number for it among the channel's -/
  slot : Nat := 0
  width : Nat := 1
  iter : Nat := 0
  serial : Nat := 0
  /-- OP as in R411 -/
  op : Nat := 1
  total : Nat := 0
  /-- bytes for which bursts have been issued -/
  issued : Nat := 0
  /-- spaces of the two sides, the offsets at which they begin, line strides and lengths -/
  srcSpace : Nat := 0
  dstSpace : Nat := 0
  src : Int := 0
  dst : Int := 0
  srcStride : Int := 0
  srcLen : Nat := 0
  dstStride : Int := 0
  dstLen : Nat := 0
  /-- the 8-byte pattern of a FILL -/
  pattern : List Byte := []
  /-- copy from the end downward (R424) -/
  descend : Bool := false
  /-- one destination line at a time (R425) -/
  lineByLine : Bool := false
  deriving DecidableEq, Repr

/-- A burst in flight (R407, R417, R420): its read is outstanding, or its data have come and its write is. -/
structure Burst where
  slot : Nat := 0
  iter : Nat := 0
  serial : Nat := 0
  op : Nat := 1
  /-- offset in the instruction's stream, and length -/
  off : Nat := 0
  len : Nat := 0
  srcSpace : Nat := 0
  dstSpace : Nat := 0
  src : Nat := 0
  dst : Nat := 0
  data : Option (List Byte) := none
  deriving DecidableEq, Repr

/-- A WAIT under way (R419): line, deadline, and whether a pulse that completes it has been recognised. -/
structure Waiting where
  line : Nat := 0
  deadline : Option Nat := none
  seen : Bool := false
  deriving DecidableEq, Repr

/-- A general channel beside its registers (R407 to R429). -/
structure GenChan where
  /-- a run of a program is under way -/
  running : Bool := false
  /-- loops entered, the innermost first -/
  loops : List Loop := []
  cur : Option Moving := none
  flight : List Burst := []
  serial : Nat := 0
  waiting : Option Waiting := none
  /-- latched event lines -/
  latches : Nat := 0
  /-- the line of an expired WAIT whose late pulse has not come -/
  expired : Option Nat := none
  /-- a FENCE, a SIGNAL with SETTLE or a transfer with SETTLE waits since; the line that a SIGNAL will pulse -/
  settleFrom : Option Nat := none
  settleLine : Option Nat := none
  /-- BAD, MISMATCH and the cause of each slot over the iterations of the run, as in its STATUS byte (R414) -/
  sticky : Tbl Nat := {}
  /-- instructions marked BAD, and the one that FAULT shows, by their numbers (R415) -/
  bads : List Nat := []
  faultOf : Option Nat := none
  /-- the instruction whose first difference MISMATCH holds (R423) -/
  misOf : Option Nat := none
  deriving DecidableEq, Repr

/-! ### Porches, events, host memory, interrupts (R317 to R355, R503) -/

/-- A command whose checks have passed and whose apply point has not been reached (R329). -/
structure Staged where
  op : Nat := 0
  rq : Req := {}
  /-- when its doorbell, or its TUNNEL frame, was recognised, and its deadline, on the interval clock (R328) -/
  rungAt : Nat := 0
  due : Nat := 0
  /-- the table fetched from host memory (R329, R343) -/
  bulk : Option (List Byte) := none
  /-- contents staged on the head of its port (R221) -/
  sent : Bool := false
  /-- its effect has begun and its response follows when that ends (R451) -/
  applied : Bool := false
  deriving DecidableEq, Repr

/-- What a command to other devices still waits for (R312, R332 to R338). -/
structure Remote where
  op : Nat := 0
  rq : Req := {}
  target : Nat := 0
  due : Nat := 0
  /-- the targets, this device first where it is one, the others ascending, each with the status and payload it answered -/
  entries : List (Nat × Option (Nat × List Byte)) := []
  /-- a PREPARE has failed: ABORT has been sent, and these devices have not yet acknowledged it (R338) -/
  aborting : Option (List Nat) := none
  deriving DecidableEq, Repr

/-- One porch, beside its registers and its RAM (R317 to R330). -/
structure PorchSt where
  /-- SEQ written to DOORBELL, and when it was recognised, on the interval clock -/
  rungSeq : Nat := 0
  rungAt : Nat := 0
  staged : Option Staged := none
  remote : Option Remote := none
  /-- the response to the last command that passed step 4, header and payload (R325) -/
  last : List Byte := []
  deriving DecidableEq, Repr

/-- A prepared change: its key (origin, porch), its command with the bulk data already fetched, and the time of its
response (R337). -/
structure Prepared where
  origin : Nat := 0
  porch : Nat := 0
  op : Nat := 0
  rq : Req := {}
  bulk : List Byte := []
  /-- contents staged on the head of its port -/
  sent : Bool := false
  since : Nat := 0
  deriving DecidableEq, Repr

/-- Host memory as the device's reads find it; a byte that is not listed reads 0. Reads that touch a range of `badRead`
and writes that touch a range of `badWrite` fail (R414). -/
structure HostMem where
  mem : Tbl Byte := {}
  badRead : List (Nat × Nat) := []
  badWrite : List (Nat × Nat) := []
  deriving DecidableEq, Repr

/-- The MSI-X table as words, and the capability's enable and function mask (R503, R543). -/
structure Msix where
  table : Tbl Word := {}
  enable : Bool := false
  mask : Bool := false
  deriving DecidableEq, Repr

/-- One event of the health event queue: raise or clear, code, instance (R497). -/
structure HealthEvent where
  raised : Bool := true
  code : Nat := 0
  inst : Nat := 0
  deriving DecidableEq, Repr

/-- One record of the health log (R498, R506). -/
structure HealthRec where
  index : Nat := 0
  code : Nat := 0
  flags : Nat := 0
  inst : Nat := 0
  ms : Nat := 0
  deriving DecidableEq, Repr

/-- The health block, beside its registers (R490 to R502). -/
structure Health where
  /-- instances present: (code, INSTANCE), ascending -/
  limps : List (Nat × Nat) := []
  /-- events not yet drained, oldest first, at most 256 -/
  queue : List HealthEvent := []
  /-- the most recent records, oldest first, at most 256 -/
  log : List HealthRec := []
  /-- records written since reset -/
  written : Nat := 0
  /-- LIMP_PRESENT as last recorded by the HP (REPORT_SEQ) -/
  recorded : Nat := 0
  /-- last increase of HP_HEARTBEAT, on the interval clock (R500) -/
  beatAt : Option Nat := none
  deriving DecidableEq, Repr

/-- An image section (R363): KIND, OFFSET, LENGTH. -/
structure Section where
  kind : Nat := 0
  offset : Nat := 0
  length : Nat := 0
  deriving DecidableEq, Repr

/-- Start-up and firmware state, beside the registers (R356 to R384). -/
structure Boot where
  /-- READY_FOR_HOST has been posted since reset, and the BOOT_RUN response's time -/
  ready : Bool := false
  ranAt : Nat := 0
  /-- engines whose banks could not be loaded: bit e of 12 line engines, bit 12 + w of the waveform engines (R368) -/
  heldOff : Nat := 0
  /-- LEVEL_MAJOR, LEVEL_MINOR and FW_VERSION of the running image -/
  major : Nat := 0
  minor : Nat := 0
  version : Nat := 0
  development : Bool := false
  /-- DIAGNOSE: writes stored and discarded since entry, channels under host control, time of the last entry (R381) -/
  diagWrites : Nat := 0
  diagDiscarded : Nat := 0
  diagChannels : Nat := 0
  diagEntered : Nat := 0
  deriving DecidableEq, Repr

/-! ### Fuses (R431 to R461) -/

/-- A programming operation under way (R446 to R451, R454 to R456). -/
structure OtpProg where
  word : Nat := 0
  /-- requested 39 bits: data, check bits above them -/
  want : Nat := 0
  rounds : Nat := 0
  /-- 0 OTP_PROGRAM, 1 the registers, 2 OTP_SEAL, 3 OTP_LOCK -/
  via : Nat := 0
  /-- lock copies still to be programmed after this word, with what each must hold -/
  rest : List (Nat × Nat) := []
  /-- the region of a seal or a lock, and the CRC of a seal -/
  region : Nat := 0
  crc : Nat := 0
  /-- the command that awaits the result -/
  rq : Req := {}
  deriving DecidableEq, Repr

/-- The OTP array and its controller, beside the registers. A word's 39 bits are its data and, above them, its check bits. -/
structure Otp where
  /-- what each word reads at the nominal and at the tight reference -/
  cells : Tbl (Nat × Nat) := {}
  /-- what was sensed at the last full reset (R435, R441), nominal and tight -/
  latched : Tbl (Nat × Nat) := {}
  /-- expected values (R440) -/
  expected : Tbl Nat := {}
  /-- words that are marginal until the next full reset (R435, R440) -/
  marginal : List Nat := []
  prog : Option OtpProg := none
  /-- unlock of R452: 0 none, 1 after step 1, 2 unlocked at the time given -/
  unlock : Nat := 0
  unlockAt : Nat := 0
  /-- CHALLENGE of the latest OTP_QUERY and when it was given (R456) -/
  challenge : Option (Nat × Nat) := none
  deriving DecidableEq, Repr

/-! ### Temperature, the Triangle, power and resets (R356 to R358, R385 to R390, R463 to R488, R513 to R528) -/

/-- One Triangle channel beside its registers (R478 to R484). -/
structure TriChan where
  /-- latched cuts, bits as in TRI_CAUSE.CUT -/
  latched : Nat := 0
  /-- accepted E-stop levels have differed since; a discrepancy that awaits both low (1) or both high (2) -/
  discFrom : Option Nat := none
  disc : Nat := 0
  /-- the liveness counter has stood still for 20 µs -/
  stalled : Bool := false
  /-- a clock is outside its tolerance; since when both have been within it again -/
  clockBad : Bool := false
  clockOk : Option Nat := none
  /-- its heartbeat timer has lapsed (R483) -/
  stopped : Bool := false
  /-- its FE or HS has differed from the vote since (R484) -/
  apartFrom : Option Nat := none
  deriving DecidableEq, Repr

/-- Die and thermistor temperatures, the Triangle and its watchdog, beside their registers. -/
structure Therm where
  /-- the 33 temperatures of a thermistor input (R472) -/
  tables : Tbl (List Int) := {}
  /-- consecutive updates of a die sensor more than 20 °C from the median (R464) -/
  apart : Tbl Nat := {}
  /-- when a valid, non-excluded sensor last read above 95 °C (R469) -/
  hotAt : Nat := 0
  /-- channels A, B and C, keyed 0 to 2 -/
  tri : Tbl TriChan := {}
  /-- a Triangle cut is in force (R480) -/
  cut : Bool := false
  /-- start of the watchdog's interval, the last good kick since arming (R481) -/
  wdFrom : Nat := 0
  lastGood : Option Nat := none
  /-- the watchdog's cause: 0 none, 1 expired, 2 a bad kick; good kicks in succession since (R480) -/
  wdCause : Nat := 0
  goodRun : Nat := 0
  deriving DecidableEq, Repr

/-- What holds the core off or in reset, and the levels of the pins that do so. -/
structure Power where
  /-- VIN has risen through the release threshold and has not fallen below 5.6 V since -/
  vinOk : Bool := true
  /-- a thermal shutdown, an overvoltage shutdown is in force (R390, R488) -/
  hot : Bool := false
  overV : Bool := false
  /-- RESET_N is low; TEST_N is low; EXTEST, CLAMP or HIGHZ is loaded; SYSCLK is absent or out of tolerance -/
  resetLow : Bool := false
  testLow : Bool := false
  jtag : Bool := false
  noClock : Bool := false
  /-- PERST_N is low -/
  perstLow : Bool := false
  /-- the last full reset, on the interval clock (UPTIME) -/
  resetAt : Nat := 0
  deriving DecidableEq, Repr

/-! ### Outputs and the whole state -/

/-- What the device has sent through its pins and links: the model's own record, newest first.
Log 106 (DESIGN CHOICE). -/
inductive Out where
  /-- an MSI-X message: vector, address, data (R503) -/
  | msix (vector addr data : Nat)
  /-- a write of host memory: address, bytes -/
  | hostWrite (addr : Nat) (data : List Byte)
  /-- a frame sent on a Peal port (R283) -/
  | peal (port : Nat) (f : PealFrame)
  /-- a frame sent on a head port (R237) -/
  | head (port : Nat) (frame : List Byte)
  /-- an HL-1 port's shift: the bits in the order sent (R230, R231) -/
  | shift (port : Nat) (bits : List Bool)
  /-- an HL-1 latch pulse at an instant (R231) -/
  | latch (port : Nat) (time : Int)
  /-- an HL-2 fire strobe: LINE_TAG and row mask (R236) -/
  | strobe (port : Nat) (time : Int) (tag rows : Nat)
  /-- a PACE serial frame (R177) -/
  | pace (frame : Nat)
  /-- the response to a SYS_RESET, as it stands in its porch before the reset (R353) -/
  | response (porch : Nat) (bytes : List Byte)
  /-- what a read on a path of BAR0 returns: its byte offset and its bytes (R13, R345, R548) -/
  | readData (path : Path) (off : Nat) (data : List Byte)
  deriving DecidableEq, Repr

/-- Power of the core: running, held in reset with the rails up, or powered off (R356, R357, R390). -/
inductive CoreState where
  | run | held | off
  deriving DecidableEq, Repr

/-- The whole machine: every register, queue, buffer, counter, mode and pin that the manual names, as plain data, and the
queue of the commands that wait. -/
structure State where
  /-- the interval clock, in ns: every timer measures on it -/
  now : Nat := 0
  /-- device time against the interval clock (R8, R292) -/
  clock : Clock := {}
  /-- the index of the next free value: the model's own field, by which the open values of Config are told apart -/
  free : Nat := 0
  /-- whether the core runs (R356, R357, R390) -/
  core : CoreState := .run
  /-- the registers of BAR0 by byte offset; one that is not listed holds its reset value (R11, R543) -/
  regs : Tbl Word := {}
  /-- the mode (R27, R376) -/
  mode : Mode := .boot
  /-- a configuration is committed (R354, R376) -/
  committed : Bool := false
  /-- CAUSE of HALTED, 0 outside HALT (R377) -/
  haltCause : Nat := 0
  /-- HALT was entered from DIAGNOSE (R380) -/
  haltDiag : Bool := false
  /-- the ROM, the firmware and DIAGNOSE (R356 to R384) -/
  boot : Boot := {}
  /-- what the porches and the four slots of tunnelled commands are at, by number (R317 to R330, R313) -/
  porches : Tbl PorchSt := {}
  /-- the prepared changes held (R337) -/
  prepared : List Prepared := []
  /-- event records lost and not yet reported by EVENTS_LOST (R349) -/
  evLostPend : Nat := 0
  /-- the host's memory, which lies outside the part and which its commands read and write (R342) -/
  host : HostMem := {}
  /-- Pantry contents by Pantry address (R391) -/
  pmem : Tbl Byte := {}
  /-- by Pantry word (address / 8), the bits of its 72 that are in error: data bits below, check bits above them (R394) -/
  perr : Tbl Nat := {}
  /-- the MSI-X table and its enables (R503, R543) -/
  msix : Msix := {}
  /-- bits 63:32 of device time as each path's last read of TIME_LO latched them: 0 PCIe, 1 SPI (R552) -/
  timeHi : Tbl Nat := {}
  /-- the health block and the health processor (R490 to R506) -/
  health : Health := {}
  /-- the nozzle geometry (R29 to R44) -/
  geo : Geo := {}
  /-- the Cellar (R38 to R69) -/
  cellar : Cellar := {}
  /-- the dot streams by number (R70 to R110) -/
  streams : Tbl Stream := {}
  /-- the decompressors by number (R100 to R102) -/
  decomps : Tbl Decomp := {}
  /-- the line engines and their tables (R111 to R135) -/
  lines : Lines := {}
  /-- the encoders by number (R139 to R153) -/
  encs : Tbl Enc := {}
  /-- the tracks by number (R136, R154 to R169) -/
  tracks : Tbl Track := {}
  /-- the tracks of the present job, bit t for track t (R137, R169) -/
  job : Nat := 0
  /-- the speed governor, the pace output and the line triggers (R172 to R186) -/
  gov : Governor := {}
  /-- the waveforms, maps, trims and scales of each head port (R187 to R221) -/
  waves : Tbl WavePort := {}
  /-- the waveforms being sent, by waveform port (R210) -/
  waveOut : Tbl WaveOut := {}
  /-- the head ports by number (R223 to R258) -/
  ports : Tbl Port := {}
  /-- the nozzle watch (R259 to R278) -/
  watch : Watch := {}
  /-- temperatures and the Triangle (R463 to R489) -/
  therm : Therm := {}
  /-- power, reset and test pins as the supervisor holds them (R356, R385 to R390, R488) -/
  power : Power := {}
  /-- the Peal ring (R279 to R316) -/
  peal : Peal := {}
  /-- the Pantry banks by number (R391 to R406) -/
  banks : Tbl Bank := {}
  /-- the general channels of the Dumbwaiter by number (R407 to R429) -/
  chans : Tbl GenChan := {}
  /-- the channel last served at each priority level (R407) -/
  dwLast : Tbl Nat := {}
  /-- the one-time programmable memory (R431 to R462) -/
  otp : Otp := {}
  /-- what the device has sent through its pins and links, newest first: the model's own record -/
  sent : List Out := []
  /-- the commands that wait, first in, first out: the model's own queue -/
  pending : List Instr := []
  deriving DecidableEq, Repr

/-- Why a step may stop the machine: no command does. -/
inductive Fault where
  /-- raised by nobody: an event whose condition does not hold leaves the state as it is, and every error of the manual
  is an effect on the state (safe) -/
  | unreached
  deriving DecidableEq, Repr

/-- Why a command may be refused: every row of the table of operations has its meaning, so none is. -/
inductive Refusal where
  /-- raised by an arm of Dispatch.lean whose command has no meaning in this model yet; there is none (safe) -/
  | notModelled (mnemonic : String)
  deriving DecidableEq, Repr

/-- Register words that step 3 and step 4 of R356 leave different from the reset values of the tables: the cause WAITING of
the ROM, and what the sense of a blank OTP gives (OTP STATUS, REGION_STATE, FWKEY_STATE, and the channel of each die sensor).
Log 6 (DESIGN CHOICE). Log 62 (DESIGN CHOICE). -/
def resetWords : List (Nat × Word) := [
  (0x3C, 1), (0xC0000, 5), (0xC0004, 0x4140124), (0xC0060, 0x1000), (0xD0054, 4), (0xD005C, 4), (0xD0064, 4),
  (0xD006C, 4), (0xD0074, 4), (0xD007C, 4), (0xD0084, 4), (0xD008C, 4), (0xD0094, 4), (0xD009C, 4),
  (0xD00A4, 8), (0xD00AC, 8), (0xD00B4, 8), (0xD00BC, 8), (0xD00C4, 8), (0xD00CC, 8), (0xD00D4, 8),
  (0xD00DC, 8), (0xD00E4, 8), (0xD00EC, 8), (0xD00F4, 12), (0xD00FC, 12)]

/-- The machine right after a power-on reset (R356, R359, R386): step 4 has been made, the ROM is WAITING, and the OTP is
blank. Every register has the reset value of its table, or one that the assumption log names.
Log 6 (DESIGN CHOICE). Log 7 (DESIGN CHOICE). Log 8 (DESIGN CHOICE). -/
def State.reset : State := { regs := ⟨resetWords⟩ }

end Sys2Proof.Machine
end

