-- ==== Sys2Proof/Machine/Ops.lean ====
section
/-! DEFINITION. The named operations on registers, memories, interrupts, limp conditions and events that every
family of commands shares. -/

namespace Sys2Proof.Machine

/-! ### Time -/

/-- The state at time `t` of the interval clock: time does not run backward. Log 3 (DESIGN CHOICE). -/
def State.at (s : State) (t : Nat) : State := { s with now := max s.now t }

/-- What slewing has removed so far: at most 1 ns in each 10 µs (R292). Log 5 (DEDUCED). -/
def State.slewed (s : State) : Int :=
  let k : Int := min s.clock.left.natAbs ((s.now - s.clock.since) / 10000)
  if 0 ≤ s.clock.left then k else -k

/-- Device time in ns (R8, R292). Log 4 (DESIGN CHOICE). Log 5 (DEDUCED). -/
def State.devTime (s : State) : Nat := ((s.now : Int) + s.clock.off + s.slewed).toNat

/-- The firmware tick of a device time: every 100 µs (R18). -/
def tickOf (t : Nat) : Nat := t / 100000

/-- A deadline at `d` has expired for a result at `t`: it falls in an earlier firmware tick (R18). Log 71 (DEDUCED). -/
def expired (d t : Nat) : Bool := decide (tickOf d < tickOf t)

/-- A fresh index for the free values of Config, and the state that has used it. Log 14 (DESIGN CHOICE). -/
def State.fresh (s : State) : Nat × State := (s.free, { s with free := s.free + 1 })

/-! ### Registers -/

/-- The word a register offset holds: the one stored, or its reset value. -/
def State.reg (s : State) (off : Nat) : Word := s.regs.get (regReset off) off

/-- A register word replaced; the reset value is not listed. -/
def State.setReg (s : State) (off : Nat) (w : Word) : State := { s with regs := s.regs.set (regReset off) off w }

/-- The value of a field. -/
def State.get (s : State) (f : Fld) : Nat := bitsOf (s.reg f.off).toNat f.lo f.width

/-- Bit 0 of a field. -/
def State.flag (s : State) (f : Fld) : Bool := decide (s.get f % 2 = 1)

/-- A word with bits `lo` to `lo + w - 1` replaced. -/
def putBits (x : Word) (lo w v : Nat) : Word :=
  BitVec.ofNat 32 (x.toNat - (bitsOf x.toNat lo w) <<< lo + (v % 2 ^ w) <<< lo)

/-- A field replaced. -/
def State.set (s : State) (f : Fld) (v : Nat) : State := s.setReg f.off (putBits (s.reg f.off) f.lo f.width v)

/-- A counter field increased, saturating at its width (R354 and the blocks' tables). -/
def State.bump (s : State) (f : Fld) (n : Nat := 1) : State := s.set f (satAdd f.width (s.get f) n)

/-- Bit `k` of a bit-mask field replaced. -/
def State.setBit (s : State) (f : Fld) (k : Nat) (b : Bool) : State := s.set f (putBit (s.get f) k b)

/-- A 64-bit counter in two registers, low word first, increased. -/
def State.bump64 (s : State) (lo hi : Fld) (n : Nat := 1) : State :=
  let v := s.get lo + 2 ^ 32 * s.get hi + n
  (s.set lo v).set hi (v / 2 ^ 32)

/-- A value of up to 64 bits in two registers, low word first. -/
def State.set64 (s : State) (lo hi : Fld) (v : Nat) : State := (s.set lo v).set hi (v / 2 ^ 32)

/-- The value of two registers, low word first. -/
def State.get64 (s : State) (lo hi : Fld) : Nat := s.get lo + 2 ^ 32 * s.get hi

/-- The words of an array register as one mask, word 0 lowest. -/
def State.getArr (s : State) (f : Nat → Fld) : Nat → Nat
  | 0 => 0
  | n + 1 => s.getArr f n + (s.get (f n)) <<< (32 * n)

/-- Bit `k` of a mask held in an array of registers, 32 bits a word. -/
def State.arrBit (s : State) (f : Nat → Fld) (k : Nat) : Bool := bitOf (s.get (f (k / 32))) (k % 32)

/-- Bit `k` of such a mask replaced. -/
def State.setArrBit (s : State) (f : Nat → Fld) (k : Nat) (b : Bool) : State := s.setBit (f (k / 32)) (k % 32) b

/-! ### Outputs and memories -/

/-- An output recorded. Log 11 (DESIGN CHOICE). Log 106 (DESIGN CHOICE). -/
def State.emit (s : State) (o : Out) : State := { s with sent := o :: s.sent }

/-- A byte of a sparse memory that reads 0 where nothing is listed. Log 9 (DESIGN CHOICE). -/
def byteOf (m : Tbl Byte) (a : Nat) : Byte := m.get 0 a

/-- `n` bytes of such a memory from address `a`. -/
def readBytes (m : Tbl Byte) (a : Nat) : Nat → List Byte
  | 0 => []
  | n + 1 => byteOf m a :: readBytes m (a + 1) n

/-- Bytes written to such a memory from address `a` on. -/
def writeBytes (m : Tbl Byte) (a : Nat) : List Byte → Tbl Byte
  | [] => m
  | b :: r => writeBytes (m.set 0 a b) (a + 1) r

/-- A range of `n` bytes from `a` touches a range of the list. -/
def touches (l : List (Nat × Nat)) (a n : Nat) : Bool := l.any (fun r => decide (a < r.1 + r.2 ∧ r.1 < a + n))

/-- The PCIe link carries accesses: it is in L0 (R388, R414). -/
def State.linkUp (s : State) : Bool := s.flag F.GL_PCIE_STATUS_LINK_UP

/-- The device's own accesses of host memory go through: the link is up and bus mastering enabled (R414). -/
def State.busMaster (s : State) : Bool := s.linkUp && s.flag F.GL_PCIE_STATUS_BUS_MASTER

/-- An access of the host on a path reaches the device: over PCIe only while the link is up (R356, R548). -/
def State.reaches (s : State) (p : Path) : Bool :=
  match p with
  | .pcie => s.linkUp
  | .spi => true

/-- A read of host memory: none where the link is down or the read fails (R388, R414). Log 10 (DESIGN CHOICE). -/
def State.hostRead (s : State) (a n : Nat) : Option (List Byte) :=
  if s.busMaster && !touches s.host.badRead a n then some (readBytes s.host.mem a n) else none

/-- A write of host memory, and whether it succeeded (R343, R388, R414). Log 10 (DESIGN CHOICE). -/
def State.hostWrite (s : State) (a : Nat) (l : List Byte) : Bool × State :=
  if s.busMaster && !touches s.host.badWrite a l.length then
    (true, { s with host := { s.host with mem := writeBytes s.host.mem a l } }.emit (.hostWrite a l))
  else (false, s)

/-- Pantry address of byte `x` of porch `n` (R317, R391): the mailbox is bank 2. -/
def porchAddr (n x : Nat) : Nat := 0x02000000 + n * 0x1000 + x

/-! ### Interrupts (R503, R504) -/

/-- One source of a vector (R503): the vector, the offsets of its cause and enable registers, and the bits of the
enable register that stand for the causes. -/
structure VectorSource where
  vector : Nat
  cause : Nat
  enable : Nat
  bits : Nat := 0xFFFFFFFF
  deriving DecidableEq, Repr

/-- The interrupt tree of R503. -/
def vectorSources : List VectorSource := [
  ⟨0, F.PORCH_DONE_PEND_PEND.off, F.PORCH_DONE_ENABLE_MSI_EN.off, 0xFFFF⟩,
  ⟨1, F.PORCH_EV_INT_STATUS_RECORD.off, F.PORCH_EV_INT_ENABLE_RECORD_MSI.off, 3⟩,
  ⟨2, F.HEALTH_INT_STATUS_RAISED.off, F.HEALTH_INT_ENABLE_RAISED.off, 0xFFFFFFFF⟩,
  ⟨2, F.LINE_INT_STATUS_PARTIAL.off, F.LINE_INT_ENABLE_PARTIAL.off, 0xFFFFFFFF⟩,
  ⟨2, F.PANTRY_INT_STATUS_CORR.off, F.PANTRY_INT_ENABLE_CORR.off, 0xFFFFFFFF⟩,
  ⟨3, F.THERM_INT_STATUS_DIE_STEP.off, F.THERM_INT_ENABLE_DIE_STEP.off, 0xFFFFFFFF⟩,
  ⟨3, (F.WE_INT_STATUS_OFFLINE 0).off, (F.WE_INT_ENABLE_OFFLINE 0).off, 0xFFFFFFFF⟩,
  ⟨3, (F.WE_INT_STATUS_OFFLINE 1).off, (F.WE_INT_ENABLE_OFFLINE 1).off, 0xFFFFFFFF⟩,
  ⟨4, F.THERM_TRI_INT_STATUS_CUT.off, F.THERM_TRI_INT_ENABLE_CUT.off, 0xFFFFFFFF⟩,
  ⟨5, F.TIMING_GOV_INT_STATUS_LOWERED.off, F.TIMING_GOV_INT_ENABLE_LOWERED.off, 0xFFFFFFFF⟩,
  ⟨6, F.TIMING_TM_INT_STATUS_OVERSPEED.off, F.TIMING_TM_INT_ENABLE_OVERSPEED.off, 0xFFFFFFFF⟩,
  ⟨7, F.STREAM_INT_STATUS_FAULT.off, F.STREAM_INT_ENABLE_FAULT.off, 0xFFFFFFFF⟩,
  ⟨8, F.HEADPORT_INT_STATUS_LINK_UP.off, F.HEADPORT_INT_ENABLE_LINK_UP.off, 0xFFFFFFFF⟩,
  ⟨9, F.WATCH_INT_STATUS_OUT.off, F.WATCH_INT_ENABLE_OUT.off, 0xFFFFFFFF⟩,
  ⟨10, F.PEAL_INT_STATUS_PORT_DOWN.off, F.PEAL_INT_ENABLE_PORT_DOWN.off, 0xFFFFFFFF⟩,
  ⟨11, F.DW_FV_PEND.off, F.DW_FV_ENABLE.off, 0xFFFFFFFF⟩,
  ⟨11, F.DW_INT_STATUS_BAD.off, F.DW_INT_ENABLE_BAD.off, 0xFFFFFFFF⟩,
  ⟨12, F.CELLAR_INT_STATUS_CORR.off, F.CELLAR_INT_ENABLE_CORR.off, 0xFFFFFFFF⟩,
  ⟨13, F.OTP_INT_STATUS_MARGINAL.off, F.OTP_INT_ENABLE_MARGINAL.off, 0xFFFFFFFF⟩,
  ⟨14, F.GL_BOOT_INT_STATUS_WAITING.off, F.GL_BOOT_INT_ENABLE_WAITING.off, 0xFFFFFFFF⟩]

/-- The enabled causes of one source. -/
def sourceBits (s : State) (c : VectorSource) : Nat :=
  (s.reg c.cause).toNat &&& (s.reg c.enable).toNat &&& c.bits

/-- A vector is pending while any of its causes is set with its enable set (R503). -/
def State.vectorPending (s : State) (v : Nat) : Bool :=
  vectorSources.any (fun c => decide (c.vector = v) && decide (sourceBits s c ≠ 0))

/-- What a word of the MSI-X table reads as before it is written: Vector Control has its mask bit set (PRESUMED from
the PCI Express Base Specification that R11 and R543 name). Log 17 (PRESUMED). -/
def msixReset (k : Nat) : Word := if k % 4 = 3 then 1 else 0

/-- A word of the MSI-X table (R543). Log 17 (PRESUMED). -/
def State.msixWord (s : State) (k : Nat) : Word := s.msix.table.get (msixReset k) k

/-- Vector `v` is masked in the table, or the function is masked, or MSI-X is not enabled (R503, R553).
Log 17 (PRESUMED). -/
def State.vectorMasked (s : State) (v : Nat) : Bool :=
  !s.msix.enable || s.msix.mask || (s.msixWord (4 * v + 3)).getLsbD 0

/-- The message of vector `v` (R503); vectors 15 to 31 are never sent. Log 18 (DEDUCED). -/
def State.sendMsi (s : State) (v : Nat) : State :=
  if s.vectorMasked v || decide (14 < v) || !s.busMaster then s
  else s.emit (.msix v ((s.msixWord (4 * v)).toNat + 2 ^ 32 * (s.msixWord (4 * v + 1)).toNat) (s.msixWord (4 * v + 2)).toNat)

/-- The messages that follow a change of registers: one for each vector with a cause that is now set and enabled and
was not so before (R503). Log 18 (DEDUCED). -/
def sendNewMsi (old s : State) : State :=
  (List.range 15).foldl (fun s' v =>
    if vectorSources.any (fun c => decide (c.vector = v) && decide (sourceBits s c &&& (0xFFFFFFFF ^^^ sourceBits old c) ≠ 0))
    then s'.sendMsi v else s') s

/-- Cause bits set in an interrupt status register, and the message they call for (R503, R547). Log 57 (DEDUCED). -/
def State.cause (s : State) (f : Fld) (v : Nat := 1) : State := sendNewMsi s (s.set f (s.get f ||| v))

/-- Bit `k` of an interrupt status field set. -/
def State.causeBit (s : State) (f : Fld) (k : Nat) : State := s.cause f (2 ^ k)

/-- The conditions of a porch that assert INT_N (R326, R348, R504). -/
def State.porchIntn (s : State) : Bool :=
  decide (s.get F.PORCH_DONE_PEND_PEND &&& s.get F.PORCH_DONE_ENABLE_INTN_EN ≠ 0) ||
  (s.flag F.PORCH_EV_INT_STATUS_RECORD && s.flag F.PORCH_EV_INT_ENABLE_RECORD_INTN) ||
  (s.flag F.PORCH_EV_INT_STATUS_LOST && s.flag F.PORCH_EV_INT_ENABLE_LOST_INTN)

/-- INT_N is driven low (R504). -/
def State.intnLow (s : State) : Bool :=
  s.porchIntn || (List.range 13).any (fun k => s.vectorPending (k + 2) && bitOf (s.get F.HEALTH_INTN_ROUTE_ROUTE) k)

/-! ### Event lines (R130, R157, R272, R418, R419) -/

/-- What a pulse of event line `k` at time `t` does to a general channel: its latch is set, a WAIT on the line has its
pulse unless it has expired, and the first pulse after an expiry is no longer awaited. -/
def GenChan.pulse (c : GenChan) (k t : Nat) : GenChan :=
  let w := match c.waiting with
    | some x =>
      let inTime := match x.deadline with
        | some d => decide (t ≤ d)
        | none => true
      some (if decide (x.line = k) && inTime then { x with seen := true } else x)
    | none => none
  { c with latches := c.latches ||| 2 ^ k, waiting := w, expired := if c.expired = some k then none else c.expired }

/-- Event line `k` pulses (R418, R419): EV_SEEN, the latches, the WAITs, and the count of late pulses. -/
def State.pulse (s : State) (k : Nat) : State :=
  let s1 := s.setArrBit F.DW_EV_SEEN k true
  (List.range 32).foldl (fun s' m =>
    let c := s'.chans.get {} m
    let s2 := { s' with chans := s'.chans.set {} m (c.pulse k s'.now) }
    if c.expired = some k then (s2.bump F.DW_WAIT_LATE_TOTAL).cause F.DW_INT_STATUS_WAIT_LATE else s2) s1

/-! ### Counters of the SUMMARY registers (R501) -/

/-- The health processor has stopped: its heartbeat, once begun, has not advanced within 2 ms (R500, HP_RUNNING). -/
def State.hpStopped (s : State) : Bool :=
  match s.health.beatAt with
  | some b => decide (b + 2000000 < s.now)
  | none => false

/-- SUMMARY[k] increased, saturating; not while the health processor has stopped (R25, R500, R501). -/
def State.summary (s : State) (k : Nat) (n : Nat := 1) : State :=
  if s.hpStopped then s else s.bump (F.HEALTH_SUMMARY k) n

/-! ### The Pantry (R391, R394 to R397) -/

/-- The bank of a Pantry address (R391). -/
def bankOf (a : Nat) : Nat := a / 0x1000000

/-- The size of a bank in KiB (R391). -/
def bankKib (b : Nat) : Nat :=
  if b = 0 then 1024 else if b = 1 then 256 else if b = 2 then 64 else if b < 15 then 4096 else if b < 19 then 8192
  else if b < 21 then 1024 else if b = 21 then 2048 else 0

/-- A bank serves accesses: it is not OFF, nor still being filled after OFF (R398). -/
def State.bankOn (s : State) (b : Nat) : Bool :=
  decide (s.get (F.BK_CTRL_POWER b) ≠ 3) && (s.banks.get {} b).fillAt.isNone

/-- A bank is accessed: one at rest wakes, and its time without an access begins anew (R397). Log 92 (DEDUCED). -/
def State.touchBank (s : State) (b : Nat) : State :=
  if s.get (F.BK_CTRL_POWER b) = 0 ∨ !s.bankOn b then s
  else
    let s1 := { s with banks := s.banks.set {} b { s.banks.get {} b with lastUse := s.now } }
    if s1.get (F.BK_STATUS_REST b) = 0 ∨ s1.flag (F.BK_STATUS_WAKING b) then s1 else (s1.set (F.BK_STATUS_REST b) 0).bump F.PANTRY_WAKE_TOTAL

/-- A word is read and checked (R394, R396): one bit in error is corrected and written back; with two or more the read
is uncorrectable, and the word stays as it is. Log 91 (DESIGN CHOICE). -/
def State.checkWord (s : State) (w : Nat) (patrol : Bool := false) : Bool × State :=
  let m := s.perr.get 0 w
  let b := bankOf (8 * w)
  if m = 0 then (false, s)
  else if onesIn 72 m = 1 then
    let s1 := ({ s with perr := s.perr.set 0 w 0 }.bump (F.BK_ERR_CORR b)).bump F.PANTRY_CORR_TOTAL
    (false, (s1.cause F.PANTRY_INT_STATUS_CORR).summary 6)
  else
    let s1 := ((s.bump (F.BK_ERR_UNCORR b)).bump F.PANTRY_UNCORR_TOTAL).set F.PANTRY_LAST_ERR_BANK b
    let s2 := ((s1.set F.PANTRY_LAST_ERR_VALID 1).set F.PANTRY_LAST_ERR_BY_PATROL (b2n patrol)).set F.PANTRY_LAST_ERR_ADDR (8 * w)
    (true, (s2.cause F.PANTRY_INT_STATUS_UNCORR).summary 7)

/-- A byte as a read that finds its word uncorrectable delivers it: raw (R396). -/
def State.rawByte (s : State) (a : Nat) : Byte :=
  byteOf s.pmem a ^^^ BitVec.ofNat 8 (s.perr.get 0 (a / 8) >>> (8 * (a % 8)))

/-- The words of `n` bytes from `a` that hold a bit in error. -/
def State.badWords (s : State) (a n : Nat) : List Nat :=
  s.perr.keys.filter (fun w => decide (a / 8 ≤ w ∧ 8 * w < a + n))

/-- `n` bytes of the Pantry read from address `a`: the bytes, whether a word of them is uncorrectable, and the state
(R394, R396). -/
def State.pread (s : State) (a n : Nat) : List Byte × Bool × State :=
  let (bad, s1) := (s.badWords a n).foldl (fun (r : Bool × State) w =>
    ((r.2.checkWord w).1 || r.1, (r.2.checkWord w).2)) (false, s.touchBank (bankOf a))
  (if bad then (List.range n).map (fun k => s1.rawByte (a + k)) else readBytes s1.pmem a n, bad, s1)

/-- A word of which a write covers a part: it is read, and an uncorrectable one keeps no byte (R395). -/
def State.mergeWord (s : State) (w : Nat) : Bool × State :=
  let (bad, s1) := s.checkWord w
  (bad, if bad then { s1 with pmem := writeBytes s1.pmem (8 * w) (List.replicate 8 0) } else s1)

/-- Bytes written to the Pantry from address `a`: whether the write reports an error, and the state (R394, R395).
Log 94 (DEDUCED). -/
def State.pwriteCheck (s : State) (a : Nat) (l : List Byte) : Bool × State :=
  if l = [] then (false, s) else
  let e := a + l.length
  let part := (s.badWords a l.length).filter (fun w => decide (8 * w < a ∨ e < 8 * w + 8))
  let (bad, s1) := part.foldl (fun (r : Bool × State) w =>
    ((r.2.mergeWord w).1 || r.1, (r.2.mergeWord w).2)) (false, s.touchBank (bankOf a))
  (bad, { s1 with pmem := writeBytes s1.pmem a l, perr := s1.perr.drop (a / 8) ((e + 7) / 8) })

/-- Bytes written to the Pantry. -/
def State.pwrite (s : State) (a : Nat) (l : List Byte) : State := (s.pwriteCheck a l).2

/-! ### Limp conditions (R490 to R498) -/

/-- The class of a limp code: true for REPLACE (R490). -/
def limpReplace (code : Nat) : Bool := [1, 2, 3, 4, 5, 7, 9, 10, 11].contains code

/-- Bit c of the mask: code c has an instance present (R491). -/
def limpMask (l : List (Nat × Nat)) : Nat := l.foldl (fun m c => m ||| 2 ^ c.1) 0

/-- Codes of class REPLACE among the instances. -/
def anyReplace (l : List (Nat × Nat)) : Bool := l.any (fun c => limpReplace c.1)

/-- REPLACE_N is driven low (R494). -/
def State.replaceLow (s : State) : Bool := s.flag F.HEALTH_CTRL_REPLACE_PIN_EN && anyReplace s.health.limps

/-- An event placed in the health event queue, or counted in LOST when it is full (R497). -/
def State.queueHealth (s : State) (e : HealthEvent) : State :=
  if s.health.queue.length < 256 then { s with health := { s.health with queue := s.health.queue ++ [e] } }
  else (s.bump F.HEALTH_LOG_STATUS_LOST).cause F.HEALTH_INT_STATUS_LOG_LOST

/-- The code is present in some instance. -/
def State.limpPresent (s : State) (code : Nat) : Bool := s.health.limps.any (fun c => c.1 = code)

/-- Instances in ascending code and INSTANCE. -/
def insertLimp : List (Nat × Nat) → Nat × Nat → List (Nat × Nat)
  | [], x => [x]
  | c :: r, x => if c = x then c :: r else if x.1 < c.1 ∨ (x.1 = c.1 ∧ x.2 < c.2) then x :: c :: r else c :: insertLimp r x

/-- A limp instance is raised: LIMP_PRESENT follows at once, and the event is queued (R491, R497). -/
def State.limpRaise (s : State) (code inst : Nat) : State :=
  if s.health.limps.contains (code, inst) then s
  else
    let newCode := !s.limpPresent code
    let s1 := { s with health := { s.health with limps := insertLimp s.health.limps (code, inst) } }
    let s2 := (s1.setBit F.HEALTH_LIMP_SEEN_CODE (code - 1) true).cause F.HEALTH_INT_STATUS_RAISED
    let s3 := s2.set F.HEALTH_ALERT_STATUS_LIMP_RAISED 1
    let s4 := if newCode && limpReplace code then
        (s3.cause F.HEALTH_INT_STATUS_REPLACE).set F.HEALTH_ALERT_STATUS_REPLACE_RAISED 1 else s3
    s4.queueHealth { raised := true, code := code, inst := inst }

/-- A limp instance is cleared (R490, R497). Log 102 (DEDUCED). -/
def State.limpClear (s : State) (code inst : Nat) : State :=
  if s.health.limps.contains (code, inst) then
    let s1 := { s with health := { s.health with limps := s.health.limps.filter (fun c => c ≠ (code, inst)) } }
    let s2 := if s1.limpPresent code then s1 else s1.cause F.HEALTH_INT_STATUS_CLEARED
    s2.queueHealth { raised := false, code := code, inst := inst }
  else s

/-- Every instance of a code that satisfies `p` is cleared. -/
def State.limpClearIf (s : State) (code : Nat) (p : Nat → Bool) : State :=
  (s.health.limps.filter (fun c => c.1 = code && p c.2)).foldl (fun s' c => s'.limpClear code c.2) s

/-! ### The event porch (R348 to R351) -/

/-- This device's ID in the ring, 0 when it has none (R321, R350). -/
def State.deviceId (s : State) : Nat := s.get F.PEAL_DEVICE_ID_ID

/-- Records in the event porch that the host has not consumed (R348). -/
def State.evHeld (s : State) : Nat := (s.get F.PORCH_EV_WRITE + 2 ^ 32 - s.get F.PORCH_EV_READ) % 2 ^ 32

/-- The 32 bytes of an event record (R350). -/
def eventRecord (index code source time : Nat) (data : List Byte) : List Byte :=
  leBytes 4 index ++ leBytes 2 code ++ leBytes 2 source ++ leBytes 8 time ++ (data ++ List.replicate 16 0).take 16

/-- One record written into porch 14; EV_WRITE rises after its last word (R348). -/
def State.writeEvent (s : State) (code time : Nat) (data : List Byte) : State :=
  let k := s.get F.PORCH_EV_WRITE
  let s1 := s.pwrite (porchAddr 14 (k % 128 * 32)) (eventRecord k code s.deviceId time data)
  (s1.set F.PORCH_EV_WRITE (k + 1)).cause F.PORCH_EV_INT_STATUS_RECORD

/-- EVENTS_LOST is written once there is room again (R350). Log 80 (DEDUCED). -/
def State.flushLost (s : State) : State :=
  if s.evLostPend ≠ 0 ∧ s.evHeld < 128 then
    { s.writeEvent 0xF s.devTime (leBytes 4 s.evLostPend) with evLostPend := 0 }
  else s

/-- An event posted with its own TIME: written while events are enabled and there is room, else lost and counted
(R348, R350). -/
def State.postEventAt (s : State) (code time : Nat) (data : List Byte) : State :=
  if s.flag F.PORCH_CTRL_EVENTS_EN then
    let s1 := s.flushLost
    if s1.evHeld < 128 then s1.writeEvent code time data
    else { (s1.bump F.PORCH_EV_LOST).cause F.PORCH_EV_INT_STATUS_LOST with evLostPend := min (s1.evLostPend + 1) 0xFFFFFFFF }
  else s

/-- An event posted now. -/
def State.postEvent (s : State) (code : Nat) (data : List Byte) : State := s.postEventAt code s.devTime data

/-! ### Errors of register accesses (R11, R544, R546) -/

/-- A host write discarded and counted (R11, R544, R546). -/
def State.accessErr (s : State) (p : Path) (off kind : Nat) : State :=
  ((((s.bump F.GL_ACCESS_ERR).set F.GL_LAST_ACCESS_ERR_WORD (off / 4)).set F.GL_LAST_ACCESS_ERR_KIND kind).set
    F.GL_LAST_ACCESS_ERR_PATH (match p with | .pcie => 0 | .spi => 1)).set F.GL_LAST_ACCESS_ERR_VALID 1

/-! ### Modes (R27, R376) -/

/-- The code of a mode (R27). -/
def Mode.code : Mode → Nat
  | .boot => 0 | .configure => 1 | .ready => 2 | .track => 3 | .clock => 4 | .maintain => 5 | .diagnose => 6 | .halt => 7

/-- The modes in which FIRE_EN and HSUP_EN may be high (R27). -/
def Mode.mayFire : Mode → Bool
  | .ready | .track | .clock | .maintain => true
  | _ => false

/-- Every mode but BOOT. -/
def Mode.notBoot (m : Mode) : Bool := decide (m ≠ .boot)

/-- Every mode but BOOT and DIAGNOSE. -/
def Mode.normal (m : Mode) : Bool := decide (m ≠ .boot ∧ m ≠ .diagnose)

/-- CONFIGURE, READY or MAINTAIN. -/
def Mode.quiet (m : Mode) : Bool := decide (m = .configure ∨ m = .ready ∨ m = .maintain)

/-! ### Lines on the head ports as time passes (R24, R25, R170, R486, R554) -/

/-- The track line that a message to a head concerns. -/
def Msg.lineNo : Msg → Option Nat
  | .line l _ _ _ _ => some l
  | .fireAt l _ _ _ => some l
  | _ => none

/-- A cause of the head ports (INT_STATUS, LAST_EVENT, FAULT_PEND). -/
def State.portCause (s : State) (p bit : Nat) : State :=
  let s1 := ((s.set F.HEADPORT_LAST_EVENT_PORT p).set F.HEADPORT_LAST_EVENT_VALID 1).set F.HEADPORT_LAST_EVENT_CAUSE bit
  (s1.setArrBit F.HEADPORT_FAULT_PEND p true).causeBit ⟨F.HEADPORT_INT_STATUS_LINK_UP.off, 0, 32⟩ bit

/-- One of the eight counts of HEAD_QUERY increased (R256). -/
def State.portCount (s : State) (p k : Nat) : State :=
  let x := s.ports.get {} p
  { s with ports := s.ports.set {} p { x with counts := x.counts.set k (satAdd 32 (x.counts.getD k 0) 1) } }

/-- A line Dropped by a head port (R229, R247, R255). -/
def State.portDropped (s : State) (p : Nat) : State :=
  (((s.bump (F.HP_LINE_ERR_DROPPED p)).bump F.HEADPORT_DROPPED_TOTAL).portCount p 5).portCause p 7

/-- What the passing of time up to device time `d` makes of a line on a port: its fire instant passes, and it is Dropped
when the voted fire-enable is inactive then (R170); its last row instant and its waveform's end pass (R554).
Log 27 (DEDUCED). -/
def PortLine.settle (d : Int) (fe : Bool) (l : PortLine) : PortLine :=
  let a := if !l.started && !l.ended && decide (l.f < d) then
      (if fe then { l with started := true } else { l with started := true, ended := true, outcome := 4 }) else l
  if !a.ended && a.started && decide (max a.last a.waveEnd < d) then { a with ended := true } else a

/-- The SUMMARY counter of an outcome that is now final (R25, R501). Log 27 (DEDUCED). -/
def State.countOutcome (s : State) (outcome : Nat) : State :=
  match outcome with
  | 2 => s.summary 0
  | 3 => s.summary 2
  | 4 => s.summary 1
  | 5 => s.summary 3
  | _ => s

/-- The fire instant of a line passes while the voted fire-enable is inactive: it is Dropped (R170). -/
def PortLine.barred (d : Int) (fe : Bool) (l : PortLine) : Bool := !l.started && !l.ended && decide (l.f < d) && !fe

/-- The earliest row instant of a line passes with no ACK of its FIRE_AT frame: it is Dropped (R247). -/
def PortLine.unheard (d : Int) (waits : List Nat) (l : PortLine) : Bool :=
  !l.ended && decide (l.first < d) && waits.contains l.line

/-- The lines of a port whose FIRE_AT frame no ACK has covered. -/
def Port.unacked (x : Port) : List Nat :=
  (x.replay ++ x.lineQ).filterMap (fun f => match f.msg with
    | .fireAt l _ _ _ => some l
    | _ => none)

/-- One line of port `p` settled at device time `d`, with the counts of its end (R25, R170, R247, R486). -/
def State.settleLine (s : State) (p : Nat) (d : Int) (fe : Bool) (waits : List Nat) (l : PortLine) : PortLine × State :=
  if l.barred d fe then
    let l' := { l with started := true, ended := true, outcome := 4 }
    (l', if l.maint then s else (s.summary 1).bump F.THERM_TRI_DROPPED)
  else if l.unheard d waits then
    let l' := { l with started := true, ended := true, outcome := 4 }
    (l', if l.maint then s.portDropped p else (s.summary 1).portDropped p)
  else
    let l' := l.settle d fe
    (l', if l'.ended && !l.ended && !l.maint then s.countOutcome l'.outcome else s)

/-- Lines of port `p` settled one after the other. Log 27 (DEDUCED). Log 104 (DESIGN CHOICE). -/
def State.settleLines (s : State) (p : Nat) (d : Int) (fe : Bool) (waits : List Nat) : List PortLine → List PortLine × State
  | [] => ([], s)
  | l :: r =>
    let (l', s1) := s.settleLine p d fe waits l
    let (r', s2) := s1.settleLines p d fe waits r
    (l' :: r', s2)

/-- The lines of one port settled; frames of lines that the fire-enable bars are not sent (R21), and a line is forgotten
5 ms after its t_L, the longest SENSE_WINDOW (R261). -/
def State.settlePort (s : State) (p : Nat) : State :=
  let x := s.ports.get {} p
  let d : Int := s.devTime
  let fe := s.flag F.THERM_TRI_STATUS_FIRE_EN
  let gone := (x.lines.filter (PortLine.barred d fe)).map (·.line)
  let (new, s1) := s.settleLines p d fe x.unacked x.lines
  let keep := fun (f : OutFrame) => match f.msg.lineNo with
    | some n => !gone.contains n
    | none => true
  let y := s1.ports.get {} p
  { s1 with ports := s1.ports.set {} p { y with
      lines := new.filter (fun l => !(l.ended && decide (l.tl + 5000000 < d)))
      lineQ := if gone = [] then y.lineQ else y.lineQ.filter keep } }

/-- The state once time `t` of the interval clock has come: what follows from the passing of time alone has come about.
Log 3 (DESIGN CHOICE). Log 27 (DEDUCED). Log 105 (DESIGN CHOICE). -/
def State.advance (s : State) (t : Nat) : State :=
  let s1 := s.at t
  (s1.ports.keys.filter (fun p => decide ((s1.ports.get {} p).lines ≠ []))).foldl State.settlePort s1

/-- What has come about, with the commands that waited still waiting: no command changes the queue. -/
def State.keepQueue (s s' : State) : State := { s' with pending := s.pending }

/-- What a step of the running core answers: nothing comes about while the core is in reset or powered off (R356,
R357, R390). Log 3 (DESIGN CHOICE). Log 12 (DEDUCED). Log 105 (DESIGN CHOICE). -/
def coreStep (t : Nat) (f : State → State) (s : State) : Host.Outcome State Fault Refusal :=
  .next (s.keepQueue (if s.core = .run then f (s.advance t) else s.at t))

end Sys2Proof.Machine
end

