-- ==== Sys2Proof/Machine/Cmd.lean ====
section
/-! DEFINITION. The shape of a porch command: its opcode, where it is legal, its checks and its effect. -/

namespace Sys2Proof

/-- The unsigned payload field of `n` bytes at byte `off` (R320). -/
def Req.u (rq : Req) (off n : Nat) : Nat := Machine.uAt rq.payload off n

/-- The signed payload field of `n` bytes at byte `off`. -/
def Req.s (rq : Req) (off n : Nat) : Int := Machine.sAt rq.payload off n

end Sys2Proof

namespace Sys2Proof.Machine

/-- The status codes of R331. -/
inductive Status where
  | ok | badOpcode | badLength | outOfRange | wrongMode | featureNotAccepted | busy | timeout | crcError | seqError
  | denied | hwFault | partialStatus | aborted | notPrepared | deviceUnreachable
  deriving DecidableEq, Repr

/-- The code of a status (R331). -/
def Status.code : Status → Nat
  | .ok => 0 | .badOpcode => 1 | .badLength => 2 | .outOfRange => 3 | .wrongMode => 4 | .featureNotAccepted => 5
  | .busy => 6 | .timeout => 7 | .crcError => 8 | .seqError => 9 | .denied => 10 | .hwFault => 11
  | .partialStatus => 12 | .aborted => 13 | .notPrepared => 14 | .deviceUnreachable => 15

/-- What a command answers: its status and its response payload (R321). -/
structure Resp where
  status : Status := .ok
  payload : List Byte := []
  /-- the response is posted later, by the step that ends what the command has started -/
  later : Bool := false
  deriving DecidableEq, Repr

/-- A refusal that carries a payload of one u32: an index, a check code, a port or a cause. -/
def refuse (st : Status) (v : Nat) : Option Resp := some { status := st, payload := leBytes 4 v }

/-- A table that a command fetches from host memory (R342, R343): address, length, and the CRC it must have. -/
structure Bulk where
  addr : Nat := 0
  len : Nat := 0
  crc : Option Nat := none
  deriving DecidableEq, Repr

/-- A porch command. -/
structure Cmd where
  /-- opcode (R352) -/
  op : Nat
  /-- the modes in which it is legal (step 10 of R324) -/
  modes : Mode → Bool
  /-- the lengths it allows (step 8 of R324) -/
  len : Nat → Bool
  /-- PREPARE, COMMIT and ABORT are allowed (R336) -/
  prep : Bool := false
  /-- it only reads, and holds no resource (R327, R330) -/
  reads : Bool := false
  /-- what its chapter forbids in a mode (the rest of step 10) -/
  forbids : Req → State → Bool := fun _ _ => false
  /-- payload ranges (step 11): none when every field is in range -/
  range : Req → State → Option Resp := fun _ _ => none
  /-- the table it fetches while it is staged (R329, R343) -/
  bulk : Req → State → Option Bulk := fun _ _ => none
  /-- the checks of its chapter while it is staged, on the bytes fetched (R329) -/
  stage : List Byte → Req → State → Option Resp := fun _ _ _ => none
  /-- the messages that it stages on the head of its port (R221) -/
  head : List Byte → Req → State → List Msg := fun _ _ _ => []
  /-- its effect at the apply point, and its response -/
  apply : List Byte → Req → State → Resp × State

/-- A response with nothing but OK. -/
def ok (s : State) : Resp × State := ({}, s)

/-- A response with OK and a payload, for a command that only reads. -/
def okWith (l : List Byte) (s : State) : Resp × State := ({ payload := l }, s)

/-- OUT_OF_RANGE unless the condition holds (R15). -/
def inRange (b : Bool) : Option Resp := if b then none else some { status := .outOfRange }

/-- The value lies in a range, both ends included. -/
def within (v lo hi : Nat) : Bool := decide (lo ≤ v ∧ v ≤ hi)

/-- The GEN of a head port: 0 not configured (R223, R375). -/
def State.gen (s : State) (p : Nat) : Nat := s.get (F.HP_CTRL_GEN p)

/-- A PORT field that names a configured head port (R375). -/
def State.portOk (s : State) (p : Nat) : Bool := decide (p < 128) && decide (s.gen p ≠ 0)

end Sys2Proof.Machine
end

