-- ==== Sys2Proof/Machine/Gf.lean ====
section
/-! DEFINITION. The field GF(2^16) of R47 and the Reed-Solomon code of the Cellar (R45 to R56). -/

namespace Sys2Proof.Machine

/-- A symbol times α, reduced by x^16 + x^12 + x^3 + x + 1 (R47). -/
def gfDouble (a : Nat) : Nat := if a < 0x8000 then 2 * a else (2 * a) ^^^ 0x1100B

/-- `n` steps of the product of two symbols, by the bits of the second. -/
def gfMulN : Nat → Nat → Nat → Nat
  | 0, _, _ => 0
  | n + 1, a, b => (if b % 2 = 1 then a else 0) ^^^ gfMulN n (gfDouble a) (b / 2)

/-- The product of two symbols (R47). -/
def gfMul (a b : Nat) : Nat := gfMulN 16 a b

/-- α to the power `n`. -/
def gfPow : Nat → Nat
  | 0 => 1
  | n + 1 => gfDouble (gfPow n)

/-- The square of the product with the argument, iterated: a^(2^16 - 2), the inverse of a symbol other than 0. -/
def gfInv (a : Nat) : Nat := (List.range 15).foldl (fun r _ => gfMul (gfMul r a) (gfMul r a)) 1

/-- Symbol `k` of a codeword (R46). -/
def cwSymbol (w : Codeword) (k : Nat) : Nat := (w.toNat >>> (16 * k)) % 65536

/-- A codeword of 36 symbols, symbol 0 lowest (R46). -/
def cwOfSymbols (l : List Nat) : Codeword := BitVec.ofNat 576 (l.foldr (fun x acc => x % 65536 + 65536 * acc) 0)

/-- The symbols V0, V1, D_0 to D_31 of a block of 64 bytes under address `b`, highest power first (R46, R48, R49). -/
def messageSymbols (b : Nat) (bytes : List Byte) : List Nat :=
  b / 65536 % 65536 :: b % 65536 :: (List.range 32).map (fun k => uAt bytes (2 * k) 2)

/-- One step of the division by g(x) of R50: the remainder (C_0 to C_3) after one more message symbol. -/
def rsStep (r : Nat × Nat × Nat × Nat) (m : Nat) : Nat × Nat × Nat × Nat :=
  let f := r.1 ^^^ m
  (r.2.1 ^^^ gfMul f 0x000F, r.2.2.1 ^^^ gfMul f 0x0036, r.2.2.2 ^^^ gfMul f 0x0078, gfMul f 0x0040)

/-- The check symbols C_0 to C_3 (R49, R50). -/
def rsChecks (msg : List Nat) : List Nat :=
  let r := msg.foldl rsStep (0, 0, 0, 0)
  [r.1, r.2.1, r.2.2.1, r.2.2.2]

/-- The codeword of a block of 64 bytes at logical block `b` (R45 to R50). -/
def encodeBlock (b : Nat) (bytes : List Byte) : Codeword :=
  let m := messageSymbols b bytes
  cwOfSymbols (m.drop 2 ++ rsChecks m)

/-- The 64 data bytes of a codeword (R46). -/
def cwBytes (w : Codeword) : List Byte := leBytes 64 (w.toNat % 2 ^ 512)

/-- The 38 symbols a decoder sees: V0 and V1 of the address expected, then the 36 stored (R48, R51). -/
def receivedSymbols (b : Nat) (w : Codeword) : List Nat :=
  b / 65536 % 65536 :: b % 65536 :: (List.range 36).map (cwSymbol w)

/-- The value of the received polynomial at α^i, by Horner's rule: syndrome i (R50, R51). -/
def syndrome (l : List Nat) (i : Nat) : Nat := l.foldl (fun acc x => gfMul acc (gfPow i) ^^^ x) 0

/-- One located error: the power of x at which it stands (37 and 36 are V0 and V1, 35 - k is lane k) and its value. -/
structure SymErr where
  pos : Nat
  val : Nat
  deriving DecidableEq, Repr

/-- The pattern of one error at a position that matches four syndromes. -/
def oneError (s0 s1 s2 s3 : Nat) : Option SymErr :=
  ((List.range 38).find? (fun e =>
    let x := gfPow e
    decide (s1 = gfMul s0 x) && decide (s2 = gfMul s1 x) && decide (s3 = gfMul s2 x))).map (fun e => ⟨e, s0⟩)

/-- The pattern of two errors that matches four syndromes: the roots among the 38 positions of the locator given by
the syndromes, and the values that follow. -/
def twoErrors (s0 s1 s2 s3 : Nat) : Option (SymErr × SymErr) :=
  let det := gfMul s0 s2 ^^^ gfMul s1 s1
  if det = 0 then none
  else
    let inv := gfInv det
    let sg1 := gfMul (gfMul s0 s3 ^^^ gfMul s1 s2) inv
    let sg2 := gfMul (gfMul s1 s3 ^^^ gfMul s2 s2) inv
    let roots := (List.range 38).filter (fun e =>
      let x := gfPow e
      decide (gfMul x x ^^^ gfMul sg1 x ^^^ sg2 = 0))
    match roots with
    | [a, b] =>
      let xa := gfPow a
      let xb := gfPow b
      let ya := gfMul (s1 ^^^ gfMul s0 xb) (gfInv (xa ^^^ xb))
      let yb := s0 ^^^ ya
      if ya ≠ 0 ∧ yb ≠ 0 then some (⟨a, ya⟩, ⟨b, yb⟩) else none
    | _ => none

/-- The outcome of a codeword read (R51): clean or corrected with the lanes that entered as corrections, an address
error, or uncorrectable. -/
inductive ReadOutcome where
  | good (data : List Byte) (corrected : List Nat) (fixed : Codeword)
  | addrErr
  | uncorr
  deriving DecidableEq, Repr

/-- The error stands at V0 or V1 (R51). -/
def SymErr.virtual (e : SymErr) : Bool := decide (36 ≤ e.pos)

/-- A codeword with an error's value taken out of its symbol. -/
def fixSymbol (w : Codeword) (e : SymErr) : Codeword :=
  if e.pos ≤ 35 then w ^^^ (BitVec.ofNat 576 (e.val <<< (16 * (35 - e.pos)))) else w

/-- The lane of an error at a stored position (R45, R49). -/
def SymErr.lane (e : SymErr) : Nat := 35 - e.pos

/-- Decoding with no erased lane (R51). -/
def decodePlain (w : Codeword) (s0 s1 s2 s3 : Nat) : ReadOutcome :=
  if s0 = 0 ∧ s1 = 0 ∧ s2 = 0 ∧ s3 = 0 then .good (cwBytes w) [] w
  else match (if s0 = 0 then none else oneError s0 s1 s2 s3) with
    | some e =>
      if e.virtual then .addrErr else .good (cwBytes (fixSymbol w e)) [e.lane] (fixSymbol w e)
    | none =>
      match twoErrors s0 s1 s2 s3 with
      | some (e1, e2) =>
        if e1.virtual || e2.virtual then .addrErr
        else
          let w2 := fixSymbol (fixSymbol w e1) e2
          .good (cwBytes w2) [min e1.lane e2.lane, max e1.lane e2.lane] w2
      | none => .uncorr

/-- Decoding with lane `k` treated as an erasure: the syndromes without its contribution locate one further error
(R56); a difference in both virtual symbols and nowhere else but the erased lane is an address error (R52). -/
def decodeErased (w : Codeword) (k s0 s1 s2 s3 : Nat) : ReadOutcome :=
  let x0 := gfPow (35 - k)
  let t0 := s1 ^^^ gfMul s0 x0
  let t1 := s2 ^^^ gfMul s1 x0
  let t2 := s3 ^^^ gfMul s2 x0
  if t0 = 0 ∧ t1 = 0 ∧ t2 = 0 then
    let w1 := fixSymbol w ⟨35 - k, s0⟩
    .good (cwBytes w1) [] w1
  else
    match (if t0 = 0 then none
      else (List.range 38).find? (fun e => decide (e ≠ 35 - k) && decide (t1 = gfMul t0 (gfPow e)) &&
        decide (t2 = gfMul t1 (gfPow e)))) with
    | some e =>
      let y := gfMul t0 (gfInv (gfPow e ^^^ x0))
      if 36 ≤ e then .addrErr
      else
        let w2 := fixSymbol (fixSymbol w ⟨e, y⟩) ⟨35 - k, s0 ^^^ y⟩
        .good (cwBytes w2) [35 - e] w2
    | none =>
      let xa := gfPow 37
      let xb := gfPow 36
      if t2 ^^^ gfMul (xa ^^^ xb) t1 ^^^ gfMul (gfMul xa xb) t0 = 0 then .addrErr else .uncorr

/-- The decoding of a stored codeword read at logical block `b` (R51 to R56). -/
def decodeBlock (b : Nat) (w : Codeword) (erased : Option Nat) : ReadOutcome :=
  let l := receivedSymbols b w
  let s0 := syndrome l 0
  let s1 := syndrome l 1
  let s2 := syndrome l 2
  let s3 := syndrome l 3
  match erased with
  | none => decodePlain w s0 s1 s2 s3
  | some k => decodeErased w k s0 s1 s2 s3

end Sys2Proof.Machine
end

