-- ==== Sys2Proof/Machine/Cellar.lean ====
section
/-! DEFINITION. The Cellar: its logical space, codeword reads and writes, dead lanes, scrub, channel loss and the
eleven-channel layout (R40 to R68). -/

namespace Sys2Proof.Machine

/-- A block of 64 zero bytes. -/
def zeroBlock : List Byte := List.replicate 64 0

/-- Channel rows of one channel: 16,777,216 blocks (R41). -/
def channelRows : Nat := 0x1000000

/-- The channels in the layout in force: N of R40. -/
def State.layoutN (s : State) : Nat := s.cellar.layout.length

/-- The channel that holds a logical block (R40), none before training. -/
def State.blockChannel (s : State) (b : Nat) : Option Nat := s.cellar.layout[b % s.layoutN]?

/-- The first block of the table area (R41). -/
def State.tableBase (s : State) : Nat := (s.layoutN - 1) * channelRows

/-- The codeword stored for a logical block; a block not written since its contents were discarded holds 64 zero
bytes under its own address. Log 9 (DESIGN CHOICE). -/
def State.codeword (s : State) (b : Nat) : Codeword := s.cellar.words.get (encodeBlock b zeroBlock) b

/-- A codeword stored for a logical block. -/
def State.setCodeword (s : State) (b : Nat) (w : Codeword) : State :=
  { s with cellar := { s.cellar with words := s.cellar.words.set (encodeBlock b zeroBlock) b w } }

/-- One channel's hidden state. -/
def State.chan (s : State) (c : Nat) : Chan := s.cellar.chan.get {} c

/-- One channel's hidden state replaced. -/
def State.setChan (s : State) (c : Nat) (x : Chan) : State :=
  { s with cellar := { s.cellar with chan := s.cellar.chan.set {} c x } }

/-- The channel is in state ONLINE or ONLINE_ERASED. -/
def State.chanOnline (s : State) (c : Nat) : Bool :=
  decide (s.get (F.CH_STATUS_STATE c) = 2 ∨ s.get (F.CH_STATUS_STATE c) = 3)

/-- The channels in state ONLINE or ONLINE_ERASED, ascending. -/
def State.onlineChannels (s : State) : List Nat := (List.range 12).filter s.chanOnline

/-- The erased lane of a channel (R55). -/
def State.erasedLane (s : State) (c : Nat) : Option Nat :=
  if s.flag (F.CH_STATUS_ERASURE c) then some (s.get (F.CH_STATUS_ERASED_LANE c)) else none

/-- A channel is declared lost (R62, R63, R67): it stays so until the next reset. -/
def State.loseChannel (s : State) (c cause : Nat) : State :=
  if s.chanOnline c || decide (s.get (F.CH_STATUS_STATE c) = 1) then
    let s1 := ((s.set (F.CH_STATUS_STATE c) 4).set (F.CH_STATUS_LOST_CAUSE c) cause).set (F.CH_STATUS_LOST_CAUSE_VALID c) 1
    let s2 := (s1.setBit F.CELLAR_STATUS_ONLINE_MASK c false).set F.CELLAR_STATUS_REMAP_PENDING 1
    let s3 := s2.setChan c { s2.chan c with scrub := none }
    (s3.cause F.CELLAR_INT_STATUS_CHANNEL_LOST).limpRaise 2 (c + 16 * cause)
  else s

/-- The times a lane stands in a history. -/
def laneCount (h : List (List Nat)) (lane : Nat) : Nat := (h.filter (fun e => e.contains lane)).length

/-- The non-erased lane with the most corrections in a history, the lowest one in a tie, and its count
(LANE_WATCH). -/
def leadingLane (h : List (List Nat)) (erased : Option Nat) : Nat × Nat :=
  (List.range 36).foldl (fun best lane =>
    if some lane ≠ erased ∧ best.2 < laneCount h lane then (lane, laneCount h lane) else best) (0, 0)

/-- A corrected codeword enters the channel's history, which may declare a lane dead or, for a second lane, take the
channel offline (R55 to R57). -/
def State.enterHistory (s : State) (c : Nat) (lanes : List Nat) : State :=
  let h := (lanes :: (s.chan c).history).take 1024
  let s1 := s.setChan c { s.chan c with history := h }
  let dead := lanes.filter (fun l => decide (64 ≤ laneCount h l))
  let s2 := dead.foldl (fun s' l =>
    if s'.get (F.CH_STATUS_STATE c) = 4 then s'
    else match s'.erasedLane c with
      | none =>
        let s3 := ((s'.set (F.CH_STATUS_STATE c) 3).set (F.CH_STATUS_ERASURE c) 1).set (F.CH_STATUS_ERASED_LANE c) l
        (s3.cause F.CELLAR_INT_STATUS_LANE_ERASED).limpRaise 1 (c + 16 * l)
      | some e => if e = l then s' else s'.loseChannel c 3) s1
  let lead := leadingLane h (s2.erasedLane c)
  (s2.set (F.CH_LANE_WATCH_LANE c) lead.1).set (F.CH_LANE_WATCH_COUNT c) lead.2

/-- The record of an uncorrectable codeword or an address error (R51, LAST_ERR_INFO). -/
def State.lastCellarErr (s : State) (c b kind : Nat) (scrub : Bool) : State :=
  ((s.set (F.CH_LAST_ERR_BLOCK c) b).set (F.CH_LAST_ERR_INFO_KIND c) kind).set (F.CH_LAST_ERR_INFO_BY_SCRUB c) (b2n scrub)

/-- An uncorrectable codeword counts toward the loss of its channel: 16 within any 1 ms (R62). -/
def State.uncorrRate (s : State) (c : Nat) : State :=
  let l := (s.now :: (s.chan c).uncorrAt).filter (fun t => decide (s.now < t + 1000000))
  let s1 := s.setChan c { s.chan c with uncorrAt := l }
  if 16 ≤ l.length then s1.loseChannel c 2 else s1

/-- What the outcome of a codeword read reports (R51, R55, R56, R501). -/
def State.reportRead (s : State) (c b : Nat) (scrub : Bool) : ReadOutcome → State
  | .good _ [] _ => s
  | .good _ lanes _ =>
    let s1 := s.bump (if lanes.length = 1 then F.CH_CORR1 c else F.CH_CORR2 c)
    (((s1.bump F.CELLAR_CORR_TOTAL).cause F.CELLAR_INT_STATUS_CORR).summary 4).enterHistory c lanes
  | .addrErr =>
    let s1 := (s.bump (F.CH_ADDR_ERR c)).bump F.CELLAR_UNCORR_TOTAL
    ((s1.lastCellarErr c b 1 scrub).cause F.CELLAR_INT_STATUS_ADDR_ERR).summary 5
  | .uncorr =>
    let s1 := (s.bump (F.CH_UNCORR c)).bump F.CELLAR_UNCORR_TOTAL
    (((s1.lastCellarErr c b 0 scrub).cause F.CELLAR_INT_STATUS_UNCORR).summary 5).uncorrRate c

/-- A read or a discarded write of a lost channel (R63). -/
def State.countBlank (s : State) (c : Nat) : State := (s.bump (F.CH_BLANK c)).bump F.CELLAR_BLANK_TOTAL

/-- The data that a read outcome delivers: none where zeros are delivered instead (R51, R54). -/
def ReadOutcome.data : ReadOutcome → Option (List Byte)
  | .good d _ _ => some d
  | _ => none

/-- A codeword read by a user of the Cellar (R51, R63): the 64 bytes, or none where zeros are delivered. -/
def State.cellarRead (s : State) (b : Nat) : Option (List Byte) × State :=
  match s.blockChannel b with
  | none => (none, s)
  | some c =>
    if s.chanOnline c then
      let o := decodeBlock b (s.codeword b) (s.erasedLane c)
      let s1 := s.setChan c { s.chan c with reads := (s.chan c).reads + 1 }
      (o.data, s1.reportRead c b false o)
    else (none, s.countBlank c)

/-- A write of a whole block (R43, R59, R63): a scrub write-back that it overtakes is cancelled. Log 45 (DEDUCED). -/
def State.cellarWrite (s : State) (b : Nat) (bytes : List Byte) : State :=
  match s.blockChannel b with
  | none => s
  | some c =>
    if s.chanOnline c then
      let ch := s.chan c
      let overtakes := match ch.scrub with
        | some (x, _) => decide (x = b)
        | none => false
      let s1 := s.setChan c { ch with writes := ch.writes + 1, scrub := if overtakes then none else ch.scrub }
      let s2 := if overtakes then s1.bump (F.CH_SCRUB_CANCEL c) else s1
      s2.setCodeword b (encodeBlock b bytes)
    else s.countBlank c

/-- Bytes with `new` put in from byte `off` on. -/
def mergeBytes (old new : List Byte) (off : Nat) : List Byte := old.take off ++ new ++ old.drop (off + new.length)

/-- A write that does not cover the whole block (R60, R61): whether the response reports an error, and the state. -/
def State.cellarPartialWrite (s : State) (b off : Nat) (bytes : List Byte) : Bool × State :=
  match s.blockChannel b with
  | none => (true, s)
  | some c =>
    if s.chanOnline c then
      let (d, s1) := s.cellarRead b
      let s2 := (s1.bump (F.CH_RMW c)).bump F.CELLAR_RMW_TOTAL
      match d with
      | some old => (false, s2.cellarWrite b (mergeBytes old bytes off))
      | none => (true, (s2.cause F.CELLAR_INT_STATUS_RMW_ERR).cellarWrite b (mergeBytes zeroBlock bytes off))
    else (false, s.countBlank c)

/-- Blocks read one after the other, zeros for those delivered as zeros. -/
def State.cellarReads (s : State) : List Nat → List (Option (List Byte)) × State
  | [] => ([], s)
  | b :: r =>
    let (d, s1) := s.cellarRead b
    let (l, s2) := s1.cellarReads r
    (d :: l, s2)

/-- `n` bytes of the Cellar's byte space from byte address `a`, one block at a time, zeros where zeros are
delivered (R54, R408). -/
def State.cellarBytes (s : State) (a n : Nat) : List Byte × State :=
  let first := a / 64
  let last := (a + n - 1) / 64
  let (l, s1) := s.cellarReads ((List.range (last + 1 - first)).map (· + first))
  (((l.map (fun d => d.getD zeroBlock)).flatten.drop (a - 64 * first)).take n, s1)

/-- Whole blocks written one after the other from block `b`, the last one padded with 0. -/
def State.cellarStore (s : State) (b : Nat) : Nat → List Byte → State
  | 0, _ => s
  | n + 1, l => (s.cellarWrite b ((l ++ zeroBlock).take 64)).cellarStore (b + 1) n (l.drop 64)

/-! ### Events of the Cellar -/

/-- CELLAR_READ (R51): a block's stored codeword takes the errors given, and is read. -/
def execCellarRead (t b : Nat) (errors : List (Nat × Nat)) (s : State) : Host.Outcome State Fault Refusal :=
  coreStep t (fun s =>
    let w := errors.foldl (fun w e => w ^^^ BitVec.ofNat 576 ((e.2 % 65536) <<< (16 * (e.1 % 36)))) (s.codeword b)
    ((s.setCodeword b w).cellarRead b).2) s

/-- CELLAR_PARTIAL_WRITE (R60, R61). -/
def execCellarPartialWrite (t b off : Nat) (bytes : List Byte) (s : State) : Host.Outcome State Fault Refusal :=
  coreStep t (fun s => (s.cellarPartialWrite b (off % 64) (bytes.take (64 - off % 64))).2) s

/-- CELLAR_PROBE (R62): a mode-register probe of one channel; `temp` is the refresh-rate field read, none when the
probe fails. -/
def execCellarProbe (t c : Nat) (temp : Option Nat) (s : State) : Host.Outcome State Fault Refusal :=
  coreStep t (fun s =>
    if s.get (F.CH_STATUS_STATE c) < 2 ∨ 12 ≤ c then s
    else match temp with
      | some v =>
        let s1 := s.setChan c { s.chan c with probeFails := 0 }
        if s1.chanOnline c then s1.set (F.CH_STATUS_DRAM_TEMP c) v else s1
      | none =>
        let n := (s.chan c).probeFails + 1
        let s1 := (s.bump (F.CH_PROBE_FAIL c)).setChan c { s.chan c with probeFails := n }
        if 2 ≤ n then s1.loseChannel c 1 else s1) s

/-- The position of a channel in the layout. -/
def State.layoutPos (s : State) (c : Nat) : Nat := s.cellar.layout.idxOf c

/-- The scrub passes completed by every online channel of the layout. -/
def State.scrubPasses (s : State) : Nat :=
  ((s.cellar.layout.filter s.chanOnline).map (fun c => (s.chan c).passes)).foldl min
    (((s.cellar.layout.filter s.chanOnline).map (fun c => (s.chan c).passes)).headD 0)

/-- The rows that the slowest online channel has scrubbed of its present pass (SCRUB_STATUS). -/
def State.scrubProgress (s : State) : Nat :=
  let l := (s.cellar.layout.filter s.chanOnline).filter (fun c => decide ((s.chan c).passes = s.scrubPasses))
  (l.map (fun c => s.get (F.CH_SCRUB_POS c))).foldl min channelRows

/-- SCRUB_STEP (R58, R59): scrub of one channel writes back the block it has corrected, or reads the next one.
Log 45 (DEDUCED). -/
def execScrubStep (t c : Nat) (s : State) : Host.Outcome State Fault Refusal :=
  coreStep t (fun s =>
    if !s.chanOnline c || !s.flag (F.CH_CTRL_SCRUB_EN c) || !s.cellar.layout.contains c then s
    else match (s.chan c).scrub with
      | some (b, w) => (s.setChan c { s.chan c with scrub := none, writes := (s.chan c).writes + 1 }).setCodeword b w
      | none =>
        let row := s.get (F.CH_SCRUB_POS c)
        let b := row * s.layoutN + s.layoutPos c
        let o := decodeBlock b (s.codeword b) (s.erasedLane c)
        let back := match o with
          | .good _ lanes w => if lanes = [] then none else some (b, w)
          | _ => none
        let before := s.scrubPasses
        let wrap := decide (row + 1 = channelRows)
        let s1 := s.setChan c { s.chan c with
          reads := (s.chan c).reads + 1
          scrub := back
          passes := (s.chan c).passes + b2n wrap }
        let s2 := s1.set (F.CH_SCRUB_POS c) (if wrap then 0 else row + 1)
        let s3 := s2.reportRead c b true o
        let s4 := (s3.set F.CELLAR_SCRUB_STATUS_PASSES s3.scrubPasses).set F.CELLAR_SCRUB_STATUS_PROGRESS
          (s3.scrubProgress * 256 / channelRows)
        if before < s3.scrubPasses then s4.cause F.CELLAR_INT_STATUS_SCRUB_PASS else s4) s

/-- Training of the Cellar before READY_FOR_HOST (R62, R370): the channels of the mask train, the others are lost
with cause 0; the firmware sets the channel enables and USE_MASK (R384). Log 41 (DEDUCED). Log 42 (DEDUCED). -/
def State.trainCellar (s : State) (trained temps : Nat) : State :=
  let s1 := (List.range 12).foldl (fun s' c =>
    let s2 := ((s'.set (F.CH_STATUS_STATE c) 1).set (F.CH_CTRL_ENABLE c) 1).set (F.CH_CTRL_SCRUB_EN c) 1
    if bitOf trained c then
      ((s2.set (F.CH_STATUS_STATE c) 2).setBit F.CELLAR_STATUS_ONLINE_MASK c true).set (F.CH_STATUS_DRAM_TEMP c)
        (bitsOf temps (3 * c) 3)
    else s2.loseChannel c 0) s
  let l := if 11 ≤ s1.onlineChannels.length then s1.onlineChannels else []
  let s3 := { s1 with cellar := { s1.cellar with layout := l } }
  let s4 := (s3.set F.CELLAR_CTRL_USE_MASK (trained % 4096)).set F.CELLAR_STATUS_LAYOUT_N l.length
  let s5 := ((s4.set F.CELLAR_CAPACITY_DATA_MIB (1024 * l.length)).set F.CELLAR_CAPACITY_CHANNELS 12).set
    F.CELLAR_RING_AREA (1024 * (l.length - 1))
  ((s5.set F.CELLAR_TABLE_AREA s5.tableBase).set F.CELLAR_STATUS_REMAP_PENDING 0).set F.CELLAR_STATUS_FIT 1

/-- The load of one channel over the last 100 µs in 1/256 of its bandwidth: 40,000 blocks (BW_STATUS). -/
def chanLoad (ch : Chan) : Nat := min ((ch.reads + ch.writes) * 256 / 40000) 255

/-- BW_READ, BW_WRITE and BW_STATUS at a 100 µs boundary. -/
def State.rollBandwidth (s : State) : State :=
  let best := s.onlineChannels.foldl (fun (b : Nat × Nat) c => if b.1 < chanLoad (s.chan c) then (chanLoad (s.chan c), c) else b)
    (0, s.onlineChannels.headD 0)
  let s1 := (List.range 12).foldl (fun s' c =>
    ((s'.set (F.CH_BW_READ c) (s'.chan c).reads).set (F.CH_BW_WRITE c) (s'.chan c).writes).setChan c
      { s'.chan c with reads := 0, writes := 0 }) s
  (s1.set F.CELLAR_BW_STATUS_LOAD best.1).set F.CELLAR_BW_STATUS_BUSIEST best.2

/-- The host's write of FORCE_OFFLINE of a channel in DIAGNOSE (R62). -/
def State.cellarForce (s : State) (c : Nat) : State := s.loseChannel c 4

end Sys2Proof.Machine
end

