-- ==== Sys2Proof/Machine/Geometry.lean ====
section
/-! DEFINITION. Nozzle geometry: planes, rows, row sets, delay rings, and the GEO commands (R29 to R44). -/

namespace Sys2Proof.Machine

/-! ### The geometry model -/

/-- The global nozzle ID of a port's local index (R29). -/
def nozzleId (port loc : Nat) : Nat := port * 40960 + loc

/-- The local index of nozzle `k` of a row (R30). -/
def RowEntry.local (r : RowEntry) (k : Nat) : Nat := r.firstLocal + k * r.localStep

/-- The column of nozzle `k` of a row (R30). -/
def RowEntry.column (r : RowEntry) (k : Nat) : Nat :=
  if r.reverse then r.firstColumn + (r.n - 1 - k) * r.columnStep else r.firstColumn + k * r.columnStep

/-- The nozzle of a row that prints a column (R30). -/
def RowEntry.nozzleOf (r : RowEntry) (col : Nat) : Option Nat :=
  if r.firstColumn ≤ col ∧ (col - r.firstColumn) % r.columnStep = 0 ∧ (col - r.firstColumn) / r.columnStep < r.n then
    let j := (col - r.firstColumn) / r.columnStep
    some (if r.reverse then r.n - 1 - j else j)
  else none

/-- The row covers a column. -/
def RowEntry.covers (r : RowEntry) (col : Nat) : Bool := (r.nozzleOf col).isSome

/-- The index in a row of the nozzle with a local index. -/
def RowEntry.indexOf (r : RowEntry) (loc : Nat) : Option Nat :=
  if r.firstLocal ≤ loc ∧ (loc - r.firstLocal) % r.localStep = 0 ∧ (loc - r.firstLocal) / r.localStep < r.n then
    some ((loc - r.firstLocal) / r.localStep)
  else none

/-- Two rows cover the same columns (R38 check 5). -/
def sameColumns (a b : RowEntry) : Bool :=
  decide (a.firstColumn = b.firstColumn ∧ a.n = b.n ∧ (a.columnStep = b.columnStep ∨ a.n = 1))

/-- The defined row of a port. -/
def Geo.row (g : Geo) (port row : Nat) : Option RowEntry := g.rows.find? (fun r => r.port = port ∧ r.row = row)

/-- The rows of a port, ascending. -/
def Geo.portRows (g : Geo) (port : Nat) : List RowEntry := g.rows.filter (fun r => r.port = port)

/-- The declared plane. -/
def Geo.plane (g : Geo) (p : Nat) : Option Plane := lookupCell g.planes.cells p

/-- The rows of a row set, in rotation order (R31). -/
def Geo.setRows (g : Geo) (x : RowSet) : List RowEntry := x.members.filterMap (fun m => g.row m.1 m.2)

/-- The row sets of a plane. -/
def Geo.planeSets (g : Geo) (p : Nat) : List RowSet := g.sets.filter (fun x => x.plane = p)

/-- Slot size S_r of a row in blocks (R42). -/
def slotBlocks (n bits : Nat) : Nat := ceilDiv (n * bits) 512

/-- The rings of rows in ascending order, from a first block on (R42); a row whose plane is not declared takes none. -/
def placeRings (g : Geo) : Nat → List RowEntry → List Ring
  | _, [] => []
  | b, r :: l =>
    match g.plane r.plane with
    | some p =>
      let d := r.delay + p.headroom
      let sl := slotBlocks r.n p.bits
      { port := r.port, row := r.row, base := b, depth := d, slot := sl } :: placeRings g (b + d * sl) l
    | none => placeRings g b l

/-- The Cellar need of a list of rings in blocks (R42). -/
def ringBlocks (l : List Ring) : Nat := (l.map (fun r => r.depth * r.slot)).foldl (· + ·) 0

/-- The rings that R42 gives the present tables. -/
def Geo.wanted (g : Geo) : List Ring := placeRings g 0 g.rows

/-- The Cellar need of one plane in blocks. -/
def Geo.planeNeed (g : Geo) (p : Nat) : Nat :=
  ringBlocks (g.wanted.filter (fun r => match g.row r.port r.row with
    | some e => decide (e.plane = p)
    | none => false))

/-- The ring of a row. -/
def Geo.ring (g : Geo) (port row : Nat) : Option Ring := g.rings.find? (fun r => r.port = port ∧ r.row = row)

/-- The blocks of the slot of write line `w` (R43). -/
def Ring.slotOf (r : Ring) (w : Nat) : List Nat := (List.range r.slot).map (fun k => r.base + (w % r.depth) * r.slot + k)

/-- Bits `bits * i` to `bits * i + bits - 1` of a string of bytes, from bit 0 of its first byte (R43). -/
def codeAt (l : List Byte) (bits k : Nat) : Nat := (leNat l >>> (bits * k)) % 2 ^ bits

/-- Codes packed as R43 places them, `bits` each, filled with 0 to whole blocks. -/
def packCodes (bits : Nat) (codes : List Nat) (blocks : Nat) : List Byte :=
  leBytes (64 * blocks) (codes.foldr (fun c acc => c % 2 ^ bits + 2 ^ bits * acc) 0)

/-! ### Tables -/

/-- The bytes from `off` on are all 0. -/
def zeroBytes (l : List Byte) (off n : Nat) : Bool := (bytesAt l off n).all (fun b => b = 0)

/-- A row table entry (R34), none where a field is out of range. -/
def parseRow (l : List Byte) : Option RowEntry :=
  let r : RowEntry := {
    port := uAt l 0 1, row := uAt l 1 1, plane := uAt l 2 1, reverse := bitOf (uAt l 3 1) 0
    firstLocal := uAt l 4 2, n := uAt l 6 2, localStep := uAt l 8 2, columnStep := uAt l 10 2
    firstColumn := uAt l 12 4, delay := uAt l 16 2, fine := sAt l 18 2, group := uAt l 20 1 }
  if r.port < 128 ∧ r.row < 64 ∧ r.plane < 16 ∧ uAt l 3 1 < 2 ∧ r.firstLocal ≤ 40959 ∧ within r.n 1 40960 ∧
      within r.localStep 1 64 ∧ within r.columnStep 1 16 ∧ r.firstColumn ≤ 1048575 ∧ r.delay ≤ 8191 ∧ r.group < 16 ∧
      zeroBytes l 21 11 then some r else none

/-- The bytes of a row table entry (R34). -/
def rowBytes (r : RowEntry) : List Byte :=
  leBytes 1 r.port ++ leBytes 1 r.row ++ leBytes 1 r.plane ++ leBytes 1 (b2n r.reverse) ++ leBytes 2 r.firstLocal ++
  leBytes 2 r.n ++ leBytes 2 r.localStep ++ leBytes 2 r.columnStep ++ leBytes 4 r.firstColumn ++ leBytes 2 r.delay ++
  leBytes 2 (ofSigned 16 r.fine) ++ leBytes 1 r.group ++ List.replicate 11 0

/-- No element of a list stands in it twice. -/
def distinct : List (Nat × Nat) → Bool
  | [] => true
  | x :: r => !r.contains x && distinct r

/-- A row-set table entry (R35), none where a field is out of range. -/
def parseSet (l : List Byte) : Option RowSet :=
  let n := uAt l 1 1
  let pairs := (List.range 8).map (fun k => (uAt l (4 + 2 * k) 1, uAt l (5 + 2 * k) 1))
  let m := pairs.take n
  if uAt l 0 1 < 16 ∧ within n 1 8 ∧ uAt l 2 2 = 0 ∧ uAt l 20 4 = 0 ∧ (pairs.drop n).all (fun x => x = (0, 0)) ∧
      m.all (fun x => decide (x.1 < 128 ∧ x.2 < 64)) ∧ distinct m then
    some { plane := uAt l 0 1, members := m } else none

/-- A table's entries of `w` bytes. -/
def entries (w : Nat) : Nat → List Byte → List (List Byte)
  | 0, _ => []
  | n + 1, l => l.take w :: entries w n (l.drop w)

/-- Every entry parsed, or the index of the first that is out of range (R37). -/
def parseAll {α : Type} (f : List Byte → Option α) : Nat → List (List Byte) → Except Nat (List α)
  | _, [] => .ok []
  | k, e :: r =>
    match f e with
    | none => .error k
    | some x =>
      match parseAll f (k + 1) r with
      | .ok l => .ok (x :: l)
      | .error j => .error j

/-- Parsed entries, none where one is out of range. -/
def parsed {α : Type} (f : List Byte → Option α) (l : List (List Byte)) : List α :=
  match parseAll f 0 l with
  | .ok x => x
  | .error _ => []

/-- The refusal for the first entry out of range (R37). -/
def entryError {α : Type} (f : List Byte → Option α) (l : List (List Byte)) : Option Resp :=
  match parseAll f 0 l with
  | .ok _ => none
  | .error k => refuse .outOfRange k

/-- A row put in its place in ascending (PORT, ROW), replacing one with the same (R36). -/
def insertRow (x : RowEntry) : List RowEntry → List RowEntry
  | [] => [x]
  | r :: l =>
    if r.port = x.port ∧ r.row = x.row then x :: l
    else if x.port < r.port ∨ (x.port = r.port ∧ x.row < r.row) then x :: r :: l
    else r :: insertRow x l

/-- A row set that replaces every set with one of its members (R36). -/
def insertSet (x : RowSet) (l : List RowSet) : List RowSet :=
  l.filter (fun y => !y.members.any (fun m => x.members.contains m)) ++ [x]

/-- The geometry replaced. -/
def State.setGeo (s : State) (g : Geo) : State := { s with geo := g }

/-! ### The checks of R38 -/

/-- Checks 1 to 3 on one row. -/
def Geo.rowCheck (g : Geo) (code : Nat) (r : RowEntry) : Bool :=
  match code with
  | 1 => (g.plane r.plane).isSome
  | 2 => match g.plane r.plane with
    | some p => decide (r.firstColumn + (r.n - 1) * r.columnStep < p.columns)
    | none => false
  | _ => decide (r.firstLocal + (r.n - 1) * r.localStep ≤ 40959)

/-- Check 4: two rows of one port share no local index. -/
def disjointLocals (a b : RowEntry) : Bool :=
  decide (a.port ≠ b.port) || (List.range a.n).all (fun k => (b.indexOf (a.local k)).isNone)

/-- Check 4 over all rows. -/
def allDisjoint : List RowEntry → Bool
  | [] => true
  | r :: l => l.all (disjointLocals r) && allDisjoint l

/-- Check 5 on one row set. -/
def Geo.setCheck (g : Geo) (x : RowSet) : Bool :=
  let l := g.setRows x
  decide (l.length = x.members.length) && l.all (fun r => decide (r.plane = x.plane)) &&
    match l with
    | [] => false
    | r :: rest => rest.all (sameColumns r)

/-- The row sets of a plane that cover a column. -/
def Geo.setsAt (g : Geo) (p col : Nat) : List RowSet :=
  (g.planeSets p).filter (fun x => (g.setRows x).any (fun r => r.covers col))

/-- Check 6: every column of every declared plane in exactly one row set, every row in exactly one. -/
def Geo.coverCheck (g : Geo) : Bool :=
  g.planes.cells.all (fun c => (List.range c.2.columns).all (fun col => decide ((g.setsAt c.1 col).length = 1))) &&
    g.rows.all (fun r => decide ((g.sets.filter (fun x => x.members.contains (r.port, r.row))).length = 1))

/-- The geometry checks 1 to 8 in order: the first that fails, with its status (R38). Check 9 is the line engines'. -/
def State.geoChecks (s : State) : Option (Status × Nat) :=
  let g := s.geo
  if !g.rows.all (g.rowCheck 1) then some (.outOfRange, 1)
  else if !g.rows.all (g.rowCheck 2) then some (.outOfRange, 2)
  else if !g.rows.all (g.rowCheck 3) then some (.outOfRange, 3)
  else if !allDisjoint g.rows then some (.outOfRange, 4)
  else if !g.sets.all g.setCheck then some (.outOfRange, 5)
  else if !g.coverCheck then some (.outOfRange, 6)
  else if (s.onlineChannels.length - 1) * channelRows < ringBlocks g.wanted then some (.outOfRange, 7)
  else if s.onlineChannels.length < 11 then some (.hwFault, 8)
  else none

/-- The rings placed and the Cellar's need registers set (R42, RING_NEED, PLANE_NEED, FIT). -/
def State.placeGeometry (s : State) : State :=
  let s1 := s.setGeo { s.geo with rings := s.geo.wanted }
  let s2 := s1.set F.CELLAR_RING_NEED (ringBlocks s1.geo.rings)
  let s3 := (List.range 16).foldl (fun s' p => s'.set (F.CELLAR_PLANE_NEED p) (s'.geo.planeNeed p)) s2
  s3.set F.CELLAR_STATUS_FIT (b2n (decide (ringBlocks s3.geo.rings ≤ s3.tableBase)))

/-- A channel has been lost since the layout was made, and eleven are left (R64). -/
def State.remapDue (s : State) : Bool :=
  s.flag F.CELLAR_STATUS_REMAP_PENDING && decide (s.onlineChannels.length = 11)

/-- What the users of the table area lose with it: every tile (R118), every reference and sample history (R267), and
the records of the lines stored. -/
def State.clearTables (s : State) : State :=
  let planes := s.lines.planes.keys.foldl (fun (tb : Tbl LinePlane) p => tb.set {} p { tb.get {} p with tile := none })
    s.lines.planes
  let s1 := { s with lines := { s.lines with planes := planes, stored := {} } }
  let s2 := s1.set F.LINE_MASK_VALID_PLANES 0
  let s3 := { s2 with watch := { s2.watch with hist := {}, learned := {} } }
  (List.range 4).foldl (fun s' j => s'.set (F.WATCH_REF_VALID j) 0) (s3.set F.WATCH_STATUS_REF_CLEARED 1)

/-- The eleven-channel layout is adopted: every block is discarded, the rings of a committed geometry are placed again, and
CELLAR_REMAPPED is posted (R64, R65). Log 44 (DEDUCED). -/
def State.remapCellar (s : State) : State :=
  let l := s.onlineChannels
  let lost := (List.range 12).foldl (fun m c => if s.chanOnline c then m else m ||| 2 ^ c) 0
  let s1 := { s with cellar := { s.cellar with layout := l, words := {} } }
  let s2 := (((s1.set F.CELLAR_STATUS_LAYOUT_N l.length).set F.CELLAR_STATUS_REMAP_PENDING 0).set
    F.CELLAR_STATUS_REMAPPED 1).set F.CELLAR_CAPACITY_DATA_MIB (1024 * l.length)
  let s3 := (s2.set F.CELLAR_RING_AREA (1024 * (l.length - 1))).set F.CELLAR_TABLE_AREA s2.tableBase
  let placed := if s.committed then s3.placeGeometry
    else (s3.setGeo { s3.geo with rings := [] }).set F.CELLAR_STATUS_FIT (b2n (decide (s3.get F.CELLAR_RING_NEED ≤ s3.tableBase)))
  let s4 := placed.clearTables.cause F.CELLAR_INT_STATUS_REMAPPED
  s4.postEvent 5 (leBytes 4 l.length ++ leBytes 4 (1024 * (l.length - 1)) ++ leBytes 2 lost)

/-! ### GEO commands (R36) -/

/-- CONFIGURE only. -/
def inConfigure (m : Mode) : Bool := decide (m = .configure)

/-- GEO_CLEAR. -/
def geoClear : Cmd := {
  op := 0x100, modes := inConfigure, len := (· = 0), prep := true
  apply := fun _ _ s => ok (s.setGeo { rings := s.geo.rings }) }

/-- GEO_PLANE: HEADROOM 0 selects 64. -/
def geoPlane : Cmd := {
  op := 0x101, modes := inConfigure, len := (· = 12), prep := true
  range := fun rq _ => inRange (decide (rq.u 0 1 < 16 ∧ within (rq.u 1 1) 1 4 ∧
    (rq.u 2 2 = 0 ∨ (within (rq.u 2 2) 64 1024 ∧ rq.u 2 2 % 64 = 0)) ∧ within (rq.u 4 4) 1 1048576 ∧ rq.u 8 4 = 0))
  apply := fun _ rq s =>
    let h := if rq.u 2 2 = 0 then 64 else rq.u 2 2
    let p : Plane := { bits := rq.u 1 1, headroom := h, columns := rq.u 4 4 }
    ok (s.setGeo { s.geo with planes := ⟨insertCell s.geo.planes.cells (rq.u 0 1) p⟩ }) }

/-- GEO_ROWS: all entries or none (R37). -/
def geoRows : Cmd := {
  op := 0x102, modes := inConfigure, len := (· = 16), prep := true
  range := fun rq _ => inRange (within (rq.u 8 4) 1 8192)
  bulk := fun rq _ => some { addr := rq.u 0 8, len := 32 * rq.u 8 4, crc := some (rq.u 12 4) }
  stage := fun l rq _ => entryError parseRow (entries 32 (rq.u 8 4) l)
  apply := fun l rq s =>
    ok (s.setGeo { s.geo with rows := (parsed parseRow (entries 32 (rq.u 8 4) l)).foldl (fun a r => insertRow r a) s.geo.rows }) }

/-- GEO_ROWSETS: all entries or none (R37). -/
def geoRowsets : Cmd := {
  op := 0x103, modes := inConfigure, len := (· = 16), prep := true
  range := fun rq _ => inRange (within (rq.u 8 4) 1 8192)
  bulk := fun rq _ => some { addr := rq.u 0 8, len := 24 * rq.u 8 4, crc := some (rq.u 12 4) }
  stage := fun l rq _ => entryError parseSet (entries 24 (rq.u 8 4) l)
  apply := fun l rq s =>
    ok (s.setGeo { s.geo with sets := (parsed parseSet (entries 24 (rq.u 8 4) l)).foldl (fun a x => insertSet x a) s.geo.sets }) }

/-- GEO_QUERY. -/
def geoQuery : Cmd := {
  op := 0x104, modes := Mode.normal, len := (· = 0), reads := true
  apply := fun _ _ s =>
    let need := 64 * ringBlocks s.geo.wanted
    let n := s.onlineChannels.length
    let area := 64 * ((n - 1) * channelRows)
    okWith (leBytes 8 need ++ leBytes 8 area ++ leBytes 4 (b2n (decide (need ≤ area ∧ 11 ≤ n))) ++ leBytes 4 n ++
      ((List.range 16).map (fun p => leBytes 8 (64 * s.geo.planeNeed p))).flatten) s }

/-- GEO_READ_ROW: an empty response for a row that is not defined. -/
def geoReadRow : Cmd := {
  op := 0x105, modes := Mode.normal, len := (· = 4), reads := true
  range := fun rq s => inRange (s.portOk (rq.u 0 1) && decide (rq.u 1 1 < 64 ∧ rq.u 2 2 = 0))
  apply := fun _ rq s =>
    match s.geo.row (rq.u 0 1) (rq.u 1 1) with
    | none => okWith [] s
    | some r =>
      let x := (s.geo.wanted.find? (fun g => g.port = r.port ∧ g.row = r.row)).getD { depth := 0, slot := 0 }
      okWith (rowBytes r ++ leBytes 4 x.base ++ leBytes 4 x.depth ++ leBytes 4 x.slot) s }

/-- GEO_SCRUB. -/
def geoScrub : Cmd := {
  op := 0x106, modes := Mode.normal, len := (· = 4), prep := true
  range := fun rq _ => inRange (within (rq.u 0 4) 1 1440)
  apply := fun _ rq s => ok (s.set F.CELLAR_SCRUB_CFG_PERIOD_MIN (rq.u 0 4)) }

end Sys2Proof.Machine
end

