-- ==== Sys2Proof/Machine/Otp.lean ====
section
/-! DEFINITION. Fuses: words and their code, sensing, critical words, key regions, the conditions and rounds of programming,
seals and locks, and the OTP commands (R431 to R462). -/

namespace Sys2Proof.Machine

/-! ### Words and their code (R431 to R434) -/

/-- The position of data bit `k` in the codeword (R434). -/
def otpPos (k : Nat) : Nat :=
  if k = 0 then 3 else if k < 4 then k + 4 else if k < 11 then k + 5 else if k < 26 then k + 6 else k + 7

/-- The parity of a list of bits. -/
def parityOf (l : List Bool) : Bool := l.foldl (fun a b => a != b) false

/-- The check bits c0 to c5 of 32 data bits (R434). -/
def otpSyndrome (d : Nat) : Nat :=
  (List.range 32).foldl (fun a k => if bitOf d k then a ^^^ otpPos k else a) 0

/-- The parity of the low `n` bits of a number. -/
def bitParity (n v : Nat) : Bool := parityOf ((List.range n).map (bitOf v))

/-- The seven check bits of 32 data bits (R434). -/
def otpCheck (d : Nat) : Nat :=
  let c := otpSyndrome d
  c + 64 * b2n (bitParity 32 d != bitParity 6 c)

/-- An additive word (R433). -/
def otpAdditive (w : Nat) : Bool := decide (w = 608 ∨ (960 ≤ w ∧ w ≤ 1087) ∨ (2032 ≤ w ∧ w ≤ 2034))

/-- What a raw word decodes to (R434, R436): data, corrected, uncorrectable. -/
structure OtpValue where
  data : Nat := 0
  corrected : Bool := false
  uncorr : Bool := false
  deriving DecidableEq, Repr

/-- A raw word's syndrome and overall parity error. -/
def otpErrors (raw : Nat) : Nat × Bool :=
  let d := raw % 2 ^ 32
  let c := raw / 2 ^ 32 % 128
  ((c % 64) ^^^ otpSyndrome d, bitParity 32 d != bitParity 7 c)

/-- The value of an ECC word (R434, R436). -/
def otpDecode (raw : Nat) : OtpValue :=
  let d := raw % 2 ^ 32
  let (syn, odd) := otpErrors raw
  if odd then
    if 38 < syn then { uncorr := true }
    else match (List.range 32).find? (fun k => decide (otpPos k = syn)) with
      | some k => { data := d ^^^ 2 ^ k, corrected := true }
      | none => { data := d, corrected := true }
  else if syn = 0 then { data := d } else { uncorr := true }

/-- The value of a word outside CRITICAL (R436). -/
def otpValue (w raw : Nat) : OtpValue := if otpAdditive w then { data := raw % 2 ^ 32 } else otpDecode raw

/-- The region of a word (R431). -/
def otpRegion (w : Nat) : Nat :=
  if w < 256 then 0 else if w < 320 then 1 else if w < 512 then 2 else if w < 576 then 3 else if w < 704 then 4
  else if w < 960 then 5 else if w < 1088 then 6 else if w < 2032 then 7 else 8

/-- The first word of a region and the number of its words. -/
def otpWords (r : Nat) : Nat × Nat :=
  match r with
  | 3 => (512, 64)
  | 4 => (576, 128)
  | 5 => (704, 256)
  | 6 => (960, 128)
  | 7 => (1088, 944)
  | _ => (0, 0)

/-- A copy of a critical word, or a lock copy (R437, R438). -/
def otpCopy (w : Nat) : Bool := decide ((320 ≤ w ∧ w < 512) ∨ (2032 ≤ w ∧ w ≤ 2034))

/-! ### Sensing (R435 to R445) -/

/-- What a word reads now: nominal, tight. -/
def State.otpCell (s : State) (w : Nat) : Nat × Nat := s.otp.cells.get (0, 0) w

/-- What a word read at the last full reset (R441). -/
def State.otpLatched (s : State) (w : Nat) : Nat × Nat := s.otp.latched.get (0, 0) w

/-- A read of a word makes it marginal (R435 to R437). -/
def otpMarginal (w : Nat) (c : Nat × Nat) : Bool :=
  decide (c.1 ≠ c.2) || (if otpCopy w then !otpAdditive w && decide (otpErrors c.2 ≠ (0, false)) else (otpValue w c.2).uncorr)

/-- The bitwise majority of three. -/
def majority (a b c : Nat) : Nat := ((a &&& b) ||| (a &&& c)) ||| (b &&& c)

/-- How many copies of critical word `k` are marginal in what was latched (R437). -/
def State.critMarginal (s : State) (k : Nat) : Nat :=
  ([320 + k, 384 + k, 448 + k].filter (fun w => otpMarginal w (s.otpLatched w))).length

/-- Critical word `k` takes the safe default of its users (R437). -/
def State.critDefault (s : State) (k : Nat) : Bool := decide (2 ≤ s.critMarginal k)

/-- The value of critical word `k` (R437). -/
def State.critValue (s : State) (k : Nat) : Nat :=
  majority ((s.otpLatched (320 + k)).2 % 2 ^ 32) ((s.otpLatched (384 + k)).2 % 2 ^ 32) ((s.otpLatched (448 + k)).2 % 2 ^ 32)

/-- The voted lock fuses of what the copies read now, and of what was latched. -/
def lockVote (read : Nat → Nat × Nat) : Nat :=
  majority ((read 2032).2 % 2 ^ 32) ((read 2033).2 % 2 ^ 32) ((read 2034).2 % 2 ^ 32)

/-- Two or more lock copies were marginal at the last full reset (R438). -/
def State.lockDefault (s : State) : Bool :=
  decide (2 ≤ ([2032, 2033, 2034].filter (fun w => otpMarginal w (s.otpLatched w))).length)

/-- The state of region `r` in REGION_STATE. -/
def State.regionState (s : State) (r : Nat) : Nat := bitsOf (s.get F.OTP_REGION_STATE_STATE_r) (3 * r) 3

/-- The state of region `r` replaced. -/
def State.setRegion (s : State) (r st : Nat) : State :=
  let v := s.get F.OTP_REGION_STATE_STATE_r
  s.set F.OTP_REGION_STATE_STATE_r (v - (bitsOf v (3 * r) 3) * 8 ^ r + st * 8 ^ r)

/-- The sealed words of a region (R453). -/
def sealedWords (r : Nat) : List Nat :=
  let (first, n) := otpWords r
  ((List.range n).map (· + first)).filter (fun w => decide (w ≠ 608))

/-- The seal of a region over what `read` gives (R453). -/
def sealCrc (read : Nat → Nat × Nat) (r : Nat) : Nat :=
  crc32c (((sealedWords r).map (fun w => leBytes 4 (otpValue w (read w).2).data)).flatten)

/-- The seal word of a region. -/
def sealWord (r : Nat) : Nat := 2032 + r

/-- The state of region `r` from the lock fuses and its seal (R438, R453 to R457): `seal`: a blown lock's seal holds. -/
def regionJudged (locks r : Nat) (sealProgrammed sealHolds : Bool) : Nat :=
  if bitOf locks r then (if bitOf locks (r + 8) || !sealHolds then 3 else 2) else if sealProgrammed then 1 else 0

/-- The state of region `r` as a full reset judges it (R438, R457). -/
def State.judgeRegion (s : State) (r : Nat) : Nat :=
  if r = 6 then 5
  else if s.lockDefault then 2
  else regionJudged (lockVote s.otpLatched) r (decide ((s.otpLatched (sealWord r)).2 ≠ 0))
    (decide (sealCrc s.otpLatched r = (otpDecode (s.otpLatched (sealWord r)).2).data))

/-- The contents of a word's region are absent (R458). -/
def State.otpAbsent (s : State) (w : Nat) : Bool := decide (s.regionState (otpRegion w) = 3)

/-- The value of a word outside CRITICAL that the device uses: latched, 0 where its region is absent (R436, R441, R458). -/
def State.otpUse (s : State) (w : Nat) : Nat := if s.otpAbsent w then 0 else (otpValue w (s.otpLatched w).2).data

/-- The bytes of consecutive words (R444). -/
def State.otpBytes (s : State) (w n : Nat) : List Byte := ((List.range n).map (fun k => leBytes 4 (s.otpUse (w + k)))).flatten

/-- CONSKEY slot `k` is present (R444). -/
def State.consPresent (s : State) (k : Nat) : Bool :=
  decide (s.otpUse (704 + 16 * k + 8) % 65536 ≠ 0) &&
    (List.range 9).all (fun j => !(otpValue 704 (s.otpLatched (704 + 16 * k + j)).2).uncorr) && decide (s.regionState 5 ≠ 3)

/-- The lowest present slot whose tag is a maker's (R252). -/
def State.consSlot (s : State) (maker : Nat) : Option Nat :=
  (List.range 16).find? (fun k => s.consPresent k && decide (s.otpUse (704 + 16 * k + 8) % 65536 = maker))

/-- The policy of a slot is REFUSE. -/
def State.consRefuse (s : State) (k : Nat) : Bool := bitOf (s.otpUse (704 + 16 * k + 8)) 16

/-- The key of a slot. -/
def State.consKey (s : State) (k : Nat) : List Byte := s.otpBytes (704 + 16 * k) 8

/-- The number of consecutive programmed bits of words `w` on, at most `n` words (R367, R445). -/
def runOf (read : Nat → Nat) : Nat → Nat → Nat
  | 0, _ => 0
  | n + 1, w =>
    let v := read w % 2 ^ 32
    if v = 0xFFFFFFFF then 32 + runOf read n (w + 1)
    else ((List.range 32).find? (fun k => !bitOf v k)).getD 0

/-- The rollback floor in force (R367, R445). -/
def State.otpFloor (s : State) : Nat := runOf (fun w => (s.otpLatched w).2) 128 960

/-- FWKEY slot `k`: a hash word is not 0, and its hash. -/
def State.fwHash (s : State) (k : Nat) : List Byte := s.otpBytes (576 + 8 * k) 8

/-- FWKEY slot `k` is programmed, revoked, usable (R365). -/
def State.fwProgrammed (s : State) (k : Nat) : Bool := (s.fwHash k).any (fun b => decide (b ≠ 0))

/-- A firmware key is revoked (R365). -/
def State.fwRevoked (s : State) (k : Nat) : Bool := bitOf (s.otpUse 608) k

/-- A firmware key is usable (R365). -/
def State.fwUsable (s : State) (k : Nat) : Bool := s.fwProgrammed k && !s.fwRevoked k && decide (s.regionState 4 ≠ 3)

/-- Development images may run (R366). -/
def State.devAllowed (s : State) : Bool :=
  (List.range 4).all (fun k => !s.fwProgrammed k) && !bitOf (lockVote s.otpLatched) 4 && !s.lockDefault

/-- A mask of the numbers below `n` that satisfy `p`. -/
def maskOf (n : Nat) (p : Nat → Bool) : Nat := (List.range n).foldl (fun m k => if p k then m ||| 2 ^ k else m) 0

/-- The registers that report marginal words. -/
def State.showMarginal (s : State) : State :=
  let l := s.otp.marginal
  let crit := maskOf 64 (fun k => l.contains (320 + k) || l.contains (384 + k) || l.contains (448 + k))
  let s1 := (s.set F.OTP_MARGINAL_WORDS (l.filter (fun w => !otpCopy w)).length).set F.OTP_MARGINAL_COPIES
    (l.filter otpCopy).length
  let s2 := (s1.set F.OTP_FIRST_MARGINAL_WORD (l.foldl min (l.headD 0))).set F.OTP_FIRST_MARGINAL_VALID (b2n (l ≠ []))
  s2.set64 F.OTP_CRIT_MARGINAL_LO F.OTP_CRIT_MARGINAL_HI crit

/-- The limp condition of a marginal word (R437, R442). -/
def State.marginalLimp (s : State) (w : Nat) : State :=
  let dflt := if w < 2032 then s.critDefault ((w - 320) % 64) else s.lockDefault
  if otpCopy w then s.limpRaise 9 (w + 2048 * b2n dflt) else s.limpRaise 8 w

/-- The shutdown limit that the fuses give in °C (R439, R468). -/
def State.fuseLimit (s : State) : Nat := if (List.range 8).any s.critDefault then 115 else 125

/-- The power-up sense (R435 to R438, R441 to R445, R457): values are latched, copies voted, regions judged.
Log 6 (DESIGN CHOICE). -/
def State.senseOtp (s : State) : State :=
  let listed := s.otp.cells.keys
  let marg := listed.filter (fun w => otpMarginal w (s.otpCell w))
  let s1 : State := { s with otp := { s.otp with
    latched := s.otp.cells, expected := ⟨s.otp.cells.cells.filterMap (fun c => if c.2.2 = 0 then none else some (c.1, c.2.2))⟩
    marginal := marg, prog := none, unlock := 0, challenge := none } }
  let corr := (listed.filter (fun w => !otpCopy w && (otpValue w (s1.otpLatched w).2).corrected)).length
  let s2 := ((s1.set F.OTP_CORR_TOTAL corr).set F.OTP_STATUS_LOCK_DEFAULT (b2n s1.lockDefault)).showMarginal
  let s3 := s2.set64 F.OTP_CRIT_DEFAULT_LO F.OTP_CRIT_DEFAULT_HI (maskOf 64 s2.critDefault)
  let s4 := [0, 1, 2, 8].foldl (fun a r => a.setRegion r 4) s3
  let s5 := [3, 4, 5, 6, 7].foldl (fun (a : State) r => a.setRegion r (a.judgeRegion r)) s4
  let locked := fun r => decide (r ≠ 6) && bitOf (lockVote s5.otpLatched) r && !s5.lockDefault
  let bad := fun r => locked r && !bitOf (lockVote s5.otpLatched) (r + 8) && decide (s5.regionState r = 3)
  let s6 := s5.set F.OTP_SEAL_STATUS_PROGRAMMED (maskOf 5 (fun k => decide (k ≠ 3 ∧ (s5.otpLatched (sealWord (3 + k))).2 ≠ 0)))
  let s7 := (s6.set F.OTP_SEAL_STATUS_VERIFIES (maskOf 5 (fun k => locked (3 + k) && decide (s5.regionState (3 + k) = 2)))).set
    F.OTP_SEAL_STATUS_SEAL_BAD (maskOf 5 (fun k => bad (3 + k)))
  let s8 := (s7.set F.OTP_FLOOR_FLOOR s7.otpFloor).set F.OTP_FLOOR_PENDING s7.otpFloor
  let s9 := ((s8.set F.OTP_FWKEY_STATE_USABLE (maskOf 4 s8.fwUsable)).set F.OTP_FWKEY_STATE_PROGRAMMED
    (maskOf 4 s8.fwProgrammed)).set F.OTP_FWKEY_STATE_REVOKED (maskOf 4 s8.fwRevoked)
  let s10 := (s9.set F.OTP_FWKEY_STATE_DEV_ALLOWED (b2n s9.devAllowed)).set F.OTP_CONSKEY_STATE_PRESENT (maskOf 16 s9.consPresent)
  let s11 := s10.set F.OTP_CONSKEY_STATE_REFUSE (maskOf 16 (fun k => s10.consPresent k && s10.consRefuse k))
  let s12 := (s11.set F.OTP_DEBUG_DEFAULTED (b2n (s11.critDefault 60))).set F.OTP_DEBUG_DEBUG_DISABLED
    (b2n (s11.critDefault 60 || decide (s11.critValue 60 ≠ 0)))
  let s13 := (s12.set F.THERM_SHUTDOWN_CFG_LIMIT s12.fuseLimit).set F.THERM_SHUTDOWN_CFG_FUSE_LIMIT s12.fuseLimit
  let s14 := (List.range 32).foldl (fun (a : State) k =>
    (a.set (F.TS_STATUS_CHANNEL k) (min (k / 10) 3)).set (F.TS_STATUS_DEFAULTED k) (b2n (a.critDefault (8 + k)))) s13
  let s15 := marg.foldl State.marginalLimp s14
  let s16 := (s15.set F.OTP_STATUS_STATE 1).set F.OTP_STATUS_SENSED 1
  let s17 := if marg.any (fun w => !otpCopy w) then s16.cause F.OTP_INT_STATUS_MARGINAL else s16
  let s18 := if marg.any otpCopy then s17.cause F.OTP_INT_STATUS_CRIT_MARGINAL else s17
  let s19 := if (List.range 64).any s18.critDefault || s18.lockDefault then s18.cause F.OTP_INT_STATUS_CRIT_DEFAULT else s18
  let s20 := if [3, 4, 5, 7].any (fun r => bad r) then s19.cause F.OTP_INT_STATUS_INCOMPLETE else s19
  if s20.regionState 5 = 2 ∨ s20.regionState 5 = 3 then s20.set F.OTP_STICKY_READ_LOCK_CONSKEY 1 else s20

/-! ### Programming (R446 to R451) -/

/-- VIN is at least 9 V (condition 5). -/
def State.otpVinOk (s : State) : Bool := decide (90 ≤ s.get F.THERM_VIN_STATUS_VIN)

/-- A sensor's reading in 1/16 °C. -/
def State.tsTemp (s : State) (k : Nat) : Int := toSigned 16 (s.get (F.TS_VALUE_TEMP k))

/-- Every sensor reads from 0 °C to 85 °C (condition 6). -/
def State.otpTempOk (s : State) : Bool :=
  (List.range 32).all (fun k => s.flag (F.TS_STATUS_VALID k) && decide (0 ≤ s.tsTemp k ∧ s.tsTemp k ≤ 1360))

/-- Conditions 2 to 6 of R446 for a word: the CAUSE of the first that fails. `via` as in `OtpProg`; `region` is the region
that a seal or a lock concerns. -/
def State.otpRefusal (s : State) (w via region : Nat) : Option Nat :=
  let st := if via = 2 then s.regionState region else s.regionState (otpRegion w)
  if s.flag F.OTP_STICKY_PROG_LOCK then some 1
  else if otpRegion w < 3 then some 2
  else if otpRegion w = 8 ∧ via < 2 then some 4
  else if !otpAdditive w && decide (st ≠ 0) then some (if st = 1 then 3 else 2)
  else if !s.otpVinOk then some 5
  else if !s.otpTempOk then some 6
  else none

/-- The 39 bits that a request for DATA asks of a word (R447). -/
def otpWant (w data : Nat) : Nat := data % 2 ^ 32 + (if otpAdditive w then 0 else 2 ^ 32 * otpCheck (data % 2 ^ 32))

/-- The programmed bits of the ROLLBACK region form one run once a word holds `data` (R448). -/
def State.rollbackOk (s : State) (w data : Nat) : Bool :=
  let read := fun k => if k = w then data else (s.otpCell k).2 % 2 ^ 32
  let run := runOf read 128 960
  decide (run = ((List.range 128).map (fun k => ((List.range 32).filter (bitOf (read (960 + k)))).length)).foldl (· + ·) 0)

/-- PROG_RESULT, PROG_MASK and LAST_PROG after an operation (RESULT 0 OK, 1 FAIL, 2 CONFLICT, 3 DENIED). -/
def State.otpResult (s : State) (w via result rounds cause missing : Nat) : State :=
  let s1 := ((s.set F.OTP_PROG_RESULT_RESULT result).set F.OTP_PROG_RESULT_BUSY 0).set F.OTP_PROG_RESULT_PULSES rounds
  let s2 := ((s1.set F.OTP_PROG_RESULT_CAUSE cause).set F.OTP_PROG_RESULT_CHECK_MASK (missing / 2 ^ 32)).set F.OTP_PROG_MASK missing
  let s3 := ((s2.set F.OTP_LAST_PROG_WORD w).set F.OTP_LAST_PROG_RESULT result).set F.OTP_LAST_PROG_VALID 1
  s3.set F.OTP_LAST_PROG_VIA_REG (b2n (via = 1))

/-- The bits that make a request a CONFLICT (R447). -/
def State.otpConflict (s : State) (w want : Nat) : Nat := (s.otpCell w).2 &&& ((2 ^ 39 - 1) ^^^ want)

/-- A programming operation starts (R449). -/
def State.otpStart (s : State) (x : OtpProg) : State :=
  ({ s with otp := { s.otp with prog := some x } }.set F.OTP_STATUS_STATE 2).set F.OTP_PROG_RESULT_BUSY 1

/-- FLOOR.PENDING: the floor of the expected values. -/
def State.showFloor (s : State) : State := s.set F.OTP_FLOOR_PENDING (runOf (fun w => s.otp.expected.get 0 w) 128 960)

/-- One round of the operation under way (R449, R450): of the bits pulsed, `tight` read 1 at the tight reference from now
on, and `nominal` at the nominal one. It answers RESULT and CAUSE when the operation on the word has ended.
Log 101 (DEDUCED). -/
def State.otpRound (s : State) (x : OtpProg) (tight nominal : Nat) : Option (Nat × Nat) × State :=
  let c := s.otpCell x.word
  let pulsed := x.want &&& ((2 ^ 39 - 1) ^^^ c.2)
  let c' := (c.1 ||| (pulsed &&& (nominal ||| tight)), c.2 ||| (pulsed &&& tight))
  let y := { x with rounds := x.rounds + 1 }
  let s1 : State := { s with otp := { s.otp with cells := s.otp.cells.set (0, 0) x.word c', prog := some y } }
  let missing := x.want &&& ((2 ^ 39 - 1) ^^^ c'.2)
  let cause := if !s.otpVinOk then 5 else if !s.otpTempOk then 6 else 0
  if missing ≠ 0 ∧ cause = 0 ∧ y.rounds < 8 then (none, s1.set F.OTP_PROG_RESULT_PULSES y.rounds)
  else
    let result := if missing = 0 then 0 else 1
    let cause' := if missing = 0 then 0 else cause
    let s2 : State := { s1 with otp := { s1.otp with expected := s1.otp.expected.set 0 x.word c'.2, prog := none } }
    let s3 := ((s2.otpResult x.word x.via result y.rounds cause' missing).set F.OTP_STATUS_STATE 1).showFloor
    let s4 := s3.cause F.OTP_INT_STATUS_PROG_DONE
    let s5 := if result = 0 then s4.bump F.OTP_PROG_TOTAL
      else (s4.bump F.OTP_FAIL_TOTAL).cause F.OTP_INT_STATUS_PROG_FAIL
    (some (result, cause'), s5)

/-- The payload of OTP_PROGRAM: RESULT, PULSES, CAUSE, CHECK_MASK, MASK. -/
def State.otpProgramPayload (s : State) (result : Nat) : List Byte :=
  leBytes 1 result ++ leBytes 1 (s.get F.OTP_PROG_RESULT_PULSES) ++ leBytes 1 (s.get F.OTP_PROG_RESULT_CAUSE) ++
    leBytes 1 (s.get F.OTP_PROG_RESULT_CHECK_MASK) ++ leBytes 4 (s.get F.OTP_PROG_MASK)

/-- A request for a word: its first obstacle, or none and the operation under way (R446 to R448). The obstacle is RESULT 3
with its CAUSE, RESULT 2 for a CONFLICT, and none of both for R448. -/
inductive OtpCheck where
  | denied (cause : Nat)
  | conflict (bits : Nat)
  | broken
  | accepted
  deriving DecidableEq, Repr

/-- R446 to R448 for one word. -/
def State.otpRequest (s : State) (w want via region : Nat) : OtpCheck :=
  match s.otpRefusal w via region with
  | some c => .denied c
  | none =>
    let bits := s.otpConflict w want
    if bits ≠ 0 then .conflict bits
    else if otpRegion w = 6 ∧ !s.rollbackOk w (want % 2 ^ 32) then .broken
    else .accepted

/-! ### OTP commands (R462) -/

/-- A read-locked key word (R460). -/
def State.otpReadLocked (s : State) (w : Nat) : Bool :=
  (s.flag F.OTP_STICKY_READ_LOCK_FWKEY && decide (576 ≤ w ∧ w < 608)) ||
    (s.flag F.OTP_STICKY_READ_LOCK_CONSKEY && decide (704 ≤ w ∧ w < 960 ∧ (w - 704) % 16 < 8))

/-- The flags of a word read raw: MARGINAL, CORRECTED, UNCORR, ABSENT, DEFAULT from bit 0, and its data (R436, R458). -/
def State.otpRecord (s : State) (w raw : Nat) (marginal : Bool) : Nat × Nat :=
  if s.otpAbsent w then (8, 0)
  else
    let v := if otpCopy w then { data := raw % 2 ^ 32 } else otpValue w raw
    let dflt := otpCopy w && (if w < 2032 then s.critDefault ((w - 320) % 64) else s.lockDefault)
    (b2n marginal + 2 * b2n v.corrected + 4 * b2n v.uncorr + 16 * b2n dflt, v.data)

/-- OTP_READ. -/
def otpRead : Cmd := {
  op := 0xA00, modes := Mode.normal, len := (· = 8), reads := true
  range := fun rq _ => inRange (decide (rq.u 0 2 < 2048 ∧ rq.u 0 2 + rq.u 2 2 ≤ 2048 ∧ rq.u 4 1 < 2 ∧ rq.u 5 3 = 0) &&
    within (rq.u 2 2) 1 64)
  stage := fun _ rq s =>
    if (List.range (rq.u 2 2)).any (fun k => s.otpReadLocked (rq.u 0 2 + k)) then some { status := .denied } else none
  apply := fun _ rq s =>
    okWith ((List.range (rq.u 2 2)).map (fun k =>
      let w := rq.u 0 2 + k
      let raw := if rq.u 4 1 = 0 then s.otp.expected.get 0 w else (s.otpCell w).2
      let marg := if rq.u 4 1 = 0 then s.otp.marginal.contains w else decide ((s.otpCell w).1 ≠ (s.otpCell w).2)
      let (flags, data) := s.otpRecord w raw marg
      leBytes 4 data ++ leBytes 1 flags ++ leBytes 1 (if s.otpAbsent w then 0 else raw / 2 ^ 32) ++ leBytes 2 0)).flatten s }

/-- OTP_PROGRAM (R446 to R451): a response to an accepted request is posted when the operation ends. -/
def otpProgram : Cmd := {
  op := 0xA01, modes := inConfigure, len := (· = 8)
  range := fun rq _ => inRange (decide (rq.u 0 2 < 2048 ∧ rq.u 2 2 = 0))
  apply := fun _ rq s =>
    let w := rq.u 0 2
    match s.otpRequest w (otpWant w (rq.u 4 4)) 0 0 with
    | .denied c =>
      let s1 := s.otpResult w 0 3 0 c 0
      ({ status := .denied, payload := s1.otpProgramPayload 0 }, s1)
    | .conflict bits =>
      let s1 := s.otpResult w 0 2 0 0 bits
      ({ status := .outOfRange, payload := s1.otpProgramPayload 2 }, s1)
    | .broken => ({ status := .outOfRange }, s)
    | .accepted => ({ later := true }, s.otpStart { word := w, want := otpWant w (rq.u 4 4), rq := rq }) }

/-- A word that must not be marginal or uncorrectable as it reads now (R454, R455). -/
def State.otpSound (s : State) (w : Nat) : Bool := !otpMarginal w (s.otpCell w) && !s.otp.marginal.contains w

/-- What a word of a region reads now to a user: absent regions read 0 (R458). -/
def State.otpSense (s : State) (w : Nat) : Nat × Nat := if s.otpAbsent w then (0, 0) else s.otpCell w

/-- A region that may be sealed and locked (R459). -/
def otpSealable (r : Nat) : Bool := decide (r = 3 ∨ r = 4 ∨ r = 5 ∨ r = 7)

/-- The payload of OTP_SEAL. -/
def otpSealPayload (crc result cause : Nat) : List Byte := leBytes 4 crc ++ leBytes 1 result ++ leBytes 1 cause ++ leBytes 2 0

/-- The payload of OTP_LOCK. -/
def otpLockPayload (result cause : Nat) : List Byte := leBytes 1 result ++ leBytes 1 cause ++ leBytes 2 0

/-- OTP_SEAL (R453, R454). -/
def otpSeal : Cmd := {
  op := 0xA02, modes := inConfigure, len := (· = 4)
  range := fun rq _ => inRange (otpSealable (rq.u 0 1) && decide (rq.u 1 3 = 0))
  apply := fun _ rq s =>
    let r := rq.u 0 1
    let crc := sealCrc s.otpSense r
    let w := sealWord r
    match s.otpRequest w (otpWant w crc) 2 r with
    | .denied c => ({ status := .denied, payload := otpSealPayload crc 0 c }, s)
    | .conflict bits =>
      if (sealedWords r).all s.otpSound then
        ({ status := .outOfRange, payload := otpSealPayload crc 2 0 }, s.otpResult w 2 2 0 0 bits)
      else ({ status := .denied, payload := otpSealPayload crc 0 9 }, s)
    | .broken => ({ status := .outOfRange }, s)
    | .accepted =>
      if (sealedWords r).all s.otpSound then
        ({ later := true }, s.otpStart { word := w, want := otpWant w crc, via := 2, region := r, crc := crc, rq := rq })
      else ({ status := .denied, payload := otpSealPayload crc 0 9 }, s) }

/-- Why OTP_LOCK may not lock a region: CAUSE 9, 10 or 11 (R455, R456). -/
def State.otpLockRefusal (s : State) (r key : Nat) (force : Bool) : Option Nat :=
  if force then
    match s.otp.challenge with
    | some (v, at_) => if v = key ∧ s.now ≤ at_ + 10000000000 then none else some 11
    | none => some 11
  else if !(sealedWords r).all s.otpSound || !s.otpSound (sealWord r) then some 9
  else if sealCrc s.otpSense r ≠ (otpDecode (s.otpCell (sealWord r)).2).data then some 10
  else none

/-- What a lock copy must hold once region `r` is locked (R455, R456). Log 101 (DEDUCED). -/
def State.lockWant (s : State) (w r : Nat) (force : Bool) : Nat :=
  (s.otpCell w).2 ||| 2 ^ r ||| (if force then 2 ^ (r + 8) else 0)

/-- OTP_LOCK (R455, R456): the CHALLENGE serves one OTP_LOCK with FORCE. -/
def otpLock : Cmd := {
  op := 0xA03, modes := inConfigure, len := (· = 8)
  range := fun rq _ => inRange (otpSealable (rq.u 0 1) && decide (rq.u 1 1 < 2 ∧ rq.u 2 2 = 0) &&
    (decide (rq.u 1 1 = 1) || decide (rq.u 4 4 = 0)))
  apply := fun _ rq s =>
    let r := rq.u 0 1
    let force := decide (rq.u 1 1 = 1)
    let s1 : State := if force then { s with otp := { s.otp with challenge := none } } else s
    match s.otpRefusal 2032 3 r, s.otpLockRefusal r (rq.u 4 4) force with
    | some c, _ => ({ status := .denied, payload := otpLockPayload 0 c }, s1)
    | none, some c => ({ status := .denied, payload := otpLockPayload 0 c }, s1)
    | none, none =>
      let s2 := if force then s1 else s1.setBit F.OTP_SEAL_STATUS_VERIFIES (r - 3) true
      ({ later := true }, s2.otpStart { word := 2032, want := s.lockWant 2032 r force, via := 3, region := r, rq := rq,
                                        rest := [(2033, s.lockWant 2033 r force), (2034, s.lockWant 2034 r force)] }) }

/-- OTP_STICKY (R460). -/
def otpSticky : Cmd := {
  op := 0xA04, modes := Mode.normal, len := (· = 4)
  range := fun rq _ => inRange (decide (rq.u 0 1 < 8 ∧ rq.u 1 3 = 0))
  apply := fun _ rq s =>
    let b := rq.u 0 1
    let s1 := if bitOf b 0 then s.set F.OTP_STICKY_PROG_LOCK 1 else s
    let s2 := if bitOf b 1 then s1.set F.OTP_STICKY_READ_LOCK_FWKEY 1 else s1
    ok (if bitOf b 2 then s2.set F.OTP_STICKY_READ_LOCK_CONSKEY 1 else s2) }

/-- OTP_QUERY: CHALLENGE is a fresh value of the device's (R456). Log 52 (DEDUCED). -/
def otpQuery : Cmd := {
  op := 0xA05, modes := Mode.normal, len := (· = 0), reads := true
  apply := fun _ _ s =>
    let (k, s1) := s.fresh
    let ch := Config.fresh k % 2 ^ 32
    let s2 : State := { s1 with otp := { s1.otp with challenge := some (ch, s1.now) } }
    okWith (leBytes 4 (s.reg F.OTP_REGION_STATE_STATE_r.off).toNat ++ leBytes 1 (s.reg F.OTP_STICKY_PROG_LOCK.off).toNat ++
      leBytes 1 0 ++ leBytes 2 (s.get F.OTP_FLOOR_FLOOR) ++ leBytes 4 (s.reg F.OTP_MARGINAL_WORDS.off).toNat ++
      leBytes 8 (s.get64 F.OTP_CRIT_MARGINAL_LO F.OTP_CRIT_MARGINAL_HI) ++
      leBytes 8 (s.get64 F.OTP_CRIT_DEFAULT_LO F.OTP_CRIT_DEFAULT_HI) ++ leBytes 4 ch) s2 }

/-! ### The end of a seal or a lock, and the re-sense -/

/-- Region `r` after its seal word or its lock copies have been programmed (R453 to R456). -/
def State.settleRegion (s : State) (r : Nat) : State :=
  let locks := lockVote s.otpCell
  let programmed := decide ((s.otpCell (sealWord r)).2 ≠ 0)
  let st := regionJudged locks r programmed true
  let s1 := (s.setRegion r st).setBit F.OTP_SEAL_STATUS_PROGRAMMED (r - 3) programmed
  if st = s.regionState r then s1
  else if st = 2 then s1.cause F.OTP_INT_STATUS_LOCKED
  else if st = 3 then s1.cause F.OTP_INT_STATUS_INCOMPLETE
  else s1

/-- The re-sense reaches its next word (R440, R442, R443), which reads as given from now on. -/
def State.otpResense (s : State) (read : Option (Nat × Nat)) : State :=
  if s.otp.prog.isSome then s
  else
    let w := s.get F.OTP_RESENSE_POSITION
    let c := read.getD (s.otpCell w)
    let s1 : State := { s with otp := { s.otp with cells := s.otp.cells.set (0, 0) w (c.1 % 2 ^ 39, c.2 % 2 ^ 39) } }
    let s2 := if w = 2047 then (s1.set F.OTP_RESENSE_POSITION 0).bump F.OTP_RESENSE_PASSES
      else s1.set F.OTP_RESENSE_POSITION (w + 1)
    let now := s2.otpCell w
    if now.2 = s2.otp.expected.get 0 w ∧ now.1 = now.2 then s2
    else
      let s3 := (s2.bump F.OTP_RESENSE_DIFF).cause F.OTP_INT_STATUS_RESENSE_DIFF
      if s3.otp.marginal.contains w then s3
      else
        let s4 : State := { s3 with otp := { s3.otp with marginal := s3.otp.marginal ++ [w] } }
        (s4.showMarginal.marginalLimp w).cause (if otpCopy w then F.OTP_INT_STATUS_CRIT_MARGINAL else F.OTP_INT_STATUS_MARGINAL)

/-- OTP_RESENSE (R440): the word that the re-sense has come to; `read`: what it reads from now on, nominal and tight. -/
def execOtpResense (t : Nat) (read : Option (Nat × Nat)) (s : State) : Host.Outcome State Fault Refusal :=
  coreStep t (fun s => s.otpResense read) s

/-- A write of PROG_KEY (R452): the unlock's two values, in order. -/
def State.otpKey (s : State) (v : Nat) : State :=
  let u := if v = 0x4B5A4F54 then 1 else if v = 0x50524F47 ∧ s.otp.unlock = 1 then 2 else 0
  { s with otp := { s.otp with unlock := u, unlockAt := s.now } }

/-- Any other write to the OTP block between steps 1 and 4 but those of PROG_ADDR and PROG_DATA in step 3 cancels the
unlock (R452): in step 2 the very next write must be the second value. -/
def State.otpOther (s : State) (step3 : Bool) : State :=
  if step3 && decide (s.otp.unlock = 2) then s else { s with otp := { s.otp with unlock := 0 } }

/-- PROG_CMD.GO (R446, R452): each GO consumes the unlock. -/
def State.otpGo (s : State) : State :=
  let w := s.get F.OTP_PROG_ADDR_WORD
  let data := s.get F.OTP_PROG_DATA
  let unlocked := decide (s.otp.unlock = 2 ∧ s.now ≤ s.otp.unlockAt + 1000000)
  let s1 : State := { s with otp := { s.otp with unlock := 0 } }
  if s1.otp.prog.isSome then s1
  else if !unlocked then s1.otpResult w 1 3 0 8 0
  else match s1.otpRequest w (otpWant w data) 1 0 with
    | .denied c => s1.otpResult w 1 3 0 c 0
    | .conflict bits => s1.otpResult w 1 2 0 0 bits
    | .broken => s1.otpResult w 1 3 0 0 0
    | .accepted => s1.otpStart { word := w, want := otpWant w data, via := 1 }

/-- A write of READ_ADDR senses the word (R436, R458, R460). -/
def State.otpReadReg (s : State) (w : Nat) : State :=
  let denied := s.otpReadLocked w
  let raw := (s.otpCell w).2
  let (flags, data) := s.otpRecord w raw (decide ((s.otpCell w).1 ≠ raw))
  let s1 := (s.set F.OTP_READ_DATA (if denied then 0 else data)).set F.OTP_READ_INFO_BUSY 0
  let s2 := ((s1.set F.OTP_READ_INFO_MARGINAL flags).set F.OTP_READ_INFO_CORRECTED (flags / 2)).set F.OTP_READ_INFO_UNCORR (flags / 4)
  ((s2.set F.OTP_READ_INFO_ABSENT (flags / 8)).set F.OTP_READ_INFO_DENIED (b2n denied)).set F.OTP_READ_INFO_CHECK
    (if denied || s.otpAbsent w then 0 else raw / 2 ^ 32)

/-- ENV: the programming conditions as they are. -/
def State.otpEnv (s : State) : Nat :=
  let temps := (List.range 32).map (fun k => s.tsTemp k / 16)
  let hi := temps.foldl max (temps.headD 0)
  let lo := temps.foldl min (temps.headD 0)
  let permit := decide (s.mode = .configure ∨ (s.mode = .diagnose ∧ s.otp.unlock = 2)) && !s.flag F.OTP_STICKY_PROG_LOCK &&
    s.otpVinOk && s.otpTempOk
  s.get F.THERM_VIN_STATUS_VIN + 2 ^ 10 * b2n s.otpVinOk + 2 ^ 11 * ofSigned 8 hi + 2 ^ 19 * ofSigned 8 lo +
    2 ^ 27 * b2n s.otpTempOk + 2 ^ 28 * b2n permit

end Sys2Proof.Machine
end

