-- ==== Sys2Proof/Machine/Sha.lean ====
section
/-! DEFINITION. SHA-256 (FIPS 180-4) and HMAC-SHA-256 (RFC 2104), the functions that R253, R254 and R363 to R365 name. -/

namespace Sys2Proof.Machine

/-- The 64 round constants of SHA-256, the first 32. -/
def shaK1 : List Nat := [
  0x428a2f98, 0x71374491, 0xb5c0fbcf, 0xe9b5dba5, 0x3956c25b, 0x59f111f1, 0x923f82a4, 0xab1c5ed5,
  0xd807aa98, 0x12835b01, 0x243185be, 0x550c7dc3, 0x72be5d74, 0x80deb1fe, 0x9bdc06a7, 0xc19bf174,
  0xe49b69c1, 0xefbe4786, 0x0fc19dc6, 0x240ca1cc, 0x2de92c6f, 0x4a7484aa, 0x5cb0a9dc, 0x76f988da,
  0x983e5152, 0xa831c66d, 0xb00327c8, 0xbf597fc7, 0xc6e00bf3, 0xd5a79147, 0x06ca6351, 0x14292967]

/-- The last 32 round constants. -/
def shaK2 : List Nat := [
  0x27b70a85, 0x2e1b2138, 0x4d2c6dfc, 0x53380d13, 0x650a7354, 0x766a0abb, 0x81c2c92e, 0x92722c85,
  0xa2bfe8a1, 0xa81a664b, 0xc24b8b70, 0xc76c51a3, 0xd192e819, 0xd6990624, 0xf40e3585, 0x106aa070,
  0x19a4c116, 0x1e376c08, 0x2748774c, 0x34b0bcb5, 0x391c0cb3, 0x4ed8aa4a, 0x5b9cca4f, 0x682e6ff3,
  0x748f82ee, 0x78a5636f, 0x84c87814, 0x8cc70208, 0x90befffa, 0xa4506ceb, 0xbef9a3f7, 0xc67178f2]

/-- A 32-bit word rotated right. -/
def rotr (x n : Nat) : Nat := (x >>> n) ||| ((x <<< (32 - n)) % 2 ^ 32)

/-- The eight working variables. -/
structure ShaVars where
  a : Nat
  b : Nat
  c : Nat
  d : Nat
  e : Nat
  f : Nat
  g : Nat
  h : Nat

/-- The initial hash value. -/
def shaInit : ShaVars :=
  ⟨0x6a09e667, 0xbb67ae85, 0x3c6ef372, 0xa54ff53a, 0x510e527f, 0x9b05688c, 0x1f83d9ab, 0x5be0cd19⟩

/-- The message schedule: `w` holds the last sixteen words, the newest first; `n` words are still to come. -/
def shaSchedule : Nat → List Nat → List Nat
  | 0, _ => []
  | n + 1, w =>
    let x := w.getD 1 0
    let y := w.getD 14 0
    let s1 := (rotr x 17 ^^^ rotr x 19) ^^^ (x >>> 10)
    let s0 := (rotr y 7 ^^^ rotr y 18) ^^^ (y >>> 3)
    let v := (s1 + w.getD 6 0 + s0 + w.getD 15 0) % 2 ^ 32
    v :: shaSchedule n (v :: w.take 15)

/-- One round with its constant and its schedule word. -/
def shaRound (v : ShaVars) (kw : Nat × Nat) : ShaVars :=
  let s1 := (rotr v.e 6 ^^^ rotr v.e 11) ^^^ rotr v.e 25
  let ch := (v.e &&& v.f) ^^^ ((v.e ^^^ 0xFFFFFFFF) &&& v.g)
  let t1 := v.h + s1 + ch + kw.1 + kw.2
  let s0 := (rotr v.a 2 ^^^ rotr v.a 13) ^^^ rotr v.a 22
  let maj := ((v.a &&& v.b) ^^^ (v.a &&& v.c)) ^^^ (v.b &&& v.c)
  ⟨(t1 + s0 + maj) % 2 ^ 32, v.a, v.b, v.c, (v.d + t1) % 2 ^ 32, v.e, v.f, v.g⟩

/-- One block of sixteen words. -/
def shaBlock (h : ShaVars) (m : List Nat) : ShaVars :=
  let v := ((shaK1 ++ shaK2).zip (m ++ shaSchedule 48 m.reverse)).foldl shaRound h
  ⟨(h.a + v.a) % 2 ^ 32, (h.b + v.b) % 2 ^ 32, (h.c + v.c) % 2 ^ 32, (h.d + v.d) % 2 ^ 32,
   (h.e + v.e) % 2 ^ 32, (h.f + v.f) % 2 ^ 32, (h.g + v.g) % 2 ^ 32, (h.h + v.h) % 2 ^ 32⟩

/-- Bytes as big-endian words of four. -/
def beWords : Nat → List Byte → List Nat
  | 0, _ => []
  | n + 1, l => beNat (l.take 4) :: beWords n (l.drop 4)

/-- Blocks of 64 bytes one after the other. -/
def shaBlocks : Nat → List Byte → ShaVars → ShaVars
  | 0, _, h => h
  | n + 1, l, h => shaBlocks n (l.drop 64) (shaBlock h (beWords 16 (l.take 64)))

/-- SHA-256 of a string of bytes: 32 bytes. Log 53 (PRESUMED). -/
def sha256 (l : List Byte) : List Byte :=
  let pad := (119 - l.length % 64) % 64
  let m := l ++ [0x80#8] ++ List.replicate pad 0 ++ beBytes 8 (8 * l.length)
  let h := shaBlocks (m.length / 64) m shaInit
  beBytes 4 h.a ++ beBytes 4 h.b ++ beBytes 4 h.c ++ beBytes 4 h.d ++ beBytes 4 h.e ++ beBytes 4 h.f ++ beBytes 4 h.g ++
    beBytes 4 h.h

/-- HMAC-SHA-256 with a key of at most 64 bytes. Log 53 (PRESUMED). -/
def hmacSha256 (key msg : List Byte) : List Byte :=
  let k := key ++ List.replicate (64 - key.length) 0
  sha256 (k.map (· ^^^ 0x5C#8) ++ sha256 (k.map (· ^^^ 0x36#8) ++ msg))

end Sys2Proof.Machine
end

