-- ==== Sys2Proof/Machine/DwFault.lean ====
section
/-! DEFINITION. What a BAD of the Dumbwaiter records (R414, R415, R421). Channel `n < 128` is stream channel n;
channel `128 + m` is general channel Gm. -/

namespace Sys2Proof.Machine

/-- The fault causes of R414. -/
inductive DwCause where
  | none | hostRead | link | pantryUncorr | cellarUncorr | cellarLost | range | privilege | bankOff | overlap | timeout
  | illegal | noEnd | abort
  deriving DecidableEq, Repr

/-- The code of a cause (R414). -/
def DwCause.code : DwCause → Nat
  | .none => 0 | .hostRead => 1 | .link => 2 | .pantryUncorr => 3 | .cellarUncorr => 4 | .cellarLost => 5 | .range => 6
  | .privilege => 7 | .bankOff => 8 | .overlap => 9 | .timeout => 10 | .illegal => 11 | .noEnd => 12 | .abort => 13

/-- The cause that a code stands for. -/
def DwCause.ofCode (c : Nat) : DwCause :=
  match c with
  | 1 => .hostRead | 2 => .link | 3 => .pantryUncorr | 4 => .cellarUncorr | 5 => .cellarLost | 6 => .range
  | 7 => .privilege | 8 => .bankOff | 9 => .overlap | 10 => .timeout | 11 => .illegal | 12 => .noEnd | 13 => .abort
  | _ => .none

/-- The FAULT register of a channel, its fields named by their lowest bit. -/
def faultFld (ch lo w : Nat) : Fld :=
  if ch < 128 then ⟨(F.SC_FAULT_INDEX ch).off, lo, w⟩ else ⟨(F.GC_FAULT_INDEX (ch - 128)).off, lo, w⟩

/-- The FAULT register captures the first BAD of a run; a later one sets MORE (R415). -/
def State.captureFault (s : State) (ch idx cause units : Nat) (late : Bool) (iter : Nat) : State :=
  if s.flag (faultFld ch 29 1) then s.set (faultFld ch 30 1) 1
  else
    let s1 := ((s.set (faultFld ch 0 12) idx).set (faultFld ch 12 4) cause).set (faultFld ch 16 12) units
    let s2 := (s1.set (faultFld ch 28 1) (b2n late)).set (faultFld ch 29 1) 1
    if ch < 128 then s2 else s2.set (F.GC_STATUS_FAULT_ITER (ch - 128)) iter

/-- An instruction is marked BAD (R414, R415, R421): FAULT, the totals, the causes and, for a general channel, the FV
line. Log 99 (DESIGN CHOICE). -/
def State.dwBad (s : State) (ch idx : Nat) (cause : DwCause) (units : Nat := 0) (late : Bool := false) (iter : Nat := 0) :
    State :=
  let s1 := s.captureFault ch idx cause.code units late iter
  let s2 := (s1.bump F.DW_BAD_TOTAL).summary 12
  let s3 := ((((s2.set F.DW_LAST_FAULT_CHANNEL ch).set F.DW_LAST_FAULT_INDEX idx).set F.DW_LAST_FAULT_CAUSE cause.code).set
    F.DW_LAST_FAULT_LATE (b2n late)).set F.DW_LAST_FAULT_VALID 1
  let s4 := (s3.set F.DW_LAST_FAULT_ITER iter).setArrBit F.DW_FAULT_PEND ch true
  let s5 := s4.cause F.DW_INT_STATUS_BAD
  let s6 := if late then (s5.bump F.DW_LATE_TOTAL).cause F.DW_INT_STATUS_LATE else s5
  if ch < 128 then s6 else s6.causeBit F.DW_FV_PEND (ch - 128)

/-- A fetch or a write of bulk data is marked BAD (R343). Log 83 (DEDUCED). -/
def State.bulkBad (s : State) : State :=
  (s.dwBad (128 + Config.bulkSlot 0 % 32) (Config.bulkSlot 1 % 2048) (if s.busMaster then .hostRead else .link)).bump
    F.PORCH_BULK_FAULT

/-- Data that a command writes to host memory: a write that fails leaves the range undefined (R343).
Log 83 (DEDUCED). -/
def State.bulkWrite (s : State) (a : Nat) (l payload : List Byte) : Resp × State :=
  match s.hostWrite a l with
  | (true, s1) => ({ payload := payload }, s1)
  | (false, s1) =>
    let bytes := (List.range l.length).map (fun k => Config.freeByte (s.free + k))
    ({ status := .hwFault }, { s1.bulkBad with
      host := { s1.host with mem := writeBytes s1.host.mem a bytes }, free := s.free + l.length })

end Sys2Proof.Machine
end

