-- ==== Sys2Proof/Machine/Streams.lean ====
section
/-! DEFINITION. Dot streams: binding, descriptor rings, staging queues, SDS packets, decompressors, runway and
underrun, and the STREAM commands (R69 to R110, R555, R556). -/

namespace Sys2Proof.Machine

/-- Stream `n`. -/
def State.stream (s : State) (n : Nat) : Stream := s.streams.get {} n

/-- Stream `n` replaced. -/
def State.setStream (s : State) (n : Nat) (x : Stream) : State := { s with streams := s.streams.set {} n x }

/-- A plane of stream `n`. -/
def State.plane (s : State) (n p : Nat) : PlaneSt := (s.stream n).planes.get {} p

/-- A plane of stream `n` replaced. -/
def State.setPlane (s : State) (n p : Nat) (x : PlaneSt) : State :=
  s.setStream n { s.stream n with planes := (s.stream n).planes.set {} p x }

/-- The planes in a stream's mask. -/
def Binding.planes (b : Binding) : List Nat := (List.range 16).filter (fun p => bitOf b.planeMask p)

/-- Column `c` lies in the stream's window. -/
def Binding.inWindow (b : Binding) (c : Nat) : Bool := decide (b.firstColumn ≤ c ∧ c < b.firstColumn + b.columnCount)

/-- The rows of plane `p` in stream `n` (R70). -/
def State.streamRows (s : State) (n p : Nat) : List RowEntry :=
  s.geo.rows.filter (fun r => decide (r.plane = p) && (s.stream n).bind.inWindow r.firstColumn)

/-- The head ports that carry rows of plane `p` in stream `n`. -/
def State.streamPorts (s : State) (n p : Nat) : List Nat := ((s.streamRows n p).map (·.port)).dedup

/-- The least row delay of plane `p` in stream `n`: its earliest-firing rows have it (R99, R103, R104). -/
def State.minDelay (s : State) (n p : Nat) : Nat :=
  match s.streamRows n p with
  | [] => 0
  | r :: l => (l.map (·.delay)).foldl min r.delay

/-- The streams that are not CLOSED. -/
def State.openStreams (s : State) : List Nat := (List.range 128).filter (fun n => decide ((s.stream n).st ≠ 0))

/-- The stream of a row: open, its plane in the mask, the row in the window (R70). -/
def State.streamOf (s : State) (r : RowEntry) : Option Nat :=
  s.openStreams.find? (fun n => bitOf (s.stream n).bind.planeMask r.plane && (s.stream n).bind.inWindow r.firstColumn)

/-! ### Faults (R107, R110) -/

/-- The field of STREAM[n].FAULTS for a fault KIND, none for DECOMP_LOST and TAINTED. -/
def faultsFld (n kind : Nat) : Option Fld :=
  if 1 ≤ kind ∧ kind ≤ 7 then some ⟨(F.SN_FAULTS_UNDERRUN n).off, 4 * (kind - 1), 4⟩
  else if kind = 8 ∨ kind = 9 then some (F.SN_FAULTS_DESC n) else none

/-- A query counter of a stream increased, saturating (R110). -/
def Stream.count (x : Stream) (k n : Nat) : Stream := { x with ctr := x.ctr.set k (satAdd 32 (x.ctr.getD k 0) n) }

/-- The line number of a fault record when it is not known (R107). -/
def noLine : Nat := 0xFFFFFFFFFFFF

/-- A stream fault counted `n` times with one log record (R107, R110). KIND 1 UNDERRUN, 2 CRC, 3 CORRUPT, 4 GAP, 5 DUP,
6 ORDER, 7 LATE, 8 DESC, 9 FETCH, 10 DECOMP_LOST, 11 TAINTED. -/
def State.streamFault (s : State) (st kind plane desc line : Nat) (n : Nat := 1) : State :=
  let x := (s.stream st).count (kind - 1) n
  let r : FaultRec := { kind := kind, plane := plane, desc := desc, time := s.devTime / 1000 % 2 ^ 32, line := line }
  let log := x.log ++ [r]
  let s1 := s.setStream st { x with log := log.drop (log.length - 16) }
  let s2 := match faultsFld st kind with
    | some f => s1.bump f n
    | none => s1
  let s3 := ((((s2.setArrBit F.STREAM_FAULT_PEND st true).set F.STREAM_LAST_FAULT_STREAM st).set
    F.STREAM_LAST_FAULT_VALID 1).set F.STREAM_LAST_FAULT_KIND kind).set F.STREAM_LAST_FAULT_PLANE plane
  let s4 := ((s3.set F.STREAM_LAST_FAULT_LINE_HI (line / 2 ^ 32)).set F.STREAM_LAST_FAULT_LINE line).cause
    F.STREAM_INT_STATUS_FAULT
  if kind = 8 ∨ kind = 9 then s4.cause F.STREAM_INT_STATUS_DESC_ERR else s4

/-- A stream fault in which no descriptor is involved: the manual gives its record no DESC_INDEX. DESIGN CHOICE: a free
value. Log 38 (DESIGN CHOICE). -/
def State.streamFaultNoDesc (s : State) (st kind plane line : Nat) : State :=
  ({ s with free := s.free + 1 }).streamFault st kind plane (Config.staleField s.free % 65536) line

/-! ### The staging queue and the gate (R81, R82) -/

/-- Ingress and decoding may run in this mode (R82). -/
def Mode.streams (m : Mode) : Bool := decide (m = .ready ∨ m = .track ∨ m = .clock)

/-- Ingress runs for stream `n` (R82). -/
def State.ingressOn (s : State) (n : Nat) : Bool :=
  s.mode.streams && decide ((s.stream n).st = 1) && s.flag F.STREAM_CTRL_INGRESS_EN && s.flag F.DW_CTRL_ENABLE &&
    s.flag F.DW_CTRL_STREAM_EN && s.flag (F.SC_CTRL_ENABLE n)

/-- The fill of the queue: bytes held and not yet consumed, and bytes in flight. -/
def Stream.fill (x : Stream) : Nat :=
  (x.queue.map (fun q => q.bytes.length)).foldl (· + ·) 0 +
    (match x.fetch with
      | some f => f.flight.foldl (· + ·) 0
      | none => 0)

/-- The gate decision (R81): it closes at HIGH_WATER and opens again below LOW_WATER. -/
def Stream.decideGate (x : Stream) : Stream :=
  if x.bind.high * 1024 ≤ x.fill then { x with gate := false }
  else if x.fill < x.bind.low * 1024 then { x with gate := true }
  else x

/-- The gate decision of stream `n`. -/
def State.decideGate (s : State) (n : Nat) : State := s.setStream n (s.stream n).decideGate

/-- The gate of stream `n` is open: decided so, and not held closed (R81, R82). -/
def State.gateOpen (s : State) (n : Nat) : Bool := s.ingressOn n && (s.stream n).decideGate.gate

/-! ### Descriptors (R73 to R79) -/

/-- A descriptor's SEQ is the one expected (R76). -/
def Stream.seqOk (x : Stream) (seq : Nat) : Bool :=
  match x.seqExpect with
  | none => true
  | some e => decide (seq = e)

/-- A descriptor is consumed: HEAD and CONSUMED advance, the expectation becomes SEQ + 1, and its write-back is due
(R76, R78, R79). -/
def Stream.consume (x : Stream) (seq : Nat) (ready : Bool) : Stream :=
  let h := (x.head + 1) % x.bind.ringSize
  let c := (x.consumed + 1) % 2 ^ 32
  { x with
    head := h, consumed := c, seqExpect := some ((seq + 1) % 65536), lastSeq := seq
    wb := x.wb ++ [{ desc := x.head, head := h, lastSeq := seq, consumed := c, ready := ready }] }

/-- A read of the descriptor at HEAD and what it leads to (R73, R76, R78). -/
def State.readDescriptor (s : State) (n : Nat) : State :=
  let x := s.stream n
  match s.hostRead (x.bind.ringAddr + 16 * x.head) 16 with
  | none =>
    let s1 := s.setStream n { x with retryAt := some (s.now + 100000) }
    (s1.streamFault n 9 0xFF x.head noLine).dwBad n (Config.ingressSlot 0) (if s.busMaster then .hostRead else .link)
  | some d =>
    let addr := uAt d 0 8
    let len := uAt d 8 4
    let flags := uAt d 12 2
    let seq := uAt d 14 2
    let x1 := { x with retryAt := none }
    if !x.seqOk seq then (s.setStream n (x1.consume seq true)).streamFault n 8 0xFF x.head noLine
    else if 2 ≤ flags then (s.setStream n (x1.consume seq true)).streamFault n 8 0xFF x.head noLine
    else if flags = 1 then s.setStream n (x1.consume seq true)
    else if !within len 37 4194304 then (s.setStream n (x1.consume seq true)).streamFault n 8 0xFF x.head noLine
    else
      let x2 := x1.consume seq false
      s.setStream n { x2 with
        fetch := some { descIndex := x.head, addr := addr, len := len }
        queue := x2.queue ++ [{ descIndex := x.head, left := len }] }

/-- Stream `n` may read its next descriptor: its gate is open, its ring is not empty, and no buffer is being
fetched. -/
def State.mayReadDescriptor (s : State) (n : Nat) : Bool :=
  s.gateOpen n && decide ((s.stream n).head ≠ (s.stream n).tail) && (s.stream n).fetch.isNone

/-- A buffer's fetch has ended: its write-back may be made (R79). -/
def Stream.endFetch (x : Stream) (desc : Nat) : Stream :=
  { x with
    fetch := none
    wb := x.wb.map (fun w => if w.desc = desc then { w with ready := true } else w) }

/-- The fetch ends once nothing is in flight and all of it has been issued, or its rest is discarded (R79). -/
def Stream.settleFetch (x : Stream) : Stream :=
  match x.fetch with
  | some f => if f.flight = [] ∧ (f.discard ∨ f.len ≤ f.issued) then x.endFetch f.descIndex else x
  | none => x

/-- The bytes of the next burst of stream `n`: to the end of the buffer or to the next multiple of 512 (R407). -/
def Fetch.nextBurst (f : Fetch) : Nat :=
  min (f.len - f.issued) (512 - (f.addr + f.issued) % 512)

/-- A burst of stream `n` is issued, only while its gate is open (R81). -/
def State.issueStream (s : State) (n : Nat) : State :=
  let s1 := s.decideGate n
  match (s1.stream n).fetch with
  | some f =>
    if s1.gateOpen n && !f.discard && decide (f.issued < f.len) then
      let k := f.nextBurst
      let s2 := s1.setStream n { s1.stream n with fetch := some { f with issued := f.issued + k, flight := f.flight ++ [k] } }
      (s2.bump F.DW_BURST_TOTAL).decideGate n
    else s1
  | none => s1

/-- Bytes that arrive for a buffer, those of a lost packet dropped. -/
def QBuf.arrive (q : QBuf) (l : List Byte) : QBuf :=
  { q with bytes := q.bytes ++ l.drop q.skip, skip := q.skip - l.length }

/-- The oldest burst of stream `n` completes: its bytes enter the staging queue, or the read has failed and the rest of
the buffer is discarded (R78, R420). -/
def State.completeStream (s : State) (n : Nat) (good : Bool) : State :=
  let x := s.stream n
  match x.fetch with
  | some f =>
    match f.flight with
    | [] => s
    | k :: rest =>
      let f1 := { f with done := f.done + k, flight := rest }
      if f.discard then (s.setStream n ({ x with fetch := some f1 }.settleFetch)).decideGate n
      else match (if good then s.hostRead (f.addr + f.done) k else none) with
        | some l =>
          let q := x.queue.map (fun q => if q.descIndex = f.descIndex then q.arrive l else q)
          let s1 := s.setStream n ({ x with fetch := some f1, queue := q }.settleFetch)
          ((s1.bump (F.SC_BYTES n) (ceilDiv k 64)).bump F.DW_BYTE_TOTAL (ceilDiv k 64)).decideGate n
        | none =>
          let q := x.queue.map (fun q => if q.descIndex = f.descIndex then { q with left := q.bytes.length } else q)
          let s1 := s.setStream n ({ x with fetch := some { f1 with discard := true }, queue := q }.settleFetch)
          let s2 := s1.streamFault n 9 0xFF f.descIndex noLine
          (s2.dwBad n (Config.ingressSlot 1) (if s.busMaster then .hostRead else .link)).decideGate n
  | none => s

/-- The write-back at the front of the queue, when it may be made (R79, R555). -/
def State.makeWriteBack (s : State) (n : Nat) : State :=
  let x := s.stream n
  match x.wb with
  | [] => s
  | w :: rest =>
    if w.ready then
      let s1 := s.setStream n { x with wb := rest }
      let (good, s2) := s1.hostWrite x.bind.wbAddr (leBytes 2 w.head ++ leBytes 2 w.lastSeq ++ leBytes 4 w.consumed)
      if good then s2
      else (s2.streamFault n 9 0xFF w.desc noLine).dwBad n (Config.ingressSlot 2) (if s.busMaster then .hostRead else .link)
    else s

/-! ### SDS packets (R83 to R99) -/

/-- A packet header (R83). -/
structure SdsHeader where
  magic : Nat
  version : Nat
  flags : Nat
  stream : Nat
  plane : Nat
  bits : Nat
  res7 : Nat
  first : Nat
  count : Nat
  colRes : Nat
  line : Nat
  marker : Nat
  payload : Nat
  res28 : Nat
  deriving DecidableEq, Repr

/-- The header's fields (R83). -/
def parseHeader (l : List Byte) : SdsHeader :=
  let span := uAt l 8 8
  let cnt := bitsOf span 20 20
  { magic := uAt l 0 2, version := uAt l 2 1, flags := uAt l 3 1, stream := uAt l 4 1, plane := uAt l 5 1
    bits := uAt l 6 1, res7 := uAt l 7 1, first := bitsOf span 0 20, count := if cnt = 0 then 1048576 else cnt
    colRes := bitsOf span 40 24, line := uAt l 16 6, marker := uAt l 22 2, payload := uAt l 24 4, res28 := uAt l 28 4 }

/-- The checks of R89 on a header of stream `n` with `left` bytes left in its buffer. -/
def SdsHeader.passes (h : SdsHeader) (n : Nat) (b : Binding) (left : Nat) : Bool :=
  decide (36 ≤ left) && decide (h.magic = 0x5D5A ∧ h.version = 1 ∧ within h.payload 1 131036 ∧ h.flags < 8 ∧
    h.res7 = 0 ∧ h.colRes = 0 ∧ h.res28 = 0) && decide (h.stream = n) &&
    (decide (h.plane < 16) && bitOf b.planeMask h.plane && decide (h.bits = b.bits)) &&
    decide (h.first = b.firstColumn ∧ h.count = b.columnCount) && decide (36 + h.payload ≤ left) &&
    decide (h.line + b.barOffset < 2 ^ 48)

/-- The 16 levels of a unit (R86). -/
def unitLevels (bits v : Nat) : List Nat := (List.range 16).map (fun d => (v >>> (bits * d)) % 2 ^ bits)

/-- Unit `k` of a reference line; a blank line has level 0 everywhere (R88). -/
def refUnit (ref : Option (List Nat)) (k : Nat) : List Nat :=
  match ref with
  | some l => ((l.drop (16 * k)).take 16 ++ List.replicate 16 0).take 16
  | none => List.replicate 16 0

/-- A decoded payload so far: units (the last one first), how many, and whether REPEAT_UP was used. -/
structure Decoded where
  units : List (List Nat) := []
  n : Nat := 0
  repeated : Bool := false
  deriving DecidableEq, Repr

/-- `k` units of the same levels added. -/
def Decoded.fill (d : Decoded) (k : Nat) (levels : List Nat) : Decoded :=
  { d with units := List.replicate k levels ++ d.units, n := d.n + k }

/-- `k` units copied from the reference line (R88). -/
def Decoded.copyUp (d : Decoded) (k : Nat) (ref : Option (List Nat)) : Decoded :=
  { units := ((List.range k).map (fun j => refUnit ref (d.n + j))).reverse ++ d.units, n := d.n + k, repeated := true }

/-- `k` units read from the payload (R86). -/
def literalUnits (bits : Nat) : Nat → List Byte → List (List Nat)
  | 0, _ => []
  | k + 1, l => unitLevels bits (leNat (l.take (2 * bits))) :: literalUnits bits k (l.drop (2 * bits))

/-- The tokens of a payload (R85 to R88): none where they break R85 or give more than `total` units. -/
def decodeTokens (bits total : Nat) (ref : Option (List Nat)) : Nat → List Byte → Decoded → Option Decoded
  | _, [], d => some d
  | 0, _ :: _, _ => none
  | fuel + 1, b :: l, d =>
    let v := b.toNat
    let go := fun (k need : Nat) (d1 : Decoded) =>
      if total < d.n + k ∨ l.length < need then none else decodeTokens bits total ref fuel (l.drop need) d1
    if v < 0x40 then
      let k := v + 1
      go k (2 * bits * k) { d with units := (literalUnits bits k l).reverse ++ d.units, n := d.n + k }
    else if v < 0x80 then go (v - 0x40 + 1) 0 (d.fill (v - 0x40 + 1) (List.replicate 16 0))
    else if v < 0xC0 then go (v - 0x80 + 1) 0 (d.copyUp (v - 0x80 + 1) ref)
    else if v < 0xE0 then go (v - 0xC0 + 1) (2 * bits) (d.fill (v - 0xC0 + 1) (unitLevels bits (leNat (l.take (2 * bits)))))
    else if v = 0xE0 then go (uAt l 0 2 + 1) 2 (d.fill (uAt l 0 2 + 1) (List.replicate 16 0))
    else if v = 0xE1 then go (uAt l 0 2 + 1) 2 (d.copyUp (uAt l 0 2 + 1) ref)
    else none

/-- A payload's line of `count` levels and whether REPEAT_UP was used, none where R85 or R87 is broken. -/
def decodeLine (bits count : Nat) (ref : Option (List Nat)) (payload : List Byte) : Option (List Nat × Bool) :=
  let total := ceilDiv count 16
  match decodeTokens bits total ref payload.length payload {} with
  | some d => if d.n = total then some ((d.units.reverse.flatten).take count, d.repeated) else none
  | none => none

/-- A line handed to the line engines (R90, R97): it becomes the last line handled and the reference line. -/
def State.handLine (s : State) (k n p line : Nat) (levels : Option (List Nat)) (faulty : Bool) : State :=
  let x := s.plane n p
  let s1 := s.setPlane n p { x with last := some line, ref := levels, refFault := faulty }
  let h : Handed := { stream := n, plane := p, line := line, levels := levels, faulty := faulty }
  let s2 := { s1 with lines := { s1.lines with handed := s1.lines.handed ++ [h] } }
  let s3 := s2.bump (F.DECOMP_LINES k)
  if faulty then
    let ports := (s3.streamPorts n p).length
    (s3.bump F.STREAM_BLANK_TOTAL ports).setStream n ((s3.stream n).count 11 ports)
  else s3

/-- Blank lines handed one after the other from `line` on (R91). -/
def State.handBlanks (s : State) (k n p : Nat) (faulty : Bool) : Nat → Nat → State
  | 0, _ => s
  | m + 1, line => (s.handLine k n p line none faulty).handBlanks k n p faulty m (line + 1)

/-- The first line that is not yet handled on a plane (R90, R92). -/
def PlaneSt.expect (x : PlaneSt) : Nat :=
  match x.last with
  | some l => l + 1
  | none => 0

/-- `m` bytes of the packet at the front of a queue consumed; a buffer that is used up leaves the queue. -/
def Stream.take (x : Stream) (m : Nat) : Stream :=
  match x.queue with
  | [] => x
  | q :: rest =>
    if q.left ≤ m then { x with queue := rest }
    else { x with queue := { q with bytes := q.bytes.drop m, left := q.left - m, skip := q.skip + (m - q.bytes.length), bad := false } :: rest }

/-- The rest of the buffer at the front of a queue is discarded (R89, R93): nothing more of it is read. -/
def Stream.discardRest (x : Stream) : Stream :=
  match x.queue with
  | [] => x
  | q :: rest =>
    let x1 := { x with queue := rest }
    match x1.fetch with
    | some f => if f.descIndex = q.descIndex then { x1 with fetch := some { f with discard := true } }.settleFetch else x1
    | none => x1

/-- The mark of R94 on every plane of a stream. -/
def State.markGaps (s : State) (n : Nat) : State :=
  (s.stream n).bind.planes.foldl (fun s' p => s'.setPlane n p { s'.plane n p with gapMark := true }) s

/-- Every plane in the mask has received END_OF_JOB (R98). -/
def State.allEoj (s : State) (n : Nat) : Bool := (s.stream n).bind.planes.all (fun p => (s.plane n p).eoj)

/-- What an accepted packet does beside handing its line: END_OF_JOB and MARKER (R98, R99). -/
def State.acceptFlags (s : State) (n : Nat) (h : SdsHeader) : State :=
  let w := h.line + (s.stream n).bind.barOffset
  let s1 := if bitOf h.flags 1 then
      s.setStream n { s.stream n with markers := (s.stream n).markers ++ [(h.plane, w, h.line, h.marker)] } else s
  if bitOf h.flags 0 then
    let s2 := s1.setPlane n h.plane { s1.plane n h.plane with eoj := true, lastWrite := some w }
    if s2.allEoj n then (s2.setStream n { s2.stream n with st := 2 }).cause F.STREAM_INT_STATUS_DRAINED else s2
  else s1

/-- A packet with a good CRC (R91, R94 to R96, R98, R99): its gap, its line, its flags. -/
def State.acceptPacket (s : State) (k n desc : Nat) (h : SdsHeader) (payload : List Byte) : State :=
  let e := (s.plane n h.plane).expect
  let gap := h.line - e
  let counted := !bitOf h.flags 2 || (s.plane n h.plane).gapMark
  let s1 := if gap = 0 then s
    else
      let s2 := s.handBlanks k n h.plane counted gap e
      if counted then s2.streamFault n 4 h.plane desc e gap else s2
  let x := s1.plane n h.plane
  let s3 := s1.setPlane n h.plane { x with underSince := false, gapMark := if gap = 0 then x.gapMark else false }
  let s4 := match decodeLine h.bits h.count x.ref payload with
    | none =>
      let s5 := (s3.handLine k n h.plane h.line none true).bump (F.DECOMP_CORRUPT k)
      s5.streamFault n 3 h.plane desc h.line
    | some (levels, rep) =>
      let s5 := (s3.handLine k n h.plane h.line (some levels) false).bump (F.DECOMP_BYTES_OUT k) (ceilDiv (h.count * h.bits) 512)
      if rep && x.refFault then s5.streamFault n 11 h.plane desc h.line else s5
  s4.acceptFlags n h

/-- A whole packet at the front of stream `n`'s queue, its header good (R90, R93, R98). Log 37 (DESIGN CHOICE). -/
def State.takePacket (s : State) (k n : Nat) (q : QBuf) (h : SdsHeader) : State :=
  let x := s.plane n h.plane
  let len := 36 + h.payload
  let s0 := s.bump (F.DECOMP_PACKETS k)
  let s1 := (s0.setStream n ((s0.stream n).take len)).decideGate n
  if x.eoj then s1.streamFault n 6 h.plane q.descIndex h.line
  else if h.line < x.expect then
    let kind := if x.underSince then 7 else if h.line + 1 = x.expect then 5 else 6
    s1.streamFault n kind h.plane q.descIndex h.line
  else if !q.bad && decide (crc32c (q.bytes.take (32 + h.payload)) = uAt q.bytes (32 + h.payload) 4) then
    s1.acceptPacket k n q.descIndex h (bytesAt q.bytes 32 h.payload)
  else if h.line = x.expect then
    ((s1.handLine k n h.plane h.line none true).bump (F.DECOMP_CRC_ERR k)).streamFault n 2 h.plane q.descIndex h.line
  else
    let s2 := (s0.setStream n (s0.stream n).discardRest).markGaps n
    ((s2.bump (F.DECOMP_CRC_ERR k)).streamFault n 2 h.plane q.descIndex h.line).decideGate n

/-- The queue of a stream holds a whole header, or the end of a buffer too short for one (R89, R101). -/
def Stream.headerReady (x : Stream) : Bool :=
  match x.queue with
  | [] => false
  | q :: _ => decide (q.skip = 0) && (decide (32 ≤ q.bytes.length) || (decide (q.left < 36) && decide (q.left ≤ q.bytes.length)))

/-- Decompressor `k` is in service and online. -/
def State.decompOn (s : State) (k : Nat) : Bool :=
  decide (s.get (F.DECOMP_DC_STATUS_STATE k) = 1 ∨ s.get (F.DECOMP_DC_STATUS_STATE k) = 2)

/-- Decoding runs for stream `n` (R82). -/
def State.decodeOn (s : State) (n : Nat) : Bool :=
  s.mode.streams && decide ((s.stream n).st = 1) && s.flag F.STREAM_CTRL_DECODE_EN

/-- Write line `w` of plane `p` may be written (R44): every row of the plane in the stream has read track line w − H.
Before track line H a slot has no former line that any row could still need. Log 29 (DEDUCED). -/
def State.lineFree (s : State) (n p w : Nat) : Bool :=
  match s.geo.plane p with
  | none => false
  | some pl =>
    if w < pl.headroom + (s.stream n).bind.barOffset then true
    else (s.streamPorts n p).all (fun q => match (s.ports.get {} q).fetched with
      | some l => decide (w - pl.headroom ≤ l)
      | none => false)

/-- The first line handed on a plane of stream `n` that has not begun. -/
def State.firstHanded (s : State) (n p : Nat) : Option Handed :=
  s.lines.handed.find? (fun h => decide (h.stream = n ∧ h.plane = p))

/-- A line of stream `n` waits in the line engines for room, so the stream is back-pressured (R44). Log 29 (DEDUCED). -/
def State.backPressured (s : State) (n : Nat) : Bool :=
  (s.stream n).bind.planes.any (fun p => match s.firstHanded n p with
    | some h => !s.lineFree n p (h.line + (s.stream n).bind.barOffset)
    | none => false)

/-- The stream that decompressor `k` serves next: round-robin over those whose queue holds a whole header (R101). -/
def State.nextStream (s : State) (k : Nat) : Option Nat :=
  let d := s.decomps.get {} k
  ((List.range 128).map (fun j => (d.served + 1 + j) % 128)).find? (fun n =>
    s.decodeOn n && decide ((s.stream n).decomp = k) && (s.stream n).headerReady && !s.backPressured n)

/-- Decompressor `k`'s hidden state replaced, DC_STATUS following it. -/
def State.setDecomp (s : State) (k : Nat) (d : Decomp) : State :=
  let s1 := { s with decomps := s.decomps.set {} k d }
  match d.busy with
  | some (n, _) =>
    ((s1.set (F.DECOMP_DC_STATUS_STATE k) 2).set (F.DECOMP_DC_STATUS_STREAM k) n).set (F.DECOMP_DC_STATUS_STREAM_VALID k) 1
  | none => (s1.set (F.DECOMP_DC_STATUS_STATE k) 1).set (F.DECOMP_DC_STATUS_STREAM_VALID k) 0

/-- The decompressors that are online. -/
def State.onlineDecomps (s : State) : List Nat := (List.range 8).filter s.decompOn

/-- Streams that a decompressor has. -/
def State.decompLoad (s : State) (l : List Nat) (k : Nat) : Nat := (l.filter (fun n => decide ((s.stream n).decomp = k))).length

/-- The online decompressor with the fewest of the streams `l`, the lowest in a tie (R100). -/
def State.leastDecomp (s : State) (l : List Nat) : Option Nat :=
  s.onlineDecomps.foldl (fun best k =>
    match best with
    | none => some k
    | some j => if s.decompLoad l k < s.decompLoad l j then some k else some j) none

/-- Stream `n` goes to the online decompressor with the fewest of the streams `l` (R100). -/
def State.placeStream (s : State) (l : List Nat) (n : Nat) : State :=
  match s.leastDecomp l with
  | some k => s.setStream n { s.stream n with decomp := k }
  | none => s

/-- DC_STREAMS of every decompressor. -/
def State.countDecomps (s : State) : State :=
  (List.range 8).foldl (fun s' k => s'.set (F.DECOMP_DC_STREAMS_COUNT k) (s'.decompLoad s'.openStreams k)) s

/-- Streams placed one after the other, each counted for the next (R100). -/
def State.placeStreams (s : State) (placed : List Nat) : List Nat → State
  | [] => s
  | n :: l => (s.placeStream placed n).placeStreams (n :: placed) l

/-- The assignment of R100 at SYS_COMMIT: named streams first, then the others in ascending order. A stream that names an
offline decompressor is placed as one that names none. -/
def State.assignDecomps (s : State) : State :=
  let named := s.openStreams.filter (fun n => decide ((s.stream n).bind.decomp ≠ 0xFF) && s.decompOn (s.stream n).bind.decomp)
  let s1 := named.foldl (fun s' n => s'.setStream n { s'.stream n with decomp := (s'.stream n).bind.decomp }) s
  (s1.placeStreams named (s1.openStreams.filter (fun n => !named.contains n))).countDecomps

/-- The packet that decompressor `k` is working on is lost (R102). Log 40 (DESIGN CHOICE). -/
def State.losePacket (s : State) (k : Nat) : State :=
  match (s.decomps.get {} k).busy with
  | none => s
  | some (n, _) =>
    match (s.stream n).queue with
    | [] => s
    | q :: _ =>
      let h := parseHeader q.bytes
      if h.passes n (s.stream n).bind q.left then
        let s1 := s.setStream n ((s.stream n).take (36 + h.payload))
        let s2 := s1.setPlane n h.plane { s1.plane n h.plane with gapMark := true }
        (s2.streamFault n 10 h.plane q.descIndex h.line).decideGate n
      else s

/-- A decompressor is declared offline (R102): the packet in flight is lost, and its streams move to the others. -/
def State.decompOffline (s : State) (k cause : Nat) : State :=
  if s.get (F.DECOMP_DC_STATUS_STATE k) = 3 ∨ 8 ≤ k then s
  else
    let s1 := s.losePacket k
    let s2 := { s1 with decomps := s1.decomps.set {} k { s1.decomps.get {} k with busy := none } }
    let s3 := ((s2.set (F.DECOMP_DC_STATUS_STATE k) 3).set (F.DECOMP_DC_STATUS_OFF_CAUSE k) cause).set
      (F.DECOMP_DC_STATUS_STREAM_VALID k) 0
    let mine := s3.openStreams.filter (fun n => decide ((s3.stream n).decomp = k))
    let others := s3.openStreams.filter (fun n => decide ((s3.stream n).decomp ≠ k))
    let s4 := (s3.placeStreams others mine).countDecomps
    (s4.cause F.STREAM_INT_STATUS_DECOMP_OFFLINE).limpRaise 4 (k + 8 * cause)

/-- One turn of decompressor `k` on stream `n` (R89, R101): a header that fails, a whole packet, or a packet whose bytes
are still to come. -/
def State.serveStream (s : State) (k n since : Nat) : State :=
  let d := s.decomps.get {} k
  match (s.stream n).queue with
  | [] => s
  | q :: _ =>
    let h := parseHeader q.bytes
    if !(decide (32 ≤ q.bytes.length) && h.passes n (s.stream n).bind q.left) then
      let s1 := (s.setStream n (s.stream n).discardRest).markGaps n
      let s2 := (s1.bump (F.DECOMP_CORRUPT k)).streamFault n 3 0xFF q.descIndex noLine
      (s2.setDecomp k { d with served := n, busy := none }).decideGate n
    else if 36 + h.payload ≤ q.bytes.length then
      (s.takePacket k n q h).setDecomp k { d with served := n, busy := none }
    else s.setDecomp k { d with busy := some (n, since) }

/-- A turn of decompressor `k` (R101). -/
def State.decompTurn (s : State) (k : Nat) : State :=
  if s.decompOn k then
    match (s.decomps.get {} k).busy with
    | some (n, since) => if s.decodeOn n then s.serveStream k n since else s
    | none =>
      match s.nextStream k with
      | some n => s.serveStream k n s.now
      | none => s
  else s

/-! ### Runway and underrun (R103 to R109) -/

/-- The runway of a plane (R103). -/
def PlaneSt.runway (x : PlaneSt) : Nat := x.storedEnd - x.next

/-- The runway of a stream: the least over its planes without END_OF_JOB, 0xFFFF when there is none (R103). -/
def State.runway (s : State) (n : Nat) : Nat :=
  (((s.stream n).bind.planes.filter (fun p => !(s.plane n p).eoj)).map (fun p => (s.plane n p).runway)).foldl min 0xFFFF

/-- An underrun of write line `w` on a plane: the line counts as handled and stored, blank (R104). The blank slots
themselves are the line engines'. -/
def State.declareUnderrun (s : State) (n p w : Nat) : State :=
  let x := s.plane n p
  let line := w - (s.stream n).bind.barOffset
  let s1 := s.setPlane n p { x with last := some line, ref := none, refFault := true, underSince := true, storedEnd := w + 1 }
  let ports := (s1.streamPorts n p).length
  let s2 := (s1.bump F.STREAM_BLANK_TOTAL ports).setStream n ((s1.stream n).count 11 ports)
  let s3 := ((s2.bump F.STREAM_UNDERRUN_TOTAL).summary 11).cause F.STREAM_INT_STATUS_UNDERRUN
  s3.streamFaultNoDesc n 1 p line

/-- Every plane in the mask expects image line 0 with a blank reference line (R92, R108, R109, R556). -/
def Stream.restart (x : Stream) : Stream :=
  { x with
    planes := x.bind.planes.foldl (fun tb p => tb.set {} p { storedEnd := x.bind.barOffset, next := x.bind.barOffset }) {}
    markers := [] }

/-- The line engines forget the lines of stream `n` that are not stored, and which of its planes' lines are counted in
MASK_ZERO: its planes start afresh. -/
def State.forgetLines (s : State) (n : Nat) : State :=
  { s with lines := { s.lines with
    handed := s.lines.handed.filter (fun h => h.stream ≠ n)
    inFlight := s.lines.inFlight.filter (fun f => f.stream ≠ n)
    maskZero := s.lines.maskZero.filter (fun z => !bitOf (s.stream n).bind.planeMask z.1) } }

/-- The marks of R94 on a stream's planes lapse. -/
def Stream.lapseMarks (x : Stream) : Stream :=
  { x with planes := x.bind.planes.foldl (fun tb p => tb.set {} p { tb.get {} p with gapMark := false }) x.planes }

/-- What a stream's track leaving STOPPING does to the stream (R94, R109): a DRAINED stream starts afresh; an OPEN one
enters STOPPED and keeps what it holds, its marks lapsed. Log 39 (DEDUCED). -/
def State.streamAtStop (s : State) (n : Nat) : State :=
  let x := s.stream n
  if x.st = 2 then (s.forgetLines n).setStream n { x.restart with st := 1 }
  else if x.st = 1 then (s.setStream n { x.lapseMarks with st := 3 }).cause F.STREAM_INT_STATUS_STOPPED
  else s

/-- The streams of a track. -/
def State.trackStreams (s : State) (t : Nat) : List Nat := s.openStreams.filter (fun n => decide ((s.stream n).bind.track = t))

/-- MIN_RUNWAY of a stream follows a smaller runway (R103, R107). Log 36 (DEDUCED). -/
def State.noteRunway (s : State) (n : Nat) : State :=
  let x := s.stream n
  if x.st = 1 then s.setStream n { x with minRunway := min x.minRunway (s.runway n) } else s

/-- The RUNWAY registers at a 100 µs report (R103). Log 36 (DEDUCED). -/
def State.reportRunway (s : State) (n : Nat) : State :=
  let r := s.runway n
  let x := s.stream n
  let m := if x.st = 1 then min x.minRunway r else x.minRunway
  ((s.set (F.SN_RUNWAY_RUNWAY n) r).set (F.SN_RUNWAY_MIN_RUNWAY n) m).setStream n { x with minRunway := m }

/-! ### STREAM commands (R107, R108, R556) -/

/-- The gate closes, the fetches in flight end and are discarded, and the staging queue empties (R108, R556). -/
def Stream.drain (x : Stream) : Stream :=
  { x with gate := false, fetch := none, queue := [], retryAt := none, wb := x.wb.map (fun w => { w with ready := true }) }

/-- A decompressor's packet of stream `n` is dropped with the queue. -/
def State.dropPacket (s : State) (n : Nat) : State :=
  (List.range 8).foldl (fun s' k =>
    match (s'.decomps.get {} k).busy with
    | some (m, _) => if m = n then s'.setDecomp k { s'.decomps.get {} k with busy := none } else s'
    | none => s') s

/-- The payload of STREAM_OPEN (R107), defaults put in. -/
def openBinding (rq : Req) : Binding := {
  track := rq.u 1 1, bits := rq.u 2 1, underrunStop := bitOf (rq.u 3 1) 0, planeMask := rq.u 4 2, decomp := rq.u 6 1
  priority := if rq.u 7 1 = 0xFF then 4 else rq.u 7 1
  firstColumn := rq.u 8 4, columnCount := rq.u 12 4, barOffset := rq.u 16 4
  ringSize := if rq.u 20 4 = 0 then 1024 else rq.u 20 4
  ringAddr := rq.u 24 8, wbAddr := rq.u 32 8
  low := if rq.u 40 4 = 0 then 64 else rq.u 40 4
  high := if rq.u 44 4 = 0 then 192 else rq.u 44 4 }

/-- The ranges of STREAM_OPEN (R107). -/
def openRange (rq : Req) : Bool :=
  let b := openBinding rq
  decide (rq.u 0 1 < 128 ∧ b.track < 16 ∧ within b.bits 1 4 ∧ rq.u 3 1 < 2 ∧ b.planeMask ≠ 0 ∧
    (b.decomp < 8 ∨ b.decomp = 0xFF) ∧ (rq.u 7 1 < 8 ∨ rq.u 7 1 = 0xFF) ∧ b.firstColumn ≤ 1048575 ∧
    within b.columnCount 1 1048576 ∧ b.firstColumn + b.columnCount ≤ 1048576) &&
  ((List.range 13).any (fun k => decide (b.ringSize = 2 ^ (k + 4)))) &&
  decide (b.ringAddr % 16 = 0 ∧ b.wbAddr % 8 = 0 ∧ within b.low 16 224 ∧ within b.high (b.low + 16) 240)

/-- STREAM_OPEN (R69, R556). Log 41 (DEDUCED). -/
def streamOpen : Cmd := {
  op := 0x200, modes := inConfigure, len := (· = 48), prep := true
  range := fun rq _ => inRange (openRange rq)
  stage := fun _ rq s => if s.get (F.BK_CTRL_POWER (15 + rq.u 0 1 / 32)) = 3 then some { status := .denied } else none
  apply := fun _ rq s =>
    let n := rq.u 0 1
    let b := openBinding rq
    let s1 := s.dropPacket n
    let x := (s1.stream n).drain
    let y := { x with st := 1, bind := b, head := 0, tail := 0, consumed := 0, seqExpect := none, lastSeq := 0, wb := [] }
    let s2 := s1.setStream n y.restart
    let s3 := s2.forgetLines n
    ok ((s3.set (F.SC_CTRL_PRIORITY n) b.priority).set (F.SC_CTRL_ENABLE n) 1) }

/-- A payload that holds STREAM and three reserved bytes. -/
def streamOnly (rq : Req) : Bool := decide (rq.u 0 1 < 128 ∧ rq.u 1 3 = 0)

/-- STREAM_CLOSE (R556). -/
def streamClose : Cmd := {
  op := 0x201, modes := inConfigure, len := (· = 4), prep := true
  range := fun rq _ => inRange (streamOnly rq)
  apply := fun _ rq s =>
    let n := rq.u 0 1
    let s1 := (s.dropPacket n).forgetLines n
    let x := s1.stream n
    ok ((s1.setStream n { ({} : Stream) with ctr := x.ctr, log := x.log }).set (F.SC_CTRL_ENABLE n) 0) }

/-- STREAM_RESET on one stream that is not CLOSED (R108). -/
def State.resetStream (s : State) (n : Nat) : State :=
  let s1 := s.dropPacket n
  let x := s1.stream n
  let c := (x.consumed + (x.tail + x.bind.ringSize - x.head) % x.bind.ringSize) % 2 ^ 32
  let y := { x.drain with st := 1, head := x.tail, consumed := c, seqExpect := none }
  let w : WriteBack := { desc := x.head, head := x.tail, lastSeq := x.lastSeq, consumed := c }
  (s1.forgetLines n).setStream n { y.restart with wb := y.wb ++ [w] }

/-- STREAM_RESET (R108). -/
def streamReset : Cmd := {
  op := 0x202, modes := fun m => decide (m = .configure ∨ m = .ready ∨ m = .halt), len := (· = 4), prep := true
  range := fun rq s => inRange (decide (rq.u 1 3 = 0) &&
    (decide (rq.u 0 1 = 0xFF) || (decide (rq.u 0 1 < 128) && decide ((s.stream (rq.u 0 1)).st ≠ 0))))
  apply := fun _ rq s =>
    ok ((if rq.u 0 1 = 0xFF then s.openStreams else [rq.u 0 1]).foldl State.resetStream s) }

/-- STREAM_WATER: the water marks of R81 from the next gate decision on. -/
def streamWater : Cmd := {
  op := 0x203, modes := fun m => decide (m = .configure) || m.streams, len := (· = 8), prep := true
  range := fun rq _ => inRange (decide (rq.u 0 1 < 128 ∧ rq.u 1 1 = 0 ∧ rq.u 6 2 = 0 ∧ within (rq.u 2 2) 16 224 ∧
    within (rq.u 4 2) (rq.u 2 2 + 16) 240))
  apply := fun _ rq s =>
    let x := s.stream (rq.u 0 1)
    ok (s.setStream (rq.u 0 1) { x with bind := { x.bind with low := rq.u 2 2, high := rq.u 4 2 } }) }

/-- The last line handled on a plane as STREAM_QUERY gives it (R107). -/
def State.lastHandled (s : State) (n p : Nat) : Nat :=
  if bitOf (s.stream n).bind.planeMask p then
    match (s.plane n p).last with
    | some l => l
    | none => 2 ^ 64 - 1
  else 2 ^ 64 - 1

/-- STREAM_QUERY (R107). -/
def streamQuery : Cmd := {
  op := 0x204, modes := Mode.normal, len := (· = 4), reads := true
  range := fun rq _ => inRange (streamOnly rq)
  apply := fun _ rq s =>
    let n := rq.u 0 1
    let x := s.stream n
    okWith (leBytes 1 x.st ++ leBytes 1 x.decomp ++ leBytes 2 0 ++ leBytes 2 x.head ++ leBytes 2 x.tail ++
      leBytes 2 (if x.st = 0 then 0 else s.runway n) ++ leBytes 2 x.minRunway ++ leBytes 4 x.fill ++
      (x.ctr.map (leBytes 4)).flatten ++ ((List.range 16).map (fun p => leBytes 8 (s.lastHandled n p))).flatten) s }

/-- A fault record of 16 bytes (R107). -/
def FaultRec.bytes (r : FaultRec) : List Byte :=
  leBytes 1 r.kind ++ leBytes 1 r.plane ++ leBytes 2 r.desc ++ leBytes 4 r.time ++ leBytes 6 r.line ++ leBytes 2 0

/-- STREAM_FAULTS (R107, R110). -/
def streamFaults : Cmd := {
  op := 0x205, modes := Mode.normal, len := (· = 4)
  range := fun rq _ => inRange (decide (rq.u 0 1 < 128 ∧ rq.u 1 1 < 2 ∧ rq.u 2 2 = 0))
  apply := fun _ rq s =>
    let n := rq.u 0 1
    let x := s.stream n
    let l := leBytes 4 x.log.length ++ (x.log.map FaultRec.bytes).flatten
    okWith l (if rq.u 1 1 = 1 then s.setStream n { x with log := [], ctr := List.replicate 12 0 } else s) }

/-! ### The stream checks of R71 -/

/-- A row covers a column inside the window. -/
def RowEntry.touches (r : RowEntry) (b : Binding) : Bool := (List.range r.n).any (fun k => b.inWindow (r.column k))

/-- Every column of a row lies inside the window. -/
def RowEntry.inside (r : RowEntry) (b : Binding) : Bool := (List.range r.n).all (fun k => b.inWindow (r.column k))

/-- The row sets of a plane, by their first row. -/
def Geo.setHeads (g : Geo) (p : Nat) : List RowEntry := (g.planeSets p).filterMap (fun x => (g.setRows x).head?)

/-- Two open streams share a column of a plane (check 19). -/
def windowsMeet (a b : Binding) : Bool :=
  decide (a.planeMask &&& b.planeMask ≠ 0 ∧ a.firstColumn < b.firstColumn + b.columnCount ∧
    b.firstColumn < a.firstColumn + a.columnCount)

/-- The checks 16 to 20 in order: the first that fails (R71). -/
def State.streamChecks (s : State) : Option (Status × Nat) :=
  let l := s.openStreams
  let b := fun n => (s.stream n).bind
  let planeOf := fun p => s.geo.plane p
  if !l.all (fun n => (b n).planes.all (fun p => match planeOf p with
      | some x => decide (x.bits = (b n).bits)
      | none => false)) then some (.outOfRange, 16)
  else if !l.all (fun n => (b n).planes.all (fun p => match planeOf p with
      | some x => decide ((b n).firstColumn + (b n).columnCount ≤ x.columns)
      | none => false)) then some (.outOfRange, 17)
  else if !l.all (fun n => (b n).planes.all (fun p => (s.geo.setHeads p).all (fun r =>
      r.inside (b n) || !r.touches (b n)))) then some (.outOfRange, 18)
  else if l.any (fun n => l.any (fun m => decide (n < m) && windowsMeet (b n) (b m))) then some (.outOfRange, 19)
  else if !s.geo.planes.cells.all (fun c => (s.geo.setHeads c.1).all (fun r =>
      l.any (fun n => bitOf (b n).planeMask c.1 && r.inside (b n)))) then some (.outOfRange, 20)
  else none

/-! ### Events of the streams -/

/-- DESCRIPTOR_READ (R73, R76, R78). -/
def execDescriptorRead (t n : Nat) (s : State) : Host.Outcome State Fault Refusal :=
  coreStep t (fun s =>
    if n < 128 ∧ s.mayReadDescriptor n ∧ (s.stream n).retryAt.isNone then (s.decideGate n).readDescriptor n else s) s

/-- DESCRIPTOR_RETRY (R78): 100 µs after a failed read of a descriptor, while the gate is open. -/
def execDescriptorRetry (t n : Nat) (s : State) : Host.Outcome State Fault Refusal :=
  coreStep t (fun s =>
    match (s.stream n).retryAt with
    | some r => if n < 128 ∧ s.mayReadDescriptor n ∧ r ≤ s.now then (s.decideGate n).readDescriptor n else s
    | none => s) s

/-- WRITE_BACK (R79, R555). -/
def execWriteBack (t n : Nat) (s : State) : Host.Outcome State Fault Refusal :=
  coreStep t (fun s => if n < 128 then s.makeWriteBack n else s) s

/-- SDS_PACKET (R89 to R101); `parityFails`: the decompressor's output parity check fails on it (R102).
Log 40 (DESIGN CHOICE). -/
def execSdsPacket (t k : Nat) (parityFails : Bool) (s : State) : Host.Outcome State Fault Refusal :=
  coreStep t (fun s =>
    if 8 ≤ k then s
    else if parityFails then
      match (s.decomps.get {} k).busy with
      | some _ => s.decompOffline k 0
      | none =>
        match s.nextStream k with
        | some n => (s.setDecomp k { s.decomps.get {} k with busy := some (n, s.now) }).decompOffline k 0
        | none => s.decompOffline k 0
    else s.decompTurn k) s

/-- DECOMP_PACKET_TIMEOUT (R102): the packet in progress has taken more than 2 ms. -/
def execDecompPacketTimeout (t k : Nat) (s : State) : Host.Outcome State Fault Refusal :=
  coreStep t (fun s =>
    match (s.decomps.get {} k).busy with
    | some (_, since) => if k < 8 ∧ since + 2000000 < s.now then s.decompOffline k 1 else s
    | none => s) s

end Sys2Proof.Machine
end

