-- ==== Sys2Proof/Machine/Lines.lean ====
section
/-! DEFINITION. The line engines: grey remap, row selection, substitution, neighbour spread, slices, packing, the loss of
an engine, and the LINE commands (R111 to R135). -/

namespace Sys2Proof.Machine

/-! ### Engines -/

/-- Engine `e` is online: IDLE or BUSY. -/
def State.engineOn (s : State) (e : Nat) : Bool :=
  decide (s.get (F.LE_STATUS_STATE e) = 1 ∨ s.get (F.LE_STATUS_STATE e) = 2)

/-- The online engines, ascending (R127). -/
def State.onlineEngines (s : State) : List Nat := (List.range 12).filter s.engineOn

/-- A line in flight has work of engine `e` under way. -/
def State.engineBusy (s : State) (e : Nat) : Bool :=
  s.lines.inFlight.any (fun f => f.engines.contains e && !f.lost.contains e)

/-- LE_STATUS and LINE_STATUS as the engines now stand. Log 39 (DEDUCED). -/
def State.showEngines (s : State) : State :=
  let on := s.onlineEngines
  let s1 := on.foldl (fun s' e =>
    ((s'.set (F.LE_STATUS_STATE e) (if s.engineBusy e then 2 else 1)).set (F.LE_STATUS_SLICE e) (on.idxOf e)).set
      (F.LE_STATUS_ACTIVE e) on.length) s
  let s2 := ((List.range 12).filter (fun e => !on.contains e)).foldl (fun s' e =>
    (s'.set (F.LE_STATUS_SLICE e) 0).set (F.LE_STATUS_ACTIVE e) 0) s1
  (s2.set F.LINE_STATUS_ONLINE_MASK (on.foldl (fun m e => m ||| 2 ^ e) 0)).set F.LINE_STATUS_ACTIVE on.length

/-- An engine is placed in service by the firmware (R384). -/
def State.startEngine (s : State) (e : Nat) : State :=
  let s1 := (s.set (F.LE_CTRL_ENABLE e) 1).setBit F.LINE_CTRL_ENABLE_MASK e true
  if s1.get (F.LE_STATUS_STATE e) = 0 then (s1.set (F.LE_STATUS_STATE e) 1).showEngines else s1

/-- A line in flight loses engine `e` (R132). -/
def InFlight.lose (f : InFlight) (e : Nat) : InFlight :=
  if f.engines.contains e && !f.lost.contains e then { f with lost := f.lost ++ [e] } else f

/-- An engine is declared offline (R131 to R133): the lines in flight lose its slice, and with the last engine they are
not completed. `held`: its bank could not be loaded (R368). -/
def State.engineOffline (s : State) (e cause : Nat) (held : Bool := false) : State :=
  if s.get (F.LE_STATUS_STATE e) = 3 ∨ 12 ≤ e then s
  else
    let s1 := (s.set (F.LE_STATUS_STATE e) 3).set (F.LE_STATUS_OFF_CAUSE e) cause
    let fl := s1.lines.inFlight.map (fun f => f.lose e)
    let kept := if s1.onlineEngines = [] then [] else fl
    let s2 := { s1 with lines := { s1.lines with inFlight := kept } }
    (s2.showEngines.cause F.LINE_INT_STATUS_ENGINE_OFFLINE).limpRaise 3 (e + 16 * cause + 64 * b2n held)

/-- The number of the slice that holds column `x` of a window of `c` columns shared by `n` engines (R127). -/
def sliceOf (c n x : Nat) : Nat := ((List.range n).filter (fun j => decide (j * c / n ≤ x))).length - 1

/-- The engine that owns a column of the window (R127). -/
def ownerOf (engines : List Nat) (c x : Nat) : Nat := engines.getD (sliceOf c engines.length x) 0

/-! ### Tables (R116 to R120, R125) -/

/-- A plane's tables. -/
def State.linePlane (s : State) (p : Nat) : LinePlane := s.lines.planes.get {} p

/-- A plane's tables replaced. -/
def State.setLinePlane (s : State) (p : Nat) (x : LinePlane) : State :=
  { s with lines := { s.lines with planes := s.lines.planes.set {} p x } }

/-- The default table of a plane of `bits` bits: the identity (R116). -/
def identityTable (bits : Nat) : List Nat := (List.range 16).map (fun v => if v < 2 ^ bits then v else 0)

/-- The bits of a plane; a plane not declared shows its tables over 4 bits. -/
def State.planeBits (s : State) (p : Nat) : Nat :=
  match s.geo.plane p with
  | some x => x.bits
  | none => 4

/-- The remap table of a plane (R116). -/
def State.remapTable (s : State) (p : Nat) : List Nat := (s.linePlane p).remap.getD (identityTable (s.planeBits p))

/-- The size-boost table of a plane (R125). -/
def State.boostTable (s : State) (p : Nat) : List Nat := (s.linePlane p).boost.getD (identityTable (s.planeBits p))

/-- The rules of R116 for a plane of `bits` bits. -/
def tableOk (bits : Nat) (l : List Nat) : Bool :=
  decide (l.getD 0 0 = 0) && (List.range 16).all (fun v => if v < 2 ^ bits then decide (l.getD v 0 < 2 ^ bits) else
    decide (l.getD v 0 = 0))

/-- Check 9 of R38: every declared plane's tables against its BITS. -/
def State.tablesCheck (s : State) : Bool :=
  s.geo.planes.cells.all (fun c => tableOk c.2.bits (s.remapTable c.1) && tableOk c.2.bits (s.boostTable c.1))

/-- The first block of row `y` of a plane's tile in the table area. -/
def State.tileBlock (s : State) (p y : Nat) : Nat := s.tableBase + p * 8192 + y * 8

/-- The hash of R120. -/
def tileMix (v : Nat) : Nat :=
  let a := (v ^^^ (v >>> 16)) * 0x7FEB352D % 2 ^ 32
  let b := (a ^^^ (a >>> 15)) * 0x846CA68B % 2 ^ 32
  b ^^^ (b >>> 16)

/-- A selector of a generated tile (R120). -/
def tileSelector (plane seed modulus y x : Nat) : Nat :=
  ((tileMix (((seed ^^^ (plane <<< 20)) ^^^ (y <<< 10)) ^^^ x) >>> 16) * modulus) >>> 16

/-- One row of a generated tile: 512 bytes, the low nibble for even x (R119, R120). -/
def tileRow (plane seed modulus tw y : Nat) : List Byte :=
  let sel := fun x => if x < tw then tileSelector plane seed modulus y x else 0
  (List.range 512).map (fun k => BitVec.ofNat 8 (sel (2 * k) + 16 * sel (2 * k + 1)))

/-- A host tile keeps the rules of R119. -/
def tileOk (tw : Nat) : Nat → List Byte → Bool
  | 0, _ => true
  | th + 1, l =>
    (List.range 512).all (fun k =>
      let v := (l.getD k 0).toNat
      decide (v % 16 < 8 ∧ v / 16 < 8) && (decide (2 * k < tw) || decide (v % 16 = 0)) &&
        (decide (2 * k + 1 < tw) || decide (v / 16 = 0))) && tileOk tw th (l.drop 512)

/-- A tile's rows stored one after the other. -/
def State.storeTile (s : State) (p : Nat) (rows : Nat → List Byte) : Nat → State
  | 0 => s
  | y + 1 => (s.storeTile p rows y).cellarStore (s.tileBlock p y) 8 (rows y)

/-- A plane has a tile from now on (R118). -/
def State.setTile (s : State) (p : Nat) (t : Option Tile) : State :=
  (s.setLinePlane p { s.linePlane p with tile := t }).setBit F.LINE_MASK_VALID_PLANES p t.isSome

/-! ### Steps 1 to 4 at the start of a line -/

/-- A nozzle is usable: GOOD or SUSPECT as published (R113, R272). -/
def State.usable (s : State) (nozzle : Nat) : Bool := decide (s.watch.states.get 0 nozzle < 2)

/-- The rows of the set that covers a column, in rotation order (R31, R117). -/
def State.coverRows (s : State) (p col : Nat) : List RowEntry :=
  match (s.geo.setsAt p col).head? with
  | some x => s.geo.setRows x
  | none => []

/-- The member that prints a column: the row and the nozzle's index in it. -/
def RowEntry.member (r : RowEntry) (col : Nat) : Nat × Nat × Nat := (r.port, r.row, (r.nozzleOf col).getD 0)

/-- The nozzle of a row that prints a column is usable. -/
def State.memberUsable (s : State) (r : RowEntry) (col : Nat) : Bool :=
  s.usable (nozzleId r.port (r.local ((r.nozzleOf col).getD 0)))

/-- Steps 2 and 3 for one column (R117, R121, R122): its member, none where it has no usable one, and whether the
member is a substitute. A column with code 0 is never substituted. -/
def State.choose (s : State) (p col sel code : Nat) (subst : Bool) : Option (Nat × Nat × Nat) × Bool :=
  let rows := s.coverRows p col
  let n := rows.length
  match rows[sel % n]? with
  | none => (none, false)
  | some r =>
    if s.memberUsable r col then (some (r.member col), false)
    else if code = 0 then (none, false)
    else if !subst then (some (r.member col), false)
    else match ((List.range n).map (fun d => rows.getD ((sel + d) % n) r)).find? (fun x => s.memberUsable x col) with
      | some x => (some (x.member col), true)
      | none => (none, false)

/-- The selector of a column in a tile row's blocks: 0 where its block was delivered as zeros (R117, R118). -/
def selectorAt (blocks : List (Option (List Byte))) (x : Nat) : Nat :=
  let v := (((blocks.getD (x / 128) none).getD zeroBlock).getD (x % 128 / 2) 0).toNat
  if x % 2 = 0 then v % 16 else v / 16

/-- The tile row of image line `n` read once by each engine (R118): the blocks each was delivered. -/
def State.readTile (s : State) (p n : Nat) (t : Tile) : List Nat → List (List (Option (List Byte))) × State
  | [] => ([], s)
  | _ :: r =>
    let (l, s1) := s.cellarReads ((List.range 8).map (· + s.tileBlock p (n % t.th)))
    let (ls, s2) := s1.readTile p n t r
    (l :: ls, s2)

/-- MASK_ZERO counts an image line of a plane once (R118). -/
def State.countMaskZero (s : State) (p n : Nat) : State :=
  if s.lines.maskZero.contains (p, n) then s
  else
    let s1 := { s with lines := { s.lines with maskZero := (p, n) :: s.lines.maskZero } }
    (s1.bump F.LINE_MASK_ZERO).cause F.LINE_INT_STATUS_MASK_ZERO

/-- Column `x` of the window moved by a distance to one side, when it stays in the window. -/
def shiftColumn (c x d : Nat) (up : Bool) : Option Nat :=
  if up then (if x + d < c then some (x + d) else none) else if d ≤ x then some (x - d) else none

/-- The candidate targets of source `x` in order (R123). -/
def candidates (c x : Nat) (even : Bool) : List Nat :=
  [shiftColumn c x 1 (!even), shiftColumn c x 1 even, shiftColumn c x 2 (!even), shiftColumn c x 2 even].filterMap id

/-- The sources of a line and the target each takes, none where no candidate is eligible (R123, R126). -/
def spreadSources (codes : List Nat) (members : List (Option (Nat × Nat × Nat))) (even spread : Bool) :
    List (Nat × Option Nat) :=
  let c := codes.length
  let source := fun x => decide (codes.getD x 0 ≠ 0) && (members.getD x none).isNone
  let eligible := fun t => decide (codes.getD t 0 = 0) && (members.getD t none).isSome
  ((List.range c).filter source).map (fun x => (x, if spread then (candidates c x even).find? eligible else none))

/-- The line engines begin a handed line (R111, R112, R114). -/
def State.beginLine (s : State) (h : Handed) : State :=
  let b := (s.stream h.stream).bind
  let engines := s.onlineEngines
  let c := b.columnCount
  let f : InFlight := { stream := h.stream, plane := h.plane, line := h.line, epoch := s.get F.WATCH_EPOCH,
                        since := s.now, faulty := h.faulty, engines := engines }
  let (g, s1) := match h.levels with
    | none => ({ f with blank := true }, s)
    | some levels =>
      let lp := s.linePlane h.plane
      let remap := s.remapTable h.plane
      let codes := (List.range c).map (fun x => remap.getD (levels.getD x 0) 0)
      let (reads, s2) := match lp.tile with
        | some t => s.readTile h.plane h.line t engines
        | none => ([], s)
      let s3 := if reads.any (fun l => l.any Option.isNone) then s2.countMaskZero h.plane h.line else s2
      let tw := match lp.tile with
        | some t => t.tw
        | none => 1
      let sel := fun (x : Nat) => if lp.tile.isSome then
        selectorAt (reads.getD (sliceOf c engines.length x) []) ((b.firstColumn + x) % tw) else 0
      let chosen : List (Option (Nat × Nat × Nat) × Bool) := (List.range c).map (fun x => s.choose h.plane (b.firstColumn + x) (sel x) (codes.getD x 0) lp.subst)
      let members := chosen.map Prod.fst
      let subs := ((List.range c).filter (fun x => (chosen.getD x (none, false)).2)).foldl (fun (tb : Tbl Nat) x =>
        let e := ownerOf engines c x
        tb.set 0 e (tb.get 0 e + 1)) {}
      ({ f with codes := codes, members := members, subs := subs, boost := s.boostTable h.plane,
                sources := spreadSources codes members (h.line % 2 = 0) lp.spread }, s3)
  ({ s1 with lines := { s1.lines with inFlight := s1.lines.inFlight ++ [g], epochInUse := g.epoch } }).showEngines

/-! ### The end of a line: spread, packing and accounting -/

/-- The engine that owns column `x` of a line's window. -/
def InFlight.owner (f : InFlight) (c x : Nat) : Nat := ownerOf f.engines c x

/-- The sources whose records are used: those of a lost slice, and those to a lost slice, are discarded (R132). -/
def InFlight.live (f : InFlight) (c : Nat) : List (Nat × Option Nat) :=
  f.sources.filter (fun x => !f.lost.contains (f.owner c x.1) &&
    match x.2 with
    | some t => !f.lost.contains (f.owner c t)
    | none => true)

/-- Source `a` beats source `b` for target `t` (R124). -/
def beats (even : Bool) (t a b : Nat) : Bool :=
  let da := if a < t then t - a else a - t
  let db := if b < t then t - b else b - t
  decide (da < db) || (decide (da = db) && (if even then decide (a < b) else decide (b < a)))

/-- The source that wins a target (R124). -/
def winner (even : Bool) (live : List (Nat × Option Nat)) (t : Nat) : Option Nat :=
  ((live.filter (fun x => x.2 = some t)).map (·.1)).foldl (fun best x =>
    match best with
    | none => some x
    | some b => if beats even t x b then some x else some b) none

/-- The code that the owner of a column places on its member (R111, R125, R132). -/
def InFlight.codeOf (f : InFlight) (c : Nat) (live : List (Nat × Option Nat)) (x : Nat) : Nat :=
  if f.lost.contains (f.owner c x) then 0
  else if f.codes.getD x 0 ≠ 0 then f.codes.getD x 0
  else match winner (f.line % 2 = 0) live x with
    | some src => f.boost.getD (f.codes.getD src 0) 0
    | none => 0

/-- The codes of a row's nozzles, index 0 first (R111). -/
def InFlight.rowCodes (f : InFlight) (b : Binding) (live : List (Nat × Option Nat)) (r : RowEntry) : List Nat :=
  (List.range r.n).map (fun k =>
    let x := r.column k - b.firstColumn
    if f.members.getD x none = some (r.port, r.row, k) then f.codeOf b.columnCount live x else 0)

/-- The engine that writes block `k` of a row's slot: the owner of the column of its lowest nozzle (R129). -/
def InFlight.blockWriter (f : InFlight) (b : Binding) (bits : Nat) (r : RowEntry) (k : Nat) : Nat :=
  f.owner b.columnCount (r.column (min (512 * k / bits) (r.n - 1)) - b.firstColumn)

/-- Part of a row of the line stands blank for a lost engine (R133). -/
def InFlight.rowLost (f : InFlight) (b : Binding) (bits : Nat) (r : RowEntry) (blocks : Nat) : Bool :=
  (List.range blocks).any (fun k => f.lost.contains (f.blockWriter b bits r k)) ||
    (List.range r.n).any (fun k => f.lost.contains (f.owner b.columnCount (r.column k - b.firstColumn)))

/-- The key of a slot's record. -/
def slotKey (port row slot : Nat) : Nat := (port * 64 + row) * 16384 + slot

/-- The record of a slot (R115). -/
def State.storedLine (s : State) (g : Ring) (w : Nat) : Option StoredLine :=
  let x := s.lines.stored.get {} (slotKey g.port g.row (w % g.depth))
  if x.w = w then some x else none

/-- The record of a slot replaced. -/
def State.recordLine (s : State) (g : Ring) (x : StoredLine) : State :=
  { s with lines := { s.lines with stored := s.lines.stored.set {} (slotKey g.port g.row (x.w % g.depth)) x } }

/-- One row of a line written: whole blocks, those of a lost engine with code 0 (R43, R129, R132). -/
def State.writeRow (s : State) (f : InFlight) (b : Binding) (bits w : Nat) (live : List (Nat × Option Nat))
    (r : RowEntry) : State :=
  match s.geo.ring r.port r.row with
  | none => s
  | some g =>
    let bytes := packCodes bits (f.rowCodes b live r) g.slot
    let s1 := (List.range g.slot).foldl (fun s' k =>
      s'.cellarWrite (g.base + (w % g.depth) * g.slot + k)
        (if f.lost.contains (f.blockWriter b bits r k) then zeroBlock else bytesAt bytes (64 * k) 64)) s
    s1.recordLine g { w := w, epoch := f.epoch, faulty := f.faulty || f.rowLost b bits r g.slot }

/-- Dots of an engine: spread placed on its columns, and dropped at its columns (R125, R126). -/
def InFlight.spreadCounts (f : InFlight) (c : Nat) (live : List (Nat × Option Nat)) (e : Nat) : Nat × Nat :=
  let mine := live.filter (fun x => match x.2 with
    | some t => decide (f.owner c t = e)
    | none => false)
  let targets := (mine.filterMap (·.2)).dedup
  let none_ := live.filter (fun x => x.2.isNone && decide (f.owner c x.1 = e))
  (targets.length, mine.length - targets.length + none_.length)

/-- The counters of an engine that has finished its slice (R112, R121, R125, R126). -/
def State.countSlice (s : State) (f : InFlight) (b : Binding) (bits : Nat) (live : List (Nat × Option Nat)) (ns : Nat)
    (wrote : Bool) (e : Nat) : State :=
  let c := b.columnCount
  let n := f.engines.length
  let j := f.engines.idxOf e
  let cols := (j + 1) * c / n - j * c / n
  let (placed, dropped) := f.spreadCounts c live e
  let s1 := (s.bump (F.LE_LINES e)).set (F.LE_MAX_SLICE_TIME e) (max (s.get (F.LE_MAX_SLICE_TIME e)) (min (ns / 10) 0xFFFFFFFF))
  let s2 := { s1 with lines := { s1.lines with busy := s1.lines.busy.set 0 e (s1.lines.busy.get 0 e + ns) } }
  let s3 := ((s2.set (F.LE_LAST_LINE_STREAM e) f.stream).set (F.LE_LAST_LINE_VALID e) 1).set (F.LE_LAST_LINE_LINE_LO e) f.line
  let s4 := s3.set (F.LE_STATE_EPOCH e) f.epoch
  if f.blank then (if wrote then s4.bump (F.LE_BLANK_LINES e) else s4)
  else
    let s5 := (s4.bump (F.LE_BYTES_IN e) (ceilDiv (cols * bits) 512)).bump (F.LE_SUBST e) (f.subs.get 0 e)
    let s6 := ((s5.bump (F.LE_SPREAD e) placed).bump (F.LE_SPREAD_DROP e) dropped).bump F.LINE_SUBST_TOTAL (f.subs.get 0 e)
    let s7 := ((s6.bump F.LINE_SPREAD_TOTAL placed).bump F.LINE_SPREAD_DROP_TOTAL dropped).summary 9 dropped
    if dropped = 0 then s7 else s7.cause F.LINE_INT_STATUS_SPREAD_DROP

/-- A line flagged PARTIAL (R132). -/
def State.flagPartial (s : State) (f : InFlight) : State :=
  let s1 := ((s.bump F.LINE_PARTIAL_TOTAL).set F.LINE_LAST_PARTIAL_STREAM f.stream).set F.LINE_LAST_PARTIAL_VALID 1
  let s2 := (s1.set F.LINE_LAST_PARTIAL_ENGINE (f.lost.getLastD 0)).set F.LINE_LAST_PARTIAL_LINE_HI (f.line / 2 ^ 32)
  (s2.set F.LINE_LAST_PARTIAL_LINE f.line).cause F.LINE_INT_STATUS_PARTIAL

/-- The event lines of the groups whose engines have finished (R130). -/
def State.pulseGroups (s : State) (f : InFlight) : State :=
  (List.range 4).foldl (fun s' g =>
    if f.engines.any (fun e => decide (e / 3 = g) && !f.lost.contains e) then s'.pulse (24 + g) else s') s

/-- Every slice of a line is finished and every one of its writes has returned (R103, R129, R130). A line whose underrun
has been decided meanwhile is not written (R104). -/
def State.storeLine (s : State) (f : InFlight) (sliceNs : List Nat) : State :=
  let b := (s.stream f.stream).bind
  let bits := s.planeBits f.plane
  let w := f.line + b.barOffset
  let live := f.live b.columnCount
  let rows := s.streamRows f.stream f.plane
  let late := decide (w < (s.plane f.stream f.plane).storedEnd)
  let s1 := if late then s else rows.foldl (fun s' r => s'.writeRow f b bits w live r) s
  let writers := (rows.map (fun r => (List.range (slotBlocks r.n bits)).map (f.blockWriter b bits r))).flatten.dedup
  let s2 := (f.engines.filter (fun e => !f.lost.contains e)).foldl (fun s' e =>
    s'.countSlice f b bits live (sliceNs.getD e 0) (!late && writers.contains e) e) s1
  let s3 := if f.lost = [] then s2 else s2.flagPartial f
  let x := s3.plane f.stream f.plane
  let s4 := s3.setPlane f.stream f.plane { x with storedEnd := max x.storedEnd (w + 1) }
  s4.pulseGroups f

/-- Write line `w` is written blank into rows of an underrun (R104, R133). -/
def State.writeBlank (s : State) (w : Nat) (rows : List RowEntry) : State :=
  rows.foldl (fun s' r =>
    match s'.geo.ring r.port r.row with
    | none => s'
    | some g =>
      let s1 := (List.range g.slot).foldl (fun s2 k => s2.cellarWrite (g.base + (w % g.depth) * g.slot + k) zeroBlock) s'
      s1.recordLine g { w := w, epoch := s1.get F.WATCH_EPOCH, faulty := true }) s

/-- LOAD of the engines and of the block over the 100 µs that have ended (R134). -/
def State.rollLineLoad (s : State) : State :=
  let load := fun e => min (s.lines.busy.get 0 e * 256 / 100000) 255
  let on := s.onlineEngines
  let best := on.foldl (fun (b : Nat × Nat) e => if b.1 < load e then (load e, e) else b) (0, on.headD 0)
  let s1 := (List.range 12).foldl (fun s' e => s'.set (F.LE_LOAD_LOAD e) (load e)) s
  let s2 := (s1.set F.LINE_LOAD_BUSIEST best.1).set F.LINE_LOAD_ENGINE best.2
  { s2 with lines := { s2.lines with busy := {} } }

/-! ### LINE commands (R135) -/

/-- The plane field and three reserved bytes. -/
def planeOnly (rq : Req) : Bool := decide (rq.u 0 1 < 16 ∧ rq.u 1 3 = 0)

/-- The sixteen codes of LINE_REMAP and LINE_BOOST. -/
def lineCodes (rq : Req) : List Nat := (List.range 16).map (fun k => rq.u (4 + k) 1)

/-- The ranges of LINE_REMAP and LINE_BOOST (R116). -/
def lineCodesOk (rq : Req) (s : State) : Bool :=
  let l := lineCodes rq
  planeOnly rq && l.all (fun c => decide (c < 16)) && decide (l.getD 0 0 = 0) &&
    match s.geo.plane (rq.u 0 1) with
    | some p => tableOk p.bits l
    | none => true

/-- LINE_REMAP. -/
def lineRemap : Cmd := {
  op := 0x300, modes := inConfigure, len := (· = 20), prep := true
  range := fun rq s => inRange (lineCodesOk rq s)
  apply := fun _ rq s => ok (s.setLinePlane (rq.u 0 1) { s.linePlane (rq.u 0 1) with remap := some (lineCodes rq) }) }

/-- LINE_BOOST. -/
def lineBoost : Cmd := {
  op := 0x301, modes := inConfigure, len := (· = 20), prep := true
  range := fun rq s => inRange (lineCodesOk rq s)
  apply := fun _ rq s => ok (s.setLinePlane (rq.u 0 1) { s.linePlane (rq.u 0 1) with boost := some (lineCodes rq) }) }

/-- LINE_MASK_LOAD (R119). -/
def lineMaskLoad : Cmd := {
  op := 0x302, modes := inConfigure, len := (· = 24), prep := true
  range := fun rq _ => inRange (decide (rq.u 0 1 < 16 ∧ rq.u 1 1 = 0 ∧ within (rq.u 2 2) 1 1024 ∧
    within (rq.u 4 2) 1 1024 ∧ rq.u 6 2 = 0 ∧ rq.u 20 4 = 0))
  bulk := fun rq _ => some { addr := rq.u 8 8, len := 512 * rq.u 4 2, crc := some (rq.u 16 4) }
  stage := fun l rq _ => inRange (tileOk (rq.u 2 2) (rq.u 4 2) l)
  apply := fun l rq s =>
    let p := rq.u 0 1
    ok (((s.storeTile p (fun y => bytesAt l (512 * y) 512) (rq.u 4 2)).setTile p
      (some { source := 1, tw := rq.u 2 2, th := rq.u 4 2 })).set F.LINE_GEN_STATUS_PLANE p) }

/-- LINE_MASK_GEN (R120). -/
def lineMaskGen : Cmd := {
  op := 0x303, modes := inConfigure, len := (· = 12), prep := true
  range := fun rq _ => inRange (decide (rq.u 0 1 < 16 ∧ within (rq.u 1 1) 1 8 ∧ within (rq.u 2 2) 1 1024 ∧
    within (rq.u 4 2) 1 1024 ∧ rq.u 6 2 = 0))
  apply := fun _ rq s =>
    let p := rq.u 0 1
    let t : Tile := { source := 2, tw := rq.u 2 2, th := rq.u 4 2, modulus := rq.u 1 1, seed := rq.u 8 4 }
    ok (((s.storeTile p (tileRow p t.seed t.modulus t.tw) t.th).setTile p (some t)).set F.LINE_GEN_STATUS_PLANE p) }

/-- LINE_MASK_CLEAR. -/
def lineMaskClear : Cmd := {
  op := 0x304, modes := inConfigure, len := (· = 4), prep := true
  range := fun rq _ => inRange (planeOnly rq)
  apply := fun _ rq s => ok (s.setTile (rq.u 0 1) none) }

/-- LINE_FLAGS. -/
def lineFlags : Cmd := {
  op := 0x305, modes := inConfigure, len := (· = 4), prep := true
  range := fun rq _ => inRange (decide (rq.u 0 1 < 16 ∧ rq.u 1 1 < 4 ∧ rq.u 2 2 = 0))
  apply := fun _ rq s => ok (s.setLinePlane (rq.u 0 1) { s.linePlane (rq.u 0 1) with
    subst := bitOf (rq.u 1 1) 0, spread := bitOf (rq.u 1 1) 1 }) }

/-- LINE_QUERY. -/
def lineQuery : Cmd := {
  op := 0x306, modes := Mode.normal, len := (· = 4), reads := true
  range := fun rq _ => inRange (planeOnly rq)
  apply := fun _ rq s =>
    let p := rq.u 0 1
    let x := s.linePlane p
    let t := x.tile
    let src := match t with
      | some y => y.source
      | none => 0
    let y := t.getD { tw := 0, th := 0 }
    okWith (leBytes 1 (b2n x.subst + 2 * b2n x.spread) ++ leBytes 1 src ++ leBytes 2 y.tw ++ leBytes 2 y.th ++
      leBytes 1 y.modulus ++ leBytes 1 0 ++ leBytes 4 y.seed ++ ((s.remapTable p).map (leBytes 1)).flatten ++
      ((s.boostTable p).map (leBytes 1)).flatten ++ leBytes 2 (s.get F.LINE_STATUS_ONLINE_MASK) ++ leBytes 2 0 ++
      leBytes 4 s.lines.epochInUse) s }

/-! ### Events of the line engines -/

/-- LINE_ENGINE_LINE (R111, R112, R114): the engines begin the next line handed for plane `p` of stream `n`; `parity`
names an engine whose output path then has a parity error (R131). -/
def execLineEngineLine (t n p : Nat) (parity : Option Nat) (s : State) : Host.Outcome State Fault Refusal :=
  coreStep t (fun s =>
    let s1 := match s.firstHanded n p with
      | none => s
      | some h =>
        let w := h.line + (s.stream n).bind.barOffset
        if s.onlineEngines = [] || !s.lineFree n p w then s
        else
          let s2 := { s with lines := { s.lines with handed := s.lines.handed.erase h } }
          if w < (s.plane n p).storedEnd then s2 else s2.beginLine h
    match parity with
    | some e => if s.engineOn e then s1.engineOffline e 2 else s1
    | none => s1) s

/-- LINE_STORED (R103, R129, R130): the oldest line in flight of plane `p` of stream `n` is written; `sliceNs` gives the
time that each engine took for its slice. -/
def execLineStored (t n p : Nat) (sliceNs : List Nat) (s : State) : Host.Outcome State Fault Refusal :=
  coreStep t (fun s =>
    match s.lines.inFlight.find? (fun f => decide (f.stream = n ∧ f.plane = p)) with
    | none => s
    | some f =>
      let s1 := { s with lines := { s.lines with inFlight := s.lines.inFlight.erase f } }
      (s1.storeLine f sliceNs).showEngines) s

/-- SLICE_TIMEOUT (R131): a slice of a line has taken longer than 1 ms on engine `e`. -/
def execSliceTimeout (t e : Nat) (s : State) : Host.Outcome State Fault Refusal :=
  coreStep t (fun s =>
    if s.engineOn e && s.lines.inFlight.any (fun f => f.engines.contains e && !f.lost.contains e &&
      decide (f.since + 1000000 < s.now)) then s.engineOffline e 0 else s) s

end Sys2Proof.Machine
end

