-- ==== Sys2Proof/Machine/Ring.lean ====
section
/-! DEFINITION. The Peal ring's frames: sending, the order in which a received frame is handled, and the tolls that the
master sends (R280 to R284, R294). -/

namespace Sys2Proof.Machine

/-- A Peal port beside its registers: 0 is PA, 1 is PB. -/
def State.peal1 (s : State) (k : Nat) : PealPort := s.peal.ports.get {} k

/-- A Peal port replaced. -/
def State.setPeal1 (s : State) (k : Nat) (x : PealPort) : State :=
  { s with peal := { s.peal with ports := s.peal.ports.set {} k x } }

/-- The role in force (R285). -/
def State.ringRole (s : State) : Nat := s.get F.PEAL_RING_STATUS_ROLE

/-- The ring is ACTIVE (R286). -/
def State.ringActive (s : State) : Bool := decide (s.get F.PEAL_RING_STATUS_STATE = 3)

/-- The device is in a ring: it has a role and the ring is ACTIVE. -/
def State.inRing (s : State) : Bool := s.ringActive && decide (s.ringRole ≠ 0)

/-- Port `k` is UP (R281). -/
def State.pealUp (s : State) (k : Nat) : Bool := decide (s.get (F.PP_STATUS_STATE k) = 2)

/-- The ports that are UP. -/
def State.pealUps (s : State) : List Nat := [0, 1].filter s.pealUp

/-- The ID held as master. -/
def State.masterId (s : State) : Nat := s.get F.PEAL_DEVICE_ID_MASTER

/-- A cause of the Peal block, recorded in LAST_EVENT with the device involved. -/
def State.pealCause (s : State) (bit id : Nat) : State :=
  let s1 := ((s.set F.PEAL_LAST_EVENT_CAUSE bit).set F.PEAL_LAST_EVENT_VALID 1).set F.PEAL_LAST_EVENT_ID id
  s1.causeBit ⟨F.PEAL_INT_STATUS_PORT_DOWN.off, 0, 32⟩ bit

/-- The bytes of a frame in units of 64 (TX_BYTES, RX_BYTES): header, payload and CRC. Log 37 (DESIGN CHOICE). -/
def frameUnits (f : PealFrame) : Nat := ceilDiv (16 + f.payload.length) 64

/-- A frame leaves port `k`. -/
def State.pealSend (s : State) (k : Nat) (f : PealFrame) : State :=
  let s1 := ((s.emit (.peal k f)).bump (F.PP_TX_FRAMES k)).bump (F.PP_TX_BYTES k) (frameUnits f)
  if f.kind = 5 then s1.bump (F.PP_TUNNEL_TX k) else s1

/-- The SEQ of the next frame of a type (R283). -/
def State.pealSeq (s : State) (kind : Nat) : Nat × State :=
  let q := s.peal.seqOut.get 0 kind
  (q, { s with peal := { s.peal with seqOut := s.peal.seqOut.set 0 kind ((q + 1) % 65536) } })

/-- A frame originated to one device or to all: it leaves every port that is UP (R284). -/
def State.pealOriginate (s : State) (kind dst : Nat) (payload : List Byte) : State :=
  let (q, s1) := s.pealSeq kind
  let f : PealFrame := { kind := kind, src := s1.deviceId, dst := dst, seq := q, payload := payload }
  s1.pealUps.foldl (fun s' k => s'.pealSend k f) s1

/-- A LOCAL frame originated on one port (R283). -/
def State.pealLocal (s : State) (k kind : Nat) (payload : List Byte) : State :=
  let (q, s1) := s.pealSeq kind
  s1.pealSend k { kind := kind, flags := 1, src := s1.deviceId, dst := 0, seq := q, payload := payload }

/-! ### Receiving (R284) -/

/-- Step 1 of R284: a known TYPE, its LENGTH, and reserved bits of 0. -/
def frameOk (f : PealFrame) : Bool :=
  let l := f.payload
  let n := l.length
  decide (f.flags < 2) && match f.kind with
    | 1 => decide (n = 32) && decide (uAt l 1 1 < 8) && zeroBytes l 3 5 && decide (uAt l 0 1 < 16) && zeroBytes l 14 2
    | 2 => decide (n = 16) && decide (uAt l 2 1 < 8) && zeroBytes l 3 1 && zeroBytes l 6 2
    | 3 => decide (n = 16) && decide (uAt l 2 1 < 2) && zeroBytes l 3 1
    | 4 => decide (n = 32) && zeroBytes l 1 7
    | 5 => decide (16 ≤ n ∧ n ≤ 2064) && zeroBytes l 2 2 && zeroBytes l 12 4
    | 6 => decide (n = 20) && zeroBytes l 15 1
    | 7 => decide (n = 8) && decide (uAt l 2 1 < 16) && zeroBytes l 3 1 && zeroBytes l 6 2
    | _ => false

/-- What becomes of a received frame (R284). -/
inductive Received where
  /-- discarded at step 1, 3 or 4 -/
  | format | loop | dup
  /-- consumed (true) or only forwarded -/
  | taken (consumed : Bool)
  deriving DecidableEq, Repr

/-- The key of a source and type. -/
def seqKey (f : PealFrame) : Nat := f.src * 8 + f.kind % 8

/-- A frame's SEQ is not 1 to 32,767 ahead of the last one accepted from its source and type (R284). -/
def State.seqOld (s : State) (f : PealFrame) : Bool :=
  match s.peal.seqIn.get none (seqKey f) with
  | none => false
  | some q =>
    let d := (f.seq + 65536 - q) % 65536
    !within d 1 32767

/-- A line that the track holds, or has declared missing (R284, R295). -/
def Track.known (x : Track) (line : Nat) : Bool :=
  (match x.last with
    | some c => decide (line ≤ c.line) && !x.missing.contains line
    | none => false)

/-- A TOLL with STOP names no new line, and its repetition is told by its SEQ; any other TOLL by its line (R284). -/
def State.pealDup (s : State) (f : PealFrame) : Bool :=
  if f.kind = 1 ∧ !bitOf (uAt f.payload 1 1) 1 then
    let x := s.tracks.get {} (uAt f.payload 0 1)
    x.known (uAt f.payload 8 6) || x.gone.contains (uAt f.payload 8 6)
  else s.seqOld f

/-- The order of R284. -/
def State.classify (s : State) (f : PealFrame) : Received :=
  if !frameOk f then .format
  else if f.flags = 1 then .taken true
  else if f.src = s.deviceId then .loop
  else if s.pealDup f then .dup
  else .taken (decide (f.dst = 0xFFFF) || decide (f.dst = s.deviceId))

/-- The register that counts the frames of a type received. -/
def rxCounter (k kind : Nat) : Option Fld :=
  match kind with
  | 1 => some (F.PP_TOLL_RX k)
  | 2 => some (F.PP_CHIME_RX k)
  | 3 => some (F.PP_PACE_RX k)
  | 4 => some (F.PP_SYNC_RX k)
  | 5 => some (F.PP_TUNNEL_RX k)
  | 6 => some (F.PP_DISCOVER_RX k)
  | 7 => some (F.PP_STATUS_RX k)
  | _ => none

/-- LAST_ERR of a port. -/
def State.pealError (s : State) (k kind src : Nat) : State :=
  ((s.set (F.PP_LAST_ERR_KIND k) kind).set (F.PP_LAST_ERR_VALID k) 1).set (F.PP_LAST_ERR_SRC k) src

/-- What every frame with a good CRC counts on its port, and who the neighbour is (R281, R284). -/
def State.pealArrived (s : State) (k : Nat) (f : PealFrame) : State :=
  let s1 := (s.bump (F.PP_RX_FRAMES k)).bump (F.PP_RX_BYTES k) (frameUnits f)
  let s2 := match rxCounter k f.kind with
    | some c => s1.bump c
    | none => s1
  let s3 := (s2.set (F.PP_LAST_RX_TIME k) s2.devTime).set (F.PP_NEIGHBOUR_VALID k) 1
  let s4 := if f.flags = 1 then s3.set (F.PP_NEIGHBOUR_ID k) f.src else s3
  s4.setPeal1 k { s4.peal1 k with lastRx := s.now }

/-- A frame that steps 1, 3 and 4 leave is forwarded on the other port (R284). -/
def State.pealForward (s : State) (k : Nat) (f : PealFrame) : State :=
  let o := 1 - k
  if s.pealUp o && decide (f.dst ≠ s.deviceId) then
    (s.pealSend o { f with hops := (f.hops + 1) % 65536 }).bump (F.PP_FORWARDED o)
  else s

/-- A discarded frame counted (R284, R295). -/
def State.pealDiscard (s : State) (k : Nat) (f : PealFrame) : Received → State
  | .format => (s.bump (F.PP_FORMAT_ERR k)).pealError k 2 f.src
  | .loop => (s.bump (F.PP_LOOP_DISCARD k)).pealError k 3 f.src
  | .dup =>
    let s1 := s.bump (F.PP_DUP_DISCARD k)
    if f.kind = 1 then
      let s2 := s1.bump F.PEAL_TOLL_DUP
      if (s2.tracks.get {} (uAt f.payload 0 1)).gone.contains (uAt f.payload 8 6) then s2.bump F.PEAL_TOLL_LATE else s2
    else s1
  | .taken _ => s

/-- Port `k` is in service (R285). -/
def State.pealOn (s : State) (k : Nat) : Bool := decide (k < 2) && s.flag (F.PP_CTRL_EN k) && decide (s.ringRole ≠ 0)

/-- A frame with a good CRC is handled on port `k` (R284): `use` is what consuming it does. Frames that are not LOCAL
pass only through a port that is UP. -/
def State.pealReceive (s : State) (k : Nat) (f : PealFrame) (use : State → State) : State :=
  if !s.pealOn k || (decide (f.flags ≠ 1) && !s.pealUp k) then s
  else
    let s1 := s.pealArrived k f
    match s1.classify f with
    | .taken c =>
      let s2 := if f.flags = 1 then s1 else
        { s1 with peal := { s1.peal with seqIn := s1.peal.seqIn.set none (seqKey f) (some f.seq) } }.pealForward k f
      if c then use s2 else s2
    | r => s1.pealDiscard k f r

/-! ### Tolls (R294) -/

/-- This device is timing master: it computes fire times for the ring and has not released CLAPPER_N as master
(R285, R302). -/
def State.isMaster (s : State) : Bool := s.inRing && decide (s.ringRole = 3) && !s.peal.silenced

/-- The payload of a TOLL. -/
def tollPayload (tr flags cause line : Nat) (time : Int) (interval : Nat) : List Byte :=
  leBytes 1 tr ++ leBytes 1 flags ++ leBytes 1 cause ++ leBytes 5 0 ++ leBytes 8 line ++
    leBytes 8 (ofSigned 64 time) ++ leBytes 8 interval

/-- The master sends a TOLL for a line that it commits (R294, R307). -/
def State.tollLine (s : State) (tr : Nat) (c : CLine) (clocked : Bool) : State :=
  if s.isMaster then
    (s.pealOriginate 1 0xFFFF (tollPayload tr (b2n (decide (c.line = 0)) + 4 * b2n clocked) 0 c.line c.tl c.interval)).bump
      F.PEAL_TOLL_TX
  else s

/-- The master sends one TOLL with STOP when a track of its own stops (R294). A track that stops before its first line
has no stop line, and nothing is sent for it. -/
def State.tollStop (s : State) (tr cause : Nat) (stop : Option Nat) (clocked : Bool) : State :=
  match stop with
  | some l =>
    if s.isMaster then
      (s.pealOriginate 1 0xFFFF (tollPayload tr (2 + 4 * b2n clocked) cause l 0 0)).bump F.PEAL_TOLL_TX
    else s
  | none => s

/-! ### Paths, report ports and children (R288, R290, R309) -/

/-- The ring is closed (R286). -/
def State.ringClosed (s : State) : Bool := decide (s.get F.PEAL_RING_STATUS_TOPOLOGY = 2)

/-- Devices in the ring. -/
def State.ringCount (s : State) : Nat := s.get F.PEAL_RING_SIZE_COUNT

/-- Hops to the master through port `k`: through the assignment port those of the assignment, and through the other port
of a closed ring the rest of the way round (R288). -/
def State.hopsVia (s : State) (k : Nat) : Option Nat :=
  if s.peal.place.port = k then some s.peal.place.hops
  else if s.ringClosed then some (s.ringCount - s.peal.place.hops) else none

/-- The reference port, none on the master and in holdover (R290, R293). -/
def State.refPort (s : State) : Option Nat := [0, 1].find? (fun k => s.flag (F.PP_STATUS_REF k))

/-- Hops from this device to the master on its report port: 0 on the master. -/
def State.reportHops (s : State) : Nat :=
  if s.isMaster then 0 else ((s.refPort.getD s.peal.place.port |> s.hopsVia).getD s.peal.place.hops)

/-- The neighbour on port `k` is a child: its report port, the one with fewer hops and PA on a tie, faces this device
(R309). -/
def State.childOn (s : State) (k : Nat) : Option Nat :=
  let h := s.reportHops + 1
  let rest := s.ringCount - h
  if s.inRing && s.pealUp k && s.flag (F.PP_NEIGHBOUR_VALID k) && (s.isMaster || decide (s.refPort ≠ some k)) &&
      (!s.ringClosed || decide (h < rest) || (decide (h = rest) && decide (s.get (F.PP_NEIGHBOUR_PORT k) = 0)))
  then some (s.get (F.PP_NEIGHBOUR_ID k)) else none

/-- The children: both neighbours at most on the master, one at most elsewhere (R309, R310). -/
def State.children (s : State) : List Nat := [0, 1].filterMap s.childOn

/-! ### Ring-wide PACE (R309 to R311) -/

/-- The payload of a PACE frame. -/
def pacePayload (kind : Nat) (r : Report) : List Byte :=
  leBytes 1 kind ++ leBytes 1 r.p ++ leBytes 1 (b2n r.incomplete) ++ leBytes 1 0 ++ leBytes 2 r.lowest ++
    leBytes 2 r.reason ++ leBytes 8 r.eval

/-- Two reports of one evaluation combined (R309). Of two equal values the first names LOWEST. -/
def Report.combine (a b : Report) : Report :=
  { a with p := min a.p b.p, lowest := if b.p < a.p then b.lowest else a.lowest, reason := a.reason ||| b.reason,
           incomplete := a.incomplete || b.incomplete }

/-- A REPORT sent toward the master. -/
def State.sendReport (s : State) (r : Report) : State := s.pealOriginate 3 s.masterId (pacePayload 0 r)

/-- A child's REPORT of an evaluation, as far as it has arrived. -/
def State.childReport (s : State) (id eval : Nat) : Option Report :=
  (s.peal.reports.get [] id).find? (fun r => decide (r.eval = eval))

/-- The REPORT of evaluation `e` is no longer owed. -/
def State.reportSent (s : State) (e : Nat) : State :=
  { s with peal := { s.peal with unsent := s.peal.unsent.filter (· ≠ e) } }

/-- A device other than the master reports an evaluation: at once without a child, else when the child's REPORT has come
(R309). Log 69 (DEDUCED). -/
def State.reportLocal (s : State) (r : Report) : State :=
  match s.children with
  | [] => s.sendReport r
  | c :: _ =>
    let s1 := { s with peal := { s.peal with locals := (r :: s.peal.locals).take 20, unsent := r.eval :: s.peal.unsent } }
    match s1.childReport c r.eval with
    | some x => (s1.sendReport (r.combine x)).reportSent r.eval
    | none => s1

/-- The newest evaluation for which every child's REPORT has arrived, its reports combined (R310). -/
def State.newestReport (s : State) : Option Report :=
  match s.children with
  | [] => none
  | c :: rest =>
    let whole := (s.peal.reports.get [] c).filterMap (fun r =>
      rest.foldl (fun (a : Option Report) k => match a with
        | some x => (s.childReport k r.eval).map x.combine
        | none => none) (some r))
    whole.foldl (fun (b : Option Report) r => match b with
      | some x => if x.eval < r.eval then some r else some x
      | none => some r) none

/-- The ring limit on the master at an evaluation (R310): 16 without a child. A device that has taken over keeps the
ring value it last received until the first reports have come, for 2,000 µs at most (R306, R308). Log 68 (DEDUCED). -/
def State.ringLimit (s : State) : Nat :=
  if s.children = [] then 16
  else match s.newestReport with
    | none => (match s.peal.tookAt with
      | some a => if s.now ≤ a + 2000000 then s.peal.ringNext else 0
      | none => 0)
    | some r => if r.incomplete ∨ r.eval + 2000000 < s.devTime then 0 else r.p

/-- A RING frame has been recognised within 2,100 µs (R311). -/
def State.ringFresh (s : State) : Bool :=
  match s.peal.ringAt with
  | some a => decide (s.now < a + 2100000)
  | none => false

/-- The ring value in force on a device other than the master (R311). -/
def State.ringValue (s : State) : Nat := if s.ringFresh then s.peal.ringNext else 0

end Sys2Proof.Machine
end

