-- ==== Sys2Proof/Machine/Tracks.lean ====
section
/-! DEFINITION. Tracks: the scheduler, clocked lines, line instants, line triggers, the stop of a track, and the TIMING
commands but that of the nozzle trims (R136 to R138, R154 to R160, R168 to R171, R182 to R188). -/

namespace Sys2Proof.Machine

/-- A value rounded where the manual states no rounding: down, or up as Config says. Log 32 (DESIGN CHOICE). -/
def roundOpen (q : Rat) : Int := if q.den = 1 then q.num else q.floor + (if Config.roundUp q then 1 else 0)

/-- A value rounded to the nearest integer, half up. -/
def roundHalfUp (q : Rat) : Int := (q + 1 / 2).floor

/-- Track `t`. -/
def State.track (s : State) (t : Nat) : Track := s.tracks.get {} t

/-- Track `t` replaced, with its STATE and CAUSE registers. -/
def State.setTrack (s : State) (t : Nat) (x : Track) : State :=
  let s1 := { s with tracks := s.tracks.set {} t x }
  (s1.set (F.TRACK_TR_STATUS_STATE t) x.st).set (F.TRACK_TR_STATUS_CAUSE t) x.cause

/-- SOURCE of a track (R136). -/
def State.source (s : State) (t : Nat) : Nat := s.get (F.TRACK_TR_CTRL_SOURCE t)

/-- The encoder that a track names, pacing or monitor. -/
def State.trackEnc (s : State) (t : Nat) : Option Nat :=
  if s.flag (F.TRACK_TR_CTRL_ENC_VALID t) then some (s.get (F.TRACK_TR_CTRL_ENC t)) else none

/-- PITCH in counts (R154). -/
def State.pitch (s : State) (t : Nat) : Rat := (s.get64 (F.TRACK_PITCH_LO t) (F.TRACK_PITCH_HI t) : Rat) / 2 ^ 32

/-- LEAD in ns (R160). -/
def State.leadNs (s : State) (t : Nat) : Nat := 1000 * s.get (F.TRACK_LEADS_LEAD_US t)

/-- FETCH in ns (R164). -/
def State.fetchNs (s : State) (t : Nat) : Nat := 1000 * s.get (F.TRACK_LEADS_FETCH_US t)

/-- P_eff in ns for a trim (R158). -/
def periodNs (ps : Nat) (trim : Int) : Rat := (ps : Rat) * ((1000000 + trim : Int) : Rat) / 1000000000

/-- P_eff of a track in ns (R158). -/
def State.pEff (s : State) (t : Nat) : Rat :=
  periodNs (s.get (F.TRACK_PERIOD_PS t)) (toSigned 32 (s.get (F.TRACK_TRIM_PPM t)))

/-- The rows of a track: those of the streams bound to it. -/
def State.trackRows (s : State) (t : Nat) : List RowEntry :=
  s.geo.rows.filter (fun r => match s.streamOf r with
    | some n => decide ((s.stream n).bind.track = t)
    | none => false)

/-- The head ports that carry rows of a track. -/
def State.trackPorts (s : State) (t : Nat) : List Nat := ((s.trackRows t).map (·.port)).dedup

/-- The track of a port's rows (R188 check 35). -/
def State.portTrack (s : State) (p : Nat) : Option Nat :=
  (s.geo.portRows p).findSome? (fun r => (s.streamOf r).map (fun n => (s.stream n).bind.track))

/-- A head port. -/
def State.port (s : State) (p : Nat) : Port := s.ports.get {} p

/-- A head port replaced. -/
def State.setPort (s : State) (p : Nat) (x : Port) : State := { s with ports := s.ports.set {} p x }

/-- A port is linked: UP or UP_ONE_LANE (R226). -/
def State.linked (s : State) (p : Nat) : Bool := decide ((s.port p).st = 5 ∨ (s.port p).st = 6)

/-- 1 / F_MAX in ns rounded up (R225): a port whose F_MAX is 0 Hz has no period at which it could fire twice. -/
def minPeriod (fMax : Nat) : Nat := if fMax = 0 then 2 ^ 64 else ceilDiv 1000000000 fMax

/-- T_min of a port in ns (R165). -/
def State.tMin (s : State) (p : Nat) : Nat := minPeriod (s.port p).fMax

/-- P_eff lies below the T_min of a linked port of the track's rows (R187). -/
def State.tooFast (s : State) (t : Nat) (period : Rat) : Bool :=
  (s.trackPorts t).any (fun p => s.linked p && decide (period < (s.tMin p : Rat)))

/-! ### Stopping a track (R168) -/

/-- A message concerns a track line above the one given. -/
def Msg.after (stop : Option Nat) : Msg → Bool
  | .line l _ _ _ _ => match stop with
    | some k => decide (k < l)
    | none => true
  | .fireAt l _ _ _ => match stop with
    | some k => decide (k < l)
    | none => true
  | _ => false

/-- A line lies above the stop line, every line where there is none. -/
def lineAfter (stop : Option Nat) (l : Nat) : Bool :=
  match stop with
  | some k => decide (k < l)
  | none => true

/-- A port withdraws the lines of a track after its stop line: they are neither fired nor sent (R168). -/
def Port.withdraw (x : Port) (t : Nat) (stop : Option Nat) : Port :=
  { x with
    lines := x.lines.filter (fun l => !(decide (l.track = t) && lineAfter stop l.line))
    lineQ := x.lineQ.filter (fun f => !f.msg.after stop) }

/-- A running track stops at a stop line (R168): later lines are withdrawn, and the master sends a TOLL with STOP. -/
def State.stopTrack (s : State) (t cause : Nat) (stop : Option Nat) : State :=
  let x := s.track t
  if x.st = 1 then
    let s1 := s.setTrack t { x with
      st := 2, cause := cause, stopLine := stop
      lines := x.lines.filter (fun c => !lineAfter stop c.line) }
    let s2 := (s1.trackPorts t).foldl (fun (s' : State) p => s'.setPort p ((s'.port p).withdraw t stop)) s1
    let trig := (List.range 4).foldl (fun (tb : Tbl LTrig) n =>
      if s2.get (F.TIMING_LTRIG_TRACK n) = t then
        let g := tb.get {} n
        tb.set {} n { g with pulses := g.pulses.filter (fun q => !lineAfter stop q.1) }
      else tb) s2.gov.ltrig
    let s3 := { s2 with gov := { s2.gov with ltrig := trig } }
    if s3.source t = 1 ∨ s3.source t = 2 ∨ x.continued then s3.tollStop t cause stop (decide (s3.source t = 2)) else s3
  else s

/-- A running track stops at the last line committed. -/
def State.stopAtLast (s : State) (t cause : Nat) : State := s.stopTrack t cause ((s.track t).last.map (·.line))

/-! ### Committing lines (R156 to R158, R182) -/

/-- A committed line put in its place among the others. -/
def insertLine (c : CLine) : List CLine → List CLine
  | [] => [c]
  | d :: l => if c.line < d.line then c :: d :: l else d :: insertLine c l

/-- The pulses that a committed line gives the line triggers that follow its track (R182). -/
def State.triggerLine (s : State) (t : Nat) (c : CLine) : State :=
  let g := (List.range 4).foldl (fun (tb : Tbl LTrig) n =>
    if s.flag (F.TIMING_LTRIG_EN n) && decide (s.get (F.TIMING_LTRIG_TRACK n) = t) &&
        decide (c.line % (s.get (F.TIMING_LTRIG_DIVIDE n) + 1) = 0) then
      let start := max (c.tl + toSigned 12 (s.get (F.TIMING_LTRIG_OFFSET n)) * 100) (c.tc : Int)
      let x := tb.get {} n
      tb.set {} n { x with pulses := x.pulses ++ [(c.line, start)] }
    else tb) s.gov.ltrig
  { s with gov := { s.gov with ltrig := g } }

/-- A line is committed (R157): from now on t_L and T_L never change. -/
def State.commitLine (s : State) (t line : Nat) (tl : Int) (interval : Nat) : State :=
  let x := s.track t
  let c : CLine := { line := line, tl := tl, interval := interval, tc := s.devTime }
  let newest := match x.last with
    | some d => if d.line < line then c else d
    | none => c
  let s1 := s.setTrack t { x with lines := insertLine c x.lines, last := some newest }
  let s2 := s1.set64 (F.TRACK_LINE_LO t) (F.TRACK_LINE_HI t) newest.line
  (s2.set64 (F.TRACK_TL_LO t) (F.TRACK_TL_HI t) (ofSigned 64 newest.tl)).triggerLine t c

/-- A line that this device computes: committed, sent as a TOLL, and the next line follows (R156, R158, R294). -/
def State.scheduleLine (s : State) (t : Nat) (tl : Int) (interval : Nat) (clocked : Bool) : State :=
  let x := s.track t
  let l := x.nextLine
  let s1 := s.commitLine t l tl interval
  let s2 := s1.setTrack t { s1.track t with nextLine := l + 1, tPrevLine := some tl }
  match (s2.track t).last with
  | some c => s2.tollLine t c clocked
  | none => s2

/-- Encoder `e`. -/
def State.enc (s : State) (e : Nat) : Enc := s.encs.get {} e

/-- The predicted position of an encoder at time `t` of the interval clock, in counts. -/
def Enc.xHat (x : Enc) (t : Rat) : Rat := (x.x : Rat) / 65536 + x.v * (t - (x.tPrev : Rat) / 2)

/-- The predicted position of encoder `e` at device time `t`. -/
def State.xHatAt (s : State) (e : Nat) (t : Int) : Rat := (s.enc e).xHat (((t - s.devTime + s.now : Int)) : Rat)

/-- The predicted position of encoder `e` now. -/
def State.xHatNow (s : State) (e : Nat) : Rat := (s.enc e).xHat (s.now : Rat)

/-- The lines within the lead horizon, one after the other (R156): `x` is x̂ and `v` the velocity now. -/
def State.commitDue (s : State) (t : Nat) (x v : Rat) : Nat → State
  | 0 => s
  | n + 1 =>
    let k := s.track t
    let target := (roundOpen ((k.x0 + (k.nextLine : Rat) * s.pitch t) * 65536) : Rat) / 65536
    let d := (target - x) / v
    if (s.leadNs t : Rat) < d then s
    else
      let r := roundHalfUp ((s.devTime : Rat) + d)
      let tl := match k.tPrevLine with
        | some p => max r (p + 1)
        | none => r
      (s.scheduleLine t tl (roundOpen (s.pitch t / v * 65536)).toNat false).commitDue t x v n

/-- The track computes its lines from an encoder: SOURCE 1, or a continued track whose last toll was not CLOCKED (R156,
R307). -/
def State.byEncoder (s : State) (t : Nat) : Bool :=
  decide (s.source t = 1) || (decide (s.source t = 3) && (s.track t).continued && !(s.track t).lastClocked)

/-- The track computes its lines from a period (R158, R307). -/
def State.byClock (s : State) (t : Nat) : Bool :=
  decide (s.source t = 2) || (decide (s.source t = 3) && (s.track t).continued && (s.track t).lastClocked)

/-- position_max follows x̂ (R156). -/
def State.trackMax (s : State) (t : Nat) (x : Rat) : State :=
  let k := s.track t
  if k.posMax < x then s.setTrack t { k with posMax := x } else s

/-- One evaluation of the scheduler (R156). -/
def State.schedule (s : State) (t e : Nat) : State :=
  let x := s.xHatNow e
  let s1 := s.trackMax t x
  let v := (s1.enc e).v
  let k := s1.track t
  if (s1.enc e).est ≠ .locked ∨ (s1.enc e).inputFault ∨ v ≤ 0 then s1
  else if (s1.get (F.TRACK_SLACK_TOL_REVERSE t) : Rat) < k.posMax - x then
    (s1.cause F.TIMING_TM_INT_STATUS_ENC_REVERSE).stopAtLast t 4
  else if x < k.posMax then s1
  else
    let n := ((x + (s1.leadNs t : Rat) * v - k.x0) / s1.pitch t).floor + 2 - (k.nextLine : Int)
    s1.commitDue t x v n.toNat

/-- The instant of the next clocked line, exact, in ns (R158, R307). -/
def State.nextClocked (s : State) (t : Nat) : Rat :=
  let x := s.track t
  let period := if x.continued then (match x.last with
      | some c => (c.interval : Rat) / 65536
      | none => s.pEff t) else s.pEff t
  match x.clockAcc with
  | some a => a + period
  | none => (x.tStart : Rat) + (s.get (F.TRACK_START t) : Rat)

/-- A clocked line within LEAD is committed (R158). -/
def State.clockLine (s : State) (t : Nat) : State :=
  let x := s.track t
  let a := s.nextClocked t
  let tl := roundHalfUp a
  if tl - s.devTime ≤ (s.leadNs t : Int) then
    let interval := if x.continued then (match x.last with
        | some c => c.interval
        | none => 0) else (roundOpen (s.pEff t * 65536)).toNat
    (s.setTrack t { x with clockAcc := some a }).scheduleLine t tl interval true
  else s

/-! ### Line instants (R157, R159, R171) -/

/-- The lines of a track that are no longer needed leave its list: given, and fetched by every port of the track. -/
def State.pruneLines (s : State) (t : Nat) : State :=
  let ports := s.trackPorts t
  let x := s.track t
  let needed := fun (c : CLine) => !c.given || ports.any (fun p => match (s.port p).fetched with
    | some l => decide (l < c.line)
    | none => true)
  s.setTrack t { x with lines := x.lines.filter needed }

/-- The comparison of a monitor at t_L (R159). Log 57 (DEDUCED). -/
def State.monitorLine (s : State) (t : Nat) (c : CLine) : State :=
  match s.trackEnc t with
  | none => s
  | some e =>
    if s.source t = 1 then s
    else
      let x := s.xHatAt e c.tl
      let s1 := if c.line = 0 then s.setTrack t { s.track t with monX0 := some x } else s
      match (s1.track t).monX0 with
      | none => s1
      | some x0 =>
        let d := x - x0 - (c.line : Rat) * s1.pitch t
        let beyond := decide ((s1.get (F.TRACK_SLACK_TOL_TOLERANCE t) : Rat) / 16 * s1.pitch t < (if d < 0 then -d else d))
        if decide ((s1.enc e).est = .locked) && beyond then
          let s2 := (s1.setTrack t { s1.track t with mismatch := true }).cause F.TIMING_TM_INT_STATUS_MISMATCH
          if s2.flag (F.TRACK_TR_CTRL_REPORT_ONLY t) then s2 else s2.stopTrack t 5 (some c.line)
        else s1

/-- The next committed line of a track whose instant has come and has not been given. -/
def State.dueLine (s : State) (t : Nat) : Option CLine :=
  (s.track t).lines.find? (fun c => !c.given && decide (c.tl ≤ (s.devTime : Int)))

/-- A track is RUNNING or STOPPING. -/
def State.trackActive (s : State) (t : Nat) : Bool := decide ((s.track t).st = 1 ∨ (s.track t).st = 2)

/-- RATE of a track: from T_L of the line whose instant came last, when it came in the last 100 µs. -/
def State.lineRate (s : State) (t : Nat) : Nat :=
  match (s.track t).lastInstant with
  | some c => if (s.devTime : Int) < c.tl + 100000 then min (16 * 1000000000 * 65536 / max c.interval 1) 0xFFFFF else 0
  | none => 0

/-! ### Events of the tracks -/

/-- SCHEDULER_EVAL (R156). -/
def execSchedulerEval (t tr : Nat) (s : State) : Host.Outcome State Fault Refusal :=
  coreStep t (fun s =>
    if tr < 16 ∧ (s.track tr).st = 1 ∧ s.byEncoder tr then
      match s.trackEnc tr with
      | some e => s.schedule tr e
      | none => s
    else s) s

/-- CLOCK_LINE_COMMIT (R158). -/
def execClockLineCommit (t tr : Nat) (s : State) : Host.Outcome State Fault Refusal :=
  coreStep t (fun s => if tr < 16 ∧ (s.track tr).st = 1 ∧ s.byClock tr then s.clockLine tr else s) s

/-- LINE_INSTANT (R157, R159). -/
def execLineInstant (t tr : Nat) (s : State) : Host.Outcome State Fault Refusal :=
  coreStep t (fun s =>
    if tr < 16 ∧ s.trackActive tr then
      match s.dueLine tr with
      | none => s
      | some c =>
        let x := s.track tr
        let s1 := s.setTrack tr { x with
          lines := x.lines.map (fun d => if d.line = c.line then { d with given := true } else d)
          lastInstant := some c }
        (((s1.pulse tr).monitorLine tr c).pruneLines tr)
    else s) s

/-- LTRIG_PULSE (R182): the next pulse of line trigger `n` begins. -/
def execLtrigPulse (t n : Nat) (s : State) : Host.Outcome State Fault Refusal :=
  coreStep t (fun s =>
    let g := s.gov.ltrig.get {} n
    match g.pulses.find? (fun q => decide (q.2 ≤ (s.devTime : Int))) with
    | none => s
    | some q =>
      if n < 4 then
        let stop := q.2 + 1000 * (s.get (F.TIMING_LTRIG_WIDTH n) : Int)
        { s with gov := { s.gov with ltrig := s.gov.ltrig.set {} n { pulses := g.pulses.erase q, until_ := max g.until_ stop } } }
      else s) s

/-- The level of output LTRIG n (R182): inactive outside a job and while EN is clear. -/
def State.ltrigHigh (s : State) (n : Nat) : Bool :=
  let active := s.flag (F.TIMING_LTRIG_EN n) && decide (s.mode = .track ∨ s.mode = .clock) &&
    decide ((s.devTime : Int) < (s.gov.ltrig.get {} n).until_)
  if s.flag (F.TIMING_LTRIG_ACTIVE_LOW n) then !active else active

/-! ### TIMING commands (R185 to R187) -/

/-- TIMING_TRACK. -/
def timingTrack : Cmd := {
  op := 0x401, modes := inConfigure, len := (· = 48), prep := true
  range := fun rq _ => inRange (
    decide (rq.u 0 1 < 16 ∧ rq.u 1 1 < 4 ∧ (rq.u 2 1 < 4 ∨ (rq.u 2 1 = 0xFF ∧ rq.u 1 1 ≠ 1)) ∧ rq.u 3 1 < 2) &&
    within (rq.u 4 8) 0x10000 0x7FFFFFFFFFFFFFFF && decide (15625000 ≤ rq.u 12 4) &&
    decide (-10000 ≤ rq.s 16 4 ∧ rq.s 16 4 ≤ 10000) && within (rq.u 20 2) 50 2000 && within (rq.u 22 2) 60 1990 &&
    decide (rq.u 22 2 + 10 ≤ rq.u 20 2) && decide (rq.u 24 2 ≤ 128) && within (rq.u 26 2) 1 4095 &&
    within (rq.u 28 4) 16 1024000 && decide (rq.u 36 2 ≤ 4095) && zeroBytes rq.payload 38 10)
  apply := fun _ rq s =>
    let t := rq.u 0 1
    let s1 := (s.set (F.TRACK_TR_CTRL_SOURCE t) (rq.u 1 1)).set (F.TRACK_TR_CTRL_ENC t) (if rq.u 2 1 = 0xFF then 0 else rq.u 2 1)
    let s2 := (s1.set (F.TRACK_TR_CTRL_ENC_VALID t) (b2n (rq.u 2 1 ≠ 0xFF))).set (F.TRACK_TR_CTRL_REPORT_ONLY t) (rq.u 3 1)
    let s3 := (s2.set64 (F.TRACK_PITCH_LO t) (F.TRACK_PITCH_HI t) (rq.u 4 8)).set (F.TRACK_PERIOD_PS t) (rq.u 12 4)
    let s4 := ((s3.set (F.TRACK_TRIM_PPM t) (rq.u 16 4)).set (F.TRACK_LEADS_LEAD_US t) (rq.u 20 2)).set
      (F.TRACK_LEADS_FETCH_US t) (rq.u 22 2)
    let s5 := ((s4.set (F.TRACK_SLACK_TOL_SLACK t) (rq.u 24 2)).set (F.TRACK_SLACK_TOL_TOLERANCE t) (rq.u 26 2)).set
      (F.TRACK_RATED t) (rq.u 28 4)
    ok ((s5.set (F.TRACK_START t) (rq.u 32 4)).set (F.TRACK_SLACK_TOL_REVERSE t) (rq.u 36 2)) }

/-- The modes of TIMING_LIVE. -/
def inLive (m : Mode) : Bool := decide (m = .configure) || m.streams

/-- TIMING_LIVE (R158, R187). -/
def timingLive : Cmd := {
  op := 0x402, modes := inLive, len := (· = 12), prep := true
  range := fun rq s =>
    let t := rq.u 0 1
    inRange (decide (t < 16 ∧ rq.u 1 1 = 0 ∧ rq.u 2 2 ≤ 128 ∧ -10000 ≤ rq.s 4 4 ∧ rq.s 4 4 ≤ 10000 ∧ rq.u 10 2 = 0) &&
      within (rq.u 8 2) 1 4095 &&
      !(decide ((s.track t).st = 1 ∧ s.source t = 2) && s.tooFast t (periodNs (s.get (F.TRACK_PERIOD_PS t)) (rq.s 4 4))))
  apply := fun _ rq s =>
    let t := rq.u 0 1
    ok (((s.set (F.TRACK_SLACK_TOL_SLACK t) (rq.u 2 2)).set (F.TRACK_TRIM_PPM t) (rq.u 4 4)).set
      (F.TRACK_SLACK_TOL_TOLERANCE t) (rq.u 8 2)) }

/-- TIMING_GOVERNOR (R186). -/
def timingGovernor : Cmd := {
  op := 0x403, modes := Mode.normal, len := (· = 16), prep := true
  forbids := fun rq s => decide (s.mode = .track ∨ s.mode = .clock ∨ s.mode = .maintain) &&
    decide (rq.u 0 1 ≠ s.get F.TIMING_GOV_CTRL_PWM_EN + 2 * s.get F.TIMING_GOV_CTRL_SERIAL_EN)
  range := fun rq _ => inRange (decide (rq.u 0 1 < 4 ∧ rq.u 1 1 ≤ 16 ∧ rq.u 2 1 ≤ 16 ∧ rq.u 3 1 = 0) &&
    within (rq.u 4 2) 1 1024 && within (rq.u 6 2) 10 5000 && within (rq.u 8 1) 128 250 && within (rq.u 9 1) 128 250 &&
    zeroBytes rq.payload 10 6)
  apply := fun _ rq s =>
    let s1 := (s.set F.TIMING_GOV_CTRL_PWM_EN (rq.u 0 1)).set F.TIMING_GOV_CTRL_SERIAL_EN (rq.u 0 1 / 2)
    let s2 := (s1.set F.TIMING_GOV_CTRL_HOST_CAP (rq.u 1 1)).set F.TIMING_GOV_CTRL_IDLE_P (rq.u 2 1)
    let s3 := (s2.set F.TIMING_RUNWAY_TARGET (rq.u 4 2)).set F.TIMING_HYST (rq.u 6 2)
    ok ((s3.set F.CELLAR_BW_LIMIT_LIMIT (rq.u 8 1)).set F.LINE_BW_LIMIT_LIMIT (rq.u 9 1)) }

/-- TIMING_LTRIG (R182, R183). -/
def timingLtrig : Cmd := {
  op := 0x404, modes := fun m => decide (m = .configure ∨ m = .ready), len := (· = 8), prep := true
  range := fun rq s => inRange (decide (rq.u 0 1 < 4 ∧ rq.u 1 1 < 4 ∧ rq.u 2 1 < 16 ∧ -2048 ≤ rq.s 6 2 ∧ rq.s 6 2 ≤ 2047) &&
    within (rq.u 3 1) 1 63 && within (rq.u 4 2) 1 256 &&
    decide (-(rq.s 6 2) * 100 ≤ (s.leadNs (rq.u 2 1) : Int) - 10000))
  apply := fun _ rq s =>
    let n := rq.u 0 1
    let s1 := (s.set (F.TIMING_LTRIG_EN n) (rq.u 1 1)).set (F.TIMING_LTRIG_ACTIVE_LOW n) (rq.u 1 1 / 2)
    let s2 := (s1.set (F.TIMING_LTRIG_TRACK n) (rq.u 2 1)).set (F.TIMING_LTRIG_WIDTH n) (rq.u 3 1)
    let s3 := (s2.set (F.TIMING_LTRIG_DIVIDE n) (rq.u 4 2 - 1)).set (F.TIMING_LTRIG_OFFSET n) (ofSigned 12 (rq.s 6 2))
    ok { s3 with gov := { s3.gov with ltrig := s3.gov.ltrig.set {} n {} } } }

/-- A position in 48.16. -/
def pos4816 (q : Rat) : Nat := ofSigned 64 (roundOpen (q * 65536))

/-- TIMING_QUERY. Log 34 (DESIGN CHOICE). -/
def timingQuery : Cmd := {
  op := 0x406, modes := Mode.normal, len := (· = 4), reads := true
  range := fun rq _ => inRange (decide (rq.u 0 1 < 16 ∧ rq.u 1 3 = 0))
  apply := fun _ rq s =>
    let t := rq.u 0 1
    let x := s.track t
    let (line, tl, iv) := match x.last with
      | some c => (c.line, ofSigned 64 c.tl, (roundOpen ((c.interval : Rat) / 4096)).toNat)
      | none => (2 ^ 64 - 1, 0, 0)
    let x0 := if s.source t = 1 then x.x0 else x.monX0.getD 0
    let xh := match s.trackEnc t with
      | some e => s.xHatNow e
      | none => 0
    let stop := if x.st = 2 ∨ x.st = 3 then x.stopLine.getD (2 ^ 64 - 1) else Config.staleField s.free
    okWith (leBytes 1 x.st ++ leBytes 1 (s.source t) ++ leBytes 1 x.cause ++ leBytes 1 s.gov.p ++ leBytes 4 (s.lineRate t) ++
      leBytes 8 line ++ leBytes 8 tl ++ leBytes 4 iv ++ leBytes 2 (s.get F.TIMING_GOV_STATUS_REASON) ++
      leBytes 1 s.gov.minP ++ leBytes 1 0 ++ leBytes 8 (pos4816 x0) ++ leBytes 8 (pos4816 xh) ++ leBytes 4 x.lateJob ++
      leBytes 4 x.dropJob ++ leBytes 8 stop) s }

/-! ### Checks (R137, R187, R188) -/

/-- The timing checks 32 to 36 in order: the first that fails (R188). -/
def State.timingChecks (s : State) : Option (Status × Nat) :=
  let l := s.openStreams
  let planes := (l.map (fun n => (s.stream n).bind.planes)).flatten
  if l.any (fun n => decide (s.source (s.stream n).bind.track = 0)) then some (.outOfRange, 32)
  else if (List.range 16).any (fun t => match s.trackEnc t with
      | some e => decide (s.get (F.ENC_EN_CTRL_KIND e) = 0)
      | none => false) then some (.outOfRange, 33)
  else if planes.any (fun p => match s.geo.plane p with
      | some x => decide (x.headroom < s.get F.TIMING_RUNWAY_TARGET)
      | none => false) then some (.outOfRange, 34)
  else if (List.range 128).any (fun p =>
      decide (1 < (((s.geo.portRows p).filterMap s.streamOf).map (fun n => (s.stream n).bind.track)).dedup.length)) then
    some (.outOfRange, 35)
  else if (List.range 128).any (fun p => decide (s.gen p = 1) &&
      decide (1 < ((s.geo.portRows p).map (·.fine)).dedup.length)) then some (.outOfRange, 36)
  else none

/-- A named track's source can run in the mode that JOB_START enters (R136, R137). -/
def State.sourceRuns (s : State) (t : Nat) (m : Mode) : Bool :=
  match s.source t with
  | 1 => decide (m = .track)
  | 2 => decide (m = .clock)
  | 3 => true
  | _ => false

/-- A track starts at `now` (R137, R155, R158). Log 30 (DEDUCED). -/
def State.startTrack (s : State) (t : Nat) : State :=
  let e := (s.trackEnc t).getD 0
  let x := s.xHatNow e
  let k : Track := { st := 1, tStart := s.devTime, x0 := x + (s.get (F.TRACK_START t) : Rat), posMax := x }
  let s1 := s.setTrack t k
  (s1.trackPorts t).foldl (fun s' p =>
    s'.setPort p { s'.port p with fetched := none }) s1

end Sys2Proof.Machine
end

