-- ==== Sys2Proof/Machine/Waves.lean ====
section
/-! DEFINITION. Waveforms, temperature scales, waveform ports, power steps, the loss of a waveform engine, and the WAVE
commands (R189 to R222). -/

namespace Sys2Proof.Machine

/-! ### Waveforms and maps (R189 to R197) -/

/-- The waveform data of port `p`. -/
def State.wp (s : State) (p : Nat) : WavePort := s.waves.get {} p

/-- The waveform data of port `p` replaced. -/
def State.setWp (s : State) (p : Nat) (x : WavePort) : State := { s with waves := s.waves.set {} p x }

/-- A loaded waveform. -/
def WavePort.wave (x : WavePort) (w : Nat) : Option Wave := lookupCell x.waves.cells w

/-- The map of a row group: every entry 0xFF until it is set (R194). -/
def WavePort.map (x : WavePort) (g : Nat) : List Nat := x.maps.get (List.replicate 16 0xFF) g

/-- D_w in ns (R190). -/
def Wave.duration (w : Wave) : Nat := 5 * (w.segs.map (·.2)).foldl (· + ·) 0

/-- The scale in force (R206). -/
def WavePort.scale (x : WavePort) (w : Nat) : Nat := x.scales.get 32768 w

/-- The waveforms that a port's maps select. -/
def WavePort.selected (x : WavePort) : List Nat :=
  ((x.maps.cells.map (·.2)).flatten.filter (fun w => decide (w ≠ 0xFF))).dedup

/-- R193: every selected waveform has ended and settled for 200 ns within `tMin`. -/
def WavePort.fits (x : WavePort) (tMin : Nat) : Bool :=
  x.selected.all (fun w => match x.wave w with
    | some v => decide (v.duration + 200 ≤ tMin)
    | none => true)

/-- R197: a waveform ID stands for a slot of a head with capacity `c`. -/
def slotOk (c w : Nat) : Bool := decide (w + 1 < c ∨ w = 63 ∨ w = 0xFF)

/-- R197 for everything loaded or mapped on a port. -/
def WavePort.slotsOk (x : WavePort) (c : Nat) : Bool := (x.waves.keys ++ x.selected).all (slotOk c)

/-- The head slot of a waveform (R197). -/
def headSlot (c w : Nat) : Nat := if w = 63 then c - 1 else w

/-- The rules of R194 that do not depend on the bits per dot; `hl1`: those of R195 on entry 0. -/
def mapShape (hl1 : Bool) (m : List Nat) : Bool :=
  (decide (m.getD 0 0 = 0xFF) || (decide (m.getD 0 0 = 63) && !hl1)) &&
    (m.drop 1).all (fun w => decide (w = 0xFF ∨ w ≤ 62))

/-- The rules of R194 for `b` bits per dot. -/
def mapBits (b : Nat) (m : List Nat) : Bool :=
  (List.range 16).all (fun k => k == 0 || (if k < 2 ^ b then decide (m.getD k 0 ≤ 62) else decide (m.getD k 0 = 0xFF)))

/-- The bits per dot of the rows of a group on a port. -/
def State.groupBits (s : State) (p g : Nat) : List Nat :=
  (((s.geo.portRows p).filter (fun r => decide (r.group = g))).map (fun r => s.planeBits r.plane)).dedup

/-- The row groups with rows on a port. -/
def State.portGroups (s : State) (p : Nat) : List Nat := ((s.geo.portRows p).map (·.group)).dedup

/-- The waveforms of entries 1 to 2^b − 1 of the maps of a port's groups (R195). -/
def State.commonWaves (s : State) (x : WavePort) (p : Nat) : List Nat :=
  ((s.portGroups p).map (fun g => ((s.groupBits p g).map (fun b => ((x.map g).drop 1).take (2 ^ b - 1))).flatten)).flatten.dedup

/-- R194, and on HL-1 R195, for the committed rows of a port with the maps of `x`. -/
def State.mapsOk (s : State) (x : WavePort) (p : Nat) : Bool :=
  (s.portGroups p).all (fun g => mapShape (s.gen p = 1) (x.map g) && (s.groupBits p g).all (fun b => mapBits b (x.map g))) &&
    (decide (s.gen p ≠ 1) || decide ((s.commonWaves x p).length ≤ 1))

/-- The common waveform of an HL-1 port (R195). -/
def State.commonWave (s : State) (p : Nat) : Option Nat := (s.commonWaves (s.wp p) p).head?

/-- The waveform that a code receives through a row group's map (R194, R196). -/
def WavePort.waveOf (x : WavePort) (g code : Nat) : Option Nat :=
  let w := (x.map g).getD code 0xFF
  if w = 0xFF then none else some w

/-- E_line of rows with their codes, in 0.01 nJ (R214): each nozzle counts the ENERGY of the waveform it receives. -/
def WavePort.lineEnergy (x : WavePort) (rows : List (Nat × List Nat)) : Nat :=
  (rows.map (fun r => (r.2.map (fun c => match x.waveOf r.1 c with
    | some w => (match x.wave w with
      | some v => v.energy
      | none => 0)
    | none => 0)).foldl (· + ·) 0)).foldl (· + ·) 0

/-! ### Levels and samples (R198, R202, R208 to R212) -/

/-- A level scaled about the START_LEVEL and trimmed, rounded half up and clipped (R198). -/
def scaledLevel (start : Nat) (level : Rat) (scale : Nat) (trim : Int) : Nat :=
  let v := (start : Rat) + (level - start) * scale / 32768 * ((256 + trim : Int) : Rat) / 256
  (min 16383 (max 0 (roundHalfUp v))).toNat

/-- The level of a waveform's segments `t` ns after their start (R189). -/
def levelIn : Nat → List (Nat × Nat) → Rat → Rat
  | from_, [], _ => from_
  | from_, (level, d) :: r, t =>
    let ns : Rat := 5 * d
    if t < ns then (from_ : Rat) + ((level : Rat) - from_) * t / ns else levelIn level r (t - ns)

/-- The level of a waveform at `t` ns from its start. -/
def Wave.levelAt (w : Wave) (t : Rat) : Rat := if t < 0 then w.startLevel else levelIn w.startLevel w.segs t

/-- The scale of a table at a temperature (R202). -/
def scaleIn : List (Int × Nat) → Int → Nat
  | [], _ => 32768
  | [p], _ => p.2
  | p :: q :: r, tm =>
    if tm ≤ p.1 then p.2
    else if tm < q.1 then
      (roundHalfUp ((p.2 : Rat) + ((tm - p.1 : Int) : Rat) / ((q.1 - p.1 : Int) : Rat) * ((q.2 : Rat) - p.2))).toNat
    else scaleIn (q :: r) tm

/-- The waveform port bound to a head port (R207). -/
def State.wpBound (s : State) (p : Nat) : Option Nat :=
  (List.range 16).find? (fun n => s.flag (F.WP_CTRL_EN n) && decide (s.get (F.WP_CTRL_PORT n) = p))

/-- The sample period of a waveform port in ns (R208). -/
def State.samplePeriod (s : State) (n : Nat) : Nat := 20 * 2 ^ s.get (F.WP_CTRL_RATE n)

/-- The sample that waveform port `n` sends at the sample instant `t` (R209 to R212). -/
def State.waveSample (s : State) (n : Nat) (t : Rat) : Nat :=
  let idle := 4 * s.get (F.WP_LEVEL_IDLE_LEVEL n)
  match lookupCell s.waveOut.cells n with
  | none => idle
  | some o =>
    let cut := match o.stop with
      | some x => decide ((x : Rat) ≤ t)
      | none => false
    let d := t - o.t0
    if cut || decide (d < 0) || decide ((o.wave.duration : Rat) < d) || !s.flag F.THERM_TRI_STATUS_FIRE_EN then idle
    else 4 * scaledLevel o.wave.startLevel (o.wave.levelAt d) o.scale 0

/-- WP_STATUS.STATE: a port that R212 holds at the idle level is GATED. -/
def State.waveState (s : State) (n : Nat) : Nat :=
  if !s.flag (F.WP_CTRL_EN n) then 0
  else if !s.flag F.THERM_TRI_STATUS_FIRE_EN || (s.port (s.get (F.WP_CTRL_PORT n))).therm.cut then 3
  else match lookupCell s.waveOut.cells n with
    | none => 1
    | some o =>
      if o.stop.isNone && decide (o.t0 ≤ (s.devTime : Int) ∧ (s.devTime : Int) < o.t0 + o.wave.duration) then 2 else 1

/-- The waveform of the line latched at `time` starts on a waveform port (R210, R211). -/
def State.startWave (s : State) (n w scale : Nat) (wave : Wave) (time : Int) : State :=
  let o : WaveOut := { id := w, wave := wave, scale := scale, t0 := time + s.get (F.WP_DELAY_DELAY_NS n) }
  let s1 := { s with waveOut := s.waveOut.set {} n o }
  (s1.set (F.WP_STATUS_LAST_WAVE n) w).bump (F.WP_STATUS_STREAMED n)

/-- The waveform under way on a head port's waveform port is abandoned (R212). -/
def State.stopWave (s : State) (p : Nat) : State :=
  match s.wpBound p with
  | none => s
  | some n =>
    match lookupCell s.waveOut.cells n with
    | some o => if o.stop.isSome then s else { s with waveOut := s.waveOut.set {} n { o with stop := some s.devTime } }
    | none => s

/-! ### Temperatures (R201, R470) -/

/-- A reading is valid: it carries no fault and is no more than 100 ms old (R201). -/
def Reading.valid (r : Reading) (now : Nat) : Bool :=
  match r.at_ with
  | some a => !r.fault && decide (now ≤ a + 100000000)
  | none => false

/-- The valid readings of a module (R201). -/
def HeadTherm.validTemps (x : HeadTherm) (now : Nat) : List Int :=
  (x.readings.cells.filter (fun c => c.2.valid now)).map (fun c => c.2.temp)

/-- T_m: the mean of the valid readings, rounded towards zero (R201). -/
def HeadTherm.mean (x : HeadTherm) (now : Nat) : Option Int :=
  match x.validTemps now with
  | [] => none
  | l => some (Int.tdiv (l.foldl (· + ·) 0) l.length)

/-- T_head: the hottest valid reading (R470). -/
def HeadTherm.hottest (x : HeadTherm) (now : Nat) : Option Int :=
  match x.validTemps now with
  | [] => none
  | t :: l => some (l.foldl max t)

/-! ### The two engines (R203, R218 to R220) -/

/-- Waveform engine `w` is online. -/
def State.waveOn (s : State) (w : Nat) : Bool :=
  decide (s.get (F.WE_STATUS_STATE w) = 1 ∨ s.get (F.WE_STATUS_STATE w) = 2)

/-- The engine that serves a port, none while both are offline (R203, R219). Log 46 (DEDUCED). -/
def State.waveServer (s : State) (p : Nat) : Option Nat :=
  if s.waveOn (p / 64) then some (p / 64) else if s.waveOn (1 - p / 64) then some (1 - p / 64) else none

/-- An engine serves both halves (R219). -/
def State.waveSole (s : State) (w : Nat) : Bool := s.waveOn w && !s.waveOn (1 - w)

/-- The ports that engine `w` serves. -/
def State.wavePorts (s : State) (w : Nat) : List Nat := (List.range 128).filter (fun p => decide (s.waveServer p = some w))

/-- The steps and served ports that the registers of both engines show. -/
def State.showWaves (s : State) : State :=
  [0, 1].foldl (fun (s' : State) w =>
    let ports := s.wavePorts w
    let s1 := (List.range 4).foldl (fun (a : State) k => a.set (F.WE_SERVED w k)
      ((ports.filter (fun p => decide (p / 32 = k))).foldl (fun m p => m ||| 2 ^ (p % 32)) 0)) s'
    let s2 := (List.range 16).foldl (fun (a : State) k => a.set (F.WE_STEP w k)
      ((ports.filter (fun p => decide (p / 8 = k))).foldl (fun m p => m ||| (s.wp p).step * 16 ^ (p % 8)) 0)) s1
    let best := ports.foldl (fun (b : Nat × Nat) p => if b.1 < (s.wp p).step then ((s.wp p).step, p) else b)
      (0, ports.headD 0)
    ((s2.set (F.WE_STATUS_SERVED_COUNT w) ports.length).set (F.WE_STEP_MAX_STEP w) best.1).set (F.WE_STEP_MAX_PORT w) best.2) s

/-- Engine `w` is placed in service by the firmware (R384). -/
def State.startWaveEngine (s : State) (w : Nat) : State :=
  let s1 := s.set (F.WE_CTRL_ENABLE w) 1
  if s1.get (F.WE_STATUS_STATE w) = 0 then (s1.set (F.WE_STATUS_STATE w) 1).showWaves else s1

/-- The power step of a module changes (R217); `w` is the engine that counts it. -/
def State.setStep (s : State) (w p step : Nat) : State :=
  let x := s.wp p
  if x.step = step then s
  else
    let s1 := ((s.setWp p { x with step := step }).bump (F.WE_STEP_CHANGES w)).showWaves
    if x.step < step then s1.cause (F.WE_INT_STATUS_STEP_UP w) else s1.cause (F.WE_INT_STATUS_STEP_DOWN w)

/-- A waveform engine is declared offline (R218 to R220): 0 overrun, 1 bank, 2 parity, 3 forced; `held`: its bank could
not be loaded (R368). Log 46 (DEDUCED). -/
def State.waveOffline (s : State) (w cause : Nat) (held : Bool := false) : State :=
  if s.get (F.WE_STATUS_STATE w) = 3 ∨ 2 ≤ w then s
  else
    let o := 1 - w
    let s1 := (s.set (F.WE_STATUS_STATE w) 3).set (F.WE_STATUS_OFF_CAUSE w) cause
    let s2 := ((s1.set (F.WE_STATUS_TAKEOVER w) 0).cause (F.WE_INT_STATUS_OFFLINE w)).limpRaise 5 (w + 2 * cause + 8 * b2n held)
    let s3 := if cause = 1 then
        ((List.range 64).map (· + 64 * w)).foldl (fun (a : State) p =>
          if (a.wp p).master then a else a.setWp p { a.wp p with waves := {}, temps := {} }) s2
      else s2
    if s3.waveOn o then (((s3.set (F.WE_STATUS_TAKEOVER o) 1).cause (F.WE_INT_STATUS_TAKEOVER o))).showWaves
    else if s3.get (F.WE_STATUS_STATE o) = 3 then
      (((List.range 128).filter (fun p => decide (s3.gen p ≠ 0))).foldl (fun a p => a.setStep (p / 64) p 8) s3).showWaves
    else s3.showWaves

/-- The period of an engine's updates in ns and the offset of a port in it (R203, R219). Log 46 (DEDUCED). -/
def State.updateGrid (s : State) (w p : Nat) : Nat × Nat :=
  if s.waveSole w then (20000000, p * 156250) else (10000000, p % 64 * 156250)

/-- A scale is pushed (R204, R205). -/
def State.pushScale (s : State) (w p v scale : Nat) : State :=
  let x := s.wp p
  let s1 := s.setWp p { x with scales := x.scales.set 32768 v scale, pushed := if x.pushed.contains v then x.pushed else x.pushed ++ [v] }
  let s2 := ((s1.bump (F.WE_UPDATES w)).set (F.WE_LAST_UPDATE_PORT w) p).set (F.WE_LAST_UPDATE_WAVE w) v
  (s2.set (F.WE_LAST_UPDATE_VALID w) 1).set (F.WE_LAST_UPDATE_SCALE w) scale

/-- A valid reading has come since a time. -/
def HeadTherm.readSince (x : HeadTherm) (now from_ : Nat) : Bool :=
  x.readings.cells.any (fun c => c.2.valid now && (match c.2.at_ with
    | some a => decide (from_ ≤ a)
    | none => false))

/-- A scale may be pushed: on HL-1, whose readings come without a link, one has come since the link-up (R206).
Log 110 (DEDUCED). -/
def State.scalesLive (s : State) (p : Nat) : Bool :=
  decide (s.gen p ≠ 1) || (s.linked p && (s.port p).therm.readSince s.now (s.port p).since)

/-- One update of a module (R202 to R206). Log 110 (DEDUCED). -/
def State.updateModule (s : State) (w p : Nat) : State :=
  match (s.port p).therm.mean s.now with
  | none => if s.gen p = 0 then s else (s.bump (F.WE_TEMP_MISSING w)).cause (F.WE_INT_STATUS_TEMP_MISSING w)
  | some tm =>
    if !s.scalesLive p then s
    else (s.wp p).temps.cells.foldl (fun a c =>
      let old := (a.wp p).scale c.1
      let new := scaleIn c.2 tm
      let d := if old < new then new - old else old - new
      if ((a.wp p).wave c.1).isSome ∧ s.get (F.WE_DEADBAND w) ≤ d ∧ 0 < d then a.pushScale w p c.1 new else a) s

/-- WAVE_TEMP_UPDATE (R203, R219): the update of port `p`, which took `ns`. -/
def execWaveTempUpdate (t p ns : Nat) (s : State) : Host.Outcome State Fault Refusal :=
  coreStep t (fun s =>
    match s.waveServer p with
    | none => s
    | some w =>
      let (period, off) := s.updateGrid w p
      if p < 128 ∧ s.devTime % period = off then
        let s1 := s.updateModule w p
        let s2 := s1.set (F.WE_PASS_TIME_MAX w) (max (s1.get (F.WE_PASS_TIME_MAX w)) (min (ns / 10) 0xFFFFFFFF))
        let s3 := if p % 64 = 63 then s2.pulse (28 + w) else s2
        if p = (if s.waveSole w then 127 else 64 * w + 63) then s3.bump (F.WE_PASSES w) else s3
      else s) s

/-- WAVE_ENGINE_OVERRUN (R218): an update of engine `w` has not finished by the time of the next one. -/
def execWaveEngineOverrun (t w : Nat) (s : State) : Host.Outcome State Fault Refusal :=
  coreStep t (fun s => if s.waveOn w then s.waveOffline w 0 else s) s

/-! ### Power steps (R214 to R217) -/

/-- P_lim in 10^-11 W for a thermal throttle step (R215). -/
def WavePort.powerLimit (x : WavePort) (kt : Nat) : Rat := (x.powerMax : Rat) * 10000000000 * ((8 - kt : Nat) : Rat) / 8

/-- The least step at which a demand stays within a limit (R216). -/
def leastStep (d limit : Rat) : Nat :=
  ((List.range 9).find? (fun k => decide (d * ((8 - k : Nat) : Rat) ≤ 8 * limit))).getD 8

/-- The step after an evaluation (R216). -/
def nextStep (step : Nat) (d limit : Rat) : Nat :=
  let new := leastStep d limit
  if step ≤ new then new
  else if d * ((9 - step : Nat) : Rat) * 16 ≤ 15 * 8 * limit then step - 1 else step

/-- The lines of a module whose fire instant falls in the last `window` ns (R216): Dropped lines count neither energy nor
a line. -/
def State.firedLines (s : State) (p window : Nat) : List PortLine :=
  (s.port p).lines.filter (fun l =>
    decide ((s.devTime : Int) - window < l.f ∧ l.f ≤ (s.devTime : Int) ∧ l.outcome ≠ 4) &&
      (l.started || s.flag F.THERM_TRI_STATUS_FIRE_EN))

/-- The evaluation of one module (R216): a module whose rows no stream binds has no track and no rated rate. -/
def State.evalModule (s : State) (w window p : Nat) : State :=
  let l := s.firedLines p window
  match s.portTrack p with
  | none => s
  | some t =>
    if l = [] then s
    else
      let e : Rat := (((l.map (·.energy)).foldl (· + ·) 0 : Nat) : Rat) / (l.length : Rat)
      let d := e * (s.get (F.TRACK_RATED t) : Rat) / 16
      let x := s.wp p
      (s.setWp p { x with eAvg := e, demand := d }).setStep w p (nextStep x.step d (x.powerLimit (s.port p).therm.ktFetch))

/-- POWER_STEP_EVAL (R216, R219): engine `w` evaluates every module it serves. -/
def execPowerStepEval (t w : Nat) (s : State) : Host.Outcome State Fault Refusal :=
  coreStep t (fun s =>
    let window := if s.waveSole w then 2000000 else 1000000
    if s.waveOn w ∧ s.devTime % window = 0 then
      ((s.wavePorts w).filter (fun p => decide ((s.wp p).powerMax ≠ 0))).foldl (fun a p => a.evalModule w window p) s
    else s) s

/-! ### Table entries (R191, R200) -/

/-- A segment word (R191): END_LEVEL, DURATION. -/
def parseSegment (v : Nat) : Option (Nat × Nat) :=
  if bitsOf v 14 2 = 0 ∧ bitsOf v 16 16 ≠ 0 then some (bitsOf v 0 14, bitsOf v 16 16) else none

/-- A waveform table entry (R189 to R191), none where a rule is broken. -/
def parseWave (l : List Byte) : Option (Nat × Wave) :=
  let n := uAt l 1 1
  let words := (List.range 16).map (fun k => uAt l (8 + 4 * k) 4)
  let segs := (words.take n).filterMap parseSegment
  if uAt l 0 1 < 64 ∧ 1 ≤ n ∧ n ≤ 16 ∧ uAt l 2 2 < 16384 ∧ uAt l 6 2 = 0 ∧ segs.length = n ∧
      (segs.getLastD (0, 0)).1 = uAt l 2 2 ∧ ((words.drop n).all (fun v => decide (v / 65536 = 0))) then
    some (uAt l 0 1, { startLevel := uAt l 2 2, segs := segs, energy := uAt l 4 2 })
  else none

/-- The points of a temperature table strictly rise. -/
def risingTemps : List (Int × Nat) → Bool
  | a :: b :: r => decide (a.1 < b.1) && risingTemps (b :: r)
  | _ => true

/-- A temperature table entry (R200), none where a rule is broken. -/
def parseTemps (l : List Byte) : Option (Nat × List (Int × Nat)) :=
  let n := uAt l 1 1
  let points := (List.range 16).map (fun k => (sAt l (4 + 4 * k) 2, uAt l (6 + 4 * k) 2))
  let used := points.take n
  if uAt l 0 1 < 64 ∧ 1 ≤ n ∧ n ≤ 16 ∧ uAt l 2 2 = 0 ∧
      used.all (fun x => decide (-640 ≤ x.1 ∧ x.1 ≤ 2400 ∧ 8192 ≤ x.2)) ∧ risingTemps used ∧ zeroBytes l (4 + 4 * n) (64 - 4 * n) then
    some (uAt l 0 1, used)
  else none

/-- The port of a command holds contents that its head has too: it is linked, or its loading is under way (R221). -/
def State.headHolds (s : State) (p : Nat) : Bool :=
  decide (s.gen p = 2 ∨ s.gen p = 3) && (s.linked p || (decide ((s.port p).st = 4) && (s.port p).loading))

/-- WAVE_CAP of a port's head; 64 where none is known. -/
def State.waveCap (s : State) (p : Nat) : Nat :=
  match (s.port p).desc with
  | some d => if s.gen p = 1 then 64 else d.waveCap
  | none => 64

/-- R193 and R197 for a linked port that would hold `x`. -/
def State.waveAllowed (s : State) (p : Nat) (x : WavePort) : Bool :=
  if s.linked p || s.headHolds p then x.fits (s.tMin p) && x.slotsOk (s.waveCap p) else true

/-- The port with waveforms loaded. -/
def WavePort.load (x : WavePort) (l : List (Nat × Wave)) : WavePort :=
  { x with waves := l.foldl (fun (tb : Tbl Wave) w => ⟨insertCell tb.cells w.1 w.2⟩) x.waves, master := true }

/-- A map as CFG_WRITE SPACE 1 gives it: head slots, 0xFF for none (R243). -/
def WavePort.mapBytes (x : WavePort) (c : Nat) : List Byte :=
  ((List.range 16).map (fun g => (x.map g).map (fun w => BitVec.ofNat 8 (if w = 0xFF then 0xFF else headSlot c w)))).flatten

/-- A maintenance activity runs on the port (R257). -/
def State.maintBusy (s : State) (p : Nat) : Option Resp :=
  if decide (s.mode = .maintain) && (s.port p).maint.isSome then some { status := .busy } else none

/-! ### WAVE commands (R221) -/

/-- The modes of commands that change live parameters. -/
def inRunning (m : Mode) : Bool := decide (m = .configure ∨ m = .ready ∨ m = .track ∨ m = .clock ∨ m = .maintain)

/-- WAVE_MODULE (R215). -/
def waveModule : Cmd := {
  op := 0x500, modes := inRunning, len := (· = 8), prep := true
  range := fun rq s => inRange (s.portOk (rq.u 0 1) && decide (rq.u 1 1 = 0) && within (rq.u 2 2) 1 10000 && decide (rq.u 4 4 = 0))
  apply := fun _ rq s => ok (s.setWp (rq.u 0 1) { s.wp (rq.u 0 1) with powerMax := rq.u 2 2 }) }

/-- The ranges of the table commands of 24 bytes. -/
def tableRange (most : Nat) (rq : Req) (s : State) : Option Resp :=
  inRange (s.portOk (rq.u 0 1) && decide (rq.u 1 1 = 0) && within (rq.u 2 2) 1 most && decide (rq.u 4 4 = 0 ∧ rq.u 20 4 = 0))

/-- The first refusal of two. -/
def firstOf (a b : Option Resp) : Option Resp :=
  match a with
  | some r => some r
  | none => b

/-- WAVE_LOAD (R192, R193, R197). -/
def waveLoad : Cmd := {
  op := 0x501, modes := Mode.quiet, len := (· = 24), prep := true
  range := tableRange 64
  bulk := fun rq _ => some { addr := rq.u 8 8, len := 72 * rq.u 2 2, crc := some (rq.u 16 4) }
  stage := fun l rq s =>
    let e := entries 72 (rq.u 2 2) l
    firstOf (s.maintBusy (rq.u 0 1)) (firstOf (entryError parseWave e)
      (inRange (s.waveAllowed (rq.u 0 1) ((s.wp (rq.u 0 1)).load (parsed parseWave e)))))
  head := fun l rq s =>
    if s.headHolds (rq.u 0 1) then
      (parsed parseWave (entries 72 (rq.u 2 2) l)).map (fun w => .waveLoad (headSlot (s.waveCap (rq.u 0 1)) w.1) w.2)
    else []
  apply := fun l rq s =>
    ok (s.setWp (rq.u 0 1) ((s.wp (rq.u 0 1)).load (parsed parseWave (entries 72 (rq.u 2 2) l)))) }

/-- WAVE_TEMP (R200). -/
def waveTemp : Cmd := {
  op := 0x502, modes := Mode.quiet, len := (· = 24), prep := true
  range := tableRange 64
  bulk := fun rq _ => some { addr := rq.u 8 8, len := 68 * rq.u 2 2, crc := some (rq.u 16 4) }
  stage := fun l rq s => firstOf (s.maintBusy (rq.u 0 1)) (entryError parseTemps (entries 68 (rq.u 2 2) l))
  apply := fun l rq s =>
    let x := s.wp (rq.u 0 1)
    let temps := (parsed parseTemps (entries 68 (rq.u 2 2) l)).foldl (fun (tb : Tbl (List (Int × Nat))) w =>
      ⟨insertCell tb.cells w.1 w.2⟩) x.temps
    ok (s.setWp (rq.u 0 1) { x with temps := temps, master := true }) }

/-- The map of a WAVE_MAP payload. -/
def mapOf (rq : Req) : List Nat := (List.range 16).map (fun k => rq.u (4 + k) 1)

/-- The port with one map replaced. -/
def WavePort.setMap (x : WavePort) (g : Nat) (m : List Nat) : WavePort :=
  { x with maps := x.maps.set (List.replicate 16 0xFF) g m }

/-- WAVE_MAP (R194, R195). -/
def waveMap : Cmd := {
  op := 0x503, modes := Mode.quiet, len := (· = 20), prep := true
  range := fun rq s => inRange (s.portOk (rq.u 0 1) && decide (rq.u 1 1 < 16 ∧ rq.u 2 2 = 0) &&
    mapShape (s.gen (rq.u 0 1) = 1) (mapOf rq))
  stage := fun _ rq s =>
    let p := rq.u 0 1
    let x := (s.wp p).setMap (rq.u 1 1) (mapOf rq)
    firstOf (s.maintBusy p) (inRange ((decide (s.mode = .configure) ||
      ((s.groupBits p (rq.u 1 1)).all (fun b => mapBits b (mapOf rq)) &&
        (decide (s.gen p ≠ 1) || decide ((s.commonWaves x p).length ≤ 1)))) && s.waveAllowed p x))
  head := fun _ rq s =>
    if s.headHolds (rq.u 0 1) then
      [.cfgWrite 1 0 (((s.wp (rq.u 0 1)).setMap (rq.u 1 1) (mapOf rq)).mapBytes (s.waveCap (rq.u 0 1)))]
    else []
  apply := fun _ rq s => ok (s.setWp (rq.u 0 1) ((s.wp (rq.u 0 1)).setMap (rq.u 1 1) (mapOf rq))) }

/-- The first block of a port's amplitude trims (kind 1) or nozzle timing trims (kind 0) in the table area. -/
def State.trimBlock (s : State) (kind p : Nat) : Nat := s.tableBase + (if kind = 1 then 0x34000 else 0x20000) + p * 640

/-- A port's 40,960 trims as they are stored: the bytes fetched, and 0 above them (R186, R199). -/
def trimTable (l : List Byte) : List Byte := l ++ List.replicate (40960 - l.length) 0

/-- TRIM_LOAD messages that carry the trims of local indices from `start` on (R243). -/
def trimMsgs (kind : Nat) : Nat → Nat → List Int → List Msg
  | 0, _, _ => []
  | k + 1, start, l => if l = [] then [] else .trimLoad kind start (l.take 4080) :: trimMsgs kind k (start + 4080) (l.drop 4080)

/-- The trims that bytes spell: 6 bits of amplitude (R198), 8 bits of timing (R163). -/
def trimValues (kind : Nat) (l : List Byte) : List Int :=
  l.map (fun b => if kind = 1 then toSigned 6 b.toNat else toSigned 8 b.toNat)

/-- The messages that load a port's trims. -/
def State.trimLoads (s : State) (kind p : Nat) (l : List Byte) : List Msg :=
  let n := match (s.port p).desc with
    | some d => d.nozzles
    | none => 40960
  trimMsgs kind 11 0 (trimValues kind ((trimTable l).take n))

/-- WAVE_AMP_TRIM (R199). -/
def waveAmpTrim : Cmd := {
  op := 0x504, modes := Mode.quiet, len := (· = 24), prep := true
  range := fun rq s => firstOf (tableRange 40960 rq s) (inRange (decide (s.gen (rq.u 0 1) = 3)))
  bulk := fun rq _ => some { addr := rq.u 8 8, len := rq.u 2 2, crc := some (rq.u 16 4) }
  stage := fun l rq s => firstOf (s.maintBusy (rq.u 0 1)) (inRange (l.all (fun b => decide (b.toNat < 64))))
  head := fun l rq s => if s.headHolds (rq.u 0 1) then s.trimLoads 1 (rq.u 0 1) l else []
  apply := fun l rq s =>
    let p := rq.u 0 1
    let s1 := s.cellarStore (s.trimBlock 1 p) 640 (trimTable l)
    ok (s1.setWp p { s1.wp p with ampLoaded := true, master := true }) }

/-- WAVE_PORT (R207). -/
def wavePort : Cmd := {
  op := 0x505, modes := inConfigure, len := (· = 8), prep := true
  range := fun rq s => inRange (decide (rq.u 0 1 < 16 ∧ rq.u 2 1 < 4 ∧ rq.u 3 1 = 0 ∧ rq.u 4 2 < 16384) &&
    (decide (rq.u 1 1 = 0xFF) || s.portOk (rq.u 1 1)))
  apply := fun _ rq s =>
    let n := rq.u 0 1
    let s1 := (s.set (F.WP_CTRL_EN n) (b2n (rq.u 1 1 ≠ 0xFF))).set (F.WP_CTRL_RATE n) (rq.u 2 1)
    let s2 := s1.set (F.WP_CTRL_PORT n) (if rq.u 1 1 = 0xFF then 0 else rq.u 1 1)
    ok ((s2.set (F.WP_LEVEL_IDLE_LEVEL n) (rq.u 4 2)).set (F.WP_DELAY_DELAY_NS n) (rq.u 6 2)) }

/-- WAVE_DEADBAND (R204). -/
def waveDeadband : Cmd := {
  op := 0x506, modes := inRunning, len := (· = 4), prep := true
  range := fun rq _ => inRange (decide (rq.u 0 2 ≤ 1024 ∧ rq.u 2 2 = 0))
  apply := fun _ rq s => ok ((s.set (F.WE_DEADBAND 0) (rq.u 0 2)).set (F.WE_DEADBAND 1) (rq.u 0 2)) }

/-- A mask of the keys of a table. -/
def keyMask (l : List Nat) : Nat := l.foldl (fun m k => m ||| 2 ^ k) 0

/-- WAVE_QUERY: the ENGINE field holds a free value while no engine serves the port. Log 34 (DESIGN CHOICE). -/
def waveQuery : Cmd := {
  op := 0x507, modes := Mode.normal, len := (· = 4), reads := true
  range := fun rq s => inRange (s.portOk (rq.u 0 1) && decide (rq.u 1 3 = 0))
  apply := fun _ rq s =>
    let p := rq.u 0 1
    let x := s.wp p
    let tm := match (s.port p).therm.mean s.now with
      | some v => ofSigned 16 v
      | none => 0x8000
    let engine := (s.waveServer p).getD (Config.staleField s.free)
    okWith (leBytes 1 x.step ++ leBytes 1 (s.port p).therm.ktFetch ++ leBytes 1 engine ++ leBytes 1 0 ++
      leBytes 2 x.powerMax ++ leBytes 2 tm ++ leBytes 4 (roundOpen x.eAvg).toNat ++
      leBytes 4 (roundOpen (x.demand / 100000000)).toNat ++ leBytes 8 (keyMask x.waves.keys) ++
      leBytes 8 (keyMask x.temps.keys) ++ ((List.range 64).map (fun w => leBytes 2 (x.scale w))).flatten) s }

/-! ### Checks (R213, R222) -/

/-- R213 for a port: every selected waveform starts at the idle level of its waveform port. -/
def State.idleOk (s : State) (p : Nat) : Bool :=
  match s.wpBound p with
  | none => true
  | some n => (s.wp p).selected.all (fun w => match (s.wp p).wave w with
    | some v => decide (v.startLevel = s.get (F.WP_LEVEL_IDLE_LEVEL n))
    | none => true)

/-- The waveform checks 48 to 52 in order: the first that fails (R222). -/
def State.waveChecks (s : State) : Option (Status × Nat) :=
  let ports := (List.range 128).filter (fun p => decide (s.geo.portRows p ≠ []))
  let bound := fun p => ((List.range 16).filter (fun n => s.flag (F.WP_CTRL_EN n) && decide (s.get (F.WP_CTRL_PORT n) = p))).length
  if !ports.all (fun p => decide ((s.wp p).powerMax ≠ 0)) then some (.outOfRange, 48)
  else if !ports.all (fun p => s.mapsOk (s.wp p) p) then some (.outOfRange, 49)
  else if !((List.range 128).all (fun p => (s.wp p).selected.all (fun w => ((s.wp p).wave w).isSome))) then some (.outOfRange, 50)
  else if !(ports.all (fun p => decide (s.gen p ≠ 1) || decide (bound p = 1))) ||
      (List.range 16).any (fun n => s.flag (F.WP_CTRL_EN n) && decide (s.gen (s.get (F.WP_CTRL_PORT n)) ≠ 1)) then
    some (.outOfRange, 51)
  else if !((List.range 128).all (fun p => decide (s.gen p ≠ 1) || s.idleOk p)) then some (.outOfRange, 52)
  else none

end Sys2Proof.Machine
end

