-- ==== Sys2Proof/Machine/Watch.lean ====
section
/-! DEFINITION. The nozzle watch: states, references, samples, publication, quick cover, learning, and the WATCH
commands (R259 to R278). -/

namespace Sys2Proof.Machine

/-! ### States and the committed rows (R29, R269, R272) -/

/-- The state of a nozzle, changes that are not yet published included. -/
def State.watchState (s : State) (id : Nat) : Nat :=
  match s.watch.batch.reverse.find? (fun c => decide (c.nozzle = id)) with
  | some c => c.new
  | none => s.watch.states.get 0 id

/-- The watch replaced. -/
def State.setWatch (s : State) (w : Watch) : State := { s with watch := w }

/-- The nozzle IDs of a row. -/
def RowEntry.ids (r : RowEntry) : List Nat := (List.range r.n).map (fun k => nozzleId r.port (r.local k))

/-- The row that holds a nozzle. -/
def State.rowOfNozzle (s : State) (id : Nat) : Option RowEntry :=
  (s.geo.portRows (id / 40960)).find? (fun r => (r.indexOf (id % 40960)).isSome)

/-- The nozzles of committed rows in a state, on the ports that satisfy `f` (STATE_COUNT, WATCH_QUERY). -/
def State.countState (s : State) (f : Nat → Bool) (st : Nat) : Nat :=
  ((s.geo.rows.filter (fun r => f r.port)).map (fun r =>
    (r.ids.filter (fun k => decide (s.watch.states.get 0 k = st))).length)).foldl (· + ·) 0

/-- The port has an unusable nozzle (UNUSABLE). -/
def State.portUnusable (s : State) (p : Nat) : Bool :=
  s.watch.states.cells.any (fun c => decide (c.1 / 40960 = p ∧ 2 ≤ c.2))

/-! ### The cover list (R276) -/

/-- The cover list of a port: nozzle IDs with their epochs. -/
def State.coverList (s : State) (p : Nat) : List (Nat × Nat) := s.watch.cover.get [] p

/-- The cover list of a port replaced. -/
def State.setCover (s : State) (p : Nat) (l : List (Nat × Nat)) : State :=
  s.setWatch { s.watch with cover := s.watch.cover.set [] p l }

/-- The plane of a nozzle has SUBST_EN 1. -/
def State.coverable (s : State) (id : Nat) : Bool :=
  match s.rowOfNozzle id with
  | some r => (s.linePlane r.plane).subst
  | none => false

/-- A nozzle has become unusable, or usable, under an epoch (R276). -/
def State.coverChange (s : State) (id old new epoch : Nat) : State :=
  let p := id / 40960
  let l := s.coverList p
  if old < 2 ∧ 2 ≤ new ∧ s.coverable id then
    if l.length < 512 then s.setCover p (l ++ [(id, epoch)])
    else (s.bump F.WATCH_QC_OVERFLOW).cause F.WATCH_INT_STATUS_QC_OVERFLOW
  else if 2 ≤ old ∧ new < 2 then s.setCover p (l.filter (fun c => c.1 ≠ id))
  else s

/-! ### Publication (R272, R278) -/

/-- A record of the log: the 64 most recent stand (R278). -/
def State.logWatch (s : State) (c : WatchChange) (epoch : Nat) : State :=
  let r : WatchRec := { nozzle := c.nozzle, old := c.old, new := c.new, cause := c.cause, epoch := epoch, line := c.line,
                        ms := s.devTime / 1000000 % 65536 }
  let full := decide (64 ≤ s.watch.log.length)
  let l := (if full then s.watch.log.drop 1 else s.watch.log) ++ [r]
  let s1 := (s.setWatch { s.watch with log := l }).set F.WATCH_LOG_STATUS_COUNT l.length
  if full then s1.set F.WATCH_LOG_STATUS_WRAPPED 1 else s1

/-- The registers and the log that follow one change of state (R278 and the table of faults). -/
def State.reportChange (s : State) (epoch : Nat) (c : WatchChange) : State :=
  let p := c.nozzle / 40960
  let s1 := if c.new = 2 ∧ c.old ≠ 2 then
      ((s.setArrBit F.WATCH_OUT_PEND p true).cause F.WATCH_INT_STATUS_OUT).summary 8 else s
  let s2 := if c.new = 1 ∧ c.old ≠ 1 then
      (s1.setArrBit F.WATCH_SUSPECT_PEND p true).cause F.WATCH_INT_STATUS_SUSPECT else s1
  let s3 := if c.cause = 0 ∨ c.cause = 2 then s2.bump F.WATCH_TRANSITIONS else s2
  let s4 := if c.cause = 2 then (s3.bump F.WATCH_AUTO_RECOVERED).cause F.WATCH_INT_STATUS_RECOVERED else s3
  let s5 := if c.cause = 1 then s4.bump F.WATCH_HOST_SETS else s4
  let s6 := if c.old = c.new then s5
    else
      let a := ((s5.set F.WATCH_LAST_CHANGE_NOZZLE c.nozzle).set F.WATCH_LAST_CHANGE_FROM c.old).set F.WATCH_LAST_CHANGE_TO c.new
      ((a.set F.WATCH_LAST_CHANGE_CAUSE c.cause).set F.WATCH_LAST_CHANGE_VALID 1).set F.WATCH_LAST_CHANGE_LINE
        (c.line.getD 0xFFFFFFFF)
  if c.cause = 1 ∨ (decide (c.old = 2) != decide (c.new = 2)) then s6.logWatch c epoch else s6

/-- One change becomes current (R272). -/
def State.applyChange (s : State) (epoch : Nat) (c : WatchChange) : State :=
  let s1 := s.setWatch { s.watch with states := s.watch.states.set 0 c.nozzle c.new }
  (s1.coverChange c.nozzle c.old c.new epoch).reportChange epoch c

/-- A batch is published: one published change under R114 (R272). Log 103 (DEDUCED). -/
def State.publishBatch (s : State) (l : List WatchChange) : State :=
  match l with
  | [] => s
  | c :: _ =>
    let epoch := (s.get F.WATCH_EPOCH + 1) % 2 ^ 32
    let s1 := ((s.setWatch { s.watch with batch := [] }).set F.WATCH_EPOCH epoch).pulse 30
    let s2 := l.foldl (fun a x => a.applyChange epoch x) s1
    s2.set F.WATCH_PUBLISH_MAX (max (s2.get F.WATCH_PUBLISH_MAX) (min ((s.now - c.at_) / 10) 0xFFFFFFFF))

/-- WATCH_PUBLISH (R272). -/
def execWatchPublish (t : Nat) (s : State) : Host.Outcome State Fault Refusal :=
  coreStep t (fun s => s.publishBatch s.watch.batch) s

/-- An uncorrectable word of the watch bank: its 32 nozzles become OUT (R271). -/
def State.watchBankError (s : State) (word : Nat) : State :=
  let new := ((List.range 32).map (· + 32 * word)).filter (fun id => decide (s.watchState id ≠ 2))
  let l := new.map (fun id => ({ nozzle := id, old := s.watchState id, new := 2, cause := 3, at_ := s.now } : WatchChange))
  let s1 := s.setWatch { s.watch with batch := s.watch.batch ++ l }
  (s1.bump F.WATCH_BANK_ERR).cause F.WATCH_INT_STATUS_BANK_ERR

/-! ### References in the Cellar's table area (R264 to R267) -/

/-- The first block of a port's reference table. -/
def State.refBlock (s : State) (p : Nat) : Nat := s.tableBase + 0x48000 + p * 7680

/-- The first block of the watch's tables (TABLE_BASE); 0 before the Cellar is trained. -/
def State.watchTables (s : State) : Nat := if s.cellar.layout = [] then 0 else s.refBlock 0

/-- The reference record of a nozzle: none where a block of it is delivered as zeros (R54, R267). -/
def State.readRef (s : State) (p loc : Nat) : Option (List Byte) × State :=
  let a := 12 * loc
  let (l, s1) := s.cellarReads ((List.range ((a + 11) / 64 + 1 - a / 64)).map (· + (s.refBlock p + a / 64)))
  (if l.any Option.isNone then none else some (bytesAt ((l.map (fun d => d.getD [])).flatten) (a % 64) 12), s1)

/-- The references of a port as they stand in the Cellar, without a read being counted: the table's bytes. -/
def State.refTable (s : State) (p : Nat) : List Byte :=
  ((List.range 7680).map (fun k =>
    let b := s.refBlock p + k
    match s.blockChannel b with
    | some c => if s.chanOnline c then ((decodeBlock b (s.codeword b) (s.erasedLane c)).data).getD zeroBlock else zeroBlock
    | none => zeroBlock)).flatten

/-- Bit `cls` of the VALID byte of a nozzle in a reference table. -/
def refHeld (table : List Byte) (loc cls : Nat) : Bool := bitOf (uAt table (12 * loc + 8) 1) cls

/-- Valid references of a class among the nozzles of a port's rows. -/
def State.countRefs (s : State) (p cls : Nat) : Nat :=
  let table := s.refTable p
  (((s.geo.portRows p).map RowEntry.ids).flatten.filter (fun id => refHeld table (id % 40960) cls)).length

/-- Every nozzle of a port's committed rows has a valid reference (REF_VALID). -/
def State.refsComplete (s : State) (p : Nat) : Bool :=
  let ids := ((s.geo.portRows p).map RowEntry.ids).flatten
  let table := s.refTable p
  decide (ids ≠ []) && ids.all (fun id => refHeld table (id % 40960) 0 || refHeld table (id % 40960) 1)

/-- Bytes put into the table area at byte `a` of block `b`, one block at a time. -/
def State.putTable (s : State) (b a : Nat) (l : List Byte) : State :=
  let k := 64 - a % 64
  let s1 := (s.cellarPartialWrite (b + a / 64) (a % 64) (l.take k)).2
  if l.length ≤ k then s1 else (s1.cellarPartialWrite (b + a / 64 + 1) 0 (l.drop k)).2

/-- A reference of a class written (R265). -/
def State.writeRef (s : State) (p loc cls : Nat) (features : List Nat) : State :=
  let (d, s1) := s.readRef p loc
  let old := d.getD (List.replicate 12 0)
  let valid := putBit (uAt old 8 1) cls true
  let rec_ := mergeBytes (mergeBytes old ((features.map (leBytes 1)).flatten) (4 * cls)) (leBytes 1 valid) 8
  s1.putTable (s1.refBlock p) (12 * loc) rec_

/-! ### Samples (R262 to R270) -/

/-- The class that a code gives (R263): 0 TICKLE, 1 DROP. -/
def State.sampleClass (s : State) (p group code : Nat) : Option Nat :=
  if code = 0 then (if ((s.wp p).map group).getD 0 0xFF = 63 then some 0 else none)
  else if bitsOf (s.get (F.WATCH_REF_CODE (group / 8))) (4 * (group % 8)) 4 = code then some 1 else none

/-- |x − ref|. -/
def distance (a b : Nat) : Nat := if a < b then b - a else a - b

/-- Which of the features amplitude, frequency, decay and phase lie beyond their thresholds (R268). -/
def State.featuresOut (s : State) (x ref : List Nat) : List Bool :=
  let d := fun k => distance (x.getD k 0) (ref.getD k 0)
  [decide (s.get F.WATCH_THRESH_AMP < d 0), decide (s.get F.WATCH_THRESH_FREQ < d 1),
   decide (s.get F.WATCH_THRESH_DECAY < d 2), decide (s.get F.WATCH_THRESH_PHASE < min (d 3) (256 - d 3))]

/-- The state machine of R269 for one sample: the new state, and the history after it. -/
def senseNext (st : Nat) (h : WatchHist) (outlier auto : Bool) : Nat × WatchHist :=
  let last := (outlier :: h.last).take 4
  let run := if outlier then 0 else h.run + 1
  let next :=
    if st = 0 then (if outlier then 1 else 0)
    else if st = 1 then
      (if outlier then (if 3 ≤ (last.filter id).length then 2 else 1)
       else if last.length = 4 && last.all (fun b => !b) then 0 else 1)
    else if st = 2 then (if !outlier && auto && decide (8 ≤ run) then 0 else 2)
    else st
  (next, if next = 0 ∧ st ≠ 0 then {} else { last := last, run := run })

/-- A sample is evaluated (R268, R269). -/
def State.takeSenseSample (s : State) (id line : Nat) (x ref : List Nat) : State :=
  let out := s.featuresOut x ref
  let outlier := out.any (fun b => b)
  let flds := [F.WATCH_FEATURE_OUT_AMP, F.WATCH_FEATURE_OUT_FREQ, F.WATCH_FEATURE_OUT_DECAY, F.WATCH_FEATURE_OUT_PHASE]
  let s1 := (flds.zip out).foldl (fun (a : State) q => if q.2 then a.bump q.1 else a) (s.bump F.WATCH_SAMPLES)
  let s2 := if outlier then s1.bump F.WATCH_OUTLIERS else s1
  let old := s2.watchState id
  let (new, h) := senseNext old (s2.watch.hist.get {} id) outlier (s2.flag F.WATCH_CTRL_AUTO_RECOVER)
  let s3 := s2.setWatch { s2.watch with hist := s2.watch.hist.set {} id h }
  if new = old then s3
  else
    let c : WatchChange := { nozzle := id, old := old, new := new, cause := if old = 2 then 2 else 0, line := some line,
                             at_ := s3.now }
    s3.setWatch { s3.watch with batch := s3.watch.batch ++ [c] }

/-! ### Learning (R264 to R266) -/

/-- A phase unwrapped to lie within ±128 of the first one (R265): at a distance of 128 either value does.
Log 33 (DESIGN CHOICE). -/
def unwrapPhase (first x free : Nat) : Int :=
  let d := (x + 256 - first) % 256
  if d < 128 then (first : Int) + d
  else if d = 128 then (if Config.unwrapUp free then (first : Int) + 128 else (first : Int) - 128)
  else (first : Int) + d - 256

/-- A sample added to an accumulator (R265). -/
def Learned.add (a : Learned) (x : List Nat) (free : Nat) : Learned :=
  let first := if a.n = 0 then x.getD 3 0 else a.firstPhase
  { a with n := a.n + 1, amp := a.amp + x.getD 0 0, freq := a.freq + x.getD 1 0, decay := a.decay + x.getD 2 0,
           phase := a.phase + unwrapPhase first (x.getD 3 0) free, firstPhase := first }

/-- The reference that 64 samples give: their means, rounded half up (R265). -/
def Learned.means (a : Learned) : List Nat :=
  [(a.amp + 32) / 64, (a.freq + 32) / 64, (a.decay + 32) / 64, (((a.phase + 32) / 64) % 256).toNat]

/-- A sample of a learning firing (R265): at 64 samples the reference is written and the history cleared. -/
def State.learnSample (s : State) (p loc cls : Nat) (x : List Nat) : State :=
  let id := nozzleId p loc
  let a := s.watch.learned.get {} id
  if a.done then s
  else
    let (k, s1) := s.fresh
    let b := a.add x k
    if b.n < 64 then s1.setWatch { s1.watch with learned := s1.watch.learned.set {} id b }
    else
      let s2 := s1.writeRef p loc cls b.means
      s2.setWatch { s2.watch with
        learned := s2.watch.learned.set {} id { b with done := true }, hist := s2.watch.hist.set {} id {} }

/-- The nozzles that a learning run senses. -/
def State.learnIds (s : State) (p : Nat) (m : Maint) : List Nat :=
  (((s.geo.portRows p).filter (fun r => m.rows.contains r.row)).map RowEntry.ids).flatten

/-- The nozzles of a learning run without a new reference. -/
def State.learnShort (s : State) (p : Nat) (m : Maint) : Nat :=
  ((s.learnIds p m).filter (fun id => !(s.watch.learned.get {} id).done)).length

/-- A maintenance activity of a port is over (R256, R257, R266): 0 complete, 1 mode change, 2 the port left UP. -/
def State.endMaint (s : State) (p ended : Nat) : State :=
  match (s.port p).maint with
  | none => s
  | some m =>
    let s1 := s.setPort p { s.port p with maint := none }
    if m.kind = 3 then
      let short := s1.learnShort p m
      let ids := s1.learnIds p m
      let s2 := s1.setWatch { s1.watch with
        learned := ⟨s1.watch.learned.cells.filter (fun c => !ids.contains c.1)⟩ }
      let busy := (List.range 128).any (fun q => match (s2.port q).maint with
        | some x => decide (x.kind = 3)
        | none => false)
      let s3 := (s2.set F.WATCH_STATUS_LEARN_BUSY (b2n busy)).cause F.WATCH_INT_STATUS_LEARN_DONE
      s3.postEvent 7 (leBytes 1 p ++ leBytes 1 m.cls ++ leBytes 2 0 ++ leBytes 4 short)
    else s1.postEvent 6 (leBytes 1 p ++ leBytes 1 ended ++ leBytes 1 m.kind ++ leBytes 1 0 ++ leBytes 4 m.fired)

/-- Every maintenance activity ends at a change of mode (R257). -/
def State.endMaints (s : State) : State := (List.range 128).foldl (fun a p => a.endMaint p 1) s

/-- A learning run of a port ends once every sensed nozzle has its samples (R266). -/
def State.learnCheck (s : State) (p : Nat) : State :=
  match (s.port p).maint with
  | some m => if m.kind = 3 ∧ s.learnShort p m = 0 then s.endMaint p 0 else s
  | none => s

/-! ### SENSE frames (R259 to R262) -/

/-- A frame is accepted by the watch (R260). -/
def State.senseTaken (s : State) (p : Nat) : Bool :=
  s.linked p && decide (s.gen p = 3) && s.arrBit F.WATCH_SENSE_EN p && s.flag F.WATCH_CTRL_ENABLE &&
    match (s.port p).desc with
    | some d => bitOf d.flags 0
    | none => false

/-- A line of a port, the latest with its number. -/
def State.portLine (s : State) (p line : Nat) : Option PortLine := (s.port p).lines.reverse.find? (fun l => decide (l.line = line))

/-- An entry that fails the row or the index check (R262). -/
def State.badSense (s : State) : State := (s.bump F.WATCH_BAD_SENSE).cause F.WATCH_INT_STATUS_BAD_SENSE

/-- One entry of a frame that is not late (R262, R265). Log 103 (DEDUCED). -/
def State.senseEntry (s : State) (p line : Nat) (e : SenseEntry) : State :=
  match s.geo.row p e.row with
  | none => s.badSense
  | some r =>
    let k := line % r.n
    if e.nozzle ≠ r.local k then s.badSense
    else match s.portLine p line with
      | none => s.bump F.WATCH_SKIPPED
      | some l =>
        let code := match l.rows.find? (fun x => decide (x.1 = e.row)) with
          | some x => x.2.2.getD k 0
          | none => 0
        let id := nozzleId p e.nozzle
        let x := [e.amp, e.freq, e.decay, e.phase]
        let learning := match (s.port p).maint with
          | some m => l.maint && decide (m.kind = 3) && m.rows.contains e.row
          | none => false
        if 4 ≤ l.outcome then s.bump F.WATCH_SKIPPED
        else if s.watchState id = 3 ∧ !learning then s.bump F.WATCH_SKIPPED
        else match s.sampleClass p r.group code with
          | none => s.bump F.WATCH_SKIPPED
          | some cls =>
            if learning then s.learnSample p e.nozzle cls x
            else
              let (d, s1) := s.readRef p e.nozzle
              match d with
              | none => s1.bump F.WATCH_NO_REF
              | some b =>
                if bitOf (uAt b 8 1) cls then
                  s1.takeSenseSample id line x ((List.range 4).map (fun j => uAt b (4 * cls + j) 1))
                else s1.bump F.WATCH_NO_REF

/-- The entries of a late frame (R261). -/
def State.senseLate (s : State) (p line n : Nat) : State :=
  let s1 := ((s.bump F.WATCH_LATE n).set F.WATCH_LAST_LATE_PORT p).set F.WATCH_LAST_LATE_LINE_LO line
  (s1.set F.WATCH_LAST_LATE_VALID 1).cause F.WATCH_INT_STATUS_LATE

/-- A SENSE frame reaches the watch (R260 to R262): a line forgotten since its longest window has ended is late. -/
def State.senseFrame (s : State) (p line : Nat) (l : List SenseEntry) : State :=
  if s.senseTaken p then
    let s1 := s.bump F.WATCH_SENSE_FRAMES
    let (late, us) := match s1.portLine p line with
      | some x =>
        let d := ((s1.devTime : Int) - x.tl).toNat
        (decide (1000 * s1.get F.WATCH_WINDOW_SENSE_WINDOW_US < d), d / 1000)
      | none => (match (s1.port p).fetched with
        | some k => decide (line ≤ k)
        | none => false, 0)
    let s2 := s1.set F.WATCH_LATENCY_MAX (max (s1.get F.WATCH_LATENCY_MAX) (min us 0xFFFFFFFF))
    if late then s2.senseLate p line l.length
    else (l.foldl (fun a e => a.senseEntry p line e) s2).learnCheck p
  else s

/-! ### Quick cover (R273 to R275) -/

/-- An epoch is later than that of a stored line; none: the line precedes every entry (R258, R273). -/
def epochAfter (e : Nat) : Option Nat → Bool
  | some w => decide (w < e)
  | none => true

/-- The cover sources of a row: indices of codes that must not be fired where they stand (R273). -/
def State.coverSources (s : State) (r : RowEntry) (epoch : Option Nat) (codes : List Nat) : List Nat :=
  let subst := (s.linePlane r.plane).subst
  let l := s.coverList r.port
  (List.range r.n).filter (fun k =>
    let id := nozzleId r.port (r.local k)
    decide (codes.getD k 0 ≠ 0) && !s.usable id && (!subst || l.any (fun c => decide (c.1 = id) && epochAfter c.2 epoch)))

/-- What covering one source does to the codes sent, the targets claimed, the dots moved and the dots dropped (R274). -/
def coverStep (n : Nat) (usable : Nat → Bool) (even : Bool) (slot : List Nat)
    (a : List Nat × List Nat × Nat × Nat) (k : Nat) : List Nat × List Nat × Nat × Nat :=
  let (codes, claimed, moved, dropped) := a
  let ok := fun j => decide (j < n) && decide (slot.getD j 0 = 0) && usable j && !claimed.contains j
  let below : List Nat := if 0 < k then [k - 1] else []
  let tries : List Nat := if even then below ++ [k + 1] else (k + 1) :: below
  match tries.find? ok with
  | some j => ((codes.set j (slot.getD k 0)).set k 0, j :: claimed, moved + 1, dropped)
  | none => (codes.set k 0, claimed, moved, dropped + 1)

/-- Quick cover of one row (R273 to R275): the codes sent, and whether the row has a source. Log 103 (DEDUCED). -/
def State.quickCover (s : State) (r : RowEntry) (w : Nat) (epoch : Option Nat) (codes : List Nat) : List Nat × Bool × State :=
  if !s.arrBit F.WATCH_QC_EN r.port then (codes, false, s)
  else
    let src := s.coverSources r epoch codes
    if src = [] then (codes, false, s)
    else
      let usable := fun j => s.usable (nozzleId r.port (r.local j))
      let (out, _, moved, dropped) := src.foldl (coverStep r.n usable (w % 2 = 0) codes) (codes, [], 0, 0)
      let s1 := s.bump F.WATCH_QC_COVERED moved
      if dropped = 0 then (out, true, s1)
      else (out, true, ((s1.bump F.WATCH_QC_DROP dropped).summary 9 dropped).cause F.WATCH_INT_STATUS_QC_DROP)

/-- The entries of a row's nozzles that a fetch of a line stored under `epoch` removes (R276). -/
def State.coverFetched (s : State) (r : RowEntry) (epoch : Nat) : State :=
  let l := s.coverList r.port
  let gone := fun (c : Nat × Nat) => decide (c.2 ≤ epoch) && (r.indexOf (c.1 % 40960)).isSome
  if l.any gone then s.setCover r.port (l.filter (fun c => !gone c)) else s

/-! ### WATCH commands (R277) -/

/-- WATCH_CONFIG. -/
def watchConfig : Cmd := {
  op := 0x700, modes := Mode.normal, len := (· = 56), prep := true
  forbids := fun rq s => decide (s.mode = .track ∨ s.mode = .clock) &&
    !((List.range 16).all (fun g => decide (rq.u (8 + g) 1 = bitsOf (s.get (F.WATCH_REF_CODE (g / 8))) (4 * (g % 8)) 4)) &&
      (List.range 4).all (fun j => decide (rq.u (24 + 4 * j) 4 = s.get (F.WATCH_SENSE_EN j) ∧
        rq.u (40 + 4 * j) 4 = s.get (F.WATCH_QC_EN j))))
  range := fun rq _ => inRange (decide (rq.u 0 1 < 4 ∧ rq.u 1 1 = 0) && within (rq.u 2 2) 100 5000 &&
    (List.range 4).all (fun k => within (rq.u (4 + k) 1) 1 255) && (List.range 16).all (fun g => decide (rq.u (8 + g) 1 < 16)))
  apply := fun _ rq s =>
    let s1 := (s.set F.WATCH_CTRL_ENABLE (rq.u 0 1)).set F.WATCH_CTRL_AUTO_RECOVER (rq.u 0 1 / 2)
    let s2 := (s1.set F.WATCH_STATUS_ACTIVE (rq.u 0 1)).set F.WATCH_WINDOW_SENSE_WINDOW_US (rq.u 2 2)
    let s3 := ((s2.set F.WATCH_THRESH_AMP (rq.u 4 1)).set F.WATCH_THRESH_FREQ (rq.u 5 1)).set F.WATCH_THRESH_DECAY (rq.u 6 1)
    let s4 := s3.set F.WATCH_THRESH_PHASE (rq.u 7 1)
    let codes := fun j => ((List.range 8).map (fun k => rq.u (8 + 8 * j + k) 1 * 16 ^ k)).foldl (· + ·) 0
    let s5 := (s4.set (F.WATCH_REF_CODE 0) (codes 0)).set (F.WATCH_REF_CODE 1) (codes 1)
    ok ((List.range 4).foldl (fun (a : State) j =>
      (a.set (F.WATCH_SENSE_EN j) (rq.u (24 + 4 * j) 4)).set (F.WATCH_QC_EN j) (rq.u (40 + 4 * j) 4)) s5) }

/-- The rows of a mask. -/
def maskRows (mask : Nat) : List Nat := (List.range 64).filter (bitOf mask)

/-- Every row of a mask is committed on the port. -/
def State.rowsCommitted (s : State) (p : Nat) (l : List Nat) : Bool := l.all (fun r => (s.geo.row p r).isSome)

/-- A maintenance activity begins: its first firing falls 1 ms after the apply point (R256, R264, R330). -/
def State.startMaint (s : State) (p : Nat) (m : Maint) : State :=
  s.setPort p { s.port p with maint := some { m with startAt := s.devTime + 1000000 } }

/-- A port that cannot fire starts no activity, and one that has an activity starts no second (R226, R257). -/
def State.maintRefusal (s : State) (p : Nat) : Option Resp :=
  if (s.port p).maint.isSome then some { status := .busy }
  else if s.linked p then none else some { status := .hwFault }

/-- WATCH_LEARN (R264): a mask without rows gives no COUNT and is out of range. Log 48 (DEDUCED). -/
def watchLearn : Cmd := {
  op := 0x701, modes := fun m => decide (m = .maintain), len := (· = 16)
  range := fun rq s =>
    let p := rq.u 0 1
    let rows := maskRows (rq.u 8 8)
    let entry := fun (r : RowEntry) => ((s.wp p).map r.group).getD 0 0xFF
    let code := fun (r : RowEntry) => bitsOf (s.get (F.WATCH_REF_CODE (r.group / 8))) (4 * (r.group % 8)) 4
    inRange (s.portOk p && decide (rq.u 1 1 < 2 ∧ rq.u 2 2 = 0 ∧ rows ≠ []) && within (rq.u 4 4) 1 (s.port p).fMax &&
      s.rowsCommitted p rows && (rows.filterMap (s.geo.row p)).all (fun r =>
        if rq.u 1 1 = 0 then decide (entry r = 63) else decide (code r ≠ 0)))
  stage := fun _ rq s => s.maintRefusal (rq.u 0 1)
  apply := fun _ rq s =>
    let p := rq.u 0 1
    let rows := maskRows (rq.u 8 8)
    let most := ((rows.filterMap (s.geo.row p)).map (·.n)).foldl max 0
    let s1 := ((s.set F.WATCH_STATUS_LEARN_BUSY 1).set F.WATCH_STATUS_LEARN_PORT p).set F.WATCH_LEARN_STATUS_FIRINGS 0
    ok ((s1.set F.WATCH_LEARN_STATUS_CLASS (rq.u 1 1)).startMaint p
      { kind := 3, cls := rq.u 1 1, rows := rows, rate := rq.u 4 4, total := 128 * most }) }

/-- A WATCH_SET entry, none where it is out of range; `seen` holds the nozzles before it. -/
def parseSets (seen : List Nat) (k : Nat) : List (List Byte) → Except Nat (List (Nat × Nat))
  | [] => .ok []
  | e :: r =>
    let v := leNat e
    let id := bitsOf v 0 23
    if id < 5242880 ∧ v / 2 ^ 25 = 0 ∧ !seen.contains id then
      match parseSets (id :: seen) (k + 1) r with
      | .ok l => .ok ((id, bitsOf v 23 2) :: l)
      | .error j => .error j
    else .error k

/-- The host sets the states of nozzles: one batch, in which a host setting stands over a sensed change (R270, R272). -/
def State.hostSet (s : State) (l : List (Nat × Nat)) : State :=
  let pend := s.watch.batch.filter (fun c => !l.any (fun x => x.1 = c.nozzle))
  let sets := l.map (fun x =>
    ({ nozzle := x.1, old := s.watch.states.get 0 x.1, new := x.2, cause := 1, at_ := s.now } : WatchChange))
  let hist := l.foldl (fun (tb : Tbl WatchHist) x => tb.set {} x.1 {}) s.watch.hist
  (s.setWatch { s.watch with hist := hist }).publishBatch (pend ++ sets)

/-- WATCH_SET. -/
def watchSet : Cmd := {
  op := 0x702, modes := Mode.normal, len := (· = 24), prep := true
  range := fun rq _ => inRange (within (rq.u 0 4) 1 65536 && decide (rq.u 4 4 = 0 ∧ rq.u 20 4 = 0))
  bulk := fun rq _ => some { addr := rq.u 8 8, len := 4 * rq.u 0 4, crc := some (rq.u 16 4) }
  stage := fun l rq _ => match parseSets [] 0 (entries 4 (rq.u 0 4) l) with
    | .ok _ => none
    | .error k => refuse .outOfRange k
  apply := fun l rq s => match parseSets [] 0 (entries 4 (rq.u 0 4) l) with
    | .ok x => ok (s.hostSet x)
    | .error _ => ok s }

/-- The state map of a port: 2 bits a nozzle (R277). -/
def State.stateMap (s : State) (p : Nat) : List Byte :=
  (List.range 10240).map (fun k => BitVec.ofNat 8 (((List.range 4).map (fun j =>
    s.watch.states.get 0 (nozzleId p (4 * k + j)) * 4 ^ j)).foldl (· + ·) 0))

/-- The range of WATCH_READ and WATCH_REF_SAVE. -/
def portAddr (rq : Req) (s : State) : Option Resp := inRange (s.portOk (rq.u 0 1) && zeroBytes rq.payload 1 7)

/-- WATCH_READ. -/
def watchRead : Cmd := {
  op := 0x703, modes := Mode.normal, len := (· = 16), reads := true
  range := portAddr
  apply := fun _ rq s =>
    let l := s.stateMap (rq.u 0 1)
    s.bulkWrite (rq.u 8 8) l (leBytes 4 (crc32c l)) }

/-- WATCH_REF_SAVE. -/
def watchRefSave : Cmd := {
  op := 0x704, modes := Mode.quiet, len := (· = 16), reads := true
  range := portAddr
  apply := fun _ rq s =>
    let (l, s1) := s.cellarBytes (64 * s.refBlock (rq.u 0 1)) 491520
    s1.bulkWrite (rq.u 8 8) l (leBytes 4 (crc32c l)) }

/-- A reference record keeps its reserved bits 0. -/
def refRecord (l : List Byte) : Option Unit := if uAt l 8 1 < 4 ∧ zeroBytes l 9 3 then some () else none

/-- WATCH_REF_LOAD: the port's histories are emptied. -/
def watchRefLoad : Cmd := {
  op := 0x705, modes := Mode.quiet, len := (· = 24), prep := true
  range := fun rq s => firstOf (portAddr rq s) (inRange (decide (rq.u 20 4 = 0)))
  bulk := fun rq _ => some { addr := rq.u 8 8, len := 491520, crc := some (rq.u 16 4) }
  stage := fun l _ _ => entryError refRecord (entries 12 40960 l)
  apply := fun l rq s =>
    let p := rq.u 0 1
    let s1 := s.cellarStore (s.refBlock p) 7680 l
    ok (s1.setWatch { s1.watch with hist := ⟨s1.watch.hist.cells.filter (fun c => decide (c.1 / 40960 ≠ p))⟩ }) }

/-- The bytes of a log record (R277). -/
def WatchRec.bytes (r : WatchRec) : List Byte :=
  leBytes 4 (r.nozzle + r.old * 2 ^ 23 + r.new * 2 ^ 25 + r.cause * 2 ^ 27) ++ leBytes 4 r.epoch ++
    leBytes 6 (r.line.getD 0xFFFFFFFFFFFF) ++ leBytes 2 r.ms

/-- WATCH_LOG. -/
def watchLog : Cmd := {
  op := 0x706, modes := Mode.normal, len := (· = 4)
  range := fun rq _ => inRange (decide (rq.u 0 1 < 2 ∧ rq.u 1 3 = 0))
  apply := fun _ rq s =>
    let l := leBytes 4 s.watch.log.length ++ (s.watch.log.map WatchRec.bytes).flatten
    okWith l (if rq.u 0 1 = 1 then
      ((s.setWatch { s.watch with log := [] }).set F.WATCH_LOG_STATUS_COUNT 0).set F.WATCH_LOG_STATUS_WRAPPED 0 else s) }

/-- WATCH_QUERY. -/
def watchQuery : Cmd := {
  op := 0x707, modes := Mode.normal, len := (· = 4), reads := true
  range := fun rq s => inRange (s.portOk (rq.u 0 1) && decide (rq.u 1 3 = 0))
  apply := fun _ rq s =>
    let p := rq.u 0 1
    okWith (((List.range 4).map (fun st => leBytes 4 (s.countState (· = p) st))).flatten ++ leBytes 4 (s.countRefs p 0) ++
      leBytes 4 (s.countRefs p 1) ++ leBytes 2 (s.coverList p).length ++ leBytes 2 0 ++ leBytes 4 (s.get F.WATCH_EPOCH)) s }

end Sys2Proof.Machine
end

