-- ==== Sys2Proof/Machine/HeadLink.lean ====
section
/-! DEFINITION. The head ports: limits and F_MAX, port states, the frames of HL-2 and HL-3, link-up, time sync,
authentication and usage, and the HEAD commands (R223 to R258, R557, R558). -/

namespace Sys2Proof.Machine

/-! ### Port limits and F_MAX (R224, R225) -/

/-- The wire width of a code of `b` bits (R224). -/
def wireWidth (b : Nat) : Nat := if b ≤ 2 then b else 4

/-- The committed rows of a port: none while no configuration is committed. -/
def State.committedRows (s : State) (p : Nat) : List RowEntry := if s.committed then s.geo.portRows p else []

/-- The bits per dot of a port: the most of its committed rows' planes. -/
def State.portBits (s : State) (p : Nat) : Nat :=
  ((s.committedRows p).map (fun r => s.planeBits r.plane)).foldl max 0

/-- The lanes that carry frames: two on HL-3 with both out lanes locked (R224, R251). -/
def State.outLanes (s : State) (p : Nat) : Nat := if s.gen p = 3 ∧ (s.port p).lanes = 3 then 2 else 1

/-- The signalling rate of one lane in Mbaud (R224). -/
def State.mbaud (s : State) (p : Nat) : Nat :=
  if s.gen p = 3 then (if s.get (F.HP_CTRL_RATE p) = 0 then 5000 else 6250)
  else match s.get (F.HP_CTRL_RATE p) with
    | 0 => 1250
    | 1 => 2500
    | _ => 3125

/-- The line payload U in bit/s, exact (R224). -/
def State.linePayload (s : State) (p : Nat) : Rat :=
  (4 : Rat) / 5 * (s.outLanes p : Rat) * (s.mbaud p : Rat) * 1000000 * (if s.gen p = 3 then 64 / 66 else 8 / 10)

/-- A rate rounded down to a multiple of 1,000 Hz (R225). -/
def wholeKhz (q : Rat) : Nat := q.floor.toNat / 1000 * 1000

/-- T_shift of an HL-1 port in ns (R225). -/
def State.shiftNs (s : State) (p : Nat) : Nat := ceilDiv ((s.port p).nozzles * s.portBits p * 1000) (s.port p).clockMhz

/-- The link limit, or on HL-1 the shift limit (R225). -/
def State.linkLimit (s : State) (p : Nat) : Nat :=
  if s.gen p = 1 then wholeKhz ((1000000000 : Rat) / ((s.shiftNs p + (s.port p).latchNs + 60 : Nat) : Rat))
  else
    let bits := ((s.committedRows p).map (fun r => r.n * wireWidth (s.planeBits r.plane))).foldl (· + ·) 0
    wholeKhz (s.linePayload p / ((bits + 8192 : Nat) : Rat))

/-- MAX_RATE of the head. -/
def State.headRate (s : State) (p : Nat) : Nat :=
  if s.gen p = 1 then (s.port p).maxRate
  else match (s.port p).desc with
    | some d => d.maxRate
    | none => 0

/-- F_MAX in force (R225), with its register. -/
def State.setFMax (s : State) (p f : Nat) : State :=
  (s.setPort p { s.port p with fMax := f }).set (F.HP_STATUS_F_MAX_KHZ p) (f / 1000)

/-- F_MAX computed anew (R225, R251). -/
def State.findFMax (s : State) (p : Nat) : State := s.setFMax p (min 64000 (min (s.headRate p) (s.linkLimit p)))

/-- The greatest and the least FINE + 4 TRIM over the committed nozzles of a port, in 1/1,024 line (R166). -/
def State.setCoefs (s : State) (p : Nat) : State :=
  let trimmed := decide (s.gen p = 3) && (s.wp p).timeLoaded
  let (bytes, s1) := if trimmed then s.cellarBytes (64 * s.trimBlock 0 p) 40960 else ([], s)
  let trim := fun (k : Nat) => if trimmed then toSigned 8 (bytes.getD k 0).toNat else 0
  let l := ((s1.geo.portRows p).map (fun r => (List.range r.n).map (fun k => r.fine + 4 * trim (r.local k)))).flatten
  match l with
  | [] => s1.setPort p { s1.port p with coefMax := 0, coefMin := 0 }
  | x :: r => s1.setPort p { s1.port p with coefMax := r.foldl max x, coefMin := r.foldl min x }

/-! ### Causes and counters -/

/-- A resend, a NAK, a timer expiry or a link-down event counted: k as in HP_LINK_ERR. -/
def State.linkErr (s : State) (p k : Nat) : State :=
  match k with
  | 0 => ((s.bump (F.HP_LINK_ERR_RETRY p)).bump F.HEADPORT_RETRY_TOTAL).portCount p 0
  | 1 => ((s.bump (F.HP_LINK_ERR_NAK p)).bump F.HEADPORT_NAK_TOTAL).portCount p 1
  | 2 => ((s.bump (F.HP_LINK_ERR_TIMEOUT p)).bump F.HEADPORT_TIMEOUT_TOTAL).portCount p 2
  | _ => (((s.bump (F.HP_LINK_ERR_DOWN p)).bump F.HEADPORT_LINK_DOWN_TOTAL).summary 10).portCount p 6

/-! ### Port states (R226) -/

/-- A port enters a state. -/
def State.enterPort (s : State) (p st : Nat) : State :=
  let s1 := (s.setPort p { s.port p with st := st, since := s.now }).set (F.HP_STATUS_STATE p) st
  let s2 := (s1.setArrBit F.HEADPORT_UP p (decide (st = 5 ∨ st = 6))).setArrBit F.HEADPORT_DEGRADED p (decide (st = 6))
  let s3 := s2.setArrBit F.HEADPORT_REFUSED p (decide (st = 8))
  if st = 8 then s3 else s3.set (F.HP_STATUS_REFUSE p) 0

/-- The lanes that the head reports locked. -/
def State.setLanes (s : State) (p lanes : Nat) : State :=
  (s.setPort p { s.port p with lanes := lanes }).set (F.HP_STATUS_LANES p) lanes

/-- AUTH of a port (R252, R253). -/
def State.setAuth (s : State) (p auth : Nat) : State :=
  let x := s.port p
  (s.setPort p { x with usage := { x.usage with auth := auth } }).set (F.HP_STATUS_AUTH p) auth

/-- What becomes of a fetched line when its port stops firing at device time `d` (R554): it is Cut while in progress,
and Dropped before it. -/
def PortLine.stop (d : Int) (l : PortLine) : PortLine :=
  if l.ended then l
  else if d < l.first then { l with ended := true, outcome := 4 }
  else if d ≤ max l.last l.waveEnd then { l with ended := true, outcome := 5 }
  else { l with ended := true }

/-- A Cut line recorded (R25, R475, R486). Log 28 (DESIGN CHOICE). -/
def State.logCut (s : State) (p line cause : Nat) : State :=
  let s1 := ((s.set F.THERM_LAST_CUT_PORT p).set F.THERM_LAST_CUT_CAUSE cause).set F.THERM_LAST_CUT_VALID 1
  (s1.set F.THERM_LAST_CUT_LINE_HI (line / 2 ^ 32)).set F.THERM_LAST_CUT_LINE line

/-- A port stops firing: its lines in progress are Cut, and those not begun are Dropped (R229, R475, R554). The cut of a
module names its cause; for another cause of a Cut the manual gives LAST_CUT no value. -/
def State.stopLines (s : State) (p : Nat) (cut : Option Nat) : State :=
  let x := s.port p
  let d : Int := s.devTime
  let new := x.lines.map (PortLine.stop d)
  let s1 := s.setPort p { x with lines := new, lineQ := [] }
  let s2 := (x.lines.zip new).foldl (fun (a : State) q =>
    if q.1.ended || q.1.maint then a
    else
      let b := a.countOutcome q.2.outcome
      if q.2.outcome = 4 then b.portDropped p
      else if q.2.outcome = 5 then
        match cut with
        | some c => (b.bump F.THERM_HEAD_CUT_TOTAL).logCut p q.2.line c
        | none => { b.logCut p q.2.line (Config.staleField b.free) with free := b.free + 1 }
      else b) s1
  s2.stopWave p

/-- The link's queues and numbering as they stand at the start of IDENTIFY, and while the port has no link (R238): contents
of a command that the head has not acknowledged will not be (R221). -/
def Port.clearLink (x : Port) : Port :=
  { x with outSeq := 0, inSeq := 0, nakOut := false, owed := [], replay := [], ghosts := [], replayOn := false, lineQ := [],
           otherQ := [], failures := 0, waits := [], loading := false, syncs := 0, authStage := 0, laneBad := 0,
           usage := { x.usage with asked := [], refuseDue := false }
           refused := x.refused || x.otherQ.any (fun f => f.tag = 2) || x.waits.any (fun w => w.2 = 2) }

/-- A port leaves its state with its link: what it was firing stops, its maintenance activity ends, its queues empty.
Log 28 (DESIGN CHOICE). -/
def State.leavePort (s : State) (p : Nat) (cut : Option Nat) : State :=
  let s1 := (s.stopLines p cut).endMaint p 2
  s1.setPort p (s1.port p).clearLink

/-- A lane of a port is lost (R251, R491). -/
def State.laneLost (s : State) (p lane : Nat) : State := (s.limpRaise 0x0C (p + 128 * lane)).portCause p 3

/-- Limp 0x0C ceases for a port (R490). -/
def State.laneFound (s : State) (p : Nat) : State := s.limpClearIf 0x0C (fun k => decide (k % 128 = p))

/-- A port enters OFF (R226). -/
def State.portOff (s : State) (p : Nat) : State :=
  ((((s.leavePort p none).setLanes p 0).setFMax p 0).enterPort p 0).laneFound p

/-- A port enters REFUSED with a code of R250. -/
def State.refusePort (s : State) (p code : Nat) : State :=
  let s1 := ((s.leavePort p none).enterPort p 8).set (F.HP_STATUS_REFUSE p) code
  let s2 := ((s1.set F.HEADPORT_LAST_REFUSE_PORT p).set F.HEADPORT_LAST_REFUSE_VALID 1).set F.HEADPORT_LAST_REFUSE_CODE code
  s2.portCause p 2

/-- A port enters DOWN: `counted` for a cause of R241, `cut` for a cut of its module (R475). Log 39 (DEDUCED). -/
def State.portDown (s : State) (p : Nat) (counted : Bool) (cut : Option Nat) : State :=
  let s1 := ((s.leavePort p cut).enterPort p 7).portCause p 1
  if counted then s1.linkErr p 3 else s1

/-- The link of a port goes down under R241. -/
def State.linkDown (s : State) (p : Nat) : State :=
  if 2 ≤ (s.port p).st ∧ (s.port p).st ≤ 6 then s.portDown p true none else s

/-! ### Link-up checks (R250) -/

/-- The largest NOZZLES of a generation (R224). -/
def genNozzles (gen : Nat) : Nat := if gen = 1 then 8192 else if gen = 2 then 20480 else 40960

/-- A descriptor read from its 64 bytes. -/
def parseDescriptor (l : List Byte) : Descriptor := {
  maker := uAt l 0 2, model := uAt l 2 2, gen := uAt l 4 1, rows := uAt l 5 1, nozzles := uAt l 6 2, maxRate := uAt l 8 4
  bitsMask := uAt l 12 1, waveCap := uAt l 13 1, heads := uAt l 14 1, flags := uAt l 15 1, serial := uAt l 16 8
  latency := uAt l 24 2, rates := uAt l 26 1, fwVersion := uAt l 28 4, raw := l }

/-- Check 11: the CRC and every range of the descriptor (R250). -/
def Descriptor.sound (d : Descriptor) : Bool :=
  decide (d.raw.length = 64 ∧ crc32c (d.raw.take 60) = uAt d.raw 60 4) && within d.maker 1 0xFFFE &&
    decide (d.gen = 2 ∨ d.gen = 3) && within d.rows 1 64 && within d.nozzles 1 (genNozzles d.gen) &&
    within d.maxRate 1 64000 && within d.waveCap 2 64 && within d.heads 1 16 && decide (d.flags < 16) &&
    zeroBytes d.raw 27 1 && zeroBytes d.raw 32 28

/-- NOZZLES, ROWS and BITS_MASK of a port's head. -/
def State.headShape (s : State) (p : Nat) : Nat × Nat × Nat :=
  let x := s.port p
  if s.gen p = 1 then (x.nozzles, x.rowsCfg, x.bitsMask)
  else match x.desc with
    | some d => (d.nozzles, d.rows, d.bitsMask)
    | none => (0, 0, 0)

/-- Checks 2 to 7 in order against the committed configuration: the code of the first that fails (R250). -/
def State.configCheck (s : State) (p : Nat) : Option Nat :=
  let (nozzles, rows, mask) := s.headShape p
  let l := s.committedRows p
  let bits := l.map (fun r => s.planeBits r.plane)
  if !(within nozzles 1 (genNozzles (s.gen p)) && bits.all (fun b => decide (b ≤ (if s.gen p = 1 then 2 else 4)))) then some 2
  else if !l.all (fun r => decide (r.row < rows)) then some 3
  else if !l.all (fun r => decide (r.local (r.n - 1) < nozzles)) then some 4
  else if !bits.all (fun b => bitOf mask (b - 1)) then some 5
  else if !(s.wp p).slotsOk (s.waveCap p) then some 6
  else if !(s.wp p).fits (s.tMin p) then some 7
  else none

/-- A configuration is committed and in force for the ports: a port in CONFIGURE waits for SYS_COMMIT (R226, R227). -/
def State.judged (s : State) : Bool :=
  s.committed && !(decide (s.mode = .boot ∨ s.mode = .configure ∨ s.mode = .diagnose))

/-! ### Messages and queues (R243, R244) -/

/-- Messages queued for the head of a port, behind every other message but those of lines. -/
def State.queueMsgs (s : State) (p tag : Nat) (l : List Msg) : State :=
  let x := s.port p
  s.setPort p { x with otherQ := x.otherQ ++ l.map (fun m => ({ msg := m, tag := tag } : OutFrame)) }

/-- Messages of a tag that the head has still to answer (R221, R250). -/
def State.headWaiting (s : State) (p tag : Nat) : Bool :=
  let x := s.port p
  x.otherQ.any (fun f => f.tag = tag) || x.waits.any (fun w => w.2 = tag)

/-- The head answers a message with a STATUS (R243). -/
def Msg.answered : Msg → Bool
  | .cfgWrite _ _ _ => true
  | .waveLoad _ _ => true
  | .trimLoad _ _ _ => true
  | .usageAdd _ _ _ => true
  | _ => false

/-- CFG_WRITE of SPACE 0 (R243). -/
def State.rowsConfig (s : State) (p : Nat) : Msg :=
  .cfgWrite 0 0 (((s.geo.portRows p).map (fun r =>
    leBytes 1 r.row ++ leBytes 1 (s.planeBits r.plane) ++ leBytes 1 r.group ++ leBytes 1 r.localStep ++
      leBytes 2 r.firstLocal ++ leBytes 2 r.n)).flatten)

/-- The trims of one kind that the firmware sends at a link-up (R186, R199). -/
def State.trimsAtLink (s : State) (kind p : Nat) : List Msg × State :=
  let loaded := if kind = 1 then (s.wp p).ampLoaded else (s.wp p).timeLoaded
  if s.gen p = 3 ∧ loaded then
    let (l, s1) := s.cellarBytes (64 * s.trimBlock kind p) 40960
    (s1.trimLoads kind p l, s1)
  else ([], s)

/-- The loading of an HL-2 or HL-3 port begins: rows, maps, waveforms, trims, and the exchanges of R249. -/
def State.loadHead (s : State) (p : Nat) : State :=
  let x := s.wp p
  let c := s.waveCap p
  let waves := x.waves.cells.map (fun w => Msg.waveLoad (headSlot c w.1) w.2)
  let (t0, s1) := s.trimsAtLink 0 p
  let (t1, s2) := s1.trimsAtLink 1 p
  let s3 := s2.setPort p { s2.port p with loading := true, syncs := 0, sync := [] }
  (s3.queueMsgs p 0 [.timeSync 0]).queueMsgs p 1
    ([s3.rowsConfig p, .cfgWrite 1 0 (x.mapBytes c)] ++ waves ++ t0 ++ t1)

/-- What a module's temperatures become as its port reaches UP (R470): no reading is valid until the first after the
link-up; on HL-1 the conversions of the input go on. Log 109 (DEDUCED). -/
def HeadTherm.linkUp (h : HeadTherm) (gen now : Nat) : HeadTherm :=
  if gen = 1 then { h with validEnd := max h.validEnd now }
  else { h with readings := {}, kt := 0, ktFetch := 0, coolFrom := none, validEnd := now, warned := false }

/-- A port reaches UP, or UP_ONE_LANE on HL-3 with one lane, with the F_MAX of the lanes it has (R226, R251). -/
def State.portUp (s : State) (p : Nat) : State :=
  let one := decide (s.gen p = 3) && decide ((s.port p).lanes ≠ 3)
  let s1 := (s.findFMax p).enterPort p (if one then 6 else 5)
  let x := s1.port p
  let th := x.therm.linkUp (s.gen p) s1.now
  let serial := match x.desc with
    | some d => some d.serial
    | none => x.lastSerial
  let s2 := s1.setPort p { x with
    loading := false, therm := th, lastSerial := serial, syncAt := s1.now + 100000000, laneBad := 0
    usage := { x.usage with readAt := s1.now } }
  let s3 := (s2.setWp p { s2.wp p with scales := {}, pushed := [] }).portCause p 0
  if one then s3.laneLost p (if bitOf (s3.port p).lanes 0 then 1 else 0) else s3.laneFound p

/-- Loading is complete once the head has accepted everything and the exchanges are made (R226). -/
def State.loadedCheck (s : State) (p : Nat) : State :=
  let x := s.port p
  if x.st = 4 ∧ x.loading ∧ x.syncs = 8 ∧ !s.headWaiting p 1 then s.portUp p else s

/-- A port in LOADING takes checks 2 to 7 against the committed configuration, and goes on (R227, R250). -/
def State.startLoading (s : State) (p : Nat) : State :=
  let s1 := (s.findFMax p).setCoefs p
  match s1.configCheck p with
  | some code => s1.refusePort p code
  | none => if s1.gen p = 1 then s1.portUp p else s1.loadHead p

/-- A port enters LOADING: it waits there while no configuration is committed (R226). -/
def State.toLoading (s : State) (p : Nat) : State :=
  let s1 := s.enterPort p 4
  if s1.judged then s1.startLoading p else s1

/-- A link is requested: TRAINING, or LOADING on HL-1 (R226, R227). -/
def State.startLink (s : State) (p : Nat) : State :=
  let s1 := ((s.leavePort p none).setLanes p 0).setFMax p 0
  if s1.gen p = 1 then (s1.setAuth p 0).toLoading p else s1.enterPort p 1

/-- A port may leave its state for a link: OFF, DOWN or REFUSED, with no cut in force (R477, R557). -/
def State.mayLink (s : State) (p : Nat) : Bool :=
  let x := s.port p
  decide (s.gen p ≠ 0) && decide (x.st = 0 ∨ x.st = 7 ∨ x.st = 8) && !x.therm.cut

/-- What a commit of the configuration does for the ports (R227, R229, R250, R354): those in LOADING start to load, HL-1
ports in REFUSED are checked again. -/
def State.commitPorts (s : State) : State :=
  (List.range 128).foldl (fun (a : State) p =>
    let b := (a.setPort p { a.port p with lastSerial := none }).setCoefs p
    if (b.port p).st = 4 then b.startLoading p
    else if (b.port p).st = 8 ∧ b.gen p = 1 then b.toLoading p
    else b) s

/-- The configuration is no longer committed: every linked port returns to LOADING (R376, R380). -/
def State.uncommitPorts (s : State) : State :=
  (List.range 128).foldl (fun (a : State) p =>
    if a.linked p then
      let b := (a.stopLines p none).endMaint p 1
      (b.setPort p { b.port p with loading := false }).enterPort p 4
    else if (a.port p).st = 4 then a.setPort p { a.port p with loading := false }
    else a) s

/-! ### Authentication and usage (R252 to R255) -/

/-- The MAC of R252's section: the first 16 bytes of HMAC-SHA-256 over nonce, SERIAL and COUNT. Log 52 (DEDUCED). -/
def State.usageMac (s : State) (slot nonce serial count : Nat) : List Byte :=
  (hmacSha256 (s.consKey slot) (leBytes 16 nonce ++ leBytes 8 serial ++ leBytes 8 count)).take 16

/-- SERIAL of the head of a port. -/
def State.headSerial (s : State) (p : Nat) : Nat :=
  match (s.port p).desc with
  | some d => d.serial
  | none => 0

/-- A usage message verifies: its MAC over the nonce and its SERIAL (R253). -/
def State.verifies (s : State) (p nonce serial count : Nat) (mac : List Byte) : Bool :=
  decide (serial = s.headSerial p) && decide (mac = s.usageMac (s.port p).usage.slot nonce serial count)

/-- An authentication or a usage MAC has failed (R253, R255). -/
def State.authFail (s : State) (p : Nat) : State := ((s.setAuth p 2).bump F.HEADPORT_AUTH_FAIL_TOTAL).portCause p 5

/-- A failure in AUTH: the slot policy decides (R253). -/
def State.authRefuse (s : State) (p : Nat) : State :=
  let s1 := s.authFail p
  if (s1.port p).usage.refuse then s1.refusePort p 8 else s1.toLoading p

/-- A failure while the port is up (R255): with policy REFUSE the port is refused at the next line boundary, at once when
no track fires lines on it. -/
def State.usageFail (s : State) (p : Nat) : State :=
  let s1 := s.authFail p
  if (s1.port p).usage.refuse then
    let busy := match s1.portTrack p with
      | some t => s1.trackActive t
      | none => false
    if busy then
      let x := s1.port p
      s1.setPort p { x with usage := { x.usage with refuseDue := true } }
    else s1.refusePort p 8
  else s1

/-- USAGE_ADD is sent for the whole units accrued, when none is outstanding (R254). -/
def State.sendUsage (s : State) (p : Nat) : State :=
  let x := s.port p
  let u := x.usage
  let units := u.accrued / 1000000000
  if s.linked p ∧ u.auth = 1 ∧ 1 ≤ units ∧ !u.asked.any Option.isSome then
    let count := u.count + units
    let mac := s.usageMac u.slot u.nonceH (s.headSerial p) count
    (s.setPort p { x with usage := { u with asked := u.asked ++ [some (units, count)] } }).queueMsgs p 3 [.usageAdd units count mac]
  else s

/-- Drops counted for a port (R254). -/
def State.addDrops (s : State) (p n : Nat) : State :=
  let x := s.port p
  (s.setPort p { x with usage := { x.usage with accrued := x.usage.accrued + n, total := x.usage.total + n } }).sendUsage p

/-- A descriptor is accepted: the port authenticates the head, or skips it (R252, R253). Log 52 (DEDUCED). -/
def State.startAuth (s : State) (p : Nat) (d : Descriptor) : State :=
  match bitOf d.flags 1, s.consSlot d.maker with
  | false, _ => (s.setAuth p 0).toLoading p
  | true, none => (s.setAuth p 3).toLoading p
  | true, some k =>
    let nonce := Config.fresh s.free % 2 ^ 128
    let s1 := ({ s with free := s.free + 1 }).enterPort p 3
    let x := s1.port p
    (s1.setPort p { x with nonceD := nonce, authStage := 1, usage := { x.usage with slot := k, refuse := s1.consRefuse k } }).queueMsgs
      p 0 [.authChal nonce]

/-! ### Frames on the wire (R237, R243) -/

/-- The TYPE of a message (R243). -/
def Msg.code : Msg → Nat
  | .line _ _ _ _ _ => 1 | .fireAt _ _ _ _ => 2 | .cfgWrite _ _ _ => 3 | .cfgRead _ _ _ => 4 | .waveLoad _ _ => 5
  | .trimLoad _ _ _ => 6 | .timeSync _ => 7 | .idRead => 8 | .authChal _ => 9 | .usageRead => 11 | .usageAdd _ _ _ => 12
  | .ack _ => 16 | .nak _ => 17

/-- The payload of a message for a row whose codes are `w` bits wide on the wire (R243). -/
def Msg.payload (w : Nat) (blank : Bool) : Msg → List Byte
  | .line l row start count codes =>
    let head := leBytes 8 (l + row * 2 ^ 48) ++ leBytes 2 start
    if blank then head ++ leBytes 2 0 ++ leBytes 4 0
    else head ++ leBytes 2 count ++ leBytes 4 0 ++
      leBytes (ceilDiv (count * w) 8) (codes.foldr (fun c acc => c + 2 ^ w * acc) 0)
  | .fireAt l time interval rows =>
    leBytes 8 l ++ leBytes 8 (ofSigned 64 time) ++ leBytes 8 interval ++ leBytes 1 rows.length ++ List.replicate 7 0 ++
      (rows.map (fun r => leBytes 1 r.1 ++ List.replicate 3 0 ++ leBytes 4 (ofSigned 32 r.2))).flatten
  | .cfgWrite space la data =>
    leBytes 1 space ++ leBytes 1 0 ++ leBytes 2 data.length ++ leBytes 4 0 ++ leBytes 8 la ++ data
  | .cfgRead space count off => leBytes 1 space ++ leBytes 1 0 ++ leBytes 2 count ++ leBytes 4 0 ++ leBytes 8 off
  | .waveLoad slot wv =>
    leBytes 1 slot ++ leBytes 1 wv.segs.length ++ leBytes 2 wv.startLevel ++
      ((wv.segs ++ List.replicate (16 - wv.segs.length) (0, 0)).map (fun (x : Nat × Nat) => leBytes 4 (x.1 + 65536 * x.2))).flatten
  | .trimLoad kind start trims =>
    leBytes 1 kind ++ leBytes 1 0 ++ leBytes 2 start ++ leBytes 2 trims.length ++ leBytes 2 0 ++
      (trims.map (fun t => leBytes 1 (ofSigned 8 t))).flatten
  | .timeSync t1 => leBytes 8 t1 ++ List.replicate 16 0
  | .authChal nonce => leBytes 16 nonce
  | .usageAdd units count mac => leBytes 4 units ++ leBytes 4 0 ++ leBytes 8 count ++ mac
  | _ => []

/-- The bytes of a frame: header, payload and CRC (R237). Log 49 (DEDUCED). -/
def frameBytes (kind seq : Nat) (blank : Bool) (payload : List Byte) : List Byte :=
  let l := leBytes 1 kind ++ leBytes 1 (b2n blank) ++ leBytes 2 seq ++ leBytes 2 payload.length ++ leBytes 2 0 ++ payload
  l ++ leBytes 4 (crc32c l)

/-- The wire width of the row that a LINE message carries. -/
def State.msgWidth (s : State) (p : Nat) : Msg → Nat
  | .line _ row _ _ _ => match s.geo.row p row with
    | some r => wireWidth (s.planeBits r.plane)
    | none => 1
  | _ => 1

/-- The time a frame of `n` bytes takes on the wire, in ns: code groups with the two delimiters on HL-2, 66-bit blocks on
HL-3 (R233, R234). Log 49 (DEDUCED). -/
def State.wireTime (s : State) (p n : Nat) : Rat :=
  if s.gen p = 3 then
    ((2 + (n - 7) / 8 : Nat) : Rat) * 66000 / ((s.outLanes p * s.mbaud p : Nat) : Rat)
  else ((10 * (n + 2) : Nat) : Rat) * 1000 / (s.mbaud p : Rat)

/-- The replay buffer holds as many frames as it can (R240). -/
def State.replayFull (s : State) (p : Nat) : Bool := decide ((if s.gen p = 3 then 64 else 16) ≤ (s.port p).replay.length)

/-- The time after which an ACK timer expires, in ns (R240). -/
def State.ackTime (s : State) (p : Nat) : Nat := if s.gen p = 3 then 20000 else 40000

/-- Bytes leave a port: it is at a frame boundary again when they have left. Log 47 (DEDUCED). -/
def State.putFrame (s : State) (p : Nat) (bytes : List Byte) : State :=
  (s.setPort p { s.port p with busyUntil := (s.now : Int) + (s.wireTime p bytes.length).ceil }).emit (.head p bytes)

/-- A line whose frame is sent in BLANK form fires blank (R246): each line counts once; the rows named fire code 0. -/
def State.blankLine (s : State) (p line : Nat) (row : Option Nat) : State :=
  let x := s.port p
  let fix := fun (l : PortLine) =>
    if l.line = line ∧ !l.ended then
      { l with
        blanked := true, outcome := 3
        rows := l.rows.map (fun r => if row = none ∨ row = some r.1 then (r.1, r.2.1, r.2.2.map (fun _ => 0)) else r) }
    else if l.line = line then { l with blanked := true }
    else l
  let fresh := match x.lines.reverse.find? (fun l => decide (l.line = line)) with
    | some l => !l.blanked
    | none => false
  let s1 := (s.setPort p { x with lines := x.lines.map fix }).portCause p 4
  if fresh then ((s1.bump (F.HP_LINE_ERR_BLANK p)).bump F.HEADPORT_BLANK_TOTAL).portCount p 4 else s1

/-- The transmission of a frame would end after its deadline (R245). -/
def State.missesDeadline (s : State) (p : Nat) (f : OutFrame) : Bool :=
  match f.deadline with
  | none => false
  | some d =>
    let n := (f.msg.payload (s.msgWidth p f.msg) false).length + 12
    decide ((d : Rat) < (s.devTime : Rat) + s.wireTime p n)

/-- The row of a LINE message. -/
def Msg.row : Msg → Option Nat
  | .line _ row _ _ _ => some row
  | _ => none

/-- A message that makes the head fire (R21, R247). -/
def Msg.fires : Msg → Bool
  | .fireAt _ _ _ _ => true
  | _ => false

/-- A sequenced frame is transmitted (R238, R240, R246): `again` for a resend. While the voted fire-enable is inactive a
FIRE_AT is sent in BLANK form only (R21). Log 47 (DEDUCED). -/
def State.transmit (s : State) (p : Nat) (f : OutFrame) (again : Bool) : State :=
  let miss := s.missesDeadline p f
  let blank := f.blank || miss || (f.msg.fires && !s.flag F.THERM_TRI_STATUS_FIRE_EN)
  let msg := match f.msg with
    | .timeSync _ => Msg.timeSync s.devTime
    | m => m
  let bytes := frameBytes msg.code f.seq blank (msg.payload (s.msgWidth p msg) blank)
  let s1 := s.putFrame p bytes
  let done : OutFrame := { f with
    msg := msg, blank := blank, resend := false, expired := false, retries := f.retries + b2n again
    sentAt := some ((s.now : Int) + (s.wireTime p bytes.length).ceil).toNat }
  let x := s1.port p
  let s2 := s1.setPort p { x with
    replay := if again then x.replay.map (fun g => if g.seq = f.seq then done else g) else x.replay ++ [done] }
  let s3 := if again then s2.linkErr p 0 else s2
  if blank then match msg.lineNo with
    | some l => s3.blankLine p l msg.row
    | none => s3
  else s3

/-- The next frame of a queue of frames not yet sent: it takes the next SEQ (R238), and its answer is awaited (R243). -/
def State.sendNew (s : State) (p : Nat) (f : OutFrame) : State :=
  let x := s.port p
  let waits := if f.msg.answered ∧ f.tag ≠ 0 then x.waits ++ [(x.outSeq, f.tag)] else x.waits
  (s.setPort p { x with outSeq := (x.outSeq + 1) % 65536, waits := waits }).transmit p { f with seq := x.outSeq } false

/-- The frames at the front of the line queue may go: a FIRE_AT is withheld while the voted fire-enable is inactive
(R21). -/
def State.lineReady (s : State) (p : Nat) : Bool :=
  match (s.port p).lineQ with
  | f :: _ => !f.msg.fires || s.flag F.THERM_TRI_STATUS_FIRE_EN
  | [] => false

/-- One frame leaves at a frame boundary, by the precedence of R244. -/
def State.sendFrame (s : State) (p : Nat) : State :=
  let x := s.port p
  match x.owed with
  | m :: rest =>
    let seq := match m with
      | .ack q => q
      | .nak q => q
      | _ => 0
    (s.setPort p { x with owed := rest }).putFrame p (frameBytes m.code seq false [])
  | [] =>
    match x.ghosts, x.replay.find? (·.resend) with
    | g :: rest, _ => (s.setPort p { x with ghosts := rest, replayOn := true }).transmit p g true
    | [], some f => (s.setPort p { x with replayOn := true }).transmit p f true
    | [], none =>
      let s1 := s.setPort p { x with replayOn := false }
      if s1.replayFull p then s1
      else if s1.lineReady p then
        match x.lineQ with
        | f :: rest => (s1.setPort p { s1.port p with lineQ := rest }).sendNew p f
        | [] => s1
      else match x.otherQ with
        | f :: rest => (s1.setPort p { s1.port p with otherQ := rest }).sendNew p f
        | [] => s1

/-- FRAME_TRANSMIT (R244). -/
def execFrameTransmit (t p : Nat) (s : State) : Host.Outcome State Fault Refusal :=
  coreStep t (fun s =>
    let x := s.port p
    if p < 128 ∧ 2 ≤ x.st ∧ x.st ≤ 6 ∧ (s.gen p = 2 ∨ s.gen p = 3) ∧ s.flag F.HEADPORT_HEADS_CTRL_LINK_EN ∧
        x.busyUntil ≤ (s.now : Int) then s.sendFrame p
    else s) s

/-! ### ACK, NAK and timers (R239 to R242) -/

/-- The frame's SEQ is covered by an ACK of `seq`. -/
def ackCovers (seq frame : Nat) : Bool := decide ((seq + 65536 - frame) % 65536 < 32768)

/-- An ACK releases the frames that it covers (R239, R242). -/
def State.takeAck (s : State) (p seq : Nat) : State :=
  let x := s.port p
  let hit := x.replay.filter (fun f => ackCovers seq f.seq)
  if hit = [] then s
  else
    let s1 := s.setPort p { x with
      replay := x.replay.filter (fun f => !ackCovers seq f.seq), failures := 0
      ghosts := if x.replayOn then x.ghosts ++ hit.filter (·.resend) else x.ghosts }
    if hit.any (·.expired) then (s1.bump F.HEADPORT_LATE_ACK).portCount p 3 else s1

/-- A frame and every later one in the replay buffer wait to be resent (R240). -/
def Port.resendFrom (x : Port) (seq : Nat) : Port :=
  { x with replay := x.replay.map (fun f => if ackCovers f.seq seq then { f with resend := true } else f) }

/-- A failure of frame `seq`: it counts, the frames are resent, and too many take the link down (R240, R241). -/
def State.linkFailure (s : State) (p seq : Nat) : State :=
  let x := s.port p
  let worn := x.replay.any (fun f => decide (f.seq = seq ∧ 4 ≤ f.retries))
  let held := x.replay.any (fun f => decide (f.seq = seq))
  let s1 := s.setPort p { (if held then x.resendFrom seq else x) with failures := x.failures + 1 }
  if worn ∨ 8 ≤ x.failures + 1 then s1.linkDown p else s1

/-- A frame of any kind has arrived on AUX of a port with a link. -/
def State.auxRx (s : State) (p : Nat) : Bool :=
  decide (p < 128) && decide (2 ≤ (s.port p).st ∧ (s.port p).st ≤ 6) && decide (s.gen p = 2 ∨ s.gen p = 3) &&
    s.flag F.HEADPORT_HEADS_CTRL_LINK_EN

/-- The arrival is noted for the silence timer of R241. -/
def State.noteRx (s : State) (p : Nat) : State := s.setPort p { s.port p with lastRx := s.now }

/-- HEAD_ACK_RX. -/
def execHeadAckRx (t p seq : Nat) (s : State) : Host.Outcome State Fault Refusal :=
  coreStep t (fun s => if s.auxRx p then (s.noteRx p).takeAck p seq else s) s

/-- HEAD_NAK_RX. -/
def execHeadNakRx (t p seq : Nat) (s : State) : Host.Outcome State Fault Refusal :=
  coreStep t (fun s => if s.auxRx p then ((s.noteRx p).linkErr p 1).linkFailure p seq else s) s

/-- The oldest frame whose ACK timer has expired. -/
def State.expiredFrame (s : State) (p : Nat) : Option OutFrame :=
  (s.port p).replay.find? (fun f => !f.resend && match f.sentAt with
    | some a => decide (a + s.ackTime p ≤ s.now)
    | none => false)

/-- HEAD_ACK_TIMEOUT (R240). -/
def execHeadAckTimeout (t p : Nat) (s : State) : Host.Outcome State Fault Refusal :=
  coreStep t (fun s =>
    if s.auxRx p then
      match s.expiredFrame p with
      | none => s
      | some f =>
        let x := s.port p
        let s1 := s.setPort p { x with replay := x.replay.map (fun g => if g.seq = f.seq then { g with expired := true } else g) }
        (s1.linkErr p 2).linkFailure p f.seq
    else s) s

/-- The receiver asks for the expected frame once (R239). -/
def State.oweNak (s : State) (p : Nat) : State :=
  let x := s.port p
  if x.nakOut then s else s.setPort p { x with nakOut := true, owed := x.owed ++ [.nak x.inSeq] }

/-- An ACK of the highest SEQ accepted is owed: one covers every earlier frame (R239). -/
def State.oweAck (s : State) (p : Nat) : State :=
  let x := s.port p
  let naks := x.owed.filter (fun m => match m with
    | .ack _ => false
    | _ => true)
  s.setPort p { x with owed := naks ++ [.ack ((x.inSeq + 65535) % 65536)] }

/-- A sequenced frame arrives (R239): accepted when its SEQ is expected, a duplicate up to 32,768 below, otherwise asked
for again. -/
def State.headIn (s : State) (p seq : Nat) (f : State → State) : State :=
  if s.auxRx p then
    let s1 := s.noteRx p
    let x := s1.port p
    if seq = x.inSeq then
      f ((s1.setPort p { x with inSeq := (seq + 1) % 65536, nakOut := false }).oweAck p)
    else if (x.inSeq + 65536 - seq) % 65536 ≤ 32768 then s1.oweAck p
    else s1.oweNak p
  else s

/-- HEAD_FRAME_DISCARD (R239): a frame that cannot be taken, or one with a SEQ that is not the expected one. -/
def execHeadFrameDiscard (t p : Nat) (seq : Option Nat) (s : State) : Host.Outcome State Fault Refusal :=
  coreStep t (fun s =>
    match seq with
    | none => if s.auxRx p then (s.noteRx p).oweNak p else s
    | some q => if q = (s.port p).inSeq then s else s.headIn p q id) s

/-- HEAD_AUX_LOCK_LOSS (R241): AUX has had no lock for `lostFor` ns. -/
def execHeadAuxLockLoss (t p lostFor : Nat) (s : State) : Host.Outcome State Fault Refusal :=
  coreStep t (fun s => if s.auxRx p ∧ 100000 < lostFor then s.linkDown p else s) s

/-- HEAD_AUX_SILENCE (R241). -/
def execHeadAuxSilence (t p : Nat) (s : State) : Host.Outcome State Fault Refusal :=
  coreStep t (fun s => if s.auxRx p ∧ (s.port p).lastRx + 5000000 ≤ s.now then s.linkDown p else s) s

/-! ### Training and link-up (R226, R249 to R251) -/

/-- HEAD_TRAINING_LOCK (R226): AUX has locked and the head reports out lanes locked. -/
def execHeadTrainingLock (t p lanes : Nat) (s : State) : Host.Outcome State Fault Refusal :=
  coreStep t (fun s =>
    let l := if s.gen p = 3 then lanes % 4 else lanes % 2
    if p < 128 ∧ (s.port p).st = 1 ∧ l ≠ 0 ∧ s.flag F.HEADPORT_HEADS_CTRL_LINK_EN then
      let s1 := (s.setPort p { (s.port p).clearLink with lastRx := s.now, busyUntil := s.now }).enterPort p 2
      (s1.setLanes p l).queueMsgs p 0 [.idRead]
    else s) s

/-- HEAD_TRAINING_TIMEOUT (R226). -/
def execHeadTrainingTimeout (t p : Nat) (s : State) : Host.Outcome State Fault Refusal :=
  coreStep t (fun s =>
    if p < 128 ∧ (s.port p).st = 1 ∧ (s.port p).since + 10000000 ≤ s.now then s.portDown p false none else s) s

/-- HEAD_AUTO_RELINK (R226, R227). -/
def execHeadAutoRelink (t p : Nat) (s : State) : Host.Outcome State Fault Refusal :=
  coreStep t (fun s =>
    if p < 128 ∧ (s.port p).st = 7 ∧ s.flag (F.HP_CTRL_AUTO_RELINK p) ∧ s.mayLink p ∧ (s.port p).since + 100000000 ≤ s.now then
      s.startLink p
    else s) s

/-- The checks of IDENTIFY on a descriptor (R250). -/
def State.identify (s : State) (p : Nat) (d : Descriptor) : State :=
  let s1 := s.setPort p { s.port p with desc := some d }
  if !d.sound then s1.refusePort p 11
  else if d.gen ≠ s1.gen p then s1.refusePort p 1
  else if !bitOf d.rates (s1.get (F.HP_CTRL_RATE p)) then s1.refusePort p 12
  else
    let s2 := s1.findFMax p
    let code := if s2.judged then s2.configCheck p else none
    match code with
    | some c => s2.refusePort p c
    | none =>
      match (s2.port p).lastSerial with
      | some x => if x ≠ d.serial then s2.refusePort p 10 else s2.startAuth p d
      | none => s2.startAuth p d

/-- HEAD_ID_READ_RX (R250). -/
def execHeadIdReadRx (t p seq : Nat) (bytes : List Byte) (s : State) : Host.Outcome State Fault Refusal :=
  coreStep t (fun s => s.headIn p seq (fun a =>
    if (a.port p).st = 2 then a.identify p (parseDescriptor bytes) else a)) s

/-- A number put in its place in an ascending list. -/
def insertInt (x : Int) : List Int → List Int
  | [] => [x]
  | y :: r => if x ≤ y then x :: y :: r else y :: insertInt x r

/-- A list of numbers in ascending order. -/
def sortInts (l : List Int) : List Int := l.foldl (fun a x => insertInt x a) []

/-- The median of 8 values (R249). -/
def medianOf (l : List Int) : Int :=
  let a := sortInts l
  (a.getD 3 0 + a.getD 4 0 + 1) / 2

/-- The difference between a periodic exchange and the θ in force is recorded (SYNC_STATUS). -/
def State.recordDrift (s : State) (p : Nat) (d : Nat) : State :=
  if !s.flag F.HEADPORT_SYNC_STATUS_VALID || decide (s.get F.HEADPORT_SYNC_STATUS_DRIFT_NS < min d 255) then
    ((s.set F.HEADPORT_SYNC_STATUS_PORT p).set F.HEADPORT_SYNC_STATUS_VALID 1).set F.HEADPORT_SYNC_STATUS_DRIFT_NS (min d 255)
  else s

/-- A TIME_SYNC exchange is complete (R248, R249). -/
def State.timeSync (s : State) (p : Nat) (t1 t2 t3 t4 : Int) : State :=
  let theta := ((t2 - t1) - (t4 - t3) + 1) / 2
  let delta := ((t4 - t1) - (t3 - t2) + 1) / 2
  let x := s.port p
  let l := ((theta, delta) :: x.sync).take 8
  if x.st = 4 ∧ x.loading ∧ x.syncs < 8 then
    let s1 := s.setPort p { x with sync := l, syncs := x.syncs + 1 }
    if x.syncs + 1 = 8 then
      (s1.setPort p { s1.port p with
        theta := if s.gen p = 3 then medianOf (l.map (·.1)) else 0, delta := medianOf (l.map (·.2)) }).loadedCheck p
    else s1.queueMsgs p 0 [.timeSync 0]
  else if s.linked p then
    let s1 := s.setPort p { x with sync := l, delta := medianOf (l.map (·.2)) }
    if s.gen p = 3 then
      let d := (theta - x.theta).natAbs
      let s2 := s1.recordDrift p d
      if 8 < d then s2.linkDown p else s2
    else s1
  else s

/-- HEAD_TIME_SYNC_RX (R248): the reply's T1, T2 and T3, and T4 of its first bit. -/
def execHeadTimeSyncRx (t p seq : Nat) (t1 t2 t3 t4 : Nat) (s : State) : Host.Outcome State Fault Refusal :=
  coreStep t (fun s => s.headIn p seq (fun a => a.timeSync p t1 t2 t3 t4)) s

/-- HEAD_TIME_SYNC_PERIODIC (R249). -/
def execHeadTimeSyncPeriodic (t p : Nat) (s : State) : Host.Outcome State Fault Refusal :=
  coreStep t (fun s =>
    let x := s.port p
    if p < 128 ∧ s.linked p ∧ (s.gen p = 2 ∨ s.gen p = 3) ∧ x.syncAt ≤ s.now then
      (s.setPort p { x with syncAt := x.syncAt + 100000000 }).queueMsgs p 0 [.timeSync 0]
    else s) s

/-- HEAD_AUTH_RESP_RX (R253). -/
def execHeadAuthRespRx (t p seq : Nat) (serial count : Nat) (mac : List Byte) (s : State) : Host.Outcome State Fault Refusal :=
  coreStep t (fun s => s.headIn p seq (fun a =>
    let x := a.port p
    if x.st = 3 ∧ x.authStage = 1 then
      if a.verifies p x.nonceD serial count mac then
        (a.setPort p { x with authStage := 2, usage := { x.usage with asked := [none] } }).queueMsgs p 0 [.usageRead]
      else a.authRefuse p
    else a)) s

/-- The head's count and nonce are taken from a reply that verifies. -/
def State.takeUsage (s : State) (p nonce count : Nat) : State :=
  let x := s.port p
  s.setPort p { x with usage := { x.usage with count := count, nonceH := nonce } }

/-- A USAGE_READ reply arrives (R253 to R255). -/
def State.usageRead (s : State) (p nonce serial count : Nat) (mac : List Byte) : State :=
  let x := s.port p
  let good := s.verifies p nonce serial count mac
  match x.usage.asked with
  | [] => s
  | a :: rest =>
    let s1 := s.setPort p { x with
      usage := { x.usage with asked := rest }, waits := if a.isSome then x.waits.filter (fun w => w.2 ≠ 3) else x.waits }
    if x.st = 3 then
      if good then ((s1.takeUsage p nonce count).setAuth p 1).toLoading p else s1.authRefuse p
    else if !good then s1.usageFail p
    else
      let s2 := s1.takeUsage p nonce count
      match a with
      | none => s2
      | some (units, new) =>
        if count = new then
          let y := s2.port p
          ((s2.setPort p { y with usage := { y.usage with accrued := y.usage.accrued - units * 1000000000 } }).bump
            F.HEADPORT_USAGE_UNITS_TOTAL units).sendUsage p
        else s2

/-- HEAD_USAGE_READ_RX. -/
def execHeadUsageReadRx (t p seq : Nat) (nonce serial count : Nat) (mac : List Byte) (s : State) :
    Host.Outcome State Fault Refusal :=
  coreStep t (fun s => s.headIn p seq (fun a => a.usageRead p nonce serial count mac)) s

/-- HEAD_USAGE_PERIODIC (R254). -/
def execHeadUsagePeriodic (t p : Nat) (s : State) : Host.Outcome State Fault Refusal :=
  coreStep t (fun s =>
    let x := s.port p
    if p < 128 ∧ s.linked p ∧ x.usage.auth = 1 ∧ x.usage.readAt + 60000000000 ≤ s.now then
      (s.setPort p { x with usage := { x.usage with readAt := s.now, asked := x.usage.asked ++ [none] } }).queueMsgs p 0 [.usageRead]
    else s) s

/-- HEAD_CFG_READ_RX (R243): the reply is accepted; the device keeps none of the data. Log 51 (DEDUCED). -/
def execHeadCfgReadRx (t p seq : Nat) (_space : Nat) (_data : List Byte) (s : State) : Host.Outcome State Fault Refusal :=
  coreStep t (fun s => s.headIn p seq (fun a => a)) s

/-- The lanes of a STATUS on an HL-3 port (R251). -/
def State.statusLanes (s : State) (p lanes : Nat) : State :=
  let x := s.port p
  if s.gen p ≠ 3 then s.setLanes p (lanes % 2)
  else
    let l := lanes % 4
    if x.st = 6 then
      if l &&& x.lanes = 0 then s.linkDown p else s
    else if x.st = 5 then
      if l = 0 then s.linkDown p
      else if l = 3 then s.setPort p { x with laneBad := 0 }
      else if x.laneBad + 1 < 3 then s.setPort p { x with laneBad := x.laneBad + 1 }
      else
        let s1 := ((s.setLanes p l).enterPort p 6).findFMax p
        let y := s1.port p
        (s1.setPort p { y with laneBad := 0, replay := y.replay.map (fun f => { f with resend := true }) }).laneLost p
          (if l = 1 then 1 else 0)
    else s.setLanes p l

/-- The answer that a STATUS gives to a frame (R221, R250, R255): RESULT 0 accepts. -/
def State.statusAnswer (s : State) (p answer result : Nat) : State :=
  let x := s.port p
  match x.waits.find? (fun w => w.1 = answer) with
  | none => s
  | some w =>
    let s1 := s.setPort p { x with waits := x.waits.erase w }
    if w.2 = 1 then (if result = 0 then s1.loadedCheck p else s1.refusePort p 9)
    else if w.2 = 2 then (if result = 0 then s1 else s1.setPort p { s1.port p with refused := true })
    else if result = 2 then
      let y := s1.port p
      (s1.setPort p { y with usage := { y.usage with asked := y.usage.asked.filter (·.isNone) } }).usageFail p
    else s1

/-- HEAD_STATUS_RX (R243, R251): LANES, ANSWER_SEQ and RESULT of the frame. -/
def execHeadStatusRx (t p seq : Nat) (lanes answer result : Nat) (s : State) : Host.Outcome State Fault Refusal :=
  coreStep t (fun s => s.headIn p seq (fun a =>
    let b := a.statusLanes p lanes
    if answer = 0xFFFF ∨ !b.auxRx p then b else b.statusAnswer p answer result)) s

/-- HEAD_SENSE_RX (R262). -/
def execHeadSenseRx (t p seq : Nat) (line : Nat) (entries : List SenseEntry) (s : State) : Host.Outcome State Fault Refusal :=
  coreStep t (fun s => s.headIn p seq (fun a => a.senseFrame p line entries)) s

/-! ### HEAD commands (R256, R558) -/

/-- A field whose range is given for HL-1, with the value it has on any other generation (R558). -/
def hl1Field (hl1 : Bool) (v lo hi other : Nat) : Bool := if hl1 then within v lo hi else decide (v = other)

/-- A port configured anew has no valid reading of its head yet: k_t is 0, or 8 while a cut is in force (R470, R473).
Log 109 (DEDUCED). -/
def HeadTherm.noReading (h : HeadTherm) : HeadTherm :=
  { h with readings := {}, kt := if h.cut then 8 else 0, coolFrom := none, warned := false }

/-- HEAD_CONFIG: the port enters OFF. -/
def headConfig : Cmd := {
  op := 0x600, modes := inConfigure, len := (· = 32), prep := true
  range := fun rq _ =>
    let gen := rq.u 1 1
    let h := decide (gen = 1)
    inRange (decide (rq.u 0 1 < 128 ∧ gen < 4 ∧ rq.u 2 1 ≤ (if gen = 2 then 2 else if gen = 3 then 1 else 0) ∧ rq.u 3 1 < 8) &&
      hl1Field h (rq.u 4 1) 10 200 0 && (decide (rq.u 5 1 = 0xFF) || (h && decide (rq.u 5 1 < 16))) &&
      hl1Field h (rq.u 6 2) 20 1000 0 && hl1Field h (rq.u 8 2) 1 8192 0 && hl1Field h (rq.u 10 1) 1 64 0 &&
      hl1Field h (rq.u 11 1) 1 3 0 && hl1Field h (rq.u 12 4) 1 64000 0 && zeroBytes rq.payload 16 16)
  apply := fun _ rq s =>
    let p := rq.u 0 1
    let s1 := s.portOff p
    let s2 := ((((s1.set (F.HP_CTRL_ENABLE p) 0).set (F.HP_CTRL_GEN p) (rq.u 1 1)).set (F.HP_CTRL_RATE p) (rq.u 2 1)).set
      (F.HP_CTRL_OPTIONAL p) (rq.u 3 1)).set (F.HP_CTRL_REVERSE_SHIFT p) (rq.u 3 1 / 2)
    let s3 := (s2.set (F.HP_CTRL_AUTO_RELINK p) (rq.u 3 1 / 4)).set (F.HP_CTRL_TH_VALID p) (b2n (decide (rq.u 5 1 ≠ 0xFF)))
    let s4 := s3.set (F.HP_CTRL_TH p) (if rq.u 5 1 = 0xFF then 0 else rq.u 5 1)
    ok ((s4.setPort p { s4.port p with
      clockMhz := rq.u 4 1, latchNs := rq.u 6 2, nozzles := rq.u 8 2, rowsCfg := rq.u 10 1, bitsMask := rq.u 11 1
      maxRate := rq.u 12 4, desc := none, theta := 0, delta := 0, therm := (s4.port p).therm.noReading }).setAuth p 0) }

/-- The ports on which HEAD_LINK acts (R557). -/
def State.linkPorts (s : State) (port action : Nat) : List Nat :=
  let l := if port = 0xFF then (List.range 128).filter (fun p => decide (s.gen p ≠ 0)) else [port]
  if action = 0 then l
  else
    let down := decide (s.mode = .track ∨ s.mode = .clock)
    l.filter (fun p => s.mayLink p && (!down || decide ((s.port p).st = 7)))

/-- HEAD_LINK (R557). -/
def headLink : Cmd := {
  op := 0x601, modes := inRunning, len := (· = 4)
  forbids := fun rq s => decide (s.mode = .track ∨ s.mode = .clock) &&
    (decide (rq.u 1 1 = 0) || (decide (rq.u 1 1 = 1 ∧ rq.u 0 1 < 128) && decide ((s.port (rq.u 0 1)).st ≠ 7)))
  range := fun rq s => inRange ((decide (rq.u 0 1 = 0xFF) || s.portOk (rq.u 0 1)) && decide (rq.u 1 1 < 2 ∧ rq.u 2 2 = 0))
  stage := fun _ rq s =>
    if rq.u 1 1 = 1 ∧ rq.u 0 1 ≠ 0xFF ∧ (s.port (rq.u 0 1)).therm.cut then some { status := .denied } else none
  apply := fun _ rq s =>
    ok ((s.linkPorts (rq.u 0 1) (rq.u 1 1)).foldl (fun (a : State) p =>
      let b := a.set (F.HP_CTRL_ENABLE p) (rq.u 1 1)
      if rq.u 1 1 = 0 then b.portOff p else b.startLink p) s) }

/-- The rows of a spit or a purge: those of the mask, on HL-1 all (R256). -/
def State.spitRows (s : State) (p mask : Nat) : List Nat :=
  if s.gen p = 1 then (s.geo.portRows p).map (·.row) else maskRows mask

/-- The range of HEAD_SPIT and HEAD_PURGE beside their own fields (R256). -/
def State.spitOk (s : State) (p code rate : Nat) (rows : List Nat) : Bool :=
  s.portOk p && within code 1 15 && within rate 1 (s.port p).fMax && s.rowsCommitted p rows &&
    (rows.filterMap (s.geo.row p)).all (fun r => decide (((s.wp p).map r.group).getD code 0xFF ≠ 0xFF))

/-- HEAD_SPIT. Log 48 (DEDUCED). -/
def headSpit : Cmd := {
  op := 0x602, modes := fun m => decide (m = .ready ∨ m = .maintain), len := (· = 16)
  range := fun rq s =>
    inRange (s.spitOk (rq.u 0 1) (rq.u 1 1) (rq.u 4 4) (s.spitRows (rq.u 0 1) (rq.u 8 8)) && decide (rq.u 2 2 ≠ 0))
  stage := fun _ rq s => s.maintRefusal (rq.u 0 1)
  apply := fun _ rq s =>
    ok (s.startMaint (rq.u 0 1) { kind := 0, code := rq.u 1 1, rows := s.spitRows (rq.u 0 1) (rq.u 8 8), rate := rq.u 4 4,
                                  total := rq.u 2 2 }) }

/-- HEAD_USAGE. -/
def headUsage : Cmd := {
  op := 0x603, modes := Mode.normal, len := (· = 4), reads := true
  range := fun rq s => inRange (s.portOk (rq.u 0 1) && decide (rq.u 1 3 = 0))
  apply := fun _ rq s =>
    let u := (s.port (rq.u 0 1)).usage
    okWith (leBytes 1 u.auth ++ leBytes 3 0 ++ leBytes 8 (s.headSerial (rq.u 0 1)) ++ leBytes 8 u.count ++
      leBytes 4 (u.accrued / 1000000000) ++ leBytes 4 0 ++ leBytes 8 (u.accrued % 1000000000) ++ leBytes 8 u.total) s }

/-- The descriptor as HEAD_QUERY gives it: on HL-1 the fields of HEAD_CONFIG, the rest 0. -/
def State.queryDescriptor (s : State) (p : Nat) : List Byte :=
  let x := s.port p
  if s.gen p = 1 then
    List.replicate 5 0 ++ leBytes 1 x.rowsCfg ++ leBytes 2 x.nozzles ++ leBytes 4 x.maxRate ++ leBytes 1 x.bitsMask ++
      List.replicate 51 0
  else match x.desc with
    | some d => (d.raw ++ List.replicate 64 0).take 64
    | none => List.replicate 64 0

/-- HEAD_QUERY. -/
def headQuery : Cmd := {
  op := 0x604, modes := Mode.normal, len := (· = 4), reads := true
  range := fun rq _ => inRange (decide (rq.u 0 1 < 128 ∧ rq.u 1 3 = 0))
  apply := fun _ rq s =>
    let p := rq.u 0 1
    let x := s.port p
    okWith (leBytes 1 x.st ++ leBytes 1 x.lanes ++ leBytes 1 (s.get (F.HP_STATUS_REFUSE p)) ++ leBytes 1 x.usage.auth ++
      leBytes 4 x.fMax ++ leBytes 8 (ofSigned 64 x.theta) ++ leBytes 4 (ofSigned 32 x.delta) ++ leBytes 4 0 ++
      s.queryDescriptor p ++ (x.counts.map (leBytes 4)).flatten) s }

/-- HEAD_PURGE: every firing that falls before DURATION_MS has passed. -/
def headPurge : Cmd := {
  op := 0x605, modes := fun m => decide (m = .maintain), len := (· = 24)
  range := fun rq s =>
    inRange (s.spitOk (rq.u 0 1) (rq.u 1 1) (rq.u 8 4) (s.spitRows (rq.u 0 1) (rq.u 16 8)) && within (rq.u 4 4) 1 10000 &&
      decide (rq.u 2 2 = 0 ∧ rq.u 12 4 = 0))
  stage := fun _ rq s => s.maintRefusal (rq.u 0 1)
  apply := fun _ rq s =>
    ok (s.startMaint (rq.u 0 1) { kind := 1, code := rq.u 1 1, rows := s.spitRows (rq.u 0 1) (rq.u 16 8), rate := rq.u 8 4,
                                  total := ceilDiv (rq.u 4 4 * rq.u 8 4) 1000 }) }

/-- Bytes of one record of a test pattern: a slot for each committed row (R258). -/
def State.recordBytes (s : State) (p : Nat) : Nat :=
  ((s.geo.portRows p).map (fun r => 64 * slotBlocks r.n (s.planeBits r.plane))).foldl (· + ·) 0

/-- The codes of one record: row and codes, rows ascending. -/
def State.recordCodes (s : State) : List RowEntry → List Byte → List (Nat × List Nat)
  | [], _ => []
  | r :: rest, l =>
    let b := s.planeBits r.plane
    let n := 64 * slotBlocks r.n b
    (r.row, (List.range r.n).map (codeAt (l.take n) b)) :: s.recordCodes rest (l.drop n)

/-- HEAD_PATTERN (R258). -/
def headPattern : Cmd := {
  op := 0x606, modes := fun m => decide (m = .maintain), len := (· = 32)
  range := fun rq s =>
    inRange (s.portOk (rq.u 0 1) && decide (rq.u 1 1 = 0 ∧ rq.u 6 2 = 0 ∧ rq.u 12 4 = 0 ∧ rq.u 28 4 = 0) &&
      within (rq.u 2 2) 1 4096 && decide (rq.u 4 2 ≠ 0) && within (rq.u 8 4) 1 (s.port (rq.u 0 1)).fMax &&
      decide (rq.u 2 2 * s.recordBytes (rq.u 0 1) ≤ 67108864))
  bulk := fun rq s => some { addr := rq.u 16 8, len := rq.u 2 2 * s.recordBytes (rq.u 0 1), crc := some (rq.u 24 4) }
  stage := fun _ rq s => s.maintRefusal (rq.u 0 1)
  apply := fun l rq s =>
    let p := rq.u 0 1
    let recs := (entries (s.recordBytes p) (rq.u 2 2) l).map (s.recordCodes (s.geo.portRows p))
    ok (s.startMaint p { kind := 2, rows := (s.geo.portRows p).map (·.row), rate := rq.u 8 4, total := rq.u 2 2 * rq.u 4 2,
                         pattern := recs }) }

/-- TIMING_NOZZLE_TRIM (R186): the trims go to the head after the load. -/
def timingNozzleTrim : Cmd := {
  op := 0x405, modes := Mode.quiet, len := (· = 24), prep := true
  range := fun rq s => firstOf (tableRange 40960 rq s) (inRange (decide (s.gen (rq.u 0 1) = 3)))
  bulk := fun rq _ => some { addr := rq.u 8 8, len := rq.u 2 2, crc := some (rq.u 16 4) }
  apply := fun l rq s =>
    let p := rq.u 0 1
    let s1 := s.cellarStore (s.trimBlock 0 p) 640 (trimTable l)
    let s2 := (s1.setWp p { s1.wp p with timeLoaded := true }).setCoefs p
    ok (if s2.headHolds p then s2.queueMsgs p 0 (s2.trimLoads 0 p l) else s2) }

/-- The checks of R228 at JOB_START: a port with rows of the track is up, or is optional. -/
def State.portsReady (s : State) (t : Nat) : Bool :=
  (s.trackPorts t).all (fun p => s.linked p || s.flag (F.HP_CTRL_OPTIONAL p))

end Sys2Proof.Machine
end

