-- ==== Sys2Proof/Machine/Fetch.lean ====
section
/-! DEFINITION. Lines on the head ports: the fetch, the fire instant, what HL-1 and HL-2 ports send for a line, and the
firings of maintenance activities (R44, R72, R99, R104, R161 to R168, R205, R214, R230 to R236, R244, R256 to R258, R264,
R273, R295). -/

namespace Sys2Proof.Machine

/-! ### Fire instants (R161, R162, R165, R166) -/

/-- FINE × T_L / 1,024 in ns, rounded half up; T_L in 1/65,536 ns (R161). -/
def fineShift (fine : Int) (interval : Nat) : Int := roundHalfUp ((fine * interval : Int) / (67108864 : Rat))

/-- The instant of a row: on an HL-2 port the nearest multiple of 8 ns, half up (R161, R162). -/
def rowInstant (gen : Nat) (f fine : Int) (interval : Nat) : Int :=
  let t := f + fineShift fine interval
  if gen = 2 then (t + 4) / 8 * 8 else t

/-- The spacing correction Δ (R166). -/
def State.spacing (s : State) (p interval : Nat) : Int :=
  let x := s.port p
  let d : Int := (x.intervalPrev : Int) - interval
  let most : Rat := max 0 (max ((x.coefMax * d : Int) / (67108864 : Rat)) ((x.coefMin * d : Int) / (67108864 : Rat)))
  most.ceil + (if s.gen p = 2 then 8 else 0)

/-- The earliest instant that the port's last firing leaves (R165). -/
def State.earliest (s : State) (p interval : Nat) (t : Int) : Int :=
  match (s.port p).fPrev with
  | some f => max t (f + s.tMin p + s.spacing p interval)
  | none => t

/-! ### What a fetch makes due on its rows (R72, R99, R103 to R105, R133) -/

/-- The write line of a row at a track line: none for a line that fires blank uncounted (R72). Log 29 (DEDUCED). -/
def State.rowWrite (s : State) (n line : Nat) (r : RowEntry) : Option Nat :=
  if line < r.delay + (s.stream n).bind.barOffset then none
  else
    let w := line - r.delay
    match (s.plane n r.plane).lastWrite with
    | some k => if k < w then none else some w
    | none => some w

/-- The MARKER events of a write line, at the first fetch by a least-delayed row (R99). -/
def State.postMarkers (s : State) (n p w : Nat) (tl : Int) : State :=
  let x := s.stream n
  let due := x.markers.filter (fun m => decide (m.1 = p ∧ m.2.1 = w))
  let s1 := s.setStream n { x with markers := x.markers.filter (fun m => !decide (m.1 = p ∧ m.2.1 = w)) }
  due.foldl (fun (a : State) m =>
    a.postEventAt 4 tl.toNat (leBytes 1 n ++ leBytes 1 p ++ leBytes 2 m.2.2.2 ++ leBytes 4 0 ++ leBytes 8 m.2.2.1)) s1

/-- The slot of a row for write line `w` holds no line: the row is sent code 0 (R104). -/
def State.voidSlot (s : State) (w : Nat) (r : RowEntry) : State :=
  match s.geo.ring r.port r.row with
  | none => s
  | some g => { s with lines := { s.lines with stored := s.lines.stored.set {} (slotKey g.port g.row (w % g.depth)) {} } }

/-- An underrun of write line `w` at its fetch by the least-delayed rows (R104, R105). -/
def State.underrunAt (s : State) (n p w t line : Nat) : State :=
  let d := s.minDelay n p
  let rows := s.streamRows n p
  let s1 := (rows.filter (fun r => decide (r.delay = d))).foldl (fun (a : State) r => a.voidSlot w r) (s.declareUnderrun n p w)
  let s2 := s1.writeBlank w (rows.filter (fun r => decide (r.delay ≠ d)))
  if (s2.stream n).bind.underrunStop then s2.stopTrack t 6 (some line) else s2

/-- What the fetch of a track line makes due on one row, whatever outcome the line takes on the port. -/
def State.rowDue (s : State) (t line : Nat) (tl : Int) (r : RowEntry) : State :=
  match s.streamOf r with
  | none => s
  | some n =>
    match s.rowWrite n line r with
    | none => s
    | some w =>
      if r.delay = s.minDelay n r.plane then
        let s1 := s.postMarkers n r.plane w tl
        let x := s1.plane n r.plane
        let s2 := s1.setPlane n r.plane { x with next := max x.next (w + 1) }
        let s3 := s2.noteRunway n
        if x.storedEnd ≤ w then s3.underrunAt n r.plane w t line else s3
      else s

/-! ### A row's codes (R43, R54, R115, R273) -/

/-- The codes of a slot: a nozzle with a bit in a codeword delivered as zeros takes code 0 (R54), and whether one has. -/
def slotCodes (blocks : List (Option (List Byte))) (bits n : Nat) : List Nat × Bool :=
  let bytes := (blocks.map (fun b => b.getD zeroBlock)).flatten
  let held := fun k => (blocks.getD k none).isSome
  let ok := fun j => held (bits * j / 512) && held ((bits * j + bits - 1) / 512)
  ((List.range n).map (fun j => if ok j then codeAt bytes bits j else 0), !(List.range n).all ok)

/-- One row's codes at a fetch: the codes sent, whether it fires blank for a fault, whether quick cover found a
source. -/
def State.fetchRow (s : State) (line : Nat) (r : RowEntry) : (List Nat × Bool × Bool) × State :=
  let zeros := List.replicate r.n 0
  match s.streamOf r with
  | none => ((zeros, false, false), s)
  | some n =>
    match s.rowWrite n line r with
    | none => ((zeros, false, false), s)
    | some w =>
      match s.geo.ring r.port r.row with
      | none => ((zeros, true, false), s)
      | some g =>
        match s.storedLine g w with
        | none => ((zeros, true, false), s)
        | some x =>
          let (blocks, s1) := s.cellarReads (g.slotOf w)
          let (codes, blank) := slotCodes blocks (s.planeBits r.plane) r.n
          let (out, src, s2) := (s1.coverFetched r x.epoch).quickCover r w (some x.epoch) codes
          ((out, blank || x.faulty, src), s2)

/-- The rows of a port at a fetch: for each its entry and codes; a row fires blank, a row has a cover source. -/
def State.fetchRows (s : State) (line : Nat) : List RowEntry → (List (RowEntry × List Nat) × Bool × Bool) × State
  | [] => (([], false, false), s)
  | r :: l =>
    let ((codes, blank, src), s1) := s.fetchRow line r
    let ((rest, b, q), s2) := s1.fetchRows line l
    (((r, codes) :: rest, blank || b, src || q), s2)

/-! ### Sending a line (R205, R230, R243, R244) -/

/-- The LINE messages of one row, `most` codes each, in ascending START (R243). -/
def lineMsgs (line row most : Nat) : Nat → Nat → List Nat → List Msg
  | 0, _, _ => []
  | k + 1, start, codes =>
    if codes = [] then []
    else .line line row start (codes.take most).length (codes.take most) :: lineMsgs line row most k (start + most) (codes.drop most)

/-- The CFG_WRITE of scales that names a line as L_a (R205). -/
def State.scaleMsg (s : State) (p line : Nat) : List Msg :=
  let x := s.wp p
  if x.pushed = [] then []
  else [.cfgWrite 2 line ((x.pushed.map (fun w =>
    leBytes 1 (headSlot (s.waveCap p) w) ++ leBytes 1 0 ++ leBytes 2 (x.scale w))).flatten)]

/-- The frames of a line queued on an HL-2 or HL-3 port (R244, R245). -/
def State.queueLine (s : State) (p line : Nat) (f : Int) (interval : Nat) (rows : List (RowEntry × Int × List Nat)) : State :=
  let x := s.port p
  let scales := (s.scaleMsg p line).map (fun m => ({ msg := m } : OutFrame))
  let first := (rows.map (fun r => r.2.1)).foldl min (match rows with
    | r :: _ => r.2.1
    | [] => f)
  let fire : List OutFrame := if s.gen p = 3 then
      [{ msg := .fireAt line (f + x.theta) interval (rows.map (fun r => (r.1.row, r.2.1 - f))), deadline := some (first - 50000) }]
    else []
  let data := (rows.map (fun r =>
    let w := wireWidth (s.planeBits r.1.plane)
    (lineMsgs line r.1.row (32640 / max w 1) 10 0 r.2.2).map (fun m =>
      ({ msg := m, deadline := some (r.2.1 - 50000) } : OutFrame)))).flatten
  let s1 := s.setPort p { x with lineQ := x.lineQ ++ scales ++ fire ++ data }
  s1.setWp p { s1.wp p with pushed := [] }

/-- What a port does with a line that it will fire: energy, drops, and the data on their way to the head (R205, R214,
R244, R254). -/
def State.sendLine (s : State) (p t line : Nat) (tl f : Int) (interval outcome : Nat) (maint : Bool)
    (rows : List (RowEntry × List Nat)) : State :=
  let timed := rows.map (fun r => (r.1, rowInstant (s.gen p) f r.1.fine interval, r.2))
  let at_ := timed.map (fun r => r.2.1)
  let first := at_.foldl min (at_.headD f)
  let last := at_.foldl max (at_.headD f)
  let x := s.port p
  let wp := s.wp p
  let some_ := rows.any (fun r => r.2.any (fun c => decide (c ≠ 0)))
  let wave := if s.gen p = 1 ∧ some_ then (s.commonWave p).map (fun w => (w, wp.scale w)) else none
  let waveEnd : Int := match wave, s.wpBound p with
    | some (w, _), some n => first + s.get (F.WP_DELAY_DELAY_NS n) + (match wp.wave w with
      | some v => (v.duration : Int)
      | none => 0)
    | _, _ => 0
  let l : PortLine := {
    track := t, line := line, tl := tl, interval := interval, f := f, first := first, last := last, outcome := outcome
    rows := timed.map (fun r => (r.1.row, r.2.1, r.2.2)), maint := maint, wave := wave, waveEnd := waveEnd
    energy := wp.lineEnergy (rows.map (fun r => (r.1.group, r.2))) }
  let drops := (rows.map (fun r => (r.2.filter (fun c => decide (c ≠ 0))).length)).foldl (· + ·) 0
  let s1 := s.setPort p { x with lines := x.lines ++ [l], fPrev := some f, intervalPrev := interval }
  let s2 := if s.gen p = 1 then s1.setWp p { wp with pushed := [] } else s1.queueLine p line f interval timed
  if outcome = 1 ∨ outcome = 2 then s2.addDrops p drops else s2

/-! ### PORT_FETCH (R164 to R168, R229, R244, R295) -/

/-- The next line that a port of a track fetches (R164). -/
def State.nextFetch (s : State) (p t : Nat) : Option CLine :=
  match (s.track t).lines.find? (fun c => match (s.port p).fetched with
    | some k => decide (k < c.line)
    | none => true) with
  | some c => if max (c.tl - s.fetchNs t) (c.tc : Int) ≤ (s.devTime : Int) then some c else none
  | none => none

/-- The missing lines below a line that is fetched are Dropped on every port of the track (R295). -/
def State.dropMissing (s : State) (t line : Nat) : State :=
  let x := s.track t
  let l := x.missing.filter (fun k => decide (k < line))
  if l = [] then s
  else
    let n := l.length * (s.trackPorts t).length
    let s1 := s.setTrack t { x with missing := x.missing.filter (fun k => !decide (k < line)), gone := x.gone ++ l }
    ((s1.bump F.PEAL_TOLL_MISS n).pealCause 8 s1.masterId).summary 1 n

/-- A line Fired late or Dropped for overspeed (R167). -/
def State.overspeed (s : State) (t : Nat) (dropped : Bool) : State :=
  let x := s.track t
  let s1 := s.setTrack t { x with
    lastOver := some s.devTime, lateJob := if dropped then x.lateJob else satAdd 32 x.lateJob 1
    dropJob := if dropped then satAdd 32 x.dropJob 1 else x.dropJob }
  let s2 := s1.bump (if dropped then F.TRACK_OVERSPEED_DROPPED t else F.TRACK_OVERSPEED_LATE t)
  let s3 := { s2 with gov := { s2.gov with lastOver := some s2.now, overSince := true } }
  s3.cause F.TIMING_TM_INT_STATUS_OVERSPEED

/-- A line Dropped on a port at its fetch is remembered for the time in which its SENSE frame could come (R261). -/
def State.rememberDropped (s : State) (p t : Nat) (c : CLine) : State :=
  let x := s.port p
  s.setPort p { x with lines := x.lines ++ [{ track := t, line := c.line, tl := c.tl, interval := c.interval, f := c.tl,
                                              first := c.tl, last := c.tl, outcome := 4, started := true, ended := true }] }

/-- The fetch of a line on a linked port (R165 to R167, R273, R274). -/
def State.fetchLine (s : State) (p t : Nat) (c : CLine) : State :=
  let f := s.earliest p c.interval (max c.tl ((c.tc : Int) + s.fetchNs t))
  let late := f - c.tl
  let slack : Int := s.get (F.TRACK_SLACK_TOL_SLACK t) * c.interval
  if slack < late * 256 * 65536 then ((s.overspeed t true).summary 1).rememberDropped p t c
  else
    let s1 := if 0 < late then s.overspeed t false else s
    let ((rows, blank, src), s2) := s1.fetchRows c.line (s1.geo.portRows p)
    let s3 := if src then s2.bump F.WATCH_QC_LINES else s2
    let outcome := if blank then 3 else if 0 < late then 2 else 1
    s3.sendLine p t c.line c.tl f c.interval outcome false rows

/-- PORT_FETCH (R164): port `p` fetches its next line. -/
def execPortFetch (t p : Nat) (s : State) : Host.Outcome State Fault Refusal :=
  coreStep t (fun s =>
    match s.portTrack p with
    | none => s
    | some tr =>
      if p < 128 ∧ s.trackActive tr then
        match s.nextFetch p tr with
        | none => s
        | some c =>
          let s1 := if (s.port p).usage.refuseDue then s.refusePort p 8 else s
          let x := s1.port p
          let s2 := s1.setPort p { x with fetched := some c.line, therm := { x.therm with ktFetch := x.therm.kt } }
          let s3 := s2.dropMissing tr c.line
          let s4 := (s3.geo.portRows p).foldl (fun (a : State) r => a.rowDue tr c.line c.tl r) s3
          let s5 := if s4.linked p then s4.fetchLine p tr c
            else ((s4.portDropped p).summary 1).rememberDropped p tr c
          s5.pruneLines tr
      else s) s

/-- FIRE_AT_UNACKED (R247): the earliest row instant of a line has come and no ACK covers its FIRE_AT frame. -/
def execFireAtUnacked (t p : Nat) (s : State) : Host.Outcome State Fault Refusal :=
  coreStep t (fun s =>
    let x := s.port p
    let (l, s1) := s.settleLines p (s.devTime + 1) (s.flag F.THERM_TRI_STATUS_FIRE_EN) x.unacked x.lines
    if s.gen p = 3 ∧ x.lines.any (PortLine.unheard (s.devTime + 1) x.unacked) then
      s1.setPort p { s1.port p with lines := l }
    else s) s

/-! ### HL-1: shift and latch (R230 to R232) -/

/-- The code of a local index on an HL-1 port for a line: 0 for an index of no row (R230). -/
def State.localCode (s : State) (p : Nat) (l : PortLine) (loc : Nat) : Nat :=
  match (s.geo.portRows p).findSome? (fun r => (r.indexOf loc).map (fun k => (r.row, k))) with
  | some (row, k) => (match l.rows.find? (fun x => decide (x.1 = row)) with
    | some x => x.2.2.getD k 0
    | none => 0)
  | none => 0

/-- The bits of a code, MSB first. -/
def codeBits (b c : Nat) : List Bool := (List.range b).map (fun k => bitOf c (b - 1 - k))

/-- The bits shifted for a line in their order (R230). -/
def State.shiftBits (s : State) (p : Nat) (l : PortLine) : List Bool :=
  let n := (s.port p).nozzles
  let b := s.portBits p
  let order := if s.flag (F.HP_CTRL_REVERSE_SHIFT p) then List.range n else (List.range n).reverse
  (order.map (fun k => codeBits b (s.localCode p l k))).flatten

/-- A line of a port replaced, the last one with its number and instant. -/
def State.setLine (s : State) (p : Nat) (old new : PortLine) : State :=
  let x := s.port p
  s.setPort p { x with lines := x.lines.map (fun l => if l = old then new else l) }

/-- HL1_SHIFT_START (R231). -/
def execHl1ShiftStart (t p : Nat) (s : State) : Host.Outcome State Fault Refusal :=
  coreStep t (fun s =>
    match (s.port p).lines.find? (fun l => !l.shifted && decide (l.outcome < 4)) with
    | none => s
    | some l =>
      let start := max (l.first - s.shiftNs p - 40) ((s.port p).latchEnd + 20)
      if s.gen p = 1 ∧ s.linked p ∧ start ≤ (s.devTime : Int) then
        (s.setLine p l { l with shifted := true }).emit (.shift p (s.shiftBits p l))
      else s) s

/-- HL1_LATCH (R210, R211, R231, R232): no latch is sent while the voted fire-enable is inactive (R21). -/
def execHl1Latch (t p : Nat) (s : State) : Host.Outcome State Fault Refusal :=
  coreStep t (fun s =>
    match (s.port p).lines.find? (fun l => l.shifted && !l.latched && decide (l.outcome < 4)) with
    | none => s
    | some l =>
      if s.gen p = 1 ∧ s.linked p ∧ l.first ≤ (s.devTime : Int) then
        let s1 := s.setLine p l { l with latched := true }
        if s.flag F.THERM_TRI_STATUS_FIRE_EN then
          let s2 := (s1.setPort p { s1.port p with latchEnd := l.first + (s1.port p).latchNs }).emit (.latch p l.first)
          match l.wave, s2.wpBound p with
          | some (w, scale), some n => (match (s2.wp p).wave w with
            | some v => s2.startWave n w scale v l.first
            | none => s2)
          | _, _ => s2
        else s1
      else s) s

/-! ### HL-2: fire strobes (R236) -/

/-- The next fire strobe of a port: its line and its row instant. -/
def State.nextStrobe (s : State) (p : Nat) : Option (PortLine × Int) :=
  (s.port p).lines.findSome? (fun l =>
    if 4 ≤ l.outcome then none
    else
      let l' := (l.rows.map (fun r => r.2.1)).filter (fun i => !l.strobes.contains i)
      match l' with
      | [] => none
      | i :: rest => some (l, rest.foldl min i))

/-- HL2_FIRE_STROBE (R236): a displaced strobe makes its rows fire late. -/
def execHl2FireStrobe (t p : Nat) (s : State) : Host.Outcome State Fault Refusal :=
  coreStep t (fun s =>
    match s.nextStrobe p with
    | none => s
    | some (l, i) =>
      let x := s.port p
      let latency := match x.desc with
        | some d => d.latency
        | none => 0
      let due := i - x.delta - latency
      if s.gen p = 2 ∧ s.linked p ∧ due ≤ (s.devTime : Int) then
        if s.flag F.THERM_TRI_STATUS_FIRE_EN then
          let start := max due x.strobeEnd
          let slip := decide (due < start)
          let mask := ((l.rows.filter (fun r => decide (r.2.1 = i))).map (fun r => 2 ^ r.1)).foldl (· + ·) 0
          let l1 := { l with strobes := i :: l.strobes, outcome := if slip && decide (l.outcome = 1) then 2 else l.outcome }
          let s1 := s.setLine p l l1
          let s2 := (s1.setPort p { s1.port p with strobeEnd := start + 100000 / (s.mbaud p : Int) }).emit
            (.strobe p start (l.line % 256) mask)
          if slip then (((s2.bump F.HEADPORT_STROBE_SLIP).portCount p 7).portCause p 6) else s2
        else s.setLine p l { l with strobes := i :: l.strobes }
      else s) s

/-! ### Firings of maintenance activities (R256 to R258, R264) -/

/-- The codes of a firing on a port's rows, and whether quick cover found a source (R256, R258, R264). -/
def State.maintRows (s : State) (p : Nat) (m : Maint) : (List (RowEntry × List Nat) × Bool) × State :=
  let rows := (s.geo.portRows p).filter (fun r => m.rows.contains r.row)
  let all := fun (f : RowEntry → Nat) => rows.map (fun r => (r, List.replicate r.n (f r)))
  if m.kind = 2 then
    let rec_ := m.pattern.getD (m.fired % max m.pattern.length 1) []
    rows.foldl (fun (a : (List (RowEntry × List Nat) × Bool) × State) r =>
      let codes := match rec_.find? (fun x => decide (x.1 = r.row)) with
        | some x => x.2
        | none => List.replicate r.n 0
      let (out, src, s1) := a.2.quickCover r m.fired none codes
      ((a.1.1 ++ [(r, out)], a.1.2 || src), s1)) (([], false), s)
  else if m.kind = 3 then
    ((all (fun r => if m.cls = 0 then 0 else bitsOf (s.get (F.WATCH_REF_CODE (r.group / 8))) (4 * (r.group % 8)) 4), false), s)
  else ((all (fun _ => m.code), false), s)

/-- MAINT_FIRING (R257): the next firing is fetched 200 µs, the default FETCH, before its instant; after the last firing
the activity ends. -/
def execMaintFiring (t p : Nat) (s : State) : Host.Outcome State Fault Refusal :=
  coreStep t (fun s =>
    match (s.port p).maint with
    | none => s
    | some m =>
      let time : Int := m.startAt + roundHalfUp ((m.fired * 1000000000 : Nat) / (max m.rate 1 : Rat))
      if m.total ≤ m.fired then
        let over_ := match (s.port p).fPrev with
          | some f => decide (f ≤ (s.devTime : Int))
          | none => true
        if over_ then s.endMaint p 0 else s
      else if s.linked p ∧ time - 200000 ≤ (s.devTime : Int) then
        let interval := (roundHalfUp ((65536000000000 : Rat) / (max m.rate 1 : Rat))).toNat
        let ((rows, src), s1) := s.maintRows p m
        let s2 := if src then s1.bump F.WATCH_QC_LINES else s1
        let x := s2.port p
        let s3 := s2.setPort p { x with
          maint := some { m with fired := m.fired + 1 }, therm := { x.therm with ktFetch := x.therm.kt } }
        let f := s3.earliest p interval time
        let s4 := s3.sendLine p 0 m.fired f f interval 1 true rows
        if m.kind = 3 then s4.set F.WATCH_LEARN_STATUS_FIRINGS (m.fired + 1) else s4
      else s) s

end Sys2Proof.Machine
end

