-- ==== Sys2Proof/Machine/Ecdsa.lean ====
section
/-! DEFINITION. The verification of an ECDSA P-256 signature (FIPS 186 and SEC 1), which R363 and R364 name. Points stand in
Jacobian coordinates (x, y, z), z = 0 for the point at infinity. -/

namespace Sys2Proof.Machine

/-- The prime of the field of P-256. -/
def p256P : Nat := 0xffffffff00000001000000000000000000000000ffffffffffffffffffffffff

/-- The order of the group. -/
def p256N : Nat := 0xffffffff00000000ffffffffffffffffbce6faada7179e84f3b9cac2fc632551

/-- The coefficient b of y² = x³ − 3x + b. -/
def p256B : Nat := 0x5ac635d8aa3a93e7b3ebbd55769886bc651d06b0cc53b0f63bce3c3e27d2604b

/-- The base point. -/
def p256G : Nat × Nat :=
  (0x6b17d1f2e12c4247f8bce6e563a440f277037d812deb33a0f4a13945d898c296,
   0x4fe342e2fe1a7f9b8ee7eb4a7c0f9e162bce33576b315ececbb6406837bf51f5)

/-- `b ^ e` modulo m, over the lowest `n` bits of e. -/
def powMod (m b e : Nat) : Nat → Nat
  | 0 => 1 % m
  | n + 1 =>
    let r := powMod m b (e / 2) n
    if e % 2 = 1 then r * r % m * b % m else r * r % m

/-- The inverse modulo a prime below 2^256. -/
def invMod (m a : Nat) : Nat := powMod m (a % m) (m - 2) 256

/-- The difference modulo the prime of the field. -/
def subP (a b : Nat) : Nat := (a + p256P - b % p256P) % p256P

/-- A point of the curve in Jacobian coordinates. -/
abbrev Jac := Nat × Nat × Nat

/-- A point doubled. -/
def jacDouble (q : Jac) : Jac :=
  let (x, y, z) := q
  if z = 0 ∨ y = 0 then (1, 1, 0)
  else
    let yy := y * y % p256P
    let s := 4 * x * yy % p256P
    let zz := z * z % p256P
    let m := 3 * subP x zz * (x + zz) % p256P
    let x' := subP (m * m) (2 * s)
    (x', subP (m * subP s x') (8 * yy * yy), 2 * y * z % p256P)

/-- The sum of two points. -/
def jacAdd (a b : Jac) : Jac :=
  let (x1, y1, z1) := a
  let (x2, y2, z2) := b
  if z1 = 0 then b
  else if z2 = 0 then a
  else
    let u1 := x1 * z2 % p256P * z2 % p256P
    let u2 := x2 * z1 % p256P * z1 % p256P
    let s1 := y1 * z2 % p256P * z2 % p256P * z2 % p256P
    let s2 := y2 * z1 % p256P * z1 % p256P * z1 % p256P
    if u1 = u2 then (if s1 = s2 then jacDouble a else (1, 1, 0))
    else
      let h := subP u2 u1
      let r := subP s2 s1
      let hh := h * h % p256P
      let hhh := h * hh % p256P
      let v := u1 * hh % p256P
      let x3 := subP (r * r) (hhh + 2 * v)
      (x3, subP (r * subP v x3) (s1 * hhh), h * z1 % p256P * z2 % p256P)

/-- A point multiplied by k, over the lowest `n` bits of k. -/
def jacMul (q : Jac) (k : Nat) : Nat → Jac
  | 0 => (1, 1, 0)
  | n + 1 =>
    let d := jacDouble (jacMul q (k / 2) n)
    if k % 2 = 1 then jacAdd d q else d

/-- The public key is a point of the curve. -/
def onCurve (x y : Nat) : Bool :=
  decide (x < p256P ∧ y < p256P ∧ y * y % p256P = subP (x * x % p256P * x + p256B) (3 * x))

/-- The signature (r, s) over a hash of 32 bytes verifies with the public key (x, y): `msg` is the hash as a number.
Log 53 (PRESUMED). -/
def ecdsaVerify (x y msg r s : Nat) : Bool :=
  if !onCurve x y || !decide (1 ≤ r ∧ r < p256N ∧ 1 ≤ s ∧ s < p256N) then false
  else
    let w := invMod p256N s
    let u1 := msg * w % p256N
    let u2 := r * w % p256N
    let (px, _, pz) := jacAdd (jacMul (p256G.1, p256G.2, 1) u1 256) (jacMul (x, y, 1) u2 256)
    let zi := invMod p256P pz
    decide (pz ≠ 0) && decide (px * zi % p256P * zi % p256P % p256N = r)

end Sys2Proof.Machine
end

