-- ==== Sys2Proof/Machine/Encoder.lean ====
section
/-! DEFINITION. Encoder front ends, the position estimator, its watchdog and its faults (R139 to R153). -/

namespace Sys2Proof.Machine

/-- KIND of encoder `e` (R139). -/
def State.encKind (s : State) (e : Nat) : Nat := s.get (F.ENC_EN_CTRL_KIND e)

/-- v in counts per second. -/
def Enc.perSecond (x : Enc) : Rat := x.v * 1000000000

/-- The watchdog of encoder `e` is armed (R151). -/
def State.encArmed (s : State) (e : Nat) : Bool :=
  let v := (s.enc e).perSecond
  decide ((s.enc e).est = .locked) && decide ((s.get (F.ENC_WD_ARM e) : Rat) ≤ (if v < 0 then -v else v))

/-- The code of EN_STATUS.STATE. -/
def Enc.stateCode (x : Enc) : Nat :=
  if x.inputFault then 3 else match x.est with
    | .off => 0 | .acquiring => 1 | .locked => 2

/-- Encoder `e` replaced, and its registers with it. -/
def State.setEnc (s : State) (e : Nat) (x : Enc) : State :=
  let s1 := { s with encs := s.encs.set {} e x }
  let levels := if s1.encKind e = 0 then 0 else if s1.encKind e = 1 then b2n x.a + 2 * b2n x.b + 4 * b2n x.z
    else 1 + 2 * b2n x.b
  let s2 := ((s1.set (F.ENC_EN_STATUS_STATE e) x.stateCode).set (F.ENC_EN_STATUS_ARMED e) (b2n (s1.encArmed e))).set
    (F.ENC_EN_STATUS_REJECTS e) (min x.rejects 255)
  let s3 := ((s2.set (F.ENC_EN_STATUS_LEVELS e) levels).set (F.ENC_EN_STATUS_WARN e) (b2n x.warn)).set64
    (F.ENC_POS_LO e) (F.ENC_POS_HI e) (ofSigned 64 x.x)
  s3.set (F.ENC_VELOCITY e) (ofSigned 32 (roundOpen (16 * x.perSecond)))

/-- The running tracks that encoder `e` paces. -/
def State.pacedBy (s : State) (e : Nat) : List Nat :=
  (List.range 16).filter (fun t => decide ((s.track t).st = 1) && s.byEncoder t && decide (s.trackEnc t = some e))

/-- A fault of encoder `e` is recorded and stops the tracks that it paces (R148, R150, R151, R153, R168): 1 STALL,
2 SIGNAL, 3 INPUT. -/
def State.encFault (s : State) (e kind : Nat) : State :=
  let s1 := (s.set (F.ENC_EN_STATUS_FAULT e) kind).causeBit ⟨F.TIMING_TM_INT_STATUS_OVERSPEED.off, 0, 32⟩ (kind + 1)
  (s1.pacedBy e).foldl (fun s' t => s'.stopAtLast t kind) s1

/-- The estimator starts afresh (R149): its next accepted sample is a first one. -/
def Enc.restart (x : Enc) : Enc := { x with est := .acquiring, started := false, run := 0 }

/-- A rejected sample is counted, and raises SIGNAL when PLAUS_LIMIT is reached (R150). -/
def State.rejectSample (s : State) (e : Nat) : State :=
  let x := s.enc e
  let n := x.rejects + 1
  let s1 := s.setEnc e { x with rejects := n }
  if n = s.get (F.ENC_PLAUS_LIMIT e) then (s1.setEnc e (s1.enc e).restart).encFault e 2 else s1

/-- A FRAME error (R144, R145, R150). -/
def State.frameError (s : State) (e : Nat) : State :=
  let x := s.enc e
  let s1 := (s.bump (F.ENC_ERRORS_FRAME e)).setEnc e (if x.est = .acquiring then { x with run := 0 } else x)
  s1.rejectSample e

/-- What the estimator becomes when it accepts a sample (R149): `z` in counts, `ts` in 1/2 ns. -/
def Enc.accept (x : Enc) (alpha beta : Nat) (z ts : Int) : Enc :=
  if x.started then
    let dt : Rat := ((ts - x.tPrev : Int) : Rat) / 2
    let pred : Rat := (x.x : Rat) / 65536 + x.v * dt
    let r := (z : Rat) - pred
    let run := x.run + 1
    { x with
      x := roundOpen ((pred + (alpha : Rat) / 65536 * r) * 65536)
      v := x.v + (beta : Rat) / 65536 * r / dt
      tPrev := ts, rejects := 0, run := run
      est := if 64 ≤ run then .locked else x.est }
  else { x with x := z * 65536, v := 0, tPrev := ts, rejects := 0, run := 1, started := true, est := .acquiring }

/-- A sample lies beyond the bound of R149. -/
def State.implausible (s : State) (e : Nat) (z ts : Int) : Bool :=
  let x := s.enc e
  let dt : Rat := ((ts - x.tPrev : Int) : Rat) / 2000000000
  let r := (z : Rat) - ((x.x : Rat) / 65536 + x.v * (dt * 1000000000))
  let bound := (16 * s.get (F.ENC_MAX_ACCEL e) : Rat) * dt * dt / 2 + (s.get (F.ENC_PLAUS_MARGIN e) : Rat) / 16
  decide (x.est = .locked) && decide (bound < (if r < 0 then -r else r))

/-- The highest positions of the tracks that encoder `e` paces follow it. -/
def State.followMax (s : State) (e : Nat) : State :=
  (s.pacedBy e).foldl (fun s' t => s'.trackMax t (s'.xHatNow e)) s

/-- One sample of encoder `e` (R149 to R151): `z` in counts, taken at `ts` in 1/2 ns. A sample that is not later than the
last accepted one does not come about. -/
def State.takeSample (s : State) (e : Nat) (z ts : Int) : State :=
  let x := s.enc e
  if x.started && decide (ts ≤ x.tPrev) then s
  else if x.started && s.implausible e z ts then (s.bump (F.ENC_ERRORS_IMPLAUSIBLE e)).rejectSample e
  else
    let s1 := s.followMax e
    let y := (s1.enc e).accept (s.get (F.ENC_ALPHA_BETA_ALPHA e)) (s.get (F.ENC_ALPHA_BETA_BETA e)) z ts
    let s2 := (s1.setEnc e { y with wdFrom := s.now, wdLate := false }).bump (F.ENC_SAMPLES e)
    let ns := ((ts + 2 * (s.devTime - s.now : Int)) / 2)
    let s3 := (s2.set (F.ENC_SAMPLE_TIME e) (ofSigned 32 ns)).followMax e
    if x.wdLate then (s3.bump (F.ENC_ERRORS_WD_LATE e)).cause F.TIMING_TM_INT_STATUS_WD_LATE else s3

/-- The step from the levels (a, b) to (a', b'), forward when A leads B; 0 where both change or none does (R142). -/
def quadStep (a b a' b' : Bool) : Int :=
  if a ≠ a' ∧ b = b' then (if a' ≠ b then 1 else -1)
  else if a = a' ∧ b ≠ b' then (if b' = a then 1 else -1)
  else 0

/-! ### Events of the encoders -/

/-- ENCODER_SAMPLE (R141, R142, R149): the filtered levels of A, B and Z after an accepted change; `half`: it is recognised
on the sampling edge half a ns after `t`. While the encoder is not a quadrature encoder, or its input is lost, the levels
follow the inputs and give no sample. -/
def execEncoderSample (t e : Nat) (a b z half : Bool) (s : State) : Host.Outcome State Fault Refusal :=
  coreStep t (fun s =>
    if 4 ≤ e then s
    else
      let x := s.enc e
      let z' := x.z && z
      if s.encKind e ≠ 1 ∨ x.inputFault then s.setEnc e { x with a := a, b := b, z := z' }
      else if a ≠ x.a ∧ b ≠ x.b then
        (s.setEnc e { x with a := a, b := b, z := z' }).bump (F.ENC_ERRORS_ILLEGAL e)
      else if a = x.a ∧ b = x.b then s.setEnc e { x with z := z' }
      else
        let d := quadStep x.a x.b a b
        let n := x.count + (if s.flag (F.ENC_EN_CTRL_DIR_INVERT e) then -d else d)
        let s1 := s.setEnc e { x with a := a, b := b, z := z', count := n }
        let ts : Int := 2 * (s.now : Int) + (if half then 1 else 0) - 5 * ((s.get (F.ENC_EN_CTRL_FILTER e) : Int) - 1)
        s1.takeSample e n ts) s

/-- Z_INDEX (R143): an accepted rising edge of Z. -/
def execZIndex (t e : Nat) (s : State) : Host.Outcome State Fault Refusal :=
  coreStep t (fun s =>
    let x := s.enc e
    if e < 4 ∧ s.encKind e = 1 ∧ !x.z ∧ !x.inputFault then
      let s1 := s.setEnc e { x with z := true }
      if s.flag (F.ENC_EN_CTRL_Z_EN e) then s1.set (F.ENC_Z_POS e) (ofSigned 32 (x.x / 65536)) else s1
    else s) s

/-- A reading of an absolute encoder unwrapped to the value nearest to the prediction (R147). Log 33 (DESIGN CHOICE). -/
def unwrap (bits : Nat) (reading : Int) (pred : Rat) : Int :=
  let m : Int := 2 ^ bits
  let lo := reading + m * (((pred - (reading : Rat)) / (m : Rat)).floor)
  let d := pred - (lo : Rat)
  let e := ((lo + m : Int) : Rat) - pred
  if d < e then lo else if e < d then lo + m else if Config.unwrapUp lo then lo + m else lo

/-- An absolute reading as a sample (R147), taken at device time `clk` of the first clock edge less LATCH_NS. -/
def State.absolute (s : State) (e clk value : Nat) : State :=
  let x := s.enc e
  let ts : Int := 2 * ((clk : Int) - (s.get (F.ENC_LATCH_NS e) : Int))
  let r : Int := if s.flag (F.ENC_EN_CTRL_DIR_INVERT e) then -(value : Int) else value
  let z := if x.started then unwrap (s.get (F.ENC_EN_CTRL_BITS e)) r (x.xHat ((ts : Rat) / 2)) else r
  s.takeSample e z ts

/-- Gray code to binary. -/
def grayToBinary (v : Nat) : Nat → Nat
  | 0 => v
  | n + 1 => v ^^^ grayToBinary (v / 2) n

/-- The next reading of an absolute encoder is due at the edge `clk`, and the period runs on. -/
def State.readDue (s : State) (e kind clk : Nat) : Bool :=
  decide (e < 4 ∧ s.encKind e = kind) && !(s.enc e).inputFault && decide ((s.enc e).readAt ≤ clk)

/-- The reading after the one at `clk`. -/
def State.nextRead (s : State) (e clk : Nat) (level : Bool) : State :=
  s.setEnc e { s.enc e with readAt := clk + 1000 * s.get (F.ENC_ABS_CFG_SAMPLE_US e), b := level }

/-- SSI_READ (R144): the first falling clock edge at `clk`, the data line before it, the bits read, MSB first. -/
def execSsiRead (t e clk : Nat) (high : Bool) (value : Nat) (s : State) : Host.Outcome State Fault Refusal :=
  coreStep t (fun s =>
    if s.readDue e 2 clk then
      let s1 := s.nextRead e clk high
      let bits := s.get (F.ENC_EN_CTRL_BITS e)
      let v := value % 2 ^ bits
      if high then s1.absolute e clk (if s.flag (F.ENC_EN_CTRL_GRAY e) then grayToBinary v bits else v)
      else s1.frameError e
    else s) s

/-- One bit of the 6-bit CRC with polynomial x^6 + x + 1 (R145). -/
def crc6Step (crc : Nat) (bit : Bool) : Nat :=
  let c := (2 * crc) % 64
  if (decide (32 ≤ crc)) != bit then c ^^^ 3 else c

/-- The CRC over the low `n` bits of a value, the highest first. -/
def crc6 (v : Nat) : Nat → Nat → Nat
  | 0, crc => crc
  | n + 1, crc => crc6 v n (crc6Step crc (bitOf v n))

/-- BISS_READ (R145): the first falling MA edge at `clk`, and the frame: none where no Start bit came within BITS + 16
clocks, else the position bits, nE, nW and the CRC as received. -/
def execBissRead (t e clk : Nat) (frame : Option (Nat × Bool × Bool × Nat)) (s : State) : Host.Outcome State Fault Refusal :=
  coreStep t (fun s =>
    if s.readDue e 3 clk then
      let s1 := s.nextRead e clk true
      let bits := s.get (F.ENC_EN_CTRL_BITS e)
      match frame with
      | none => s1.frameError e
      | some (value, nE, nW, crc) =>
        let v := value % 2 ^ bits
        if crc % 64 ≠ 63 - crc6 (4 * v + 2 * b2n nE + b2n nW) (bits + 2) 0 ∨ !nE then s1.frameError e
        else (s1.setEnc e { s1.enc e with warn := !nW }).absolute e clk v
    else s) s

/-- ENC_INPUT_FAULT (R148). -/
def execEncInputFault (t e : Nat) (s : State) : Host.Outcome State Fault Refusal :=
  coreStep t (fun s =>
    let x := s.enc e
    if e < 4 ∧ s.encKind e ≠ 0 ∧ !x.inputFault then (s.setEnc e { x with inputFault := true }).encFault e 3 else s) s

/-- ENC_INPUT_RECOVER (R149). -/
def execEncInputRecover (t e : Nat) (s : State) : Host.Outcome State Fault Refusal :=
  coreStep t (fun s =>
    let x := s.enc e
    if x.inputFault then s.setEnc e { x.restart with inputFault := false } else s) s

/-- ENC_STALL (R151): the armed watchdog has seen no accepted sample for WD_TIME. -/
def execEncStall (t e : Nat) (s : State) : Host.Outcome State Fault Refusal :=
  coreStep t (fun s =>
    let x := s.enc e
    if e < 4 ∧ s.encArmed e ∧ !x.wdLate ∧ x.wdFrom + 1000 * s.get (F.ENC_WD_TIME e) ≤ s.now then
      (s.setEnc e { x with wdLate := true }).encFault e 1
    else s) s

/-- At the entry into READY the faults clear; an INPUT fault whose cause persists is raised again (R153). -/
def State.clearEncFaults (s : State) : State :=
  (List.range 4).foldl (fun s' e =>
    let s1 := s'.set (F.ENC_EN_STATUS_FAULT e) 0
    if (s1.enc e).inputFault then s1.encFault e 3 else s1) s

/-! ### TIMING_ENCODER (R139, R146, R149, R153, R185) -/

/-- TIMING_ENCODER. -/
def timingEncoder : Cmd := {
  op := 0x400, modes := inConfigure, len := (· = 32), prep := true
  range := fun rq _ => inRange (
    decide (rq.u 0 1 < 4 ∧ rq.u 1 1 < 4 ∧ rq.u 2 1 < 16 ∧ 1 ≤ rq.u 3 1 ∧ rq.u 7 1 = 0 ∧ rq.u 31 1 = 0) &&
    within (rq.u 4 2) 100 10000 && within (rq.u 6 1) 8 40 && within (rq.u 8 2) 10 1000 && decide (1 ≤ rq.u 12 2) &&
    decide (1 ≤ rq.u 14 2) && within (rq.u 16 4) 1 1000000 && within (rq.u 20 4) 1 16777215 && decide (1 ≤ rq.u 24 4) &&
    decide (1 ≤ rq.u 28 2) && decide (1 ≤ rq.u 30 1) &&
    (decide (rq.u 1 1 < 2) || decide ((rq.u 6 1 + 1) * 1000 + 20 * rq.u 4 2 ≤ rq.u 8 2 * rq.u 4 2)))
  apply := fun _ rq s =>
    let e := rq.u 0 1
    let f := rq.u 2 1
    let s1 := (((s.set (F.ENC_EN_CTRL_KIND e) (rq.u 1 1)).set (F.ENC_EN_CTRL_DIR_INVERT e) f).set
      (F.ENC_EN_CTRL_Z_EN e) (f / 2)).set (F.ENC_EN_CTRL_TERM_EN e) (f / 4)
    let s2 := ((s1.set (F.ENC_EN_CTRL_GRAY e) (f / 8)).set (F.ENC_EN_CTRL_FILTER e) (rq.u 3 1)).set
      (F.ENC_EN_CTRL_BITS e) (rq.u 6 1)
    let s3 := ((s2.set (F.ENC_ABS_CFG_CLOCK_KHZ e) (rq.u 4 2)).set (F.ENC_ABS_CFG_SAMPLE_US e) (rq.u 8 2)).set
      (F.ENC_LATCH_NS e) (rq.u 10 2)
    let s4 := (((s3.set (F.ENC_ALPHA_BETA_ALPHA e) (rq.u 12 2)).set (F.ENC_ALPHA_BETA_BETA e) (rq.u 14 2)).set
      (F.ENC_WD_TIME e) (rq.u 16 4)).set (F.ENC_WD_ARM e) (rq.u 20 4)
    let s5 := ((s4.set (F.ENC_MAX_ACCEL e) (rq.u 24 4)).set (F.ENC_PLAUS_MARGIN e) (rq.u 28 2)).set (F.ENC_PLAUS_LIMIT e) (rq.u 30 1)
    let x := s5.enc e
    let y := { x.restart with rejects := 0, inputFault := x.inputFault && decide (rq.u 1 1 ≠ 0), readAt := s.now }
    let s6 := (s5.setEnc e (if rq.u 1 1 = 0 then { y with est := .off } else y)).set (F.ENC_EN_STATUS_FAULT e) 0
    ok (if y.inputFault then s6.encFault e 3 else s6) }

end Sys2Proof.Machine
end

