-- ==== Sys2Proof/Machine/Governor.lean ====
section
/-! DEFINITION. The speed governor: its evaluation every 100 µs, its limits, the PACE outputs, and the ring values that go
with an evaluation (R172 to R179, R309 to R311). -/

namespace Sys2Proof.Machine

/-- The limits of R173 but for the ring limit. -/
structure Limits where
  runway : Nat := 16
  thermal : Nat := 16
  rate : Nat := 16
  cellar : Nat := 16
  line : Nat := 16
  speed : Nat := 16
  host : Nat := 16
  safety : Nat := 16
  deriving DecidableEq, Repr

/-- L_local (R173). -/
def Limits.least (l : Limits) : Nat :=
  min (min (min l.runway l.thermal) (min l.rate l.cellar)) (min (min l.line l.speed) (min l.host l.safety))

/-- The reason bits of the limits but for RING, IDLE and RAISING (R178). -/
def Limits.reasons (l : Limits) : Nat :=
  b2n (decide (l.runway < 16)) + 2 * b2n (decide (l.thermal < 16)) + 4 * b2n (decide (l.rate < 16)) +
    8 * b2n (decide (l.cellar < 16)) + 16 * b2n (decide (l.line < 16)) + 64 * b2n (decide (l.speed < 16)) +
    128 * b2n (decide (l.host < 16)) + 512 * b2n (decide (l.safety = 0))

/-- The tracks whose lines still come about: RUNNING or STOPPING. Log 35 (DEDUCED). -/
def State.liveTracks (s : State) : List Nat := (List.range 16).filter s.trackActive

/-- The runway limit (R173). -/
def State.runwayLimit (s : State) : Nat :=
  let l := s.openStreams.filter (fun n => decide ((s.stream n).st = 1) && s.trackActive (s.stream n).bind.track)
  match l.map s.runway with
  | [] => 16
  | r :: rest => min 16 (16 * rest.foldl min r / max 1 (s.get F.TIMING_RUNWAY_TARGET))

/-- The greatest power step over the modules on ports of running tracks (R173, R217). -/
def State.headStep (s : State) : Nat :=
  ((s.liveTracks.map s.trackPorts).flatten.map (fun p => (s.wp p).step)).foldl max 0

/-- The head-rate limit of one track, none without a linked port (R173): RATED is in 1/16 Hz. -/
def State.rateLimit (s : State) (t : Nat) : Option Nat :=
  match ((s.trackPorts t).filter s.linked).map (fun p => (s.port p).fMax) with
  | [] => none
  | f :: rest => some (min 16 (256 * rest.foldl min f / max 1 (s.get (F.TRACK_RATED t))))

/-- A bandwidth limit (R68, R134, R173). -/
def bandLimit (p limit load : Nat) : Nat := if limit ≤ load then min 16 (p * limit / (load + 1)) else 16

/-- HYST in ns (R174). -/
def State.govHyst (s : State) : Nat := 1000000 * s.get F.TIMING_HYST

/-- The overspeed limit at an evaluation (R173). -/
def State.overLimit (s : State) : Nat :=
  if s.gov.overSince then s.gov.p - 1
  else match s.gov.lastOver with
    | some t => if t + s.govHyst ≤ s.now then 16 else s.gov.overLimit
    | none => s.gov.overLimit

/-- The limits of an evaluation in TRACK and CLOCK (R173). Log 35 (DEDUCED). -/
def State.limits (s : State) : Limits := {
  runway := s.runwayLimit
  thermal := 16 - 2 * max (s.get F.THERM_DIE_STATUS_STEP) s.headStep
  rate := (s.liveTracks.filterMap s.rateLimit).foldl min 16
  cellar := bandLimit s.gov.p (s.get F.CELLAR_BW_LIMIT_LIMIT) (s.get F.CELLAR_BW_STATUS_LOAD)
  line := bandLimit s.gov.p (s.get F.LINE_BW_LIMIT_LIMIT) (s.get F.LINE_LOAD_BUSIEST)
  speed := s.overLimit
  host := min 16 (s.get F.TIMING_GOV_CTRL_HOST_CAP)
  safety := if s.flag F.THERM_TRI_STATUS_FIRE_EN then 16 else 0 }

/-- P by the hysteresis of R174. Log 35 (DEDUCED). -/
def State.hystP (s : State) (l : Nat) : Nat :=
  if l < s.gov.p then l
  else if s.gov.p < l ∧ s.gov.lastChange + s.govHyst ≤ s.now then s.gov.p + 1
  else s.gov.p

/-- P takes its new value, with the causes of GOV_INT_STATUS. -/
def State.setP (s : State) (p : Nat) : State :=
  let old := s.gov.p
  let s1 := (s.set F.TIMING_GOV_STATUS_P p)
  let s2 := { s1 with gov := { s1.gov with p := p, minP := min s1.gov.minP p,
                                           lastChange := if p = old then s1.gov.lastChange else s1.now } }
  if p < old then
    let s3 := s2.cause F.TIMING_GOV_INT_STATUS_LOWERED
    if p = 0 ∧ (s.mode = .track ∨ s.mode = .clock) then s3.causeBit ⟨F.TIMING_GOV_INT_STATUS_LOWERED.off, 0, 32⟩ 2 else s3
  else if old < p then s2.causeBit ⟨F.TIMING_GOV_INT_STATUS_LOWERED.off, 0, 32⟩ 1
  else s2

/-- The limit registers. -/
def State.showLimits (s : State) (l : Limits) (ring : Nat) : State :=
  let s1 := ((s.set F.TIMING_LIMITS_A_RUNWAY l.runway).set F.TIMING_LIMITS_A_THERMAL l.thermal).set F.TIMING_LIMITS_A_RATE l.rate
  let s2 := (s1.set F.TIMING_LIMITS_A_BANDWIDTH (min l.cellar l.line)).set F.TIMING_LIMITS_B_OVERSPEED l.speed
  let fell := decide (ring < l.least) && !decide (s.get F.TIMING_LIMITS_B_RING < s.get F.TIMING_LIMITS_B_LOCAL)
  let s3 := (s2.set F.TIMING_LIMITS_B_RING ring).set F.TIMING_LIMITS_B_LOCAL l.least
  let s4 := { s3 with gov := { s3.gov with overLimit := l.speed, overSince := false } }
  if fell then s4.causeBit ⟨F.TIMING_GOV_INT_STATUS_LOWERED.off, 0, 32⟩ 3 else s4

/-- The number of 1 bits of a value of up to 32 bits. -/
def ones (v : Nat) : Nat := ((List.range 32).filter (fun k => bitOf v k)).length

/-- The serial frame of R177. -/
def serialFrame (p reason counter : Nat) : Nat :=
  let body := p + 32 * reason + 65536 * (counter % 32768)
  body + 2 ^ 31 * (ones body % 2)

/-- The PACE outputs of an evaluation (R176, R177). -/
def State.pace (s : State) : State :=
  let reason := s.get F.TIMING_GOV_STATUS_REASON
  let s1 := { s with gov := { s.gov with
    paceUntil := if s.flag F.TIMING_GOV_CTRL_PWM_EN then s.now + 6250 * s.gov.p else s.now, frame := none } }
  if s.flag F.TIMING_GOV_CTRL_SERIAL_EN then
    let f := serialFrame s.gov.p reason s.gov.counter
    let s2 := (s1.set F.TIMING_FRAME f).set F.TIMING_GOV_STATUS_COUNTER (s.gov.counter % 32768)
    ({ s2 with gov := { s2.gov with frame := some (f, s.now), counter := s.gov.counter + 1 } }).emit (.pace f)
  else s1

/-- The level of PACE, PACE_CLK and PACE_DAT (R176, R177, R179). -/
def State.pacePins (s : State) : Bool × Bool × Bool :=
  match s.core with
  | .off => (false, false, false)
  | .held => (false, true, false)
  | .run =>
    let d := match s.gov.frame with
      | some (f, t) =>
        if s.now < t + 32000 then (decide (500 ≤ (s.now - t) % 1000), bitOf f (31 - (s.now - t) / 1000)) else (true, false)
      | none => (true, false)
    (decide (s.now < s.gov.paceUntil), d.1, d.2)

/-- The ring side of an evaluation: a REPORT from a device that is not the master, a RING frame from the master (R309,
R310). `reason` holds the reason bits of its own limits. Log 69 (DEDUCED). -/
def State.ringEval (s : State) (reason : Nat) : State :=
  if s.inRing then
    let own : Report := { eval := s.devTime, p := s.get F.TIMING_LIMITS_B_LOCAL, lowest := s.deviceId, reason := reason }
    if s.isMaster then
      let all := match s.newestReport with
        | some r => own.combine r
        | none => own
      let s1 := ((s.set F.PEAL_RING_P_RING_LIMIT s.ringLimit).set F.PEAL_RING_P_RING_VALUE s.gov.p).set F.PEAL_RING_P_LOWEST all.lowest
      s1.pealOriginate 3 0xFFFF (pacePayload 1 { all with p := s.gov.p, incomplete := false, eval := s.devTime })
    else
      let s1 := (s.set F.PEAL_RING_P_RING_VALUE s.ringValue).set F.PEAL_RING_P_STALE (b2n (!s.ringFresh))
      s1.reportLocal own
  else s

/-- One evaluation of the governor (R172 to R178). Log 35 (DEDUCED). -/
def State.govern (s : State) : State :=
  let run := decide (s.mode = .track ∨ s.mode = .clock)
  let ring := if !s.inRing then 16 else if s.isMaster then s.ringLimit else s.ringValue
  let host := s.get F.TIMING_GOV_CTRL_HOST_CAP
  let (s1, p, own, reason) :=
    if run then
      let l := s.limits
      let least := min l.least ring
      let p := if s.inRing && !s.isMaster then least else s.hystP least
      let r := l.reasons + 32 * b2n (decide (ring < 16))
      (s.showLimits l ring, p, l.reasons, r + 1024 * b2n (decide (p < least)))
    else
      let p := match s.mode with
        | .ready => min (s.get F.TIMING_GOV_CTRL_IDLE_P) host
        | .maintain => min (s.get F.TIMING_GOV_CTRL_IDLE_P) host
        | _ => 0
      (s, p, 0, 256 + 128 * b2n (decide (host < 16)))
  let s2 := (s1.setP p).set F.TIMING_GOV_STATUS_REASON reason
  let s3 := if run && decide (p < 16) then s2.summary 14 else s2
  s3.pace.ringEval own

/-- MIN_RUNWAY: the least runway over the OPEN streams of running tracks, and its stream. Log 36 (DEDUCED). -/
def State.showMinRunway (s : State) : State :=
  let l := s.openStreams.filter (fun n => decide ((s.stream n).st = 1) && s.trackActive (s.stream n).bind.track)
  match l with
  | [] => (s.set F.STREAM_MIN_RUNWAY_RUNWAY 0xFFFF).set F.STREAM_MIN_RUNWAY_STREAM 0
  | n :: rest =>
    let best := rest.foldl (fun b k => if s.runway k < s.runway b then k else b) n
    (s.set F.STREAM_MIN_RUNWAY_RUNWAY (s.runway best)).set F.STREAM_MIN_RUNWAY_STREAM best

/-- GOVERNOR_EVAL (R172): at each device time that is a multiple of 100 µs. The loads and the runways of the 100 µs that
have ended are reported first (R68, R103, R134). Log 35 (DEDUCED). -/
def execGovernorEval (t : Nat) (s : State) : Host.Outcome State Fault Refusal :=
  coreStep t (fun s =>
    if s.devTime % 100000 = 0 ∧ s.devTime ≠ s.gov.lastEval then
      let s1 := (s.rollBandwidth.rollLineLoad)
      let s2 := (s1.openStreams.foldl (fun (a : State) n => a.reportRunway n) s1).showMinRunway
      let s3 := { s2 with gov := { s2.gov with lastEval := s2.devTime } }
      s3.govern
    else s) s

end Sys2Proof.Machine
end

