-- ==== Sys2Proof/Machine/Health.lean ====
section
/-! DEFINITION. What the health processor does: its heartbeat, the health log, and the HEALTH commands (R497 to R501,
R506). -/

namespace Sys2Proof.Machine

/-- The health processor runs: the firmware runs, and the heartbeat has not stopped (R369, R500). -/
def State.hpRuns (s : State) : Bool := decide (s.mode ≠ .boot) && !s.hpStopped

/-- One record written to the health log: the 256 most recent are kept (R498, R499). The log stops with the health
processor (R500). -/
def State.logHealth (s : State) (code flags inst : Nat) : State :=
  if s.hpStopped then s
  else
    let r : HealthRec := { index := s.health.written, code := code, flags := flags, inst := inst, ms := s.devTime / 1000000 }
    let l := s.health.log ++ [r]
    let wrap := decide (256 < l.length)
    let kept := if wrap then l.drop 1 else l
    let s1 : State := { s with health := { s.health with log := kept, written := s.health.written + 1 } }
    let s2 := s1.set F.HEALTH_LOG_STATUS_COUNT kept.length
    if wrap then s2.set F.HEALTH_LOG_STATUS_WRAPPED 1 else s2

/-- The instances of a code that are present, in ascending order. -/
def State.instances (s : State) (code : Nat) : List Nat :=
  (s.health.limps.filter (fun c => decide (c.1 = code))).map (·.2)

/-- LIMP_COUNT and LIMP_INFO of a code as it stands. Log 82 (DEDUCED). -/
def State.showLimp (s : State) (code : Nat) : State :=
  let l := s.instances code
  let s1 := s.set (F.HEALTH_LIMP_COUNT_PRESENT (code - 1)) (min l.length 255)
  (s1.set (F.HEALTH_LIMP_INFO_INSTANCE (code - 1)) (l.headD 0)).set (F.HEALTH_LIMP_INFO_VALID (code - 1)) (b2n (decide (l ≠ [])))

/-- LAST_LIMP and LAST_LIMP_TIME. -/
def State.showLast (s : State) (e : HealthEvent) : State :=
  let s1 := ((s.set F.HEALTH_LAST_LIMP_CODE e.code).set F.HEALTH_LAST_LIMP_RAISED (b2n e.raised)).set F.HEALTH_LAST_LIMP_VALID 1
  let s2 := (s1.set F.HEALTH_LAST_LIMP_CLASS (b2n (limpReplace e.code))).set F.HEALTH_LAST_LIMP_INSTANCE e.inst
  s2.set F.HEALTH_LAST_LIMP_TIME (s.devTime / 1000000)

/-- The event at the head of the queue is drained: its record, the registers, and its LIMP event (R498).
Log 82 (DEDUCED). -/
def State.drainHealth (s : State) : State :=
  match s.health.queue with
  | [] => s
  | e :: q =>
    let s1 : State := { s with health := { s.health with queue := q } }
    let s2 := (s1.logHealth e.code (b2n e.raised + 2 * b2n (limpReplace e.code)) e.inst).showLimp e.code
    let s3 := (if e.raised then s2.bump (F.HEALTH_LIMP_COUNT_RAISES (e.code - 1)) else s2).showLast e
    let now := limpMask s3.health.limps
    let s4 := if now = s3.health.recorded then s3
      else { s3.bump F.HEALTH_REPORT_SEQ with health := { s3.health with recorded := now } }
    if e.raised || !s4.limpPresent e.code then
      s4.postEvent 0xD (leBytes 1 e.code ++ leBytes 1 (b2n (limpReplace e.code)) ++ leBytes 1 (b2n e.raised))
    else s4

/-- HEALTH_DRAIN (R498): after READY_FOR_HOST, whose record comes first (R499). -/
def execHealthDrain (t : Nat) (s : State) : Host.Outcome State Fault Refusal :=
  coreStep t (fun s => if s.boot.ready && s.hpRuns then s.drainHealth else s) s

/-- Whole seconds since the last full reset at time `t` of the interval clock. -/
def State.secondsAt (s : State) (t : Nat) : Nat := (t - s.power.resetAt) / 1000000000

/-- HP_HEARTBEAT (R500): one more millisecond, and the seconds that have passed since the last one (R501). -/
def execHpHeartbeat (t : Nat) (s : State) : Host.Outcome State Fault Refusal :=
  coreStep t (fun s =>
    if s.mode = .boot then s
    else
      let before := s.health.beatAt.getD s.power.resetAt
      let s1 : State := { s with health := { s.health with beatAt := some s.now } }
      let s2 := s1.set F.HEALTH_HP_HEARTBEAT ((s.get F.HEALTH_HP_HEARTBEAT + 1) % 2 ^ 32)
      s2.summary 15 (s2.secondsAt s2.now - s2.secondsAt before)) s

/-! ### HEALTH commands (R506) -/

/-- The LIMP_PRESENT register. -/
def State.limpBits (s : State) : Nat := limpMask s.health.limps

/-- FLAGS of HEALTH_REPORT: a REPLACE code and an ADVISORY code is present. -/
def State.limpFlags (s : State) : Nat :=
  b2n (anyReplace s.health.limps) + 2 * b2n (s.health.limps.any (fun c => !limpReplace c.1))

/-- One of the 16 entries of HEALTH_REPORT. -/
def State.limpEntry (s : State) (code : Nat) : List Byte :=
  let l := s.instances code
  leBytes 1 code ++ leBytes 1 (b2n (limpReplace code)) ++ leBytes 1 (min l.length 255) ++ leBytes 1 0 ++
    leBytes 2 (s.get (F.HEALTH_LIMP_COUNT_RAISES (code - 1))) ++ leBytes 2 0 ++
    leBytes 4 (l.headD 0 + 2 ^ 24 * b2n (decide (l ≠ [])))

/-- HEALTH_REPORT. -/
def healthReport : Cmd := {
  op := 0xC00, modes := Mode.normal, len := (· = 0), reads := true
  apply := fun _ _ s =>
    okWith (leBytes 4 (s.get F.HEALTH_REPORT_SEQ) ++ leBytes 4 s.limpBits ++ leBytes 4 (2 * s.get F.HEALTH_LIMP_SEEN_CODE) ++
      leBytes 1 s.limpFlags ++ leBytes 3 0 ++ leBytes 8 s.devTime ++
      ((List.range 16).map (fun k => s.limpEntry (k + 1))).flatten ++
      ((List.range 16).map (fun k => leBytes 4 (s.get (F.HEALTH_SUMMARY k)))).flatten) s }

/-- The 16 bytes of a log record (R506). -/
def HealthRec.bytes (r : HealthRec) : List Byte :=
  leBytes 4 r.index ++ leBytes 1 r.code ++ leBytes 1 r.flags ++ leBytes 2 0 ++ leBytes 4 r.inst ++ leBytes 4 r.ms

/-- HEALTH_LOG. Where no record is returned the manual gives FIRST no value. Log 78 (DESIGN CHOICE). -/
def healthLog : Cmd := {
  op := 0xC01, modes := Mode.normal, len := (· = 8), reads := true
  range := fun rq _ => inRange (within (rq.u 4 2) 1 120 && decide (rq.u 6 2 = 0))
  apply := fun _ rq s =>
    let from_ := if rq.u 0 4 = 0xFFFFFFFF then 0 else rq.u 0 4
    let l := (s.health.log.filter (fun r => decide (from_ ≤ r.index))).take (rq.u 4 2)
    let first := (l.map (·.index)).headD (Config.staleField s.free)
    okWith (leBytes 4 s.health.written ++ leBytes 4 first ++ leBytes 2 l.length ++ leBytes 2 0 ++
      (l.map HealthRec.bytes).flatten) { s with free := s.free + 1 } }

/-- HEALTH_CONFIG (R496). -/
def healthConfig : Cmd := {
  op := 0xC02, modes := Mode.normal, len := (· = 8), prep := true
  range := fun rq _ => inRange (decide (rq.u 0 1 < 4 ∧ rq.u 1 1 = 0 ∧ rq.u 2 2 < 32 ∧ rq.u 4 2 % 4 = 0 ∧ rq.u 4 2 < 32768 ∧
    rq.u 6 2 = 0))
  apply := fun _ rq s =>
    let s1 := (s.set F.HEALTH_CTRL_REPLACE_PIN_EN (rq.u 0 1)).set F.HEALTH_CTRL_ALERT_PIN_EN (rq.u 0 1 / 2)
    ok ((s1.set F.HEALTH_ALERT_ENABLE (rq.u 2 2)).set F.HEALTH_INTN_ROUTE_ROUTE (rq.u 4 2 / 4)) }

/-- HEALTH_CLEAR. -/
def healthClear : Cmd := {
  op := 0xC03, modes := Mode.normal, len := (· = 4), prep := true
  range := fun rq _ => inRange (decide (rq.u 0 1 < 8 ∧ rq.u 1 3 = 0))
  apply := fun _ rq s =>
    let what := rq.u 0 1
    let s1 : State := if bitOf what 0 then
        ({ s with health := { s.health with log := [] } }.set F.HEALTH_LOG_STATUS_COUNT 0).set F.HEALTH_LOG_STATUS_WRAPPED 0
      else s
    let s2 := if bitOf what 1 then s1.set F.HEALTH_LIMP_SEEN_CODE (s1.get F.HEALTH_LIMP_SEEN_CODE &&& (s1.limpBits / 2)) else s1
    ok (if bitOf what 2 then (List.range 16).foldl (fun (a : State) k => a.set (F.HEALTH_SUMMARY k) 0) s2 else s2) }

end Sys2Proof.Machine
end

