-- ==== Sys2Proof/Machine/Reset.lean ====
section
/-! DEFINITION. What a reset leaves, and what holds the core off or in reset (R356 to R359, R385 to R390, R513, R518,
R521, R528). -/

namespace Sys2Proof.Machine

/-- Register words of the always-on domain, which a full reset that is no power-on keeps (R386, R389, R463, R469, R488):
the sensor readings, the accepted safety inputs, the clock and VIN checks, SHUTDOWN_LOG and RESET_CAUSE. -/
def keptRegs : List Nat :=
  [F.THERM_SHUTDOWN_LOG.off, F.THERM_VIN_STATUS.off, F.THERM_TRI_INPUTS.off, F.THERM_CLOCK_STATUS.off, F.GL_RESET_CAUSE.off] ++
    (List.range 32).map (fun i => (F.TS_VALUE i).off)

/-- A full reset (R385, R386): the registers take their reset values, configuration, firmware and memories are lost, and
the cause is recorded (R389). A power-on clears what every other reset keeps.
Log 5 (DEDUCED). Log 6 (DESIGN CHOICE). Log 7 (DESIGN CHOICE). Log 61 (DEDUCED). -/
def State.fullReset (s : State) (code : Nat) : State :=
  let keep := if code = 0 then [] else keptRegs
  let r : State := {
    now := s.now, clock := { off := -(s.now : Int) }, free := s.free, core := s.core, host := s.host
    otp := { cells := s.otp.cells }, sent := s.sent, pending := s.pending, power := { s.power with resetAt := s.now }
    therm := { hotAt := s.therm.hotAt, tri := ⟨s.therm.tri.cells.map (fun c => (c.1, { stopped := c.2.stopped, clockBad := c.2.clockBad, clockOk := c.2.clockOk }))⟩ } }
  let r1 := keep.foldl (fun (a : State) off => a.setReg off (s.reg off)) r
  let r2 := if code = 0 then r1 else (List.range 32).foldl (fun (a : State) i =>
    a.set (F.TS_STATUS_VALID i) (s.get (F.TS_STATUS_VALID i))) r1
  r2.set F.GL_RESET_CAUSE_CODE code

/-- The capability fields with the least counts that any member of the family has (R1, R552): R1 gives six of them.
Log 89 (DESIGN CHOICE). -/
def leastCaps : List (Fld × Nat) := [
  (F.GL_CAP0_HEAD_PORTS, 1), (F.GL_CAP0_STREAMS, 4), (F.GL_CAP0_LINE_ENGINES, 1), (F.GL_CAP0_CELLAR_CHANNELS, 0),
  (F.GL_CAP0_DECOMPRESSORS, Config.leastCount 0), (F.GL_CAP0_PEAL_PORTS, 0), (F.GL_CAP1_PCIE_WIDTH, 4),
  (F.GL_CAP1_PCIE_SPEED, 3), (F.GL_CAP1_TRACKS, Config.leastCount 1), (F.GL_CAP1_ENCODERS, Config.leastCount 2),
  (F.GL_CAP1_WAVE_PORTS, Config.leastCount 3), (F.GL_CAP1_TH_INPUTS, Config.leastCount 4),
  (F.GL_CAP1_WAVE_ENGINES, Config.leastCount 5), (F.GL_CAP1_LTRIG, Config.leastCount 6),
  (F.GL_CAP2_GENERAL_CHANNELS, Config.leastCount 7), (F.GL_CAP2_PORCHES, Config.leastCount 8),
  (F.GL_CAP2_MSIX_VECTORS, Config.leastCount 9), (F.GL_CAP2_PANTRY_BANKS, Config.leastCount 10),
  (F.GL_CAP2_HL_GENS, Config.leastCount 11)]

/-- The capability fields are loaded from critical words 56 to 59 (R552). Log 89 (DESIGN CHOICE). -/
def State.loadCaps (s : State) : State :=
  if [56, 57, 58, 59].any s.critDefault then leastCaps.foldl (fun (a : State) c => a.set c.1 c.2) s else s

/-- The core starts (steps 3 and 4 of R356): the OTP is sensed, device time counts from 0, and the ROM enters WAITING. -/
def State.startCore (s : State) : State :=
  let s1 := ({ s with core := .run, clock := { off := -(s.now : Int) } }.senseOtp).loadCaps
  (s1.set F.GL_BOOT_STATUS_STATE 0).cause F.GL_BOOT_INT_STATUS_WAITING

/-- What holds the core off: no supply, a thermal shutdown, an overvoltage (R390, R488). -/
def Power.off (x : Power) : Bool := !x.vinOk || x.hot || x.overV

/-- What holds the core in reset with the rails up (R357, R513, R521, R528). -/
def Power.held (x : Power) : Bool := x.resetLow || x.testLow || x.jtag || x.noClock

/-- The core follows what holds it: it starts once nothing does. -/
def State.settleCore (s : State) : State :=
  if s.power.off then { s with core := .off }
  else if s.power.held then { s with core := .held }
  else if s.core = .run then s else s.startCore

/-- A reset cause is recognised (R358, R385): the reset takes effect, and the core starts at once where nothing holds it. -/
def State.resetNow (s : State) (code : Nat) : State :=
  { s.fullReset code with core := .held }.settleCore

/-- A cause that holds the core off or in reset comes or goes: `p` is the new state of the pins and shutdowns.
Log 59 (DEDUCED). -/
def State.hold (s : State) (p : Power) (code : Nat) : State :=
  { ({ s with power := p }).fullReset code with core := .held }.settleCore

end Sys2Proof.Machine
end

