-- ==== Sys2Proof/Machine/Thermal.lean ====
section
/-! DEFINITION. Die and head temperatures, thermal shutdown, the Triangle, and the THERM commands (R463 to R489). -/

namespace Sys2Proof.Machine

/-! ### The Triangle (R478 to R486) -/

/-- A Triangle channel. -/
def State.tri (s : State) (k : Nat) : TriChan := s.therm.tri.get {} k

/-- A Triangle channel replaced. -/
def State.setTri (s : State) (k : Nat) (c : TriChan) : State :=
  { s with therm := { s.therm with tri := s.therm.tri.set {} k c } }

/-- The level that channel `k` has accepted on input `i`: 0 ESTOP_A_N, 1 ESTOP_B_N, 2 GUARD_N, 3 HV_OK. -/
def State.accepted (s : State) (k i : Nat) : Bool := bitOf (s.get F.THERM_TRI_INPUTS_ACCEPTED) (4 * k + i)

/-- The clocks stand outside tolerance for a channel, or have not been within it for 100 ms (R479, R480). -/
def TriChan.clockCause (c : TriChan) (now : Nat) : Bool :=
  c.clockBad || (match c.clockOk with
    | some a => decide (now < a + 100000000)
    | none => false)

/-- The cut conditions that channel `k` sees and that have not ceased, bits as in TRI_CAUSE.CUT (R479, R480). -/
def State.cutConditions (s : State) (k : Nat) : Nat :=
  let c := s.tri k
  b2n (!s.accepted k 0 || !s.accepted k 1) + 2 * b2n (decide (c.disc ≠ 0)) + 4 * b2n (decide (s.therm.wdCause ≠ 0)) +
    8 * b2n c.stalled + 16 * b2n (c.clockCause s.now)

/-- FE and HS of channel `k` (R479). A stopped channel grants nothing (R483). Log 54 (DEDUCED). -/
def State.decision (s : State) (k : Nat) : Bool × Bool :=
  let c := s.tri k
  let hs := s.mode.mayFire && !c.stopped && decide (c.latched = 0) && decide (s.cutConditions k = 0)
  (hs && !s.accepted k 2 && s.accepted k 3, hs)

/-- Two channels out of three. -/
def twoOf (f : Nat → Bool) : Bool := decide (2 ≤ ([0, 1, 2].filter f).length)

/-- The Clapper permission of channel `k` (R302). -/
def State.permits (s : State) (k : Nat) : Bool :=
  !(s.tri k).stopped && decide (s.therm.wdCause ≠ 1) && !(s.tri k).stalled && decide (s.mode ≠ .boot) && decide (s.mode ≠ .halt)

/-- The permissions are shown, and CLAPPER_N is released when they are withdrawn (R302). -/
def State.clapperCheck (s : State) : State :=
  let s1 := s.set F.PEAL_CLAPPER_PERMIT (b2n (s.permits 0) + 2 * b2n (s.permits 1) + 4 * b2n (s.permits 2))
  if s1.peal.held && !twoOf s1.permits then
    { s1.set F.PEAL_CLAPPER_HELD 0 with peal := { s1.peal with held := false, silenced := true } }
  else s1

/-- A line of a port in progress is Cut (R486, R554). -/
def PortLine.cut (d : Int) (l : PortLine) : PortLine :=
  if !l.ended && decide (l.first ≤ d ∧ d ≤ max l.last l.waveEnd) then { l with ended := true, outcome := 5 } else l

/-- The lines in progress on port `p` are Cut by the Triangle (R212, R486). Log 104 (DESIGN CHOICE). -/
def State.cutLines (s : State) (p : Nat) : State :=
  let x := s.port p
  let d : Int := s.devTime
  let new := x.lines.map (PortLine.cut d)
  let cut := (x.lines.zip new).filter (fun q => q.1 ≠ q.2)
  let gone := cut.map (fun q => q.1.line)
  let keep := fun (f : OutFrame) => match f.msg.lineNo with
    | some n => !gone.contains n
    | none => true
  let s1 := (s.setPort p { x with lines := new, lineQ := x.lineQ.filter keep }).stopWave p
  cut.foldl (fun (a : State) q =>
    if q.1.maint then a else ((a.summary 3).bump F.THERM_TRI_CUT_LINES).logCut p q.1.line 2) s1

/-- The voted fire-enable falls (R170, R212, R486). -/
def State.fireFell (s : State) : State :=
  (s.ports.keys.filter (fun p => decide (p < 128))).foldl (fun (a : State) p => a.cutLines p) s

/-- Since when channel `k` has differed from the vote (R484). -/
def State.markApart (s : State) (k : Nat) : State :=
  let c := s.tri k
  let apart := decide (bitOf (s.get F.THERM_TRI_STATUS_FE) k ≠ s.flag F.THERM_TRI_STATUS_FIRE_EN) ||
    decide (bitOf (s.get F.THERM_TRI_STATUS_HS) k ≠ s.flag F.THERM_TRI_STATUS_HSUP_EN)
  if apart then (if c.apartFrom.isSome then s else s.setTri k { c with apartFrom := some s.now })
  else (s.setTri k { c with apartFrom := none }).setBit F.THERM_TRI_STATUS_DISAGREE k false

/-- The channels evaluate their conditions (R479, R480, R482): cuts are latched while the mode may fire, the enables
follow the vote, and two channels with a latched cut make a Triangle cut. Log 54 (DEDUCED). -/
def State.triangle (s : State) : State :=
  let s1 := [0, 1, 2].foldl (fun (a : State) k =>
    if a.mode.mayFire && !(a.tri k).stopped then a.setTri k { a.tri k with latched := (a.tri k).latched ||| a.cutConditions k } else a) s
  let fe := fun k => (s1.decision k).1
  let hs := fun k => (s1.decision k).2
  let mask := fun (f : Nat → Bool) => b2n (f 0) + 2 * b2n (f 1) + 4 * b2n (f 2)
  let s2 := (s1.set F.THERM_TRI_STATUS_FE (mask fe)).set F.THERM_TRI_STATUS_HS (mask hs)
  let was := s2.flag F.THERM_TRI_STATUS_FIRE_EN
  let s3 := (s2.set F.THERM_TRI_STATUS_FIRE_EN (b2n (twoOf fe))).set F.THERM_TRI_STATUS_HSUP_EN (b2n (twoOf hs))
  let cut := twoOf (fun k => decide ((s3.tri k).latched ≠ 0))
  let bits := (List.range 5).foldl (fun m b => m + 2 ^ b * b2n (twoOf (fun k => bitOf (s3.tri k).latched b))) 0
  let hold := b2n (!s3.mode.mayFire) + 2 * b2n (twoOf (fun k => s3.accepted k 2)) + 4 * b2n (twoOf (fun k => !s3.accepted k 3))
  let s4 := (s3.set F.THERM_TRI_CAUSE_CUT bits).set F.THERM_TRI_CAUSE_HOLD hold
  let s5 := if cut && !s4.therm.cut then
      { s4 with therm := { s4.therm with cut := true } }.cause F.THERM_TRI_INT_STATUS_CUT
    else s4
  let s6 := if was && !twoOf fe then
      (if cut then s5 else s5.cause F.THERM_TRI_INT_STATUS_HOLD).fireFell
    else s5
  ([0, 1, 2].foldl State.markApart s6).clapperCheck

/-- SAFETY_INPUT_ACCEPT (R478): channel `ch` accepts a level on an input that has been steady for its filter time. -/
def State.acceptInput (s : State) (ch input : Nat) (level : Bool) : State :=
  let s1 := (s.setBit F.THERM_TRI_INPUTS_ACCEPTED (4 * ch + input) level).setBit F.THERM_TRI_INPUTS_PINS input level
  let a := s1.accepted ch 0
  let b := s1.accepted ch 1
  let c := s1.tri ch
  let disc := if a ≠ b then c.disc else if c.disc = 1 ∧ !a then 2 else if c.disc = 2 ∧ a then 0 else c.disc
  let since := if a ≠ b then (if c.discFrom.isSome then c.discFrom else some s1.now) else none
  (s1.setTri ch { c with disc := disc, discFrom := since }).triangle

/-- The E-stop inputs of channel `ch` have been accepted at different levels for longer than DISCREPANCY (R479). -/
def State.discrepant (s : State) (ch : Nat) : Bool :=
  match (s.tri ch).discFrom with
  | some a => decide (a + 1000000 * s.get F.THERM_TRI_WD_CFG_DISCREPANCY < s.now)
  | none => false

/-- The Triangle and its watchdog work while the supervisor has power, whatever the core does (R356, R357, R390).
Log 12 (DEDUCED). -/
def triStep (t : Nat) (f : State → State) (s : State) : Host.Outcome State Fault Refusal :=
  .next (s.keepQueue (if s.power.vinOk then f (s.advance t) else s.at t))

/-- SAFETY_INPUT_ACCEPT. -/
def execSafetyInputAccept (t ch input : Nat) (level : Bool) (s : State) : Host.Outcome State Fault Refusal :=
  triStep t (fun s => if ch < 3 ∧ input < 4 ∧ !(s.tri ch).stopped then s.acceptInput ch input level else s) s

/-- ESTOP_DISCREPANCY (R479). -/
def execEstopDiscrepancy (t ch : Nat) (s : State) : Host.Outcome State Fault Refusal :=
  triStep t (fun s =>
    if ch < 3 ∧ !(s.tri ch).stopped ∧ s.discrepant ch ∧ (s.tri ch).disc = 0 then
      (s.setTri ch { s.tri ch with disc := 1 }).triangle
    else s) s

/-- LIVENESS_STALL (R302, R479): the liveness counter of the fire scheduler has not advanced for 20 µs, or advances again. -/
def execLivenessStall (t : Nat) (stalled : Bool) (s : State) : Host.Outcome State Fault Refusal :=
  triStep t (fun s =>
    ([0, 1, 2].foldl (fun (a : State) k => a.setTri k { a.tri k with stalled := stalled }) s).triangle) s

/-- CLOCK_FAULT (R479, R480): the channels compare the clocks: `ratio` is SYSCLK against PE_REFCLK in 10 ppm, bit k of
`osc` tells that neither differs from the oscillator of channel k by more than 15 %. -/
def execClockFault (t : Nat) (ratio : Int) (osc : Nat) (s : State) : Host.Outcome State Fault Refusal :=
  triStep t (fun s =>
    let s1 := (s.set F.THERM_CLOCK_STATUS_RATIO_PPM (ofSigned 16 ratio)).set F.THERM_CLOCK_STATUS_OSC_OK osc
    ([0, 1, 2].foldl (fun (a : State) k =>
      let c := a.tri k
      let bad := decide (1000 < ratio.natAbs) || !bitOf osc k
      a.setTri k { c with clockBad := bad, clockOk := if bad then none else if c.clockBad then some a.now else c.clockOk }) s1).triangle) s

/-- CLOCK_MARGINAL (R487): the ratio has stayed outside ±0.2 % for 1 s. -/
def execClockMarginal (t : Nat) (ratio : Int) (s : State) : Host.Outcome State Fault Refusal :=
  coreStep t (fun s =>
    if 200 < ratio.natAbs ∧ !s.limpPresent 0x10 then
      ((s.set F.THERM_CLOCK_STATUS_RATIO_PPM (ofSigned 16 ratio)).limpRaise 0x10 (ofSigned 16 ratio)).cause
        F.THERM_TRI_INT_STATUS_CLOCK_MARGINAL
    else s) s

/-- CLOCK_MARGINAL_CLEAR (R487): the ratio has stayed within ±0.1 % for 10 s. -/
def execClockMarginalClear (t : Nat) (ratio : Int) (s : State) : Host.Outcome State Fault Refusal :=
  coreStep t (fun s =>
    if ratio.natAbs ≤ 100 then
      (s.set F.THERM_CLOCK_STATUS_RATIO_PPM (ofSigned 16 ratio)).limpClearIf 0x10 (fun _ => true)
    else s) s

/-- TRIANGLE_DISAGREE (R484). -/
def execTriangleDisagree (t ch : Nat) (s : State) : Host.Outcome State Fault Refusal :=
  coreStep t (fun s =>
    match (s.tri ch).apartFrom with
    | some a =>
      if ch < 3 ∧ a + 50000 < s.now ∧ !bitOf (s.get F.THERM_TRI_STATUS_DISAGREE) ch then
        ((s.setBit F.THERM_TRI_STATUS_DISAGREE ch true).limpRaise 0x0A ch).cause F.THERM_TRI_INT_STATUS_DISAGREE
      else s
    | none => s) s

/-- CHANNEL_HEARTBEAT_LAPSE (R483): the oscillator of a channel has stopped. -/
def execChannelHeartbeatLapse (t ch : Nat) (s : State) : Host.Outcome State Fault Refusal :=
  triStep t (fun s => if ch < 3 then (s.setTri ch { s.tri ch with stopped := true }).triangle else s) s

/-! ### The watchdog on the control processor (R481) -/

/-- WD_TIME in ns. -/
def State.wdTime (s : State) : Nat := 1000000 * s.get F.THERM_TRI_WD_CFG_WD_TIME

/-- The watchdog is armed: at every entry into CONFIGURE (R481). -/
def State.armWatchdog (s : State) : State :=
  { s.set F.THERM_WD_STATUS_ARMED 1 with therm := { s.therm with wdFrom := s.now, lastGood := none } }

/-- CP_WATCHDOG_EXPIRY (R480, R481): it latches a cut in every mode but BOOT. -/
def execCpWatchdogExpiry (t : Nat) (s : State) : Host.Outcome State Fault Refusal :=
  triStep t (fun s =>
    if s.flag F.THERM_WD_STATUS_ARMED ∧ s.mode ≠ .boot ∧ s.therm.wdFrom + s.wdTime ≤ s.now ∧ s.therm.wdCause ≠ 1 then
      let s1 := { s with therm := { s.therm with wdCause := 1, goodRun := 0 } }
      ([0, 1, 2].foldl (fun (a : State) k =>
        if (a.tri k).stopped then a else a.setTri k { a.tri k with latched := (a.tri k).latched ||| 4 }) s1).triangle
    else s) s

/-- The three writes of a good kick with count K (R481). -/
def goodKick (k : Nat) : List (Nat × Nat) := [(0, k), (1, 2 ^ 32 - 1 - k), (2, Nat.xor k 0xA5A5A5A5)]

/-- A kick is completed: good when its writes are those of NEXT and it is not early (R481). Log 55 (DEDUCED). -/
def State.kick (s : State) (writes : List (Nat × Nat)) : State :=
  let k := s.get F.THERM_WD_STATUS_NEXT
  let early := match s.therm.lastGood with
    | some a => decide (4 * (s.now - a) < s.wdTime)
    | none => false
  if !s.flag F.THERM_WD_STATUS_ARMED then s
  else if writes = goodKick k ∧ !early then
    let run := s.therm.goodRun + 1
    let s1 := (s.set F.THERM_WD_STATUS_NEXT (k + 1)).set F.THERM_WD_STATUS_BAD_KICK 0
    let done := decide (s.therm.wdCause ≠ 0 ∧ 3 ≤ run)
    ({ s1 with therm := { s1.therm with
      wdFrom := s1.now, lastGood := some s1.now
      wdCause := if done then 0 else s1.therm.wdCause, goodRun := if s1.therm.wdCause = 0 ∨ done then 0 else run } }).triangle
  else
    let s1 := (s.set F.THERM_WD_STATUS_BAD_KICK 1).cause F.THERM_TRI_INT_STATUS_BAD_KICK
    ({ s1 with therm := { s1.therm with goodRun := 0, wdCause := if s1.therm.wdCause = 1 then 1 else 2 } }).triangle

/-! ### The die (R463 to R469) -/

/-- A sensor's reading may be used: valid and not excluded (R464). -/
def State.tsLive (s : State) (i : Nat) : Bool := s.flag (F.TS_STATUS_VALID i) && !s.flag (F.TS_STATUS_EXCLUDED i)

/-- The sensors whose reading may be used. -/
def State.liveSensors (s : State) : List Nat := (List.range 32).filter s.tsLive

/-- Twice the median of the readings of the live sensors (R464). Log 54 (DEDUCED). -/
def State.tsMedian2 (s : State) : Int :=
  let l := sortInts (s.liveSensors.map s.tsTemp)
  let n := l.length
  l.getD ((n - 1) / 2) 0 + l.getD (n / 2) 0

/-- A sensor's distance from the median is judged (R464). Log 54 (DEDUCED). -/
def State.judgeSensor (s : State) (median2 : Int) (i : Nat) : State :=
  let far := s.tsLive i && decide (640 < (2 * s.tsTemp i - median2).natAbs)
  let n := if far then s.therm.apart.get 0 i + 1 else 0
  let s1 := { s with therm := { s.therm with apart := s.therm.apart.set 0 i (if 10 ≤ n then 0 else n) } }
  if 10 ≤ n then ((s1.set (F.TS_STATUS_EXCLUDED i) 1).limpRaise 0x0B i).causeBit ⟨F.THERM_INT_STATUS_DIE_STEP.off, 0, 32⟩ 1 else s1

/-- A sensor's new reading: raw count and temperature in 1/16 °C (R463, R464). -/
def State.tsReading (s : State) (i : Nat) (r : Nat × Int) : State :=
  ((s.set (F.TS_VALUE_COUNT i) r.1).set (F.TS_VALUE_TEMP i) (ofSigned 16 r.2)).set (F.TS_STATUS_VALID i)
    (b2n (decide (-640 ≤ r.2 ∧ r.2 ≤ 2400)))

/-- The hottest live sensor, the lowest number on a tie (R465). -/
def State.hottestSensor (s : State) : Option Nat :=
  match s.liveSensors with
  | [] => none
  | i :: l => some (l.foldl (fun b k => if s.tsTemp b < s.tsTemp k then k else b) i)

/-- The die throttle step after an update (R466). -/
def State.nextDieStep (s : State) (t : Int) : Nat :=
  let thr : Nat → Int := fun k => 16 * ((s.get F.THERM_DIE_CFG_THROTTLE : Int) + 3 * k)
  let old := s.get F.THERM_DIE_STATUS_STEP
  let n := ((List.range 7).filter (fun k => decide (thr k ≤ t))).length
  if old < n then n
  else if old ≠ 0 ∧ t < thr (old - 1) - 16 * s.get F.THERM_DIE_CFG_HYST then old - 1 else old

/-- T_die and s_die after an update (R463, R465, R466). -/
def State.dieUpdate (s : State) : State :=
  let old := s.get F.THERM_DIE_STATUS_STEP
  let s1 := match s.hottestSensor with
    | some i => ((s.set F.THERM_DIE_STATUS_T_DIE (ofSigned 16 (s.tsTemp i))).set F.THERM_DIE_STATUS_HOTTEST i).set
        F.THERM_DIE_STATUS_STEP (s.nextDieStep (s.tsTemp i))
    | none => (s.set F.THERM_DIE_STATUS_T_DIE 0x8000).set F.THERM_DIE_STATUS_STEP 0
  if s1.get F.THERM_DIE_STATUS_STEP = old then s1 else s1.cause F.THERM_INT_STATUS_DIE_STEP

/-- T_DIE as it reads: 0x8000 while no sensor has a valid reading (R463). -/
def State.dieTemp (s : State) : Nat := if s.liveSensors = [] then 0x8000 else s.get F.THERM_DIE_STATUS_T_DIE

/-- Channel `k` votes for thermal shutdown (R467). -/
def State.shutVote (s : State) (k : Nat) : Bool :=
  let l := ((List.range 10).map (· + 10 * k)).filter s.tsLive
  decide (l = []) || l.any (fun i => decide (16 * (s.get F.THERM_SHUTDOWN_CFG_LIMIT : Int) ≤ s.tsTemp i))

/-- Thermal shutdown (R390, R467, R469): the hottest sensor is recorded, the core powers off. Where no sensor reads at the
limit, no reading has triggered it, and the record is free. Log 56 (DESIGN CHOICE). -/
def State.thermalShutdown (s : State) : State :=
  let i := match s.hottestSensor with
    | some k => if 16 * (s.get F.THERM_SHUTDOWN_CFG_LIMIT : Int) ≤ s.tsTemp k then k else Config.staleField s.free
    | none => Config.staleField s.free
  let s1 := ((s.set F.THERM_SHUTDOWN_LOG_TEMP (ofSigned 16 (s.tsTemp (i % 32)))).set F.THERM_SHUTDOWN_LOG_SENSOR i).set
    F.THERM_SHUTDOWN_LOG_VALID 1
  { s1 with free := s1.free + 1 }.hold { s1.power with hot := true } 4

/-- DIE_SENSOR_READING (R463): the sensors' readings of one update, sensor 0 first: raw count and temperature in 1/16 °C
after trim. The sensors run while the core is off (R463); thermal shutdown works from the running core. -/
def execDieSensorReading (t : Nat) (readings : List (Nat × Int)) (s : State) : Host.Outcome State Fault Refusal :=
  triStep t (fun s =>
    let s1 := (List.range (min 32 readings.length)).foldl (fun (a : State) i => a.tsReading i (readings.getD i (0, 0))) s
    let s2 := if s1.liveSensors.any (fun i => decide (16 * 95 < s1.tsTemp i)) then
        { s1 with therm := { s1.therm with hotAt := s1.now } } else s1
    let s3 := (List.range 32).foldl (fun (a : State) i => a.judgeSensor s2.tsMedian2 i) s2
    let s4 := s3.dieUpdate
    let s5 := s4.set F.THERM_TRI_STATUS_SHUT_VOTE (b2n (s4.shutVote 0) + 2 * b2n (s4.shutVote 1) + 4 * b2n (s4.shutVote 2))
    if twoOf s5.shutVote ∧ !s5.power.hot then s5.thermalShutdown else s5) s

/-- THERMAL_RESTART (R390, R469): every sensor has read 95 °C or less for 1 s. The reset took effect at the shutdown. -/
def execThermalRestart (t : Nat) (s : State) : Host.Outcome State Fault Refusal :=
  .next (s.keepQueue (let s := s.at t
    if s.power.hot ∧ s.power.vinOk ∧ s.therm.hotAt + 1000000000 ≤ s.now then
      { s with power := { s.power with hot := false } }.settleCore
    else s))

/-! ### Head temperatures (R470 to R477) -/

/-- Limits of a port in 1/16 °C. -/
def deg (c : Nat) : Int := 16 * (c : Int)

/-- A module is cut (R475): at once, its port enters DOWN. Log 109 (DEDUCED). -/
def State.headCut (s : State) (p cause : Nat) : State :=
  let x := s.port p
  let s1 := (s.setPort p { x with therm := { x.therm with cut := true, cause := cause, kt := 8, coolFrom := none } })
  let s2 := (s1.setArrBit F.THERM_HEAD_CUT p true).causeBit ⟨F.THERM_INT_STATUS_DIE_STEP.off, 0, 32⟩ 4
  let s3 := if x.therm.kt = 8 then s2 else s2.causeBit ⟨F.THERM_INT_STATUS_DIE_STEP.off, 0, 32⟩ 3
  if x.st = 7 ∨ x.st = 0 then s3 else s3.portDown p false (some cause)

/-- k_t after a reading (R473). -/
def nextKt (throttle hyst kt : Nat) (t : Int) : Nat :=
  let new := if deg throttle ≤ t then min 8 (((t - deg throttle) / 16).toNat + 1) else 0
  if kt < new then new
  else if kt ≠ 0 ∧ t < deg throttle + 16 * ((kt - 1 : Nat) : Int) - deg hyst then kt - 1 else kt

/-- The limits of a port are judged against T_head (R473): with no valid reading nothing changes. Log 57 (DEDUCED). -/
def State.judgeHead (s : State) (p : Nat) : State :=
  let x := s.port p
  let h := x.therm
  match h.hottest s.now with
  | none => s
  | some t =>
    let warned := decide (deg h.warn ≤ t)
    let s1 := if warned && !h.warned then s.causeBit ⟨F.THERM_INT_STATUS_DIE_STEP.off, 0, 32⟩ 2 else s
    let s2 := s1.setPort p { x with therm := { h with warned := warned } }
    if h.cut then s2
    else if deg h.limit ≤ t then s2.headCut p 0
    else
      let k := nextKt h.throttle (s.get F.THERM_HEAD_CFG_HYST) h.kt t
      if k = h.kt then s2
      else (s2.setPort p { s2.port p with therm := { (s2.port p).therm with kt := k } }).causeBit
        ⟨F.THERM_INT_STATUS_DIE_STEP.off, 0, 32⟩ 3

/-- Readings are taken from a port that is UP or UP_ONE_LANE, or whose module is cut; on HL-1 every conversion of the input
is one (R470, R477). Log 109 (DEDUCED). -/
def State.takesTemps (s : State) (p : Nat) : Bool := s.linked p || (s.port p).therm.cut || decide (s.gen p = 1)

/-- New readings of the heads of a port: head, fault flag and temperature (R201, R470, R477). Log 51 (DEDUCED). -/
def State.headTemps (s : State) (p : Nat) (l : List (Nat × Bool × Int)) : State :=
  if s.takesTemps p then
    let x := s.port p
    let h := x.therm
    let rs := l.foldl (fun (r : Tbl Reading) q => r.set {} q.1 { temp := q.2.2, fault := q.2.1, at_ := some s.now }) h.readings
    let h1 := { h with readings := rs }
    let cool := match h1.hottest s.now with
      | some t =>
        if t < deg h.limit - deg (s.get F.THERM_HEAD_CFG_HYST) then
          (if h.coolFrom.isSome ∧ s.now ≤ h.validEnd then h.coolFrom else some s.now)
        else none
      | none => none
    let last := rs.cells.foldl (fun m c => match c.2.at_ with
      | some a => if c.2.fault then m else max m (a + 100000000)
      | none => m) 0
    let valid := if (h1.hottest s.now).isSome then last else min h.validEnd s.now
    (s.setPort p { x with therm := { h1 with coolFrom := cool, validEnd := valid } }).judgeHead p
  else s

/-- HEAD_TEMP_RX (R470): a TEMP message. A port whose module is cut stays DOWN or OFF, where its frames are read without
a link. -/
def execHeadTempRx (t p seq : Nat) (readings : List (Nat × Bool × Int)) (s : State) : Host.Outcome State Fault Refusal :=
  coreStep t (fun s =>
    if 128 ≤ p ∨ s.gen p < 2 then s
    else if (s.port p).therm.cut ∧ !s.linked p then s.headTemps p readings
    else s.headIn p seq (fun a => a.headTemps p readings)) s

/-- HEAD_TEMP_LOSS (R473, R477): no valid reading for LOSS_MS while the port is up. -/
def execHeadTempLoss (t p : Nat) (s : State) : Host.Outcome State Fault Refusal :=
  coreStep t (fun s =>
    let h := (s.port p).therm
    if p < 128 ∧ s.linked p ∧ !h.cut ∧ (h.hottest s.now).isNone ∧
        h.validEnd + 1000000 * s.get F.THERM_HEAD_CFG_LOSS_MS ≤ s.now then s.headCut p 1
    else s) s

/-- HEAD_CUT_CLEAR (R477): T_head has been below T_cut − HYST for 1 s with a valid reading. -/
def execHeadCutClear (t p : Nat) (s : State) : Host.Outcome State Fault Refusal :=
  coreStep t (fun s =>
    let x := s.port p
    match x.therm.coolFrom with
    | some a =>
      if p < 128 ∧ x.therm.cut ∧ (x.therm.hottest s.now).isSome ∧ a + 1000000000 ≤ s.now then
        (s.setPort p { x with therm := { x.therm with cut := false, coolFrom := none } }).setArrBit F.THERM_HEAD_CUT p false
      else s
    | none => s) s

/-- The temperature of a thermistor code (R472): linear between the enclosing points, rounded half up. -/
def thTemp (table : List Int) (code : Nat) : Int :=
  let i := min 31 (code / 128)
  let a := table.getD i 0
  let b := table.getD (i + 1) 0
  let span := if i = 31 then 127 else 128
  roundHalfUp ((a : Rat) + (((code - 128 * i : Nat) : Int) * (b - a) : Int) / (span : Rat))

/-- The HL-1 ports whose HEAD_CONFIG names an input (R470). -/
def State.thPorts (s : State) (n : Nat) : List Nat :=
  (List.range 128).filter (fun p => decide (s.gen p = 1 ∧ s.get (F.HP_CTRL_TH p) = n) && s.flag (F.HP_CTRL_TH_VALID p))

/-- TH_CONVERSION (R471, R472): input `n` is converted into a code. Log 57 (DEDUCED). -/
def execThConversion (t n code : Nat) (s : State) : Host.Outcome State Fault Refusal :=
  coreStep t (fun s =>
    if 16 ≤ n ∨ 4096 ≤ code then s
    else
      let table := lookupCell s.therm.tables.cells n
      let state := if s.get F.THERM_TH_CFG_OPEN ≤ code then 2 else if code ≤ s.get F.THERM_TH_CFG_SHORT then 3
        else if table.isSome then 1 else 0
      let temp := thTemp (table.getD []) code
      let s1 := s.set (F.TH_VALUE_CODE n) code
      let s2 := if state = 1 then s1.set (F.TH_VALUE_TEMP n) (ofSigned 16 temp) else s1
      let s3 := if 2 ≤ state ∧ state ≠ s.get (F.TH_STATUS_STATE n) then
          s2.causeBit ⟨F.THERM_INT_STATUS_DIE_STEP.off, 0, 32⟩ 5 else s2
      let s4 := s3.set (F.TH_STATUS_STATE n) state
      (s4.thPorts n).foldl (fun (a : State) p => a.headTemps p [(0, decide (state ≠ 1), temp)]) s4) s

/-! ### THERM commands (R489) -/

/-- The modes of THERM_DIE. -/
def Mode.working (m : Mode) : Bool := decide (m = .configure ∨ m = .ready ∨ m = .track ∨ m = .clock ∨ m = .maintain)

/-- THERM_DIE. -/
def thermDie : Cmd := {
  op := 0xB00, modes := Mode.working, len := (· = 4), prep := true
  range := fun rq _ => inRange (within (rq.u 0 1) 70 100 && within (rq.u 1 1) 2 10 && decide (rq.u 2 2 = 0))
  apply := fun _ rq s => ok ((s.set F.THERM_DIE_CFG_THROTTLE (rq.u 0 1)).set F.THERM_DIE_CFG_HYST (rq.u 1 1)) }

/-- THERM_HEAD_LIMITS (R375, R473). -/
def thermHeadLimits : Cmd := {
  op := 0xB01, modes := fun m => m.working || decide (m = .halt), len := (· = 8), prep := true
  range := fun rq s => inRange ((decide (rq.u 0 1 = 0xFF) || s.portOk (rq.u 0 1)) &&
    decide (rq.u 1 1 ≤ 150 ∧ rq.u 2 1 ≤ 150 ∧ rq.u 3 1 ≤ 150 ∧ rq.u 1 1 ≤ rq.u 3 1 ∧ rq.u 2 1 < rq.u 3 1 ∧ rq.u 5 1 = 0) &&
    within (rq.u 4 1) 1 10 && within (rq.u 6 2) 100 5000)
  apply := fun _ rq s =>
    let s1 := (s.set F.THERM_HEAD_CFG_HYST (rq.u 4 1)).set F.THERM_HEAD_CFG_LOSS_MS (rq.u 6 2)
    let l := if rq.u 0 1 = 0xFF then (List.range 128).filter s.portOk else [rq.u 0 1]
    ok (l.foldl (fun (a : State) p =>
      (a.setPort p { a.port p with therm := { (a.port p).therm with
        warn := rq.u 1 1, throttle := rq.u 2 1, limit := rq.u 3 1 } }).judgeHead p) s1) }

/-- The temperatures of a table, as in the payload of THERM_TH_TABLE. -/
def tempTable (rq : Req) : List Int := (List.range 33).map (fun k => rq.s (8 + 2 * k) 2)

/-- A list is strictly monotonic. -/
def monotonic : List Int → Bool
  | a :: b :: r => (decide (a < b) && rising (b :: r)) || (decide (b < a) && falling (b :: r))
  | _ => true
where
  /-- strictly increasing -/
  rising : List Int → Bool
    | a :: b :: r => decide (a < b) && rising (b :: r)
    | _ => true
  /-- strictly decreasing -/
  falling : List Int → Bool
    | a :: b :: r => decide (b < a) && falling (b :: r)
    | _ => true

/-- THERM_TH_TABLE (R471, R472). -/
def thermThTable : Cmd := {
  op := 0xB02, modes := Mode.quiet, len := (· = 76)
  range := fun rq _ => inRange (within (rq.u 2 2) 2048 4095 && decide (rq.u 4 2 ≤ 2047 ∧ rq.u 6 2 = 0 ∧ rq.u 74 2 = 0) &&
    (tempTable rq).all (fun v => decide (-640 ≤ v ∧ v ≤ 2400)) && monotonic (tempTable rq))
  apply := fun _ rq s =>
    let s1 := (s.set F.THERM_TH_CFG_OPEN (rq.u 2 2)).set F.THERM_TH_CFG_SHORT (rq.u 4 2)
    ok (((List.range 16).filter (fun n => bitOf (rq.u 0 2) n)).foldl (fun (a : State) n =>
      ({ a with therm := { a.therm with tables := a.therm.tables.set [] n (tempTable rq) } }).set (F.TH_STATUS_TABLE n) 1) s1) }

/-- THERM_TRIANGLE (R485). Log 55 (DEDUCED). -/
def thermTriangle : Cmd := {
  op := 0xB03, modes := inConfigure, len := (· = 12), prep := true
  range := fun rq s =>
    if s.flag F.THERM_TRI_LOCK_LOCKED then some { status := .denied }
    else inRange ((List.range 4).all (fun k => decide (rq.u k 1 ≠ 0)) && within (rq.u 4 2) 1 1000 && within (rq.u 6 2) 10 1000 &&
      within (rq.u 8 1) 100 (s.get F.THERM_SHUTDOWN_CFG_FUSE_LIMIT) && zeroBytes rq.payload 9 3)
  apply := fun _ rq s =>
    let s1 := (s.set F.THERM_TRI_FILTER_FILT (rq.u 0 4)).set F.THERM_TRI_WD_CFG_WD_TIME (rq.u 4 2)
    ok ((s1.set F.THERM_TRI_WD_CFG_DISCREPANCY (rq.u 6 2)).set F.THERM_SHUTDOWN_CFG_LIMIT (rq.u 8 1)) }

/-- THERM_QUERY. With PORT 0xFF the manual gives K_T, FLAGS and the limits no value. Log 56 (DESIGN CHOICE). -/
def thermQuery : Cmd := {
  op := 0xB04, modes := Mode.normal, len := (· = 4), reads := true
  range := fun rq s => inRange ((decide (rq.u 0 1 = 0xFF) || s.portOk (rq.u 0 1)) && zeroBytes rq.payload 1 3)
  apply := fun _ rq s =>
    let p := rq.u 0 1
    let h := (s.port p).therm
    let excl := maskOf 32 (fun i => s.flag (F.TS_STATUS_EXCLUDED i))
    let head := if p = 0xFF then leBytes 2 0x8000 ++ (List.range 5).map (fun k => Config.freeByte (s.free + k))
      else
        let th := match h.hottest s.now with
          | some v => ofSigned 16 v
          | none => 0x8000
        let flags := b2n h.warned + 2 * b2n h.cut + 4 * b2n (h.cut && decide (h.cause = 1)) +
          8 * b2n (decide (s.gen p = 1) && !s.flag (F.HP_CTRL_TH_VALID p))
        leBytes 2 th ++ leBytes 1 h.kt ++ leBytes 1 flags ++ leBytes 1 h.warn ++ leBytes 1 h.throttle ++ leBytes 1 h.limit
    ({ payload := leBytes 2 s.dieTemp ++ leBytes 1 (s.get F.THERM_DIE_STATUS_STEP) ++
        leBytes 1 (s.get F.THERM_SHUTDOWN_CFG_LIMIT) ++ leBytes 4 excl ++ head ++ leBytes 1 0 },
      if p = 0xFF then { s with free := s.free + 5 } else s) }

end Sys2Proof.Machine
end

