-- ==== Sys2Proof/Machine/Peal.lean ====
section
/-! DEFINITION. The Peal ring: its ports, discovery, ring time, tolls, chimes, the Clapper line, the take-over, ring-wide
PACE, STATUS frames and the RING commands but for tunnelled traffic (R279 to R311, R315, R316). -/

namespace Sys2Proof.Machine

/-! ### Ports and the reference (R281, R290 to R293) -/

/-- Port `k` lies on a path to the master. -/
def State.toMaster (s : State) (k : Nat) : Bool := s.flag (F.PP_STATUS_TO_MASTER k)

/-- The port with fewer hops to the master among those UP on a path to it, PA on a tie (R290, R293). -/
def State.bestPort (s : State) : Option Nat :=
  match [0, 1].filter (fun k => s.pealUp k && s.toMaster k) with
  | [] => none
  | [k] => some k
  | _ => if (s.hopsVia 1).getD 0xFFFF < (s.hopsVia 0).getD 0xFFFF then some 1 else some 0

/-- The reference port set, with its registers. -/
def State.setRef (s : State) (r : Option Nat) : State :=
  let s1 := (s.set (F.PP_STATUS_REF 0) (b2n (r = some 0))).set (F.PP_STATUS_REF 1) (b2n (r = some 1))
  match r with
  | some k => s1.set F.PEAL_RING_STATUS_REF_PORT k
  | none => s1

/-- µs in holdover or on SYSCLK that HOLDOVER_US has not yet counted. -/
def State.holdoverDue (s : State) : Nat :=
  match s.peal.holdFrom with
  | some a => (s.now - a) / 1000 - s.peal.holdCounted
  | none => 0

/-- Holdover ends: what it lasted is counted. -/
def State.endHoldover (s : State) : State :=
  let s1 := (s.bump F.PEAL_HOLDOVER_US s.holdoverDue).set F.PEAL_RING_STATUS_HOLDOVER 0
  { s1 with peal := { s1.peal with holdFrom := none, holdCounted := 0 } }

/-- The reference is chosen anew on a device other than the master (R290, R293): without one the timebase holds its last
frequency. -/
def State.chooseRef (s : State) : State :=
  match s.bestPort with
  | some k => (s.setRef (some k)).endHoldover
  | none =>
    let s1 := s.setRef none
    if s1.peal.holdFrom.isSome then s1
    else ({ s1 with peal := { s1.peal with holdFrom := some s1.now, holdCounted := 0 } }).pealCause 12 s1.masterId

/-- The neighbour on port `k`. -/
def State.neighbour (s : State) (k : Nat) : Nat := s.get (F.PP_NEIGHBOUR_ID k)

/-- The values of the last SYNC exchanges of a port, δ and θ in ns: their medians once there are 8 (R291).
Log 64 (DESIGN CHOICE). -/
def PealPort.median (x : PealPort) : Option (Int × Int) :=
  if x.sync.length = 8 then
    some (medianOf (x.sync.map (fun e => (e.1 : Int))), medianOf (x.sync.map (·.2)))
  else none

/-- δ of the link of port `k` in ps. -/
def State.hopDelay (s : State) (k : Nat) : Nat := s.get (F.PP_HOP_DELAY k)

/-- What one hop through port `k` counts (R286): δ + 150 ns, in ps. Log 4 (DESIGN CHOICE). Log 64 (DESIGN CHOICE). -/
def State.hopPs (s : State) (k : Nat) : Nat := s.hopDelay k + 150000

/-- PEAL_PORT_UP (R281): block lock has been held for `lockFor` ns, and the neighbour's port is `nport`.
Log 63 (DEDUCED). -/
def execPealPortUp (t k nport lockFor : Nat) (s : State) : Host.Outcome State Fault Refusal :=
  coreStep t (fun s =>
    let x := s.peal1 k
    if s.pealOn k ∧ !s.pealUp k ∧ 1000000 ≤ lockFor ∧ x.sync.length = 8 then
      let s1 := (s.set (F.PP_STATUS_STATE k) 2).set (F.PP_NEIGHBOUR_PORT k) nport
      let s2 := (s1.setPeal1 k { x with upAt := s.now, lastRx := s.now, crcAt := [] }).pealCause 1 (s.neighbour k)
      if s2.inRing ∧ !s2.isMaster ∧ s2.refPort = none then s2.chooseRef else s2
    else s) s

/-- A port goes DOWN (R281, R293, R315). Log 63 (DEDUCED). -/
def State.pealDown (s : State) (k cause : Nat) : State :=
  let s1 := (s.set (F.PP_STATUS_STATE k) 3).set (F.PP_STATUS_DOWN_CAUSE k) cause
  let s2 := (s1.setPeal1 k { s1.peal1 k with sync := [], t1 := none, crcAt := [] }).pealCause 0 (s1.neighbour k)
  let s3 := if (s2.peal1 k).formed then s2.limpRaise 0x0D k else s2
  if s3.inRing ∧ !s3.isMaster ∧ s3.refPort = some k then
    let s4 := s3.chooseRef
    if s4.refPort.isSome then s4.bump F.PEAL_REF_SWITCH else s4
  else s3

/-- The CRC errors of a port within the last 1 ms. -/
def State.recentCrc (s : State) (k : Nat) : List Nat := (s.peal1 k).crcAt.filter (fun a => decide (s.now ≤ a + 1000000))

/-- PEAL_PORT_DOWN (R281): for cause 0 block lock has been lost for `lostFor` ns; 1 is silence, 2 the rate of CRC errors.
Log 63 (DEDUCED). -/
def execPealPortDown (t k cause lostFor : Nat) (s : State) : Host.Outcome State Fault Refusal :=
  coreStep t (fun s =>
    let due : Bool := match cause with
      | 0 => decide (100000 < lostFor)
      | 1 => decide ((s.peal1 k).lastRx + 50000 ≤ s.now)
      | 2 => decide (16 ≤ (s.recentCrc k).length)
      | _ => false
    if s.pealOn k ∧ s.pealUp k ∧ due then
      (if cause = 0 then s.bump (F.PP_LOCK_LOSS k) else s).pealDown k cause
    else s) s

/-- HOLDOVER_TIMEOUT (R293): after 10 ms the timebase follows SYSCLK. -/
def execHoldoverTimeout (t : Nat) (s : State) : Host.Outcome State Fault Refusal :=
  coreStep t (fun s =>
    match s.peal.holdFrom with
    | some a => if a + 10000000 ≤ s.now then s.set F.PEAL_RING_STATUS_HOLDOVER 1 else s
    | none => s) s

/-- PEAL_FRAME_DISCARD (R284): a CRC error (0), a block error (1) or an error of the segment order (4) with the SRC read, or
a frame that steps 1, 3 or 4 of R284 discard. Log 63 (DEDUCED). -/
def execPealFrameDiscard (t k err src : Nat) (f : Option PealFrame) (s : State) : Host.Outcome State Fault Refusal :=
  coreStep t (fun s =>
    if s.pealOn k then
      match f with
      | some x => (match s.classify x with
        | .taken _ => s
        | _ => s.pealReceive k x id)
      | none =>
        let x := s.peal1 k
        match err with
        | 0 => ((s.setPeal1 k { x with crcAt := s.now :: s.recentCrc k }).bump (F.PP_CRC_ERR k)).pealError k 0 src
        | 1 => (s.bump (F.PP_BLOCK_ERR k)).pealError k 1 src
        | 4 => s.pealError k 4 src
        | _ => s
    else s) s

/-! ### Ring time (R291, R292) -/

/-- The payload of a SYNC frame. -/
def syncPayload (kind t1 t2 t3 : Nat) : List Byte :=
  leBytes 1 kind ++ leBytes 7 0 ++ leBytes 8 t1 ++ leBytes 8 t2 ++ leBytes 8 t3

/-- SYNC_EXCHANGE (R281, R291): a port in service, UP or training, starts an exchange. -/
def execSyncExchange (t k : Nat) (s : State) : Host.Outcome State Fault Refusal :=
  coreStep t (fun s =>
    if s.pealOn k then
      (s.setPeal1 k { s.peal1 k with t1 := some s.devTime }).pealLocal k 4 (syncPayload 0 s.devTime 0 0)
    else s) s

/-- Device time is to be slewed by `d` ns (R292). -/
def State.slewBy (s : State) (d : Int) : State :=
  { s with clock := { off := s.clock.off + s.slewed, left := d, since := s.now } }

/-- An exchange is complete (R248, R291): the registers show the medians of the last 8, and an offset against the
reference is removed by slewing (R292). Log 64 (DESIGN CHOICE). -/
def State.syncDone (s : State) (k : Nat) (t1 t2 t3 t4 : Int) : State :=
  let theta := ((t2 - t1) - (t4 - t3) + 1) / 2
  let delta := ((t4 - t1) - (t3 - t2) + 1) / 2
  let x := { s.peal1 k with sync := ((delta.toNat, theta) :: (s.peal1 k).sync).take 8, t1 := none }
  let s1 := s.setPeal1 k x
  match x.median with
  | none => s1
  | some (d, th) =>
    let ds := x.sync.map (·.1)
    let s2 := (s1.set (F.PP_HOP_DELAY k) (1000 * d.toNat)).set (F.PP_HOP_OFFSET k) (ofSigned 32 (1000 * th))
    let s3 := s2.set (F.PP_SYNC_SPREAD k) (1000 * (ds.foldl max 0 - ds.foldl min (ds.headD 0)))
    if s3.inRing ∧ !s3.isMaster ∧ s3.refPort = some k then s3.slewBy th else s3

/-- SYNC_RX (R291): a request is answered, a reply ends the exchange. Log 64 (DESIGN CHOICE). -/
def execSyncRx (t k : Nat) (f : PealFrame) (s : State) : Host.Outcome State Fault Refusal :=
  coreStep t (fun s =>
    if f.kind = 4 then
      s.pealReceive k f (fun a =>
        let l := f.payload
        if uAt l 0 1 = 0 then a.pealLocal k 4 (syncPayload 1 (uAt l 8 8) a.devTime a.devTime)
        else if (a.peal1 k).t1 = some (uAt l 8 8) then a.syncDone k (uAt l 8 8) (uAt l 16 8) (uAt l 24 8) a.devTime
        else a)
    else s) s

/-! ### Discovery (R286 to R288) -/

/-- The payload of a DISCOVER frame. -/
def discoverPayload (kind round next hops master path count topology total : Nat) : List Byte :=
  leBytes 1 kind ++ leBytes 1 round ++ leBytes 2 next ++ leBytes 2 hops ++ leBytes 2 master ++ leBytes 4 path ++
    leBytes 2 count ++ leBytes 1 topology ++ leBytes 1 0 ++ leBytes 4 total

/-- ASSIGN sent on a port. -/
def State.sendAssign (s : State) (k : Nat) (round next hops master path : Nat) : State :=
  s.pealLocal k 6 (discoverPayload 0 round next hops master path 0 0 0)

/-- END sent on a port. -/
def State.sendEnd (s : State) (k : Nat) (round last master : Nat) : State :=
  s.pealLocal k 6 (discoverPayload 1 round last 0 master 0 0 0 0)

/-- The latency in ps from the master to the device `id`, in the direction of its assignment (R288): what this device can
know of it, else free. Log 66 (DESIGN CHOICE). -/
def State.pathTo (s : State) (id : Nat) : Nat :=
  let base := s.peal.place.master
  let last := base + s.ringCount - 1
  if id = base then 0
  else if id = s.peal.place.id then s.peal.place.path
  else if s.ringRole = 3 ∧ s.peal.place.id = base ∧ id = base + 1 ∧ (s.ringClosed ∨ base < s.peal.pbLast) then s.hopPs 1
  else if s.ringRole = 3 ∧ s.peal.place.id = base ∧ s.ringClosed ∧ id = last then s.peal.total - s.hopPs 0
  else if s.ringRole = 3 ∧ s.peal.place.id = base ∧ id = s.peal.pbLast + 1 then s.hopPs 0
  else Config.ringPath (s.get F.PEAL_DISCOVERY_ROUND * 65536 + id)

/-- The shorter and the longer path of a device in ps; no longer one in a chain (R288, R289). -/
def State.paths (s : State) (id : Nat) : Nat × Option Nat :=
  let p := s.pathTo id
  if s.ringClosed then
    if id = s.peal.place.master then (0, some 0) else (min p (s.peal.total - p), some (max p (s.peal.total - p)))
  else (p, none)

/-- The IDs that the round has given, ascending. -/
def State.ringIds (s : State) : List Nat := (List.range s.ringCount).map (fun i => s.peal.place.master + i)

/-- W in ps (R288). -/
def State.worstPath (s : State) : Nat := s.ringIds.foldl (fun w id => let p := s.paths id; max w (p.2.getD p.1)) 0

/-- The hops of a device to the master on its shorter path (R289). Log 66 (DESIGN CHOICE). -/
def State.hopsOf (s : State) (id : Nat) : Nat :=
  let i := id - s.peal.place.master
  let own := s.peal.place.id - s.peal.place.master
  if s.ringClosed then
    let d := (i + s.ringCount - own) % max 1 s.ringCount
    min d (s.ringCount - d)
  else if id = s.peal.place.id then 0
  else if own = 0 then (if id ≤ s.peal.pbLast then i else id - s.peal.pbLast)
  else match s.peal.table.find? (fun d => decide (d.id = id)) with
    | some d => d.hops.getD (Config.staleField id)
    | none => Config.staleField id

/-- The ring registers that a failed round gives back. -/
def ringRegs : List Nat := [F.PEAL_DEVICE_ID.off, F.PEAL_RING_SIZE.off, F.PEAL_WORST_PATH.off]

/-- What the device holds of the ring before a round. Log 65 (DEDUCED). -/
def State.formerRing (s : State) : Former :=
  { place := s.peal.place, total := s.peal.total, table := s.peal.table, regs := ringRegs.map (fun o => (o, s.reg o)) }

/-- A round fails on the master (R287): the former ID and ring table stay. Log 65 (DEDUCED). -/
def State.failRound (s : State) (result : Nat) : State :=
  let f := s.peal.former
  let s1 := { s with peal := { s.peal with roundAt := none, offer := none, claimFrom := none, place := f.place,
                                           total := f.total, table := f.table } }
  let s2 := f.regs.foldl (fun (a : State) r => a.setReg r.1 r.2) s1
  let s3 := (s2.set F.PEAL_DISCOVERY_RESULT result).set F.PEAL_RING_STATUS_STATE 4
  (s3.pealCause 3 s3.deviceId).postEvent 9 (leBytes 1 result ++ leBytes 1 (s3.get F.PEAL_DISCOVERY_ROUND))

/-- The ring becomes ACTIVE on this device (R286, R288, R315), with the assignment `o`. Log 65 (DEDUCED). -/
def State.formRing (s : State) (o : Offer) (count topology total : Nat) : State :=
  let s1 := { s with peal := { s.peal with offer := none, roundAt := none, place := o, total := total
                                           reports := {}, unsent := [], locals := [], ringNext := 0, ringAt := some s.now
                                           tookAt := none, holdFrom := none, holdCounted := 0
                                           pairLost := false, deputyLost := false } }
  let s2 := (s1.set F.PEAL_RING_STATUS_STATE 3).set F.PEAL_RING_STATUS_TOPOLOGY topology
  let s3 := (s2.set F.PEAL_DEVICE_ID_ID o.id).set F.PEAL_DEVICE_ID_MASTER o.master
  let s4 := (s3.set F.PEAL_RING_SIZE_COUNT count).set F.PEAL_RING_STATUS_HOLDOVER 0
  let s5 := s4.set F.PEAL_RING_SIZE_HOPS (if topology = 2 then min o.hops (count - o.hops) else o.hops)
  let s6 := ((s5.set F.PEAL_WORST_PATH s5.worstPath).set F.PEAL_DISCOVERY_RESULT 1).set F.PEAL_DISCOVERY_ROUND o.round
  let s7 := [0, 1].foldl (fun (a : State) k =>
    let b := a.setPeal1 k { a.peal1 k with formed := a.pealUp k, timerFrom := a.now, masterChime := none, deputyChime := none }
    let c := b.set (F.PP_STATUS_TO_MASTER k) (b2n (decide (o.hops ≠ 0) && (decide (o.port = k) || decide (topology = 2))))
    if c.pealUp k then c.limpClear 0x0D k else c) s6
  let s8 := ((s7.set F.PEAL_DEPUTY_STATUS_DEPUTY (if s7.ringRole = 2 then o.id else 0)).set F.PEAL_DEPUTY_STATUS_READY 0).pealCause 2 o.master
  s8.postEvent 8 (leBytes 2 count ++ leBytes 1 topology ++ leBytes 1 0 ++ leBytes 4 (s8.get F.PEAL_WORST_PATH) ++
    leBytes 2 o.id ++ leBytes 2 o.master)

/-- The master ends a round (steps 4 and 5 of R286, R303): it sends DONE, and is to claim the Clapper line.
Log 65 (DEDUCED). -/
def State.endRound (s : State) (count topology total : Nat) : State :=
  match s.peal.offer with
  | none => s
  | some o =>
    if 0xFFFE < o.id + count - 1 then s.failRound 5
    else
      let s1 := s.pealUps.foldl (fun (a : State) k =>
        a.pealLocal k 6 (discoverPayload 2 o.round 0 0 o.master 0 count topology total)) s
      let s2 := (s1.formRing o count topology total).setRef none
      let own : RingDev := { id := o.id, role := 3 }
      let s3 := { s2 with peal := { s2.peal with
        table := own :: (List.range (count - 1)).map (fun i => ({ id := o.id + 1 + i } : RingDev))
        claimFrom := if s2.peal.held then none else some s2.now } }
      s3

/-- The master has what an END of the PB side tells it (step 4 of R286). -/
def State.pbEnded (s : State) (last : Nat) : State :=
  match s.peal.offer with
  | none => s
  | some o =>
    let s1 := { s with peal := { s.peal with pbLast := last } }
    if s1.pealUp 0 then s1.sendAssign 0 o.round ((last + 1) % 65536) 1 o.master (s1.hopPs 0)
    else s1.endRound ((last + 65536 - o.id) % 65536 + 1) 1 0

/-- A round starts on the master (step 1 of R286). -/
def State.startRound (s : State) : State :=
  let round := (s.get F.PEAL_DISCOVERY_ROUND + 1) % 256
  let base := s.get F.PEAL_RING_CTRL_BASE_ID
  let o : Offer := { round := round, id := base, master := base }
  let former := if s.peal.roundAt.isSome then s.peal.former else s.formerRing
  let s1 := { s with peal := { s.peal with offer := some o, roundAt := some s.now, pbLast := base, former := former } }
  let s2 := ((s1.set F.PEAL_DISCOVERY_ROUND round).set F.PEAL_RING_STATUS_STATE 2).set F.PEAL_DISCOVERY_RESULT 0
  if s2.pealUp 1 then s2.sendAssign 1 round ((base + 1) % 65536) 1 base (s2.hopPs 1) else s2.pbEnded base

/-- The modes in which a device answers ASSIGN with BUSY (R287). -/
def Mode.printing (m : Mode) : Bool := decide (m = .track ∨ m = .clock ∨ m = .maintain)

/-- A device other than the master receives ASSIGN on port `k` (step 2 of R286, R287). Log 65 (DEDUCED). -/
def State.takeAssign (s : State) (k : Nat) (l : List Byte) : State :=
  let round := uAt l 1 1
  let seen := match s.peal.offer with
    | some o => decide (o.round = round)
    | none => false
  if seen then s
  else if s.mode.printing then s.pealLocal k 6 (discoverPayload 3 round 0 0 (uAt l 6 2) 0 0 0 0)
  else
    let o : Offer := { round := round, id := uAt l 2 2, master := uAt l 6 2, port := k, path := uAt l 8 4, hops := uAt l 4 2 }
    let s1 := { s with peal := { s.peal with offer := some o } }
    let s2 := (s1.set F.PEAL_DISCOVERY_ROUND round).set F.PEAL_RING_STATUS_STATE 2
    let other := 1 - k
    if s2.pealUp other then
      s2.sendAssign other round ((o.id + 1) % 65536) ((o.hops + 1) % 65536) o.master (o.path + s2.hopPs other)
    else s2.sendEnd k round o.id o.master

/-- The round of a DISCOVER frame is the one this device takes part in. -/
def State.offerOf (s : State) (l : List Byte) : Option Offer :=
  match s.peal.offer with
  | some o => if o.round = uAt l 1 1 ∧ o.master = uAt l 6 2 then some o else none
  | none => none

/-- A DISCOVER frame of KIND `kind` is handled on port `k`. -/
def State.discoverIn (s : State) (k kind : Nat) (f : PealFrame) (use : State → State) : State :=
  if f.kind = 6 ∧ uAt f.payload 0 1 = kind then s.pealReceive k f use else s

/-- DISCOVER_ASSIGN_RX (steps 2 and 4 of R286): back at the master on PA it closes the ring. -/
def execDiscoverAssignRx (t k : Nat) (f : PealFrame) (s : State) : Host.Outcome State Fault Refusal :=
  coreStep t (fun s => s.discoverIn k 0 f (fun a =>
    if a.ringRole = 3 then
      match a.offerOf f.payload with
      | some o =>
        if a.peal.roundAt.isSome ∧ k = 0 then
          a.endRound ((uAt f.payload 2 2 + 65536 - o.id) % 65536) 2 (uAt f.payload 8 4)
        else a
      | none => a
    else a.takeAssign k f.payload)) s

/-- DISCOVER_END_RX (steps 3 and 4 of R286). -/
def execDiscoverEndRx (t k : Nat) (f : PealFrame) (s : State) : Host.Outcome State Fault Refusal :=
  coreStep t (fun s => s.discoverIn k 1 f (fun a =>
    match a.offerOf f.payload with
    | none => a
    | some o =>
      let last := uAt f.payload 2 2
      if a.ringRole = 3 then
        if a.peal.roundAt.isNone then a
        else if k = 1 then a.pbEnded last
        else a.endRound ((last + 65536 - o.id) % 65536 + 1) 1 0
      else if k = o.port then a else a.sendEnd o.port o.round last o.master)) s

/-- DISCOVER_DONE_RX (step 5 of R286, R288, R290, R292): the ring is ACTIVE, and device time is set once to the ring time of
the reference neighbour. -/
def execDiscoverDoneRx (t k : Nat) (f : PealFrame) (s : State) : Host.Outcome State Fault Refusal :=
  coreStep t (fun s => s.discoverIn k 2 f (fun a =>
    if a.ringRole = 3 then a
    else match a.offerOf f.payload with
      | none => a
      | some o =>
        let l := f.payload
        let a1 := if a.pealUp (1 - k) then a.pealLocal (1 - k) 6 l else a
        let a2 := (a1.formRing o (uAt l 12 2) (uAt l 14 1) (uAt l 16 4)).chooseRef
        match a2.refPort.bind (fun r => (a2.peal1 r).median) with
        | some (_, th) => { a2 with clock := { off := a2.clock.off + a2.slewed + th } }
        | none => a2)) s

/-- DISCOVER_BUSY_RX (R287): passed on toward the master, whose round it fails. Log 65 (DEDUCED). -/
def execDiscoverBusyRx (t k : Nat) (f : PealFrame) (s : State) : Host.Outcome State Fault Refusal :=
  coreStep t (fun s => s.discoverIn k 3 f (fun a =>
    match a.offerOf f.payload with
    | none => a
    | some o =>
      if a.ringRole = 3 then (if a.peal.roundAt.isSome then a.failRound 3 else a)
      else if k = o.port then a else a.pealLocal o.port 6 f.payload)) s

/-- DISCOVERY_TIMEOUT (R287). -/
def execDiscoveryTimeout (t : Nat) (s : State) : Host.Outcome State Fault Refusal :=
  coreStep t (fun s =>
    match s.peal.roundAt with
    | some a => if a + 100000000 ≤ s.now then s.failRound 2 else s
    | none => s) s

/-! ### STATUS frames and the ring table (R289) -/

/-- The greatest FETCH of the tracks of SOURCE 3 in µs. -/
def State.fetchMax (s : State) : Nat :=
  (((List.range 16).filter (fun t => decide (s.source t = 3))).map (fun t => s.get (F.TRACK_LEADS_FETCH_US t))).foldl max 0

/-- The role a device reports: one that has released CLAPPER_N as master is a member (R302). -/
def State.shownRole (s : State) : Nat := if s.peal.silenced ∧ s.ringRole = 3 then 1 else s.ringRole

/-- The last time any port had a master chime within the time given. -/
def State.masterHeard (s : State) (ns : Nat) : Bool :=
  [0, 1].any (fun k => match (s.peal1 k).masterChime with
    | some c => decide (s.now ≤ c + ns)
    | none => false)

/-- A running track of SOURCE 3 that the deputy could continue (R304). -/
def State.trackReady (s : State) (t : Nat) : Bool :=
  let x := s.track t
  x.last.isSome && (match x.lastToll with
    | some a => decide (s.now ≤ a + s.leadNs t)
    | none => false) &&
  (x.lastClocked || (match s.trackEnc t with
    | some e => decide ((s.enc e).est = .locked) && !x.mismatch
    | none => false))

/-- The running tracks of SOURCE 3. -/
def State.ringTracks (s : State) : List Nat :=
  (List.range 16).filter (fun t => decide ((s.track t).st = 1) && decide (s.source t = 3))

/-- The deputy is ready (R304). -/
def State.deputyReady (s : State) : Bool :=
  s.inRing && decide (s.ringRole = 2) && s.flag F.PEAL_RING_CTRL_CLAPPER_WIRED && s.masterHeard 1000000 &&
    s.ringTracks.all s.trackReady

/-- STATUS_SEND (R289). -/
def execStatusSend (t : Nat) (s : State) : Host.Outcome State Fault Refusal :=
  coreStep t (fun s =>
    if s.inRing ∧ !s.isMaster ∧ s.masterId ≠ s.deviceId then
      let flags := b2n s.replaceLow + 2 * b2n s.deputyReady + 4 * b2n (s.pealUp 0) + 8 * b2n (s.pealUp 1)
      s.pealOriginate 7 s.masterId (leBytes 1 s.shownRole ++ leBytes 1 s.mode.code ++ leBytes 1 flags ++ leBytes 1 0 ++
        leBytes 2 s.fetchMax ++ leBytes 2 0)
    else s) s

/-- STATUS_RX (R289). -/
def execStatusRx (t k : Nat) (f : PealFrame) (s : State) : Host.Outcome State Fault Refusal :=
  coreStep t (fun s =>
    if f.kind = 7 then
      s.pealReceive k f (fun a =>
        if a.isMaster then
          let l := f.payload
          let a1 := { a with peal := { a.peal with table := a.peal.table.map (fun d =>
            if d.id = f.src then
              { d with role := uAt l 0 1, mode := uAt l 1 1, flags := uAt l 2 1, fetchMax := uAt l 4 2, seen := some a.now
                       hops := some (match d.hops with
                         | some h => min h (f.hops + 1)
                         | none => f.hops + 1) }
            else d) } }
          let d := a1.get F.PEAL_DEPUTY_STATUS_DEPUTY
          if uAt l 0 1 = 2 ∧ d = 0 then a1.set F.PEAL_DEPUTY_STATUS_DEPUTY f.src
          else if uAt l 0 1 ≠ 2 ∧ d = f.src then
            (a1.set F.PEAL_DEPUTY_STATUS_DEPUTY 0).set F.PEAL_DEPUTY_STATUS_READY 0
          else a1
        else a)
    else s) s

/-- PRESENCE_EXPIRE (R289). -/
def execPresenceExpire (t devId : Nat) (s : State) : Host.Outcome State Fault Refusal :=
  coreStep t (fun s =>
    { s with peal := { s.peal with table := s.peal.table.map (fun d =>
        match d.seen with
        | some a => if d.id = devId ∧ a + 30000000 ≤ s.now then { d with seen := none } else d
        | none => d) } }) s

/-- A device of the ring table is present; the master itself always is. -/
def State.present (s : State) (d : RingDev) : Bool :=
  decide (d.id = s.deviceId) || (match d.seen with
    | some a => decide (s.now < a + 30000000)
    | none => false)

/-- One entry of the ring table (R289). -/
def State.tableEntry (s : State) (d : RingDev) : List Byte :=
  let own := decide (d.id = s.deviceId)
  let flags := if own then b2n s.replaceLow + 4 * b2n (s.pealUp 0) + 8 * b2n (s.pealUp 1) else d.flags
  let p := s.paths d.id
  leBytes 2 d.id ++ leBytes 1 (if own then s.ringRole else d.role) ++ leBytes 1 (if own then s.mode.code else d.mode) ++
    leBytes 1 (b2n (s.present d) + 2 * (flags % 16)) ++ leBytes 1 0 ++ leBytes 2 (s.hopsOf d.id) ++
    leBytes 4 p.1 ++ leBytes 4 (p.2.getD 0xFFFFFFFF)

/-! ### Tolls (R295 to R298) -/

/-- A new master is held (R308): `k` is the port on which its frame came, after `hops` hops. Log 68 (DEDUCED). -/
def State.adoptMaster (s : State) (k devId hops : Nat) : State :=
  let s1 := s.set F.PEAL_DEVICE_ID_MASTER devId
  let s2 := { s1 with peal := { s1.peal with place := { s1.peal.place with port := k, hops := hops }, pairLost := false } }
  let s3 := [0, 1].foldl (fun (a : State) n =>
    (a.set (F.PP_STATUS_TO_MASTER n) (b2n (decide (n = k) || a.ringClosed))).setPeal1 n
      { a.peal1 n with masterChime := none, timerFrom := a.now }) s2
  let s4 := s3.set F.PEAL_RING_SIZE_HOPS (if s3.ringClosed then min hops (s3.ringCount - hops) else hops)
  let s5 := if s4.get F.PEAL_DEPUTY_STATUS_DEPUTY = devId then
      (s4.set F.PEAL_DEPUTY_STATUS_DEPUTY 0).set F.PEAL_DEPUTY_STATUS_READY 0 else s4
  let s6 := if s5.ringRole = 3 then s5.set F.PEAL_RING_STATUS_ROLE 1 else s5
  s6.chooseRef

/-- A toll of a line that the track does not hold is taken (R295). -/
def State.tollCommit (s : State) (tr line : Nat) (tl : Int) (interval : Nat) (clocked : Bool) : State :=
  let x := s.track tr
  let first := match x.last with
    | some c => c.line + 1
    | none => 0
  let fresh := (List.range (line - first)).map (fun i => first + i)
  let s1 := s.setTrack tr { x with
    missing := x.missing.filter (· ≠ line) ++ fresh, lastToll := some s.now, lastClocked := clocked }
  s1.commitLine tr line tl interval

/-- A toll is consumed (R295, R296). -/
def State.takeToll (s : State) (f : PealFrame) : State :=
  let l := f.payload
  let tr := uAt l 0 1
  let x := s.track tr
  if s.source tr = 3 ∧ x.st = 1 ∧ !x.continued ∧ f.src = s.masterId then
    if bitOf (uAt l 1 1) 1 then s.stopTrack tr (uAt l 2 1) (some (uAt l 8 6))
    else s.tollCommit tr (uAt l 8 6) (toSigned 64 (uAt l 16 8)) (uAt l 24 8) (bitOf (uAt l 1 1) 2)
  else s.bump F.PEAL_TOLL_IGNORED

/-- The frame comes from the deputy that this device knows, which is not its master (R308). -/
def State.fromDeputy (s : State) (f : PealFrame) : Bool :=
  decide (f.src = s.get F.PEAL_DEPUTY_STATUS_DEPUTY) && decide (f.src ≠ 0) && decide (f.src ≠ s.masterId) && s.inRing && !s.isMaster

/-- TOLL_RX (R295, R296, R308). -/
def execTollRx (t k : Nat) (f : PealFrame) (s : State) : Host.Outcome State Fault Refusal :=
  coreStep t (fun s =>
    if f.kind = 1 then
      s.pealReceive k f (fun a => (if a.fromDeputy f then a.adoptMaster k f.src (f.hops + 1) else a).takeToll f)
    else s) s

/-- TOLL_LOSS (R297). -/
def execTollLoss (t tr : Nat) (s : State) : Host.Outcome State Fault Refusal :=
  coreStep t (fun s =>
    let x := s.track tr
    match x.last with
    | some c =>
      if tr < 16 ∧ s.source tr = 3 ∧ x.st = 1 ∧ !x.continued ∧
          c.tl * 65536 + (c.interval : Int) ≤ ((s.devTime : Int) + s.fetchNs tr) * 65536 then
        ((s.stopTrack tr 7 (some c.line)).bump F.PEAL_TOLL_STOPS).pealCause 7 s.masterId
      else s
    | none => s) s

/-- The ring checks of JOB_START on a MASTER in an ACTIVE ring (R298), for the tracks of a mask: the first that fails. -/
def State.ringChecks (s : State) (mask : Nat) : Option (Status × Nat) :=
  if s.ringRole = 3 ∧ s.ringActive then
    let tracks := (List.range 16).filter (bitOf mask)
    let w : Int := s.get F.PEAL_WORST_PATH
    let fmax : Int := 1000000 * ((s.peal.table.map (·.fetchMax)).foldl max 0 : Nat)
    let lead := fun (t : Nat) => (1000 * (s.leadNs t : Int))
    let deputy := s.peal.table.any (fun d => decide (d.role = 2) && decide (d.id ≠ s.deviceId) && s.present d)
    let loss : Int := 1000000 * (s.get F.PEAL_LOSS_TIME_LOSS_TIME_US : Int)
    if !s.peal.table.all s.present then some (.deviceUnreachable, 64)
    else if tracks.any (fun t => decide (lead t - 20000000 ≤ w)) then some (.outOfRange, 65)
    else if tracks.any (fun t => decide (lead t - w - 10000000 < fmax)) then some (.outOfRange, 66)
    else if deputy && tracks.any (fun t => decide (lead t - fmax < loss + 2 * w + 40000000)) then some (.outOfRange, 67)
    else none
  else none

/-! ### Chimes and the Clapper line (R299 to R305, R308) -/

/-- The payload of a CHIME. -/
def State.chimePayload (s : State) (takeover : Bool) : List Byte :=
  leBytes 1 s.shownRole ++ leBytes 1 s.mode.code ++
    leBytes 1 (b2n s.deputyReady + 2 * b2n takeover + 4 * b2n s.replaceLow) ++ leBytes 1 0 ++ leBytes 2 s.masterId ++
    leBytes 2 0 ++ leBytes 8 s.devTime

/-- CHIME_SEND (R299): `alive` says that the fire scheduler's liveness counter has advanced within the preceding 10 µs.
Log 67 (DEDUCED). -/
def execChimeSend (t : Nat) (alive : Bool) (s : State) : Host.Outcome State Fault Refusal :=
  coreStep t (fun s =>
    if s.inRing ∧ s.devTime % 10000 = 0 then
      if s.shownRole = 3 then
        if s.peal.held ∧ alive then (s.pealOriginate 2 0xFFFF (s.chimePayload false)).bump F.PEAL_CHIME_TX else s
      else if s.shownRole = 2 then (s.pealOriginate 2 0xFFFF (s.chimePayload false)).bump F.PEAL_CHIME_TX
      else (s.pealUps.foldl (fun (a : State) k => a.pealLocal k 2 (a.chimePayload false)) s).bump F.PEAL_CHIME_TX
    else s) s

/-- A chime of the master or of the deputy is recognised on port `k`, a copy that came the other way round the ring
included (R305): its timers restart. Log 67 (DEDUCED). -/
def State.chimeHeard (s : State) (k : Nat) (f : PealFrame) : State :=
  let role := uAt f.payload 0 1
  if frameOk f ∧ f.flags ≠ 1 ∧ f.src ≠ s.deviceId ∧ s.pealOn k ∧ s.pealUp k then
    if role = 3 ∧ f.src = s.masterId then
      let s1 := s.setPeal1 k { s.peal1 k with masterChime := some s.now, timerFrom := s.now }
      { s1 with peal := { s1.peal with pairLost := false } }
    else if role = 2 ∧ f.src = s.get F.PEAL_DEPUTY_STATUS_DEPUTY then
      let s1 := s.setPeal1 k { s.peal1 k with deputyChime := some s.now }
      { s1 with peal := { s1.peal with deputyLost := false } }
    else s
  else s

/-- A role conflict is set and counted (R303). Log 67 (DEDUCED). -/
def State.roleConflict (s : State) (devId : Nat) : State :=
  ((s.set F.PEAL_RING_STATUS_ROLE_CONFLICT 1).bump F.PEAL_ROLE_CONFLICT).pealCause 10 devId

/-- A broadcast chime is consumed (R303, R305, R308). -/
def State.takeChime (s : State) (k : Nat) (f : PealFrame) : State :=
  let l := f.payload
  let role := uAt l 0 1
  if role = 3 then
    if bitOf (uAt l 2 1) 1 ∧ f.src ≠ s.masterId ∧ s.inRing ∧ !s.isMaster then
      (s.adoptMaster k f.src (f.hops + 1)).chimeHeard k f
    else if f.src = s.masterId ∧ s.ringRole = 2 ∧ s.peal.released ∧ s.flag F.PEAL_RING_CTRL_CLAPPER_WIRED then
      s.pealCause 11 f.src
    else s
  else if role = 2 then
    if s.ringRole = 2 ∧ f.src ≠ s.deviceId then
      if f.src < s.deviceId then
        ((s.set F.PEAL_RING_STATUS_ROLE 1).set F.PEAL_DEPUTY_STATUS_DEPUTY f.src).roleConflict f.src
      else s
    else
      let d := s.get F.PEAL_DEPUTY_STATUS_DEPUTY
      if d = 0 ∨ d = f.src then
        ((s.set F.PEAL_DEPUTY_STATUS_DEPUTY f.src).set F.PEAL_DEPUTY_STATUS_READY (uAt l 2 1)).chimeHeard k f
      else s
  else s

/-- CHIME_RX (R284, R305, R308). -/
def execChimeRx (t k : Nat) (f : PealFrame) (s : State) : Host.Outcome State Fault Refusal :=
  coreStep t (fun s =>
    if f.kind = 2 then
      (s.chimeHeard k f).pealReceive k f (fun a => if f.flags = 1 then a else a.takeChime k f)
    else s) s

/-- LOSS_TIME in ns (R305). -/
def State.lossNs (s : State) : Nat := 1000 * s.get F.PEAL_LOSS_TIME_LOSS_TIME_US

/-- Every chime timer of the deputy has reached LOSS_TIME; a port that is DOWN counts as expired (R305). -/
def State.chimesLost (s : State) : Bool :=
  [0, 1].all (fun k => !s.toMaster k || !s.pealUp k || decide ((s.peal1 k).timerFrom + s.lossNs ≤ s.now))

/-- CLAPPER_N has been accepted released for `ns` (R301). -/
def State.releasedFor (s : State) (ns : Nat) : Bool := s.peal.released && decide (s.peal.clapperSince + ns ≤ s.now)

/-- The device drives CLAPPER_N low where the Triangle permits it (R302). -/
def State.holdClapper (s : State) : State :=
  if twoOf s.permits then { s.set F.PEAL_CLAPPER_HELD 1 with peal := { s.peal with held := true, claimFrom := none } } else s

/-- CLAPPER_ACCEPT (R301): a level steady for 1 µs; true is released. -/
def execClapperAccept (t : Nat) (level : Bool) (s : State) : Host.Outcome State Fault Refusal :=
  coreStep t (fun s =>
    if s.flag F.PEAL_RING_CTRL_CLAPPER_WIRED ∧ level ≠ s.peal.released then
      { s.set F.PEAL_CLAPPER_RELEASED (b2n level) with peal := { s.peal with released := level, clapperSince := s.now } }
    else s) s

/-- CLAPPER_CLAIM (R302, R303). -/
def execClapperClaim (t : Nat) (s : State) : Host.Outcome State Fault Refusal :=
  coreStep t (fun s =>
    if s.isMaster ∧ s.peal.claimFrom.isSome ∧ s.releasedFor 20000 then s.holdClapper else s) s

/-- CLAPPER_CONFLICT (R303): CLAPPER_N has been held low for 10 ms while the master waited to claim it. -/
def execClapperConflict (t : Nat) (s : State) : Host.Outcome State Fault Refusal :=
  coreStep t (fun s =>
    match s.peal.claimFrom with
    | some a =>
      if s.isMaster ∧ !s.peal.released ∧ max a s.peal.clapperSince + 10000000 ≤ s.now then
        (s.roleConflict s.deviceId).failRound 4
      else s
    | none => s) s

/-- PAIR_LINK_LOST (R308): the deputy loses the master's chimes while CLAPPER_N is held. -/
def execPairLinkLost (t : Nat) (s : State) : Host.Outcome State Fault Refusal :=
  coreStep t (fun s =>
    if s.inRing ∧ s.ringRole = 2 ∧ !s.peal.pairLost ∧ !s.peal.released ∧ s.chimesLost then
      (({ s with peal := { s.peal with pairLost := true } }).bump F.PEAL_PAIR_LINK_LOST).pealCause 5 s.masterId
    else s) s

/-- DEPUTY_LOST (R308): the master has had no chime of the deputy for LOSS_TIME. -/
def execDeputyLost (t : Nat) (s : State) : Host.Outcome State Fault Refusal :=
  coreStep t (fun s =>
    let heard := [0, 1].filterMap (fun k => (s.peal1 k).deputyChime)
    if s.isMaster ∧ s.get F.PEAL_DEPUTY_STATUS_DEPUTY ≠ 0 ∧ !s.peal.deputyLost ∧ heard ≠ [] ∧
        heard.all (fun c => decide (c + s.lossNs ≤ s.now)) then
      ({ s with peal := { s.peal with deputyLost := true } }).pealCause 6 (s.get F.PEAL_DEPUTY_STATUS_DEPUTY)
    else s) s

/-! ### Take-over (R305 to R307) -/

/-- A running track is continued by the deputy (R307). Log 68 (DEDUCED). -/
def State.continueTrack (s : State) (t : Nat) : State :=
  let x := s.track t
  match x.last with
  | none => s
  | some c =>
    let y := { x with continued := true, nextLine := c.line + 1, tPrevLine := some c.tl }
    if x.lastClocked then s.setTrack t { y with clockAcc := some (c.tl : Rat) }
    else match s.trackEnc t with
      | some e => s.setTrack t { y with
          x0 := s.xHatAt e c.tl - (c.line : Rat) * s.pitch t, posMax := s.xHatNow e }
      | none => s.setTrack t y

/-- The take-over (R306). Log 68 (DEDUCED). -/
def State.takeOver (s : State) : State :=
  let former := s.masterId
  let tracks := s.ringTracks
  let first := match tracks with
    | tr :: _ => (match (s.track tr).last with
      | some c => c.line + 1
      | none => Config.staleField s.free)
    | [] => Config.staleField s.free
  let s1 := s.holdClapper
  let s2 := (s1.set F.PEAL_RING_STATUS_ROLE 3).set F.PEAL_DEVICE_ID_MASTER s1.deviceId
  let s3 := [0, 1].foldl (fun (a : State) k => a.set (F.PP_STATUS_TO_MASTER k) 0) (s2.setRef none).endHoldover
  let s4 := ((s3.set F.PEAL_RING_SIZE_HOPS 0).set F.PEAL_DEPUTY_STATUS_DEPUTY 0).set F.PEAL_DEPUTY_STATUS_READY 0
  let s5 := { s4 with peal := { s4.peal with
    tookAt := some s4.now
    table := s4.ringIds.map (fun d => ({ id := d, role := if d = s4.deviceId then 3 else 0 } : RingDev)) } }
  let s6 := (s5.pealOriginate 2 0xFFFF (s5.chimePayload true)).bump F.PEAL_CHIME_TX
  let s7 := s6.pealOriginate 3 0xFFFF (pacePayload 1 { s6.peal.ringRep with p := s6.peal.ringNext })
  let s8 := tracks.foldl (fun (a : State) tr => a.continueTrack tr) s7
  let s9 := (s8.set F.PEAL_TAKEOVER_FORMER former).set F.PEAL_TAKEOVER_VALID 1
  let s10 := if tracks = [] then s9 else s9.set F.PEAL_TAKEOVER_LINE first
  (s10.postEvent 0xA (leBytes 2 former ++ leBytes 2 (tracks.foldl (fun m tr => m + 2 ^ tr) 0) ++ leBytes 4 0 ++
    leBytes 8 first)).pealCause 4 former

/-- DEPUTY_TAKEOVER (R305). -/
def execDeputyTakeover (t : Nat) (s : State) : Host.Outcome State Fault Refusal :=
  coreStep t (fun s => if s.deputyReady ∧ s.chimesLost ∧ s.releasedFor 20000 then s.takeOver else s) s

/-! ### Ring-wide PACE (R309 to R311) -/

/-- A PACE frame read. -/
def paceReport (f : PealFrame) : Report :=
  let l := f.payload
  { eval := uAt l 8 8, p := uAt l 1 1, incomplete := bitOf (uAt l 2 1) 0, lowest := uAt l 4 2, reason := uAt l 6 2 }

/-- A child's REPORT is kept, and combined with the device's own value for its evaluation (R309). Log 69 (DEDUCED). -/
def State.takeReport (s : State) (f : PealFrame) : State :=
  let r := paceReport f
  let s1 := { s with peal := { s.peal with
    reports := s.peal.reports.set [] f.src ((r :: s.peal.reports.get [] f.src).take 20) } }
  let s2 := if r.incomplete then (s1.bump F.PEAL_REPORT_INCOMPLETE).pealCause 9 f.src else s1
  if s2.isMaster ∨ !s2.peal.unsent.contains r.eval then s2
  else match s2.peal.locals.find? (fun x => decide (x.eval = r.eval)) with
    | some x => (s2.sendReport (x.combine r)).reportSent r.eval
    | none => s2

/-- PACE_REPORT_RX (R309, R310): a child's REPORT goes no further than this device, which sends its own.
Log 69 (DEDUCED). -/
def execPaceReportRx (t k : Nat) (f : PealFrame) (s : State) : Host.Outcome State Fault Refusal :=
  coreStep t (fun s =>
    if f.kind = 3 ∧ uAt f.payload 0 1 = 0 then
      if s.childOn k = some f.src then
        let own := { f with dst := s.deviceId }
        s.pealReceive k own (fun a => a.takeReport own)
      else s.pealReceive k f id
    else s) s

/-- PACE_REPORT_TIMEOUT (R309): the child's REPORT of an evaluation has not come. -/
def execPaceReportTimeout (t eval : Nat) (s : State) : Host.Outcome State Fault Refusal :=
  coreStep t (fun s =>
    if s.inRing ∧ !s.isMaster ∧ s.peal.unsent.contains eval ∧ eval + 10000 ≤ s.devTime then
      match s.peal.locals.find? (fun x => decide (x.eval = eval)) with
      | some x =>
        let s1 := (s.sendReport { x with incomplete := true }).reportSent eval
        (s1.bump F.PEAL_REPORT_INCOMPLETE).pealCause 9 ((s1.children.head?).getD 0)
      | none => s
    else s) s

/-- PACE_RING_RX (R311). -/
def execPaceRingRx (t k : Nat) (f : PealFrame) (s : State) : Host.Outcome State Fault Refusal :=
  coreStep t (fun s =>
    if f.kind = 3 ∧ uAt f.payload 0 1 = 1 then
      s.pealReceive k f (fun a =>
        if f.src = a.masterId ∧ a.inRing ∧ !a.isMaster then
          let r := paceReport f
          { a.set F.PEAL_RING_P_LOWEST r.lowest with peal := { a.peal with ringNext := r.p, ringAt := some a.now, ringRep := r } }
        else a)
    else s) s

/-- RING_VALUE_STALE (R311). -/
def execRingValueStale (t : Nat) (s : State) : Host.Outcome State Fault Refusal :=
  coreStep t (fun s =>
    if s.inRing ∧ !s.isMaster ∧ !s.ringFresh then
      (({ s with peal := { s.peal with ringNext := 0 } }).set F.PEAL_RING_P_STALE 1).set F.PEAL_RING_P_RING_VALUE 0
    else s) s

/-! ### RING commands (R316) -/

/-- The role and the ports are set (R285, R316): a ring formed before is no more. Log 67 (DEDUCED). -/
def State.configRing (s : State) (role flags base loss : Nat) : State :=
  let s1 := ((s.set F.PEAL_RING_CTRL_ROLE role).set F.PEAL_RING_CTRL_PA_EN flags).set F.PEAL_RING_CTRL_PB_EN (flags / 2)
  let s2 := (s1.set F.PEAL_RING_CTRL_TUNNEL_ACCEPT (flags / 4)).set F.PEAL_RING_CTRL_CLAPPER_WIRED (flags / 8)
  let s3 := (s2.set F.PEAL_RING_CTRL_BASE_ID base).set F.PEAL_LOSS_TIME_LOSS_TIME_US loss
  let s4 := (s3.setReg F.PEAL_RING_STATUS.off 0).set F.PEAL_RING_STATUS_ROLE role
  let s5 := (s4.set F.PEAL_RING_STATUS_STATE (if role = 0 then 0 else 1)).setReg F.PEAL_DEVICE_ID.off 0
  let s6 := ((s5.setReg F.PEAL_RING_SIZE.off 0).setReg F.PEAL_WORST_PATH.off 0).setReg F.PEAL_DEPUTY_STATUS.off 0
  let hold := s.peal.held && decide (role = 3) && bitOf flags 3
  let s7 := { (s6.set F.PEAL_CLAPPER_HELD (b2n hold)).set F.PEAL_CLAPPER_RELEASED (b2n (s.peal.released && bitOf flags 3)) with peal := {
    ports := s.peal.ports, seqOut := s.peal.seqOut, seqIn := s.peal.seqIn, released := s.peal.released && bitOf flags 3
    clapperSince := s.peal.clapperSince, held := hold, silenced := s.peal.silenced || (s.peal.held && !hold) } }
  [0, 1].foldl (fun (a : State) k =>
    let on := bitOf flags k && decide (role ≠ 0)
    let b := (a.set (F.PP_CTRL_EN k) (b2n (bitOf flags k))).set (F.PP_STATUS_REF k) 0
    let c := (b.set (F.PP_STATUS_TO_MASTER k) 0).setPeal1 k { b.peal1 k with formed := false }
    let d := c.limpClear 0x0D k
    if !on then (d.setReg (F.PP_STATUS k).off 0).setPeal1 k {}
    else if d.get (F.PP_STATUS_STATE k) = 0 then d.set (F.PP_STATUS_STATE k) 1 else d) s7

/-- RING_CONFIG. -/
def ringConfig : Cmd := {
  op := 0x800, modes := inConfigure, len := (· = 16), prep := true
  range := fun rq _ =>
    let role := rq.u 0 1
    inRange (decide (role < 4 ∧ rq.u 1 1 < 16) && (if role = 3 then within (rq.u 2 2) 1 0xFFFE else decide (rq.u 2 2 = 0)) &&
      within (rq.u 4 2) 50 10000 && zeroBytes rq.payload 6 10 && (decide (role < 2) || bitOf (rq.u 1 1) 3))
  apply := fun _ rq s => ok (s.configRing (rq.u 0 1) (rq.u 1 1) (rq.u 2 2) (rq.u 4 2)) }

/-- A command of the master only: DENIED elsewhere (R331). Log 67 (DEDUCED). -/
def masterOnly (s : State) : Option Resp := if s.ringRole = 3 then none else some { status := .denied }

/-- RING_DISCOVER. -/
def ringDiscover : Cmd := {
  op := 0x801, modes := fun m => decide (m = .configure ∨ m = .ready), len := (· = 0)
  range := fun _ s => masterOnly s
  apply := fun _ _ s => ok s.startRound }

/-- RING_ROLE (R303, R306). -/
def ringRoleCmd : Cmd := {
  op := 0x802, modes := Mode.working, len := (· = 4), prep := true
  range := fun rq s =>
    if !within (rq.u 0 1) 1 2 || !zeroBytes rq.payload 1 3 then some { status := .outOfRange }
    else if s.ringRole ≠ 1 ∧ s.ringRole ≠ 2 then some { status := .denied }
    else
      let d := s.get F.PEAL_DEPUTY_STATUS_DEPUTY
      if rq.u 0 1 = 2 ∧ d ≠ 0 ∧ d ≠ s.deviceId then some { status := .denied } else none
  apply := fun _ rq s =>
    let role := rq.u 0 1
    let s1 := (s.set F.PEAL_RING_CTRL_ROLE role).set F.PEAL_RING_STATUS_ROLE role
    let own := decide (s1.get F.PEAL_DEPUTY_STATUS_DEPUTY = s1.deviceId)
    ok (if role = 2 then s1.set F.PEAL_DEPUTY_STATUS_DEPUTY s1.deviceId
        else if own then (s1.set F.PEAL_DEPUTY_STATUS_DEPUTY 0).set F.PEAL_DEPUTY_STATUS_READY 0 else s1) }

/-- RING_QUERY. -/
def ringQuery : Cmd := {
  op := 0x803, modes := Mode.normal, len := (· = 0), reads := true
  apply := fun _ _ s =>
    okWith (leBytes 1 (s.get F.PEAL_RING_STATUS_STATE) ++ leBytes 1 (s.get F.PEAL_RING_STATUS_TOPOLOGY) ++
      leBytes 1 s.ringRole ++ leBytes 1 (s.get F.PEAL_RING_STATUS_REF_PORT) ++ leBytes 2 s.deviceId ++ leBytes 2 s.masterId ++
      leBytes 2 (s.get F.PEAL_DEPUTY_STATUS_DEPUTY) ++ leBytes 2 s.ringCount ++ leBytes 4 (s.get F.PEAL_WORST_PATH) ++
      leBytes 1 (s.get F.PEAL_RING_P_RING_VALUE) ++ leBytes 1 (b2n s.deputyReady) ++ leBytes 2 0) s }

/-- RING_TABLE. -/
def ringTable : Cmd := {
  op := 0x804, modes := Mode.normal, len := (· = 8), reads := true
  range := fun _ s => masterOnly s
  apply := fun _ rq s =>
    let l := (s.peal.table.map s.tableEntry).flatten
    s.bulkWrite (rq.u 0 8) l (leBytes 4 s.peal.table.length ++ leBytes 4 (crc32c l)) }

end Sys2Proof.Machine
end

