-- ==== Sys2Proof/Machine/Respond.lean ====
section
/-! DEFINITION. What becomes of a command's result: responses in the porches and in TUNNEL frames, result lists, and
prepared changes that are discarded (R313, R321 to R326, R331 to R340). -/

namespace Sys2Proof.Machine

/-- What a porch, or a slot of tunnelled commands, is at. -/
def State.porch (s : State) (n : Nat) : PorchSt := s.porches.get {} n

/-- A porch replaced. -/
def State.setPorch (s : State) (n : Nat) (x : PorchSt) : State := { s with porches := s.porches.set {} n x }

/-- A deadline on the interval clock lies in an earlier firmware tick of device time (R18, R328). Log 71 (DEDUCED). -/
def State.tickPast (s : State) (due : Nat) : Bool := expired (due + s.devTime - s.now) s.devTime

/-- FLAGS of R320. -/
def isPrepare (rq : Req) : Bool := bitOf rq.flags 0

/-- COMMIT of FLAGS. -/
def isCommit (rq : Req) : Bool := bitOf rq.flags 1

/-- ABORT of FLAGS. -/
def isAbort (rq : Req) : Bool := bitOf rq.flags 2

/-- NOWAIT of FLAGS. -/
def isNowait (rq : Req) : Bool := bitOf rq.flags 3

/-! ### Headers (R320, R321) -/

/-- A header of 28 bytes, its CRC, and the payload. -/
def sealHeader (head payload : List Byte) : List Byte := head ++ leBytes 4 (crc32c (head ++ payload)) ++ payload

/-- A command with its header (R320). -/
def commandBytes (seq op target flags deadline : Nat) (payload : List Byte) : List Byte :=
  sealHeader (leBytes 4 seq ++ leBytes 2 op ++ leBytes 2 target ++ leBytes 2 payload.length ++ leBytes 1 flags ++ leBytes 1 0 ++
    leBytes 2 deadline ++ leBytes 14 0) payload

/-- A response with its header (R321). -/
def responseBytes (seq op target status flags time elapsed : Nat) (payload : List Byte) : List Byte :=
  sealHeader (leBytes 4 seq ++ leBytes 2 op ++ leBytes 2 target ++ leBytes 2 payload.length ++ leBytes 2 status ++
    leBytes 1 flags ++ leBytes 3 0 ++ leBytes 8 time ++ leBytes 4 (min elapsed 0xFFFFFFFF)) payload

/-- µs since a time on the interval clock. -/
def State.since (s : State) (t : Nat) : Nat := (s.now - t) / 1000

/-! ### Posting (R325, R326) -/

/-- An error recorded in LAST_ERR and ERR_TOTAL. Log 81 (DEDUCED). -/
def State.porchError (s : State) (n status op : Nat) : State :=
  ((((s.bump F.PORCH_ERR_TOTAL).set F.PORCH_LAST_ERR_PORCH n).set F.PORCH_LAST_ERR_VALID 1).set F.PORCH_LAST_ERR_STATUS status).set
    F.PORCH_LAST_ERR_OPCODE op

/-- What the counters make of a response's status (R319, R501). Log 72 (DEDUCED). -/
def State.countStatus (s : State) (n op status : Nat) : State :=
  if status = 2 ∨ status = 8 ∨ status = 9 then s.porchError n status op
  else if status = 7 then (s.bump F.PORCH_TIMEOUT_TOTAL).summary 13
  else s

/-- A response stands in its porch: the area first, then DONE_SEQ, then STATE and DONE_PEND (R322, R326). -/
def State.showResponse (s : State) (n : Nat) (bytes : List Byte) : State :=
  let op := uAt bytes 4 2
  let status := uAt bytes 10 1
  let s1 := ((s.pwrite (porchAddr n 0x800) bytes).set (F.PR_DONE_SEQ n) (uAt bytes 0 4)).set (F.PR_STATE_STATE n) 3
  let s2 := ((s1.set (F.PR_STATE_LAST_STATUS n) status).set (F.PR_STATE_LAST_OPCODE n) op).countStatus n op status
  s2.causeBit F.PORCH_DONE_PEND_PEND n

/-- A response is posted on porch `n` (R321, R326); `keep`: the command has passed step 4, so that its response may be
reposted (R325). Log 72 (DEDUCED). -/
def State.postResponse (s : State) (n seq op target status flags : Nat) (payload : List Byte) (keep : Bool) : State :=
  let x := s.porch n
  let bytes := responseBytes seq op target status flags s.devTime (s.since x.rungAt) payload
  let s1 := s.setPorch n { x with staged := none, remote := none, last := if keep then bytes else x.last }
  let s2 := s1.showResponse n bytes
  if keep ∧ (status = 0 ∨ status = 12) then s2.bump F.PORCH_CMD_TOTAL else s2

/-- The previous response posted again: REPOSTED set and TIME renewed (R325). Log 72 (DEDUCED). -/
def State.repost (s : State) (n : Nat) : State :=
  let l := (s.porch n).last
  s.showResponse n (responseBytes (uAt l 0 4) (uAt l 4 2) (uAt l 6 2) (uAt l 10 2) (uAt l 12 1 ||| 4) s.devTime (uAt l 24 4)
    (l.drop 32))

/-- The reset that follows the response to SYS_RESET (R353, R385). Log 75 (DEDUCED). -/
def State.resetAfter (s : State) (n : Nat) : State :=
  (s.emit (.response n (s.porch n).last)).resetNow 3

/-! ### Result lists (R334, R335) -/

/-- Entries in the bytes left for them: their count, their bytes, and whether any was omitted. -/
def listEntries : Nat → List (Nat × Nat × List Byte) → Nat × List Byte × Bool
  | _, [] => (0, [], false)
  | room, (id, status, payload) :: r =>
    let data := payload ++ List.replicate ((4 - payload.length % 4) % 4) 0
    if room < 8 then (0, [], true)
    else
      let whole := decide (8 + data.length ≤ room)
      let e := leBytes 2 id ++ leBytes 2 status ++
        (if whole then leBytes 2 payload.length ++ leBytes 2 0 ++ data else leBytes 2 0 ++ leBytes 2 1)
      let (n, rest, more) := listEntries (room - e.length) r
      (n + 1, e ++ rest, more)

/-- The status and payload of an entry; a target that has not answered is unreachable (R314). -/
def entryOf (e : Nat × Option (Nat × List Byte)) : Nat × Nat × List Byte :=
  (e.1, (e.2.getD (15, [])).1, (e.2.getD (15, [])).2)

/-- The response to a command to other devices (R333 to R335). -/
def State.postRemote (s : State) (n : Nat) (m : Remote) : State :=
  let l := m.entries.map entryOf
  if m.target ≠ 0xFFFF then
    match l with
    | e :: _ => s.postResponse n m.rq.seq m.op e.1 e.2.1 0 e.2.2 true
    | [] => s
  else
    let (count, bytes, more) := listEntries 2012 l
    let status := if l.all (fun e => e.2.1 = 0) then 0 else 12
    let s1 := s.postResponse n m.rq.seq m.op s.deviceId status (1 + 2 * b2n more) (leBytes 2 count ++ leBytes 2 0 ++ bytes) true
    if m.op = 8 ∧ (l.headD (0, 1, [])).2.1 = 0 then s1.resetAfter n else s1

/-! ### Prepared changes (R337, R338) -/

/-- Contents staged on a head are withdrawn: the port is relinked with its former contents (R221). Log 50 (DEDUCED). -/
def State.withdrawHead (s : State) (p : Nat) : State :=
  let s1 := if 4 ≤ (s.port p).st ∧ (s.port p).st ≤ 6 then s.startLink p else s
  s1.setPort p { s1.port p with refused := false }

/-- A prepared change is held for a key. -/
def Prepared.byKey (origin porch : Nat) (x : Prepared) : Bool := decide (x.origin = origin ∧ x.porch = porch)

/-- The prepared changes that satisfy `p` are discarded. Log 50 (DEDUCED). -/
def State.discardPrepared (s : State) (p : Prepared → Bool) : State :=
  let gone := s.prepared.filter p
  let s1 := { s with prepared := s.prepared.filter (fun x => !p x) }
  gone.foldl (fun (a : State) x => if x.sent then a.withdrawHead (x.rq.u 0 1) else a) s1

/-- The prepared changes that satisfy `p` lapse (R337): CAUSE 0 hold time, 1 replaced, 2 mode change.
Log 74 (DEDUCED). -/
def State.lapsePrepared (s : State) (p : Prepared → Bool) (cause : Nat) : State :=
  let s1 := s.discardPrepared p
  (s.prepared.filter p).foldl (fun (a : State) x =>
    a.postEvent 0xC (leBytes 2 (if x.origin = 0 then s.deviceId else x.origin) ++ leBytes 2 x.op ++ leBytes 1 x.porch ++
      leBytes 1 cause)) s1

/-! ### Tunnelled traffic (R312, R313) -/

/-- The payload header of a TUNNEL frame: KIND, PORCH, TAG, REMAIN in µs. -/
def tunnelHeader (kind porch tag remain : Nat) : List Byte :=
  leBytes 1 kind ++ leBytes 1 porch ++ leBytes 2 0 ++ leBytes 4 tag ++ leBytes 4 remain ++ leBytes 4 0

/-- µs left until a deadline on the interval clock. Log 73 (DEDUCED). -/
def State.remain (s : State) (due : Nat) : Nat := (due - s.now) / 1000

/-- A command is sent to another device, or to all (R312). -/
def State.sendCommand (s : State) (n dst due : Nat) (bytes : List Byte) : State :=
  s.pealOriginate 5 dst (tunnelHeader 0 n (uAt bytes 0 4) (s.remain due) ++ bytes)

/-- The answer to a tunnelled command goes back to its origin (R313, R321). -/
def State.sendAnswer (s : State) (op : Nat) (rq : Req) (rungAt due : Nat) (r : Resp) : State :=
  s.pealOriginate 5 rq.origin (tunnelHeader 1 rq.porch rq.tag (s.remain due) ++
    responseBytes rq.seq op s.deviceId r.status.code 0 s.devTime (s.since rungAt) r.payload)

/-! ### Commands to other devices (R312, R333 to R338) -/

/-- The PREPARE has failed: ABORT to every device that answered OK, itself included (R338). Log 73 (DEDUCED). -/
def State.abortRemote (s : State) (n : Nat) (m : Remote) : State × Remote :=
  let good := (m.entries.filter (fun e => decide ((entryOf e).2.1 = 0))).map (·.1)
  let own := s.deviceId
  let others := good.filter (fun id => decide (id ≠ own))
  let s1 := if good.contains own then s.discardPrepared (Prepared.byKey 0 n) else s
  let s2 := others.foldl (fun (a : State) id =>
    a.sendCommand n id m.due (commandBytes m.rq.seq m.op m.target 4 m.rq.deadline [])) s1
  let entries := m.entries.map (fun e => if e.1 = own ∧ good.contains own then (e.1, some (13, [])) else e)
  (s2, { m with entries := entries, aborting := some others })

/-- A PREPARE of which an entry is not OK, and the ABORTs have not been sent. -/
def Remote.failed (m : Remote) : Bool :=
  isPrepare m.rq && m.aborting.isNone && m.entries.any (fun e => decide ((entryOf e).2.1 ≠ 0))

/-- A command to other devices is answered once every entry is final. -/
def State.settleRemote (s : State) (n : Nat) : State :=
  match (s.porch n).remote with
  | none => s
  | some m =>
    if m.entries.any (fun e => e.2.isNone) then s
    else
      let (s1, y) := if m.failed then s.abortRemote n m else (s, m)
      if y.aborting.getD [] = [] then s1.postRemote n y else s1.setPorch n { s1.porch n with remote := some y }

/-- The entry of a device is filled in, where it is still open. -/
def Remote.fill (m : Remote) (id status : Nat) (payload : List Byte) : Remote :=
  { m with entries := m.entries.map (fun e => if e.1 = id ∧ e.2 = none then (e.1, some (status, payload)) else e) }

/-- A device acknowledges its ABORT: its entry becomes ABORTED (R338). -/
def Remote.acknowledge (m : Remote) (id : Nat) : Remote :=
  { m with entries := m.entries.map (fun e => if e.1 = id then (e.1, some (13, [])) else e)
           aborting := m.aborting.map (fun l => l.filter (fun i => decide (i ≠ id))) }

/-- The deadline of a command to other devices has passed (R314, R333, R338): a target that has not answered, or not
acknowledged its ABORT, is unreachable. Log 73 (DEDUCED). -/
def State.remoteExpired (s : State) (n : Nat) (m : Remote) : State :=
  let open_ := m.entries.map (fun e => (e.1, some (entryOf e).2))
  let (s1, y) := if ({ m with entries := open_ }).failed then s.abortRemote n { m with entries := open_ }
    else (s, { m with entries := open_ })
  let late := y.aborting.getD []
  s1.postRemote n { y with
    entries := y.entries.map (fun e => if late.contains e.1 then (e.1, some (15, [])) else e), aborting := some [] }

/-! ### The result of a command on this device -/

/-- A command that this device has executed or turned away is answered: in its porch, in its entry of a result list, or in
a TUNNEL frame. Contents staged on a head for a command that fails are withdrawn. -/
def State.answer (s : State) (slot op : Nat) (rq : Req) (r : Resp) : State :=
  let x := s.porch slot
  let sent := (x.staged.map (·.sent)).getD false
  let s1 := s.setPorch slot { x with staged := none }
  let s2 := if sent ∧ r.status ≠ .ok then s1.withdrawHead (rq.u 0 1) else s1
  if rq.origin ≠ 0 then
    let g := x.staged.getD { rungAt := s.now, due := s.now }
    let s3 := s2.sendAnswer op rq g.rungAt g.due r
    if op = 8 ∧ r.status = .ok then s3.resetNow 3 else s3
  else match x.remote with
    | some m => (s2.setPorch slot { s2.porch slot with remote := some (m.fill s.deviceId r.status.code r.payload) }).settleRemote slot
    | none =>
      let s3 := s2.postResponse slot rq.seq op s.deviceId r.status.code 0 r.payload true
      if op = 8 ∧ r.status = .ok then s3.resetAfter slot else s3

end Sys2Proof.Machine
end

