-- ==== Sys2Proof/Machine/Modes.lean ====
section
/-! DEFINITION. The changes of mode: the entry into READY, the end of a job, and HALT (R168, R169, R376 to R379). -/

namespace Sys2Proof.Machine

/-! ### A change of mode (R27, R82, R257, R337, R376, R481) -/

/-- The firmware lets ingress and decoding run in READY, TRACK and CLOCK (R82). Log 41 (DEDUCED). -/
def State.streamEnables (s : State) : State :=
  (s.set F.STREAM_CTRL_INGRESS_EN (b2n s.mode.streams)).set F.STREAM_CTRL_DECODE_EN (b2n s.mode.streams)

/-- The mode changes, with the CAUSE of MODE_CHANGED: 0 command, 1 tracks stopped, 2 fatal fault, 3 READY entry failed. -/
def State.setMode (s : State) (m : Mode) (cause : Nat) : State :=
  let s1 := ({ s.endMaints with mode := m }).lapsePrepared (fun _ => true) 2
  let s2 := s1.postEvent 2 (leBytes 1 s.mode.code ++ leBytes 1 m.code ++ leBytes 1 cause)
  let s3 := if m = .configure then s2.armWatchdog else s2
  s3.streamEnables.triangle

/-- CONFIGURE is entered with the configuration kept, uncommitted (R376, R380). Log 43 (DEDUCED). -/
def State.uncommit (s : State) (cause : Nat) : State :=
  ({ s.uncommitPorts with committed := false }).setMode .configure cause

/-- The committed geometry fits the ring area, and at most one channel is lost (R66). Log 43 (DEDUCED). -/
def State.geometryFits (s : State) : Bool :=
  decide (11 ≤ s.onlineChannels.length) && decide (ringBlocks s.geo.rings ≤ s.tableBase)

/-- The entry into READY (R64 to R66, R153, R376): encoder faults clear, a lost channel is left out of the layout, and a
geometry that no longer fits ends in CONFIGURE. Log 43 (DEDUCED). -/
def State.enterReady (s : State) (cause : Nat) : State :=
  let s1 := s.clearEncFaults
  let s2 := if s1.remapDue then s1.remapCellar else s1
  if s2.geometryFits then s2.setMode .ready cause else s2.uncommit 3

/-! ### The end of a track and of a job (R109, R168, R169) -/

/-- Track `t` leaves STOPPING: IDLE after a JOB_END, FAULTED after another cause; its streams change state (R109). -/
def State.leaveStopping (s : State) (t : Nat) : State :=
  let x := s.track t
  let s0 := s.setTrack t { x with st := if x.cause = 0 then 0 else 3, lines := [] }
  let s1 := if x.cause = 0 then s0 else s0.cause F.TIMING_TM_INT_STATUS_TRACK_STOPPED
  (s1.trackStreams t).foldl (fun (a : State) n => a.streamAtStop n) s1

/-- The last row instant of the stop line of track `t` has passed on every port: each has fetched the stop line, and
nothing that it fetched for the track is still to come (R169). -/
def State.stopLinePassed (s : State) (t : Nat) : Bool :=
  let x := s.track t
  let d : Int := s.devTime
  match x.stopLine with
  | none => true
  | some k =>
    x.lines.all (fun c => decide (c.tl ≤ d)) &&
      (s.trackPorts t).all (fun p =>
        (match (s.port p).fetched with
          | some f => decide (k ≤ f)
          | none => false) &&
        (s.port p).lines.all (fun l => l.ended || decide (l.track ≠ t) || decide (l.last < d)))

/-- JOB_STOPPED of track `t` (R169, R351): where the track committed no line the manual gives STOP_LINE no value.
Log 34 (DESIGN CHOICE). -/
def State.jobStopped (s : State) (mask t : Nat) : State :=
  let x := s.track t
  ({ s with free := s.free + 1 }).postEvent 3 (leBytes 1 t ++ leBytes 1 x.cause ++ leBytes 2 mask ++ leBytes 4 0 ++
    leBytes 8 (x.stopLine.getD (Config.staleField s.free)))

/-- No track runs or stops any more: READY, and one JOB_STOPPED for each track of the job (R169). -/
def State.endJob (s : State) : State :=
  let s1 := s.enterReady 1
  (List.range 16).foldl (fun (a : State) t => if bitOf s.job t then a.jobStopped s.job t else a) { s1 with job := 0 }

/-- TRACK_STOPPED (R169): the last row instant of the stop line of track `tr` passes. -/
def execTrackStopped (t tr : Nat) (s : State) : Host.Outcome State Fault Refusal :=
  coreStep t (fun s =>
    if tr < 16 ∧ (s.track tr).st = 2 ∧ s.stopLinePassed tr then
      let s1 := s.leaveStopping tr
      if (s1.mode = .track ∨ s1.mode = .clock) ∧ (List.range 16).all (fun k => !s1.trackActive k) then s1.endJob else s1
    else s) s

/-! ### HALT (R377 to R379) -/

/-- What HALT does to the lines of a port: those in progress are Cut, and the others withdrawn (R377).
Log 28 (DESIGN CHOICE). -/
def State.haltPort (s : State) (p : Nat) : State :=
  let s1 := s.cutLines p
  let x := s1.port p
  s1.setPort p { x with lines := x.lines.filter (·.ended), lineQ := [] }

/-- A running or stopping track ends at once (R109, R377). -/
def State.haltTrack (s : State) (t : Nat) : State :=
  if s.trackActive t then
    let s1 := s.setTrack t { s.track t with st := 0, lines := [] }
    (s1.trackStreams t).foldl (fun (a : State) n => a.streamAtStop n) s1
  else s

/-- The slots in which commands are staged: this device's porches, and the four of tunnelled commands (R313). -/
def stagedSlots : List Nat := List.range 14 ++ [16, 17, 18, 19]

/-- A command that has not reached its apply point returns WRONG_MODE (R378). Log 79 (DEDUCED). -/
def State.haltCommands (s : State) : State :=
  stagedSlots.foldl (fun (a : State) n =>
    match (a.porch n).staged with
    | some g => if g.applied then a else a.answer n g.op g.rq { status := .wrongMode }
    | none => a) s

/-- A fatal fault: the entry into HALT (R377, R378, R499). The manual gives INFO of HALTED no value.
Log 78 (DESIGN CHOICE). Log 79 (DEDUCED). Log 104 (DESIGN CHOICE). -/
def State.enterHalt (s : State) (cause : Nat) : State :=
  if s.mode = .boot ∨ s.mode = .halt then s
  else
    let s1 := (s.ports.keys.filter (fun p => decide (p < 128))).foldl (fun (a : State) p => a.haltPort p) s
    let s2 := (List.range 16).foldl (fun (a : State) t => a.haltTrack t) s1
    let s3 : State := { s2 with job := 0, gov := { s2.gov with ltrig := {} } }
    let s4 := ({ s3 with haltCause := cause, haltDiag := decide (s.mode = Mode.diagnose) }).haltCommands
    let s5 := (s4.setMode .halt 2).setP 0
    let s6 := ({ s5 with free := s5.free + 1 }).postEvent 0xE (leBytes 1 cause ++ leBytes 3 0 ++
      leBytes 4 (Config.staleField s5.free))
    (s6.set F.HEALTH_ALERT_STATUS_HALTED 1).logHealth 0x80 1 cause

/-- HALT_ENTRY (R377): a Triangle cut (1), or a firmware exception (3). An uncorrectable error in the CP bank (2) is found
by the access that meets it. -/
def execHaltEntry (t cause : Nat) (s : State) : Host.Outcome State Fault Refusal :=
  coreStep t (fun s =>
    if (cause = 1 ∧ s.therm.cut) ∨ cause = 3 then s.enterHalt cause else s) s

/-- HP_STALL (R500): the heartbeat has stood still for 100 ms. -/
def execHpStall (t : Nat) (s : State) : Host.Outcome State Fault Refusal :=
  coreStep t (fun s =>
    if (s.health.beatAt.getD s.boot.ranAt) + 100000000 ≤ s.now then s.enterHalt 3 else s) s

/-- The halt monitor serves in place of the firmware (R379). -/
def State.haltMonitor (s : State) : Bool := decide (s.mode = .halt) && decide (s.haltCause = 2 ∨ s.haltCause = 3)

end Sys2Proof.Machine
end

