-- ==== Sys2Proof/Machine/Pantry.lean ====
section
/-! DEFINITION. The Pantry: SECDED and what an uncorrectable read does to its reader, the power settings of the banks,
patrol, and the MEM commands (R391 to R406, R430). -/

namespace Sys2Proof.Machine

/-- Bank `b`, beside its registers. -/
def State.bank (s : State) (b : Nat) : Bank := s.banks.get {} b

/-- Bank `b` replaced. -/
def State.setBank (s : State) (b : Nat) (x : Bank) : State := { s with banks := s.banks.set {} b x }

/-- A Pantry address that lies in a bank (R391). -/
def pantryAddr (a : Nat) : Bool := decide (bankOf a < 22 ∧ a % 0x1000000 < 1024 * bankKib (bankOf a))

/-- `n` bytes from `a` lie in one bank (R408). -/
def pantryRange (a n : Nat) : Bool := pantryAddr a && decide (a % 0x1000000 + n ≤ 1024 * bankKib (bankOf a))

/-- The contents of a bank are lost (R397). -/
def State.dropBank (s : State) (b : Nat) : State :=
  { s with
    pmem := s.pmem.drop (b * 0x1000000) ((b + 1) * 0x1000000)
    perr := s.perr.drop (b * 0x200000) ((b + 1) * 0x200000) }

/-! ### The effect of an uncorrectable read on its reader (R396) -/

/-- The stream whose packet decompressor `k` is reading. -/
def State.reading (s : State) (k : Nat) : Option Nat :=
  match (s.decomps.get {} k).busy with
  | some (n, _) => some n
  | none => s.nextStream k

/-- The packet at the front of a stream's queue will be handled as failing its CRC (R93, R396). -/
def Stream.spoil (x : Stream) : Stream :=
  match x.queue with
  | [] => x
  | q :: rest => { x with queue := { q with bad := true } :: rest }

/-- A bank's owner has met an uncorrectable word at address `a`; `user` is the decompressor that read a staging bank.
Log 91 (DESIGN CHOICE). Log 94 (DEDUCED). -/
def State.ownerError (s : State) (a user : Nat) : State :=
  let b := bankOf a
  if b = 0 then s.enterHalt 2
  else if b = 1 then s.enterHalt 3
  else if b = 2 then s
  else if b < 15 then s.engineOffline (b - 3) 1
  else if b < 19 then
    match s.reading user with
    | some n => if n / 32 = b - 15 then s.setStream n (s.stream n).spoil else s
    | none => s
  else if b < 21 then s.waveOffline (b - 19) 1
  else s.watchBankError (a % 0x1000000 / 8)

/-! ### Accesses (R394 to R397, R401) -/

/-- The segment that holds an address is served with one extra cycle: it is redirected to the spare, or mapped to a spare
for good (R401, R405, R406). -/
def State.redirected (s : State) (a : Nat) : Bool :=
  let b := bankOf a
  let seg := a % 0x1000000 / 4096
  let ph := s.get (F.BK_STATUS_PHASE b)
  (decide (2 ≤ ph ∧ ph ≤ 4) && decide (s.get (F.BK_STATUS_SEGMENT b) = seg)) ||
    (s.flag (F.BK_STATUS_REPAIR_USED b) && decide (s.get (F.BK_STATUS_REPAIRED_SEG b) = seg)) ||
    (s.flag (F.BK_STATUS_PATROL_USED b) && decide (s.get (F.BK_PATROL_CONSUMED_SEG b) = seg))

/-- The bytes of a word that a write enables, from the lowest. -/
def enabledBytes (enables data : Nat) : List (Nat × Byte) :=
  ((List.range 8).filter (bitOf enables)).map (fun k => (k, BitVec.ofNat 8 (data >>> (8 * k))))

/-- An owner's write of a word, a part of it or all (R395): whether it reports an error, and the state. -/
def State.writeWord (s : State) (w enables data : Nat) : Bool × State :=
  let (bad, s1) := if enables % 256 = 255 then (false, s) else s.mergeWord w
  let m := (enabledBytes enables data).foldl (fun (m : Tbl Byte) x => m.set 0 (8 * w + x.1) x.2) s1.pmem
  (bad, { s1 with pmem := m, perr := s1.perr.set 0 w 0 })

/-- An access of a bank's owner is served. Log 94 (DEDUCED). -/
def State.serveBank (s : State) (x : BankAccess) : State :=
  let s1 := s.touchBank (bankOf x.addr)
  let s2 := if s1.redirected x.addr then s1.bump F.PANTRY_REDIRECT_WAITS else s1
  let r := if x.write then s2.writeWord (x.addr / 8) x.enables x.data else s2.checkWord (x.addr / 8)
  if r.1 then r.2.ownerError x.addr x.user else r.2

/-- A bank at rest begins to wake: 2 core cycles from HOLD, 12 µs from DEEP (R397). Log 92 (DEDUCED). -/
def State.wakeBank (s : State) (b : Nat) : State :=
  let d := if s.get (F.BK_STATUS_REST b) = 2 then 12000 else 3
  ((s.set (F.BK_STATUS_WAKING b) 1).bump F.PANTRY_WAKE_TOTAL).setBank b { s.bank b with wakeAt := some (s.now + d) }

/-- An access of a bank's owner: refused while the bank is OFF, queued while it wakes (R397, R398). Log 92 (DEDUCED). -/
def State.accessBank (s : State) (x : BankAccess) : State :=
  let b := bankOf x.addr
  if !pantryAddr x.addr || !s.bankOn b then s
  else if s.flag (F.BK_STATUS_WAKING b) then s.setBank b { s.bank b with queue := (s.bank b).queue ++ [x] }
  else if s.get (F.BK_STATUS_REST b) ≠ 0 then
    let s1 := s.wakeBank b
    s1.setBank b { s1.bank b with queue := [x] }
  else s.serveBank x

/-- Bits of a word that turn wrong before an access: bit 0 to 63 of the data, 64 to 71 of the check bits. -/
def State.upset (s : State) (a : Nat) (flips : List Nat) : State :=
  if pantryAddr a && s.bankOn (bankOf a) then
    { s with perr := s.perr.set 0 (a / 8) ((flips.filter (· < 72)).foldl (fun m k => m ^^^ 2 ^ k) (s.perr.get 0 (a / 8))) }
  else s

/-- PANTRY_READ (R394, R396): the owner of a bank reads the word at an address, in which the bits `flips` have turned
wrong. -/
def execPantryRead (t addr user : Nat) (flips : List Nat) (s : State) : Host.Outcome State Fault Refusal :=
  coreStep t (fun s => (s.upset addr flips).accessBank { addr := addr, user := user }) s

/-- PANTRY_PARTIAL_WRITE (R395): the owner writes the bytes of a word that `enables` names. -/
def execPantryPartialWrite (t addr user enables data : Nat) (flips : List Nat) (s : State) :
    Host.Outcome State Fault Refusal :=
  coreStep t (fun s => (s.upset addr flips).accessBank
    { addr := addr, user := user, write := true, enables := enables, data := data }) s

/-! ### Power settings (R397 to R399) -/

/-- BANK_REST (R397): 256 core cycles without an access in HOLD, 100 µs in DEEP; not during a segment cycle. -/
def execBankRest (t b : Nat) (s : State) : Host.Outcome State Fault Refusal :=
  coreStep t (fun s =>
    let p := s.get (F.BK_CTRL_POWER b)
    let idle := s.now - (s.bank b).lastUse
    if b < 22 ∧ s.get (F.BK_STATUS_REST b) = 0 ∧ s.get (F.BK_STATUS_WAKING b) = 0 ∧ s.get (F.BK_STATUS_PHASE b) = 0 ∧
        s.bankOn b ∧ ((p = 1 ∧ 320 ≤ idle) ∨ (p = 2 ∧ 100000 ≤ idle)) then s.set (F.BK_STATUS_REST b) p
    else s) s

/-- BANK_WAKE_COMPLETE (R397): the accesses that wait are served in order. -/
def execBankWakeComplete (t b : Nat) (s : State) : Host.Outcome State Fault Refusal :=
  coreStep t (fun s =>
    match (s.bank b).wakeAt with
    | some w =>
      if b < 22 ∧ w ≤ s.now then
        let q := (s.bank b).queue
        let s1 := ((s.set (F.BK_STATUS_REST b) 0).set (F.BK_STATUS_WAKING b) 0).setBank b
          { s.bank b with wakeAt := none, queue := [], lastUse := s.now }
        q.foldl (fun (a : State) x => a.serveBank x) s1
      else s
    | none => s) s

/-- BANK_FILL_COMPLETE (R398): a bank that has left OFF holds 0 with valid check bits, within 2 ms. Log 93 (DEDUCED). -/
def execBankFillComplete (t b : Nat) (s : State) : Host.Outcome State Fault Refusal :=
  coreStep t (fun s =>
    if b < 22 ∧ (s.bank b).fillAt.isSome then
      (s.set (F.BK_STATUS_REST b) 0).setBank b { s.bank b with fillAt := none, lastUse := s.now }
    else s) s

/-- The user of a bank lets it go OFF (R399). -/
def State.mayPowerOff (s : State) (b : Nat) : Bool :=
  if b < 15 then !s.engineOn (b - 3)
  else if b < 19 then (List.range 32).all (fun k => decide ((s.stream (32 * (b - 15) + k)).st = 0))
  else !s.waveOn (b - 19)

/-- A power setting that a bank has (R397, R399). Log 93 (DEDUCED). -/
def hasSetting (b p : Nat) : Bool :=
  decide (b < 22) && (decide (p < 2) || (decide (p = 2) && decide (b < 3)) || (decide (p = 3) && decide (3 ≤ b ∧ b < 21)))

/-- A power setting takes effect (R397, R398). Log 93 (DEDUCED). -/
def State.setPower (s : State) (b p : Nat) : State :=
  let was := s.get (F.BK_CTRL_POWER b)
  let s1 := s.set (F.BK_CTRL_POWER b) p
  if was = p then s
  else if p = 3 then
    let s2 := (((s1.set (F.BK_STATUS_REST b) 3).set (F.BK_STATUS_WAKING b) 0).set (F.BK_STATUS_PHASE b) 0).dropBank b
    s2.setBank b { s2.bank b with wakeAt := none, fillAt := none, queue := [] }
  else if was = 3 then s1.setBank b { s1.bank b with fillAt := some (s1.now + 2000000), lastUse := s1.now }
  else
    let s2 := s1.setBank b { s1.bank b with lastUse := s1.now }
    if s2.flag (F.BK_STATUS_WAKING b) || !s2.bankOn b then s2 else s2.set (F.BK_STATUS_REST b) 0

/-- MEM_BANK_POWER (R399, R430). -/
def memBankPower : Cmd := {
  op := 0x900, modes := Mode.quiet, len := (· = 4), prep := true
  range := fun rq _ => inRange (hasSetting (rq.u 0 1) (rq.u 1 1) && zeroBytes rq.payload 2 2)
  stage := fun _ rq s =>
    if rq.u 1 1 = 3 ∧ s.get (F.BK_CTRL_POWER (rq.u 0 1)) ≠ 3 ∧ !s.mayPowerOff (rq.u 0 1) then some { status := .denied } else none
  apply := fun _ rq s => ok (s.setPower (rq.u 0 1) (rq.u 1 1)) }

/-! ### Patrol (R400 to R406) -/

/-- Bank `b` is patrolled (R400, R406). -/
def State.patrolled (s : State) (b : Nat) : Bool :=
  s.flag F.PANTRY_CTRL_PATROL_EN && bitOf (s.get F.PANTRY_PATROL_MASK) b && decide (s.get (F.BK_CTRL_POWER b) < 2) &&
    s.bankOn b && !s.flag (F.BK_STATUS_PATROL_USED b)

/-- When the cycle after one that starts now is due: the interval counts from the start that was due (R400).
Log 45 (DEDUCED). -/
def nextCycle (dueAt now interval : Nat) : Nat :=
  if now ≤ dueAt + interval then dueAt + interval else now + interval

/-- PATROL_CYCLE_START (R400). -/
def execPatrolCycleStart (t b : Nat) (s : State) : Host.Outcome State Fault Refusal :=
  coreStep t (fun s =>
    let x := s.bank b
    if b < 22 ∧ s.patrolled b ∧ s.get (F.BK_STATUS_PHASE b) = 0 ∧ x.cycleAt ≤ s.now then
      let s1 := s.touchBank b
      ((s1.set (F.BK_STATUS_PHASE b) 1).set (F.BK_STATUS_SEGMENT b) x.next).setBank b { s1.bank b with
        cycleAt := nextCycle x.cycleAt s.now (1000 * s.get F.PANTRY_PATROL_INTERVAL)
        phaseAt := s.now, fault := false }
    else s) s

/-- COPY ends (R401): every word of the segment has been read; those with one bit in error are corrected, the others stay
as they are. `bad`: bits that turn wrong in a word before it is copied, by address. Log 95 (DEDUCED). -/
def State.copySegment (s : State) (b : Nat) (bad : List (Nat × List Nat)) : State :=
  let seg := b * 0x1000000 + 4096 * s.get (F.BK_STATUS_SEGMENT b)
  let inside := bad.filter (fun x => decide (seg ≤ x.1 ∧ x.1 < seg + 4096))
  let s1 := inside.foldl (fun (a : State) x => a.upset x.1 x.2) s
  (s1.badWords seg 4096).foldl (fun (a : State) w => (a.checkWord w true).2) s1

/-- The next segment of bank `b`, and the passes completed (R400). -/
def State.endCycle (s : State) (b : Nat) : State :=
  let n := s.get (F.BK_STATUS_SEGMENT b) + 1
  let s1 := s.set (F.BK_STATUS_PHASE b) 0
  if n < bankKib b / 4 then s1.setBank b { s1.bank b with next := n, fault := false }
  else ((s1.bump (F.BK_PATROL_PASSES b)).bump F.PANTRY_PASSES).setBank b { s1.bank b with next := 0, fault := false }

/-- PATROL_REPAIR, the first fault: from RELEASE on the segment is mapped to the repair spare (R405). -/
def State.useRepair (s : State) (b : Nat) : State :=
  let seg := s.get (F.BK_STATUS_SEGMENT b)
  let s1 := ((s.set (F.BK_STATUS_REPAIR_USED b) 1).set (F.BK_STATUS_REPAIRED_SEG b) seg).setBit F.PANTRY_REPAIRED b true
  (s1.cause F.PANTRY_INT_STATUS_REPAIRED).limpRaise 6 (b + 32 * seg)

/-- PATROL_REPAIR, the second fault: the segment stays in the patrol spare, and patrol of the bank ends (R406). -/
def State.usePatrol (s : State) (b : Nat) : State :=
  let seg := s.get (F.BK_STATUS_SEGMENT b)
  let s1 := ((s.set (F.BK_STATUS_PATROL_USED b) 1).set (F.BK_PATROL_CONSUMED_SEG b) seg).setBit F.PANTRY_EXHAUSTED b true
  ((s1.set (F.BK_STATUS_PHASE b) 0).cause F.PANTRY_INT_STATUS_EXHAUSTED).limpRaise 7 (b + 32 * seg)

/-- The phase of a segment cycle on bank `b` ends and the next begins (R401, R405, R406). Log 95 (DEDUCED). -/
def State.endPhase (s : State) (b : Nat) (fault : Bool) (bad : List (Nat × List Nat)) (suppressed : Nat) : State :=
  let x := s.bank b
  let next := fun (s' : State) ph => (s'.set (F.BK_STATUS_PHASE b) ph).setBank b { s'.bank b with phaseAt := s'.now }
  match s.get (F.BK_STATUS_PHASE b) with
  | 1 => next ((s.copySegment b bad).bump F.PANTRY_COPY_SUPPRESS suppressed) 2
  | 2 => next s 3
  | 3 =>
    if s.now < x.phaseAt + 1600 then s
    else if !fault then next s 4
    else if s.flag (F.BK_STATUS_REPAIR_USED b) then s.usePatrol b
    else (next s 4).setBank b { s.bank b with phaseAt := s.now, fault := true }
  | 4 => next (s.bump F.PANTRY_COPY_SUPPRESS suppressed) 5
  | 5 => (if x.fault then s.useRepair b else s).endCycle b
  | _ => s

/-- PATROL_PHASE_END (R401 to R406); `fault`: the march test, which takes 1,280 edges, has found a mismatch;
`suppressed`: the copy writes suppressed in a COPY or a RESTORE (R402). Log 95 (DEDUCED). -/
def execPatrolPhaseEnd (t b : Nat) (fault : Bool) (bad : List (Nat × List Nat)) (suppressed : Nat) (s : State) :
    Host.Outcome State Fault Refusal :=
  coreStep t (fun s => if b < 22 then s.endPhase b fault bad suppressed else s) s

/-! ### The other MEM commands (R430) -/

/-- CONFIGURE, READY, MAINTAIN or HALT. -/
def Mode.quietHalt (m : Mode) : Bool := m.quiet || decide (m = .halt)

/-- MEM_PATROL (R400, R430). -/
def memPatrol : Cmd := {
  op := 0x901, modes := Mode.quietHalt, len := (· = 8), prep := true
  range := fun rq _ => inRange (within (rq.u 0 4) 10 100000 && decide (rq.u 4 4 < 2 ^ 22))
  apply := fun _ rq s => ok ((s.set F.PANTRY_PATROL_INTERVAL (rq.u 0 4)).set F.PANTRY_PATROL_MASK (rq.u 4 4)) }

/-- A BAD transfer of MEM_COPY (R414, R430): its cause and its unit mask. The manual gives its CRC no value.
Log 100 (DESIGN CHOICE). -/
def State.copyBad (s : State) (cause : DwCause) (units : Nat) : Resp × State :=
  let s1 := s.dwBad (128 + Config.bulkSlot 0 % 32) (Config.bulkSlot 1 % 2048) cause units
  ({ status := .hwFault, payload := leBytes 4 (Config.staleField s1.free) ++ leBytes 1 cause.code ++ leBytes 1 0 ++ leBytes 2 units },
    { s1 with free := s1.free + 1 })

/-- The data of MEM_COPY go to host memory; after a failure the bytes there are undefined (R343, R430).
Log 100 (DESIGN CHOICE). -/
def State.copyOut (s : State) (a : Nat) (l : List Byte) (bad : Option (DwCause × Nat)) : Resp × State :=
  match bad with
  | some (cause, units) =>
    let r := s.copyBad cause units
    let free := (List.range l.length).map (fun k => Config.freeByte (r.2.free + k))
    (r.1, { (r.2.hostWrite a free).2 with free := r.2.free + l.length })
  | none =>
    let r := s.bulkWrite a l (leBytes 4 (crc32c l) ++ leBytes 4 0)
    if r.1.status = .ok then r
    else ({ status := .hwFault, payload := leBytes 4 (crc32c l) ++
      leBytes 1 (if s.busMaster then DwCause.hostRead.code else DwCause.link.code) ++ leBytes 3 0 }, r.2)

/-- The blocks of a Cellar transfer that failed, by physical channel, and the cause of the first (R414, R422). -/
def State.cellarFailures (s : State) (blocks : List Nat) (reads : List (Option (List Byte))) : Option (DwCause × Nat) :=
  let l := ((blocks.zip reads).filter (fun x => x.2.isNone)).map (fun x => (s.blockChannel x.1).getD 0)
  match l with
  | [] => none
  | c :: _ => some (if s.chanOnline c then .cellarUncorr else .cellarLost, l.foldl (fun m k => m ||| 2 ^ k) 0)

/-- Bytes of the Cellar's space (R40, R408). -/
def State.cellarSize (s : State) : Nat := 64 * channelRows * s.layoutN

/-- The blocks that `n` bytes from byte `a` touch (R408, R409). -/
def blocksOf (a n : Nat) : List Nat := (List.range ((a + n - 1) / 64 + 1 - a / 64)).map (· + a / 64)

/-- MEM_COPY (R430). Log 100 (DESIGN CHOICE). -/
def memCopy : Cmd := {
  op := 0x902, modes := Mode.quietHalt, len := (· = 24)
  range := fun rq _ => inRange (within (rq.u 0 1) 1 2 && zeroBytes rq.payload 1 3 && within (rq.u 4 4) 1 16777216)
  stage := fun _ rq _ => if rq.u 0 1 = 1 ∧ bankOf (rq.u 8 8) < 3 then some { status := .denied } else none
  apply := fun _ rq s =>
    let n := rq.u 4 4
    let a := rq.u 8 8
    let dst := rq.u 16 8
    if rq.u 0 1 = 1 then
      if !pantryRange a n then s.copyBad .range 0
      else if !s.bankOn (bankOf a) then s.copyBad .bankOff 0
      else
        let (l, bad, s1) := s.pread a n
        s1.copyOut dst l (if bad then some (.pantryUncorr, 0) else none)
    else if s.cellarSize < a + n then s.copyBad .range 0
    else
      let (rs, s1) := s.cellarReads (blocksOf a n)
      let bad := s1.cellarFailures (blocksOf a n) rs
      let l := ((rs.map (fun d => d.getD zeroBlock)).flatten.drop (a % 64)).take n
      let s2 := if bad.isSome ∧ 1 < ((blocksOf a n).map s1.blockChannel).dedup.length then s1.bump F.DW_SPLIT_TOTAL else s1
      s2.copyOut dst l bad }

/-- MEM_QUERY (R430). -/
def memQuery : Cmd := {
  op := 0x903, modes := Mode.normal, len := (· = 4), reads := true
  range := fun rq _ => inRange (decide (rq.u 0 1 < 22) && zeroBytes rq.payload 1 3)
  apply := fun _ rq s =>
    let b := rq.u 0 1
    let rep := s.get (F.BK_STATUS_REPAIR_USED b)
    let pat := s.get (F.BK_STATUS_PATROL_USED b)
    okWith (leBytes 1 (s.get (F.BK_CTRL_POWER b)) ++ leBytes 1 (s.get (F.BK_STATUS_PHASE b)) ++ leBytes 1 (rep + 2 * pat) ++
      leBytes 1 0 ++ leBytes 2 (s.get (F.BK_STATUS_SEGMENT b)) ++
      leBytes 2 (if rep = 1 then s.get (F.BK_STATUS_REPAIRED_SEG b) else 0xFFFF) ++
      leBytes 2 (if pat = 1 then s.get (F.BK_PATROL_CONSUMED_SEG b) else 0xFFFF) ++ leBytes 2 0 ++ leBytes 4 (bankKib b) ++
      leBytes 4 (s.get (F.BK_PATROL_PASSES b)) ++ leBytes 4 (s.get (F.BK_ERR_CORR b)) ++ leBytes 4 (s.get (F.BK_ERR_UNCORR b))) s }

end Sys2Proof.Machine
end

