-- ==== Sys2Proof/Machine/Dumbwaiter.lean ====
section
/-! DEFINITION. The Dumbwaiter's general channels: programs, bursts, waits, signals, faults and register mode (R407 to
R429). Channel `n < 128` is stream channel n; channel `128 + m` is general channel Gm. -/

namespace Sys2Proof.Machine

/-- General channel m. -/
def State.gchan (s : State) (m : Nat) : GenChan := s.chans.get {} m

/-- General channel m replaced. -/
def State.setGchan (s : State) (m : Nat) (c : GenChan) : State := { s with chans := s.chans.set {} m c }

/-- GC_STATUS.STATE: 0 IDLE, 1 RUNNING, 2 WAITING, 3 SETTLING, 4 STOPPED, 5 ENDED. Log 98 (DEDUCED). -/
def State.gcState (s : State) (m v : Nat) : State := s.set (F.GC_STATUS_STATE m) v

/-! ### Faults (R414, R415, R421) -/

/-- The STATUS byte of a slot written (R414); a channel in register mode has none. Log 98 (DEDUCED). -/
def State.writeStatus (s : State) (m slot v : Nat) : State :=
  if (s.gchan m).running || s.flag (F.GC_CTRL_MODE m) then
    s.pwrite (s.get (F.GC_PROG m) + 16 * slot + 1) [BitVec.ofNat 8 v]
  else s

/-- A failure of an instruction, known by its number: the first marks it BAD, a later one of the same instruction adds
its units to the FAULT that shows it (R414, R415, R421, R422). -/
def State.chanBad (s : State) (m slot iter serial : Nat) (cause : DwCause) (units : Nat := 0) (late : Bool := false) : State :=
  let c := s.gchan m
  let old := c.sticky.get 0 slot
  let s1 := s.setGchan m { c with
    sticky := c.sticky.set 0 slot (if bitOf old 1 then old else old ||| (2 + 16 * cause.code))
    bads := if c.bads.contains serial then c.bads else serial :: c.bads
    faultOf := if s.flag (F.GC_FAULT_VALID m) then c.faultOf else some serial }
  if c.bads.contains serial then
    let s2 := if c.faultOf = some serial then s1.set (F.GC_FAULT_UNITS m) (s1.get (F.GC_FAULT_UNITS m) ||| units) else s1
    if late then ((s2.bump F.DW_LATE_TOTAL).cause F.DW_INT_STATUS_LATE).causeBit F.DW_FV_PEND m else s2
  else s1.dwBad (128 + m) slot cause units late iter

/-- An instruction retires: its STATUS byte (R414). Log 98 (DEDUCED). -/
def State.retireStatus (s : State) (m slot : Nat) : State := s.writeStatus m slot (1 ||| (s.gchan m).sticky.get 0 slot)

/-! ### The slots of a program (R410 to R413) -/

/-- An instruction slot. -/
structure Slot where
  op : Nat := 0
  flags : Nat := 0
  count : Nat := 0
  src : Nat := 0
  dst : Nat := 0
  raw : List Byte := []
  deriving DecidableEq, Repr

/-- A slot as its 16 bytes spell it (R410). -/
def parseSlot (l : List Byte) : Slot :=
  { op := uAt l 0 1 % 16, flags := uAt l 0 1 / 16, count := uAt l 2 4, src := uAt l 6 5, dst := uAt l 11 5, raw := l }

/-- Slot `k` of the program of channel m, or the cause for which it cannot be read (R393, R396, R398, R408). -/
def State.fetchSlot (s : State) (m k : Nat) : Except DwCause Slot × State :=
  let a := s.get (F.GC_PROG m) + 16 * k
  if !pantryRange a 16 then (.error .range, s)
  else if bankOf a < 3 ∧ !s.flag (F.GC_CTRL_PRIV m) then
    (.error .privilege, (s.bump F.DW_PRIV_DENIED).cause F.DW_INT_STATUS_PRIV_DENIED)
  else if !s.bankOn (bankOf a) then (.error .bankOff, s)
  else
    let (l, bad, s1) := s.pread a 16
    (if bad then .error .pantryUncorr else .ok (parseSlot l), s1)

/-- The general channels may issue, and channel m is in service. -/
def State.generalOn (s : State) (m : Nat) : Bool :=
  s.flag F.DW_CTRL_ENABLE && s.flag F.DW_CTRL_GENERAL_EN && s.flag (F.GC_CTRL_ENABLE m)

/-- Channel m is ready to execute the slot at its PC. -/
def State.slotReady (s : State) (m : Nat) : Bool :=
  let c := s.gchan m
  decide (m < 32) && c.running && c.cur.isNone && c.waiting.isNone && c.settleFrom.isNone && s.generalOn m

/-- Where the program goes on after the slot before `next`, with the loops that are still open (R413). -/
def nextSlot : List Loop → Nat → List Loop × Nat
  | [], next => ([], next)
  | l :: r, next =>
    if next ≤ l.last then (l :: r, next)
    else if l.iter + 1 < l.count then ({ l with iter := l.iter + 1 } :: r, l.first)
    else nextSlot r next

/-- The iteration of the innermost loop. -/
def GenChan.iter (c : GenChan) : Nat :=
  match c.loops with
  | [] => 0
  | l :: _ => l.iter

/-- The channel goes on after an instruction of `width` slots; the end of the slots without an END ends the run
(R413, R416). -/
def State.advanceSlot (s : State) (m width : Nat) : State :=
  let c := s.gchan m
  let pc := s.get (F.GC_STATUS_PC m)
  let (loops, next) := nextSlot c.loops (pc + width)
  if next < 4096 then (s.setGchan m { c with loops := loops }).set (F.GC_STATUS_PC m) next |>.gcState m 1
  else
    let s1 := s.setGchan m { c with loops := [], serial := c.serial + 1 }
    let s2 := (s1.chanBad m pc c.iter c.serial .noEnd).gcState m 5
    s2.setGchan m { s2.gchan m with running := false }

/-- The instruction at the PC is BAD and is passed over (R411 to R414). Log 97 (DEDUCED). -/
def State.skipBad (s : State) (m width : Nat) (cause : DwCause) (status : Bool) : State :=
  let c := s.gchan m
  let pc := s.get (F.GC_STATUS_PC m)
  let s1 := (s.setGchan m { c with serial := c.serial + 1 }).chanBad m pc c.iter c.serial cause
  (if status then s1.retireStatus m pc else s1).advanceSlot m width

/-! ### Moves (R408, R411, R412, R424, R425) -/

/-- The lowest offset and the end of the highest byte that `lines` lines touch (R425). -/
def extent (base stride : Int) (len lines : Nat) : Int × Int :=
  let top := base + stride * ((lines : Int) - 1)
  (min base top, max base top + len)

/-- The lines of `len` bytes in `total`. -/
def linesIn (total len : Nat) : Nat := if len = 0 then 0 else ceilDiv total len

/-- A side of a transfer lies in its space and may be reached (R393, R398, R408). Log 96 (DEDUCED). -/
def State.sideCheck (s : State) (m space : Nat) (e : Int × Int) : Option DwCause :=
  if e.1 < 0 then some .range
  else
    let a := e.1.toNat
    let n := (e.2 - e.1).toNat
    match space with
    | 0 => if a + n ≤ 2 ^ 37 then none else some .range
    | 1 =>
      if !pantryRange a n then some .range
      else if bankOf a < 3 ∧ !s.flag (F.GC_CTRL_PRIV m) then some .privilege
      else if !s.bankOn (bankOf a) then some .bankOff
      else none
    | 2 => if a + n ≤ s.cellarSize then none else some .range
    | _ => some .range

/-- The byte ranges that the two sides of a transfer touch. -/
def Moving.srcExtent (x : Moving) : Int × Int :=
  if x.op = 3 ∨ x.op = 4 then (x.src, x.src + 8) else extent x.src x.srcStride x.srcLen (linesIn x.total x.srcLen)

/-- The bytes that the destination of a transfer spans (R408, R412). -/
def Moving.dstExtent (x : Moving) : Int × Int := extent x.dst x.dstStride x.dstLen (linesIn x.total x.dstLen)

/-- The two sides lie in the same space and intersect (R424, R425). -/
def Moving.overlaps (x : Moving) : Bool :=
  decide (x.srcSpace = x.dstSpace) && decide (x.srcExtent.1 < x.dstExtent.2) && decide (x.dstExtent.1 < x.srcExtent.2)

/-- The full address of an offset: in host memory HOST_BASE stands above it (R408). -/
def State.fullAddr (s : State) (m space : Nat) (off : Int) : Nat :=
  if space = 0 then s.get (F.GC_HOST_BASE m) * 2 ^ 32 + off.toNat else off.toNat

/-- Bytes read for a burst: every whole aligned 64-byte unit is read, the surplus dropped (R409). What fails, with its
unit mask; and whether the bytes are delivered all the same, as zeros of the Cellar (R420, R422). Log 96 (DEDUCED). -/
def State.burstRead (s : State) (space a n : Nat) : (Option (List Byte) × Option (DwCause × Nat)) × State :=
  let lo := a / 64 * 64
  let len := (a + n + 63) / 64 * 64 - lo
  match space with
  | 0 =>
    match s.hostRead lo len with
    | some l => ((some (bytesAt l (a - lo) n), none), s)
    | none => ((none, some (if s.busMaster then .hostRead else .link, 0)), s)
  | 1 =>
    if !s.bankOn (bankOf a) then ((none, some (.bankOff, 0)), s)
    else
      let (l, bad, s1) := s.pread lo len
      let s2 := if s1.redirected a then s1.bump F.PANTRY_REDIRECT_WAITS (len / 64) else s1
      if bad then ((none, some (.pantryUncorr, 0)), s2) else ((some (bytesAt l (a - lo) n), none), s2)
  | _ =>
    let (rs, s1) := s.cellarReads (blocksOf a n)
    ((some (bytesAt (rs.map (fun d => d.getD zeroBlock)).flatten (a - lo) n), s1.cellarFailures (blocksOf a n) rs), s1)

/-- Bytes written to the Cellar's space, block by block, those on a channel of `dead` not at all: the cause and the units
of what failed (R60, R61, R63, R409, R422). -/
def State.cellarStoreBytes (s : State) (a dead : Nat) (l : List Byte) : List Nat → Option (DwCause × Nat) × State
  | [] => (none, s)
  | b :: r =>
    let from_ := max a (64 * b)
    let part := bytesAt l (from_ - a) (min (a + l.length) (64 * b + 64) - from_)
    let c := (s.blockChannel b).getD 0
    let (bad, s1) : Option DwCause × State :=
      if bitOf dead c then (none, s)
      else if !s.chanOnline c then (some .cellarLost, s.cellarWrite b part)
      else if part.length = 64 then (none, s.cellarWrite b part)
      else
        let (e, s') := s.cellarPartialWrite b (from_ - 64 * b) part
        (if e then some .cellarUncorr else none, s')
    let (rest, s2) := s1.cellarStoreBytes a dead l r
    match bad, rest with
    | some x, some y => (some (x, y.2 ||| 2 ^ c), s2)
    | some x, none => (some (x, 2 ^ c), s2)
    | none, y => (y, s2)

/-- Bytes written for a burst: what fails, with its unit mask. -/
def State.burstWrite (s : State) (space a : Nat) (l : List Byte) (dead : Nat := 0) : Option (DwCause × Nat) × State :=
  match space with
  | 0 =>
    match s.hostWrite a l with
    | (true, s1) => (none, s1)
    | (false, s1) => (some (if s1.busMaster then .hostRead else .link, 0), s1)
  | 1 =>
    if !s.bankOn (bankOf a) then (some (.bankOff, 0), s)
    else
      let (bad, s1) := s.pwriteCheck a l
      let s2 := if s1.redirected a then s1.bump F.PANTRY_REDIRECT_WAITS ((a + l.length + 63) / 64 - a / 64) else s1
      (if bad then some (.pantryUncorr, 0) else none, s2)
  | _ => s.cellarStoreBytes a dead l (blocksOf a l.length)

/-- A transfer whose blocks lie on several channels, and of which some parts fail, is counted (R422).
Log 37 (DESIGN CHOICE). -/
def State.countSplit (s : State) (space a n : Nat) (fail : Option (DwCause × Nat)) : State :=
  if space = 2 ∧ fail.isSome ∧ 1 < ((blocksOf a n).map s.blockChannel).dedup.length then s.bump F.DW_SPLIT_TOTAL else s

/-- The pattern of a FILL is read once, when the instruction starts (R412). -/
def State.readPattern (s : State) (m : Nat) (x : Moving) : Except (DwCause × Nat) Moving × State :=
  if x.op = 3 ∨ x.op = 4 then
    match s.burstRead x.srcSpace (s.fullAddr m x.srcSpace x.src) 8 with
    | ((some l, none), s1) => (.ok { x with pattern := l }, s1)
    | ((_, some e), s1) => (.error e, s1)
    | ((none, none), s1) => (.error (.none, 0), s1)
  else (.ok x, s)

/-- The checks made when a transfer starts (R393, R398, R408, R425); `allow`: ALLOW_OVERLAP. Log 96 (DEDUCED). -/
def State.moveCheck (s : State) (m : Nat) (x : Moving) (allow : Bool) : Option DwCause :=
  match s.sideCheck m x.srcSpace x.srcExtent with
  | some c => some c
  | none =>
    match s.sideCheck m x.dstSpace x.dstExtent with
    | some c => some c
    | none => if x.op = 2 ∧ x.overlaps ∧ !allow then some .overlap else none

/-- A transfer starts: what its checks find, or the transfer under way. -/
def State.startMove (s : State) (m : Nat) (x : Moving) (allow : Bool) : Except (DwCause × Nat) Moving × State :=
  let bad := s.moveCheck m x allow
  let s1 := if x.op = 2 ∧ x.overlaps ∧ (bad = none ∨ bad = some .overlap) then s.bump F.DW_OVERLAP_TOTAL else s
  match bad with
  | some c =>
    (.error (c, 0), if c = .privilege then (s1.bump F.DW_PRIV_DENIED).cause F.DW_INT_STATUS_PRIV_DENIED else s1)
  | none => s1.readPattern m { x with
      descend := decide (x.op = 1) && x.overlaps && decide (x.src < x.dst)
      lineByLine := decide (x.op = 2) && x.overlaps }

/-- The sums of the steps of the loops that are open (R413). -/
def GenChan.steps (c : GenChan) : Int × Int :=
  c.loops.foldl (fun (a : Int × Int) l => (a.1 + l.srcStep * l.iter, a.2 + l.dstStep * l.iter)) (0, 0)

/-- A shape slot's side: stride, length, lines. -/
def shapeSide (l : List Byte) (off : Nat) : Int × Nat × Nat := (sAt l off 4, uAt l (off + 4) 2, uAt l (off + 6) 2)

/-- The transfer that a slot of the program describes, or none where its form is ILLEGAL (R411, R412). `shape` holds the
16 bytes of the slot after it. -/
def GenChan.moving (c : GenChan) (pc : Nat) (x : Slot) (shape : List Byte) : Option Moving :=
  let two := decide (x.op = 2 ∨ x.op = 4 ∨ x.op = 6)
  let (sStride, sLen, sLines) := shapeSide shape 0
  let (dStride, dLen, dLines) := shapeSide shape 8
  let fill := decide (x.op = 3 ∨ x.op = 4)
  let sideOk : Nat → Nat → Bool := fun len lines => decide (1 ≤ len ∧ 1 ≤ lines ∧ len * lines = x.count)
  let shapeOk := if fill then decide (sStride = 0 ∧ sLen = 0 ∧ sLines = 0) && sideOk dLen dLines
    else sideOk sLen sLines && sideOk dLen dLines
  if x.count = 0 ∨ x.flags ≠ (if x.op = 2 then x.flags &&& 2 else 0) ∨ (two ∧ !shapeOk) then none
  else
    let src : Int := (x.src % 2 ^ 37 : Nat)
    let dst : Int := (x.dst % 2 ^ 37 : Nat)
    some {
      slot := pc, width := if two then 2 else 1, iter := c.iter, serial := c.serial, op := x.op, total := x.count
      srcSpace := x.src / 2 ^ 37, dstSpace := x.dst / 2 ^ 37
      src := if fill then src else src + c.steps.1, dst := dst + c.steps.2
      srcStride := if two then sStride else 0, srcLen := if two ∧ !fill then sLen else x.count
      dstStride := if two then dStride else 0, dstLen := if two then dLen else x.count }

/-- The move-type instruction at the PC of channel m starts (R411, R412). -/
def State.execMove (s : State) (m : Nat) (x : Slot) : State :=
  let c := s.gchan m
  let pc := s.get (F.GC_STATUS_PC m)
  let two := decide (x.op = 2 ∨ x.op = 4 ∨ x.op = 6)
  let width := if two then 2 else 1
  let (shape, s1) : Except DwCause (List Byte) × State :=
    if !two then (.ok [], s)
    else if pc = 4095 then (.error .illegal, s)
    else match s.fetchSlot m (pc + 1) with
      | (.ok y, s') => (.ok y.raw, s')
      | (.error e, s') => (.error e, s')
  match shape with
  | .error e => s1.skipBad m width e true
  | .ok sh =>
    match c.moving pc x sh with
    | none => s1.skipBad m width .illegal true
    | some mv =>
      match s1.startMove m mv (bitOf x.flags 1) with
      | (.error (e, units), s2) =>
        let s3 := (s2.setGchan m { s2.gchan m with serial := c.serial + 1 }).chanBad m pc c.iter c.serial e units
        (s3.retireStatus m pc).advanceSlot m width
      | (.ok mv', s2) => s2.setGchan m { s2.gchan m with cur := some mv', serial := c.serial + 1 }

/-! ### Retirement and register mode (R418, R427) -/

/-- Every read of an instruction has delivered its data. -/
def GenChan.readsDone (c : GenChan) (serial : Nat) : Bool :=
  c.flight.all (fun b => decide (b.serial ≠ serial) || b.data.isSome)

/-- The active set of a channel as a transfer (R427). -/
def State.activeSet (s : State) (m : Nat) : Moving :=
  let n := s.get (F.GC_XFER_COUNT m)
  let total := if n = 0 then 1048576 else n
  let src := s.get (F.GC_SRC_LO m) + 2 ^ 32 * s.get (F.GC_SRC_HI m)
  let dst := s.get (F.GC_DST_LO m) + 2 ^ 32 * s.get (F.GC_DST_HI m)
  { serial := (s.gchan m).serial, op := s.get (F.GC_XFER_OP m), total := total, srcLen := total, dstLen := total,
    srcSpace := src / 2 ^ 37, dstSpace := dst / 2 ^ 37, src := (src % 2 ^ 37 : Nat), dst := (dst % 2 ^ 37 : Nat) }

/-- The active transfer starts; a failure of its checks marks it BAD, and true says that it has ended so. -/
def State.beginXfer (s : State) (m : Nat) : Bool × State :=
  let x := s.activeSet m
  let s1 := (s.setGchan m { s.gchan m with serial := x.serial + 1, sticky := {} }).gcState m 1
  let r : Except (DwCause × Nat) Moving × State :=
    if x.op = 1 ∨ x.op = 3 ∨ x.op = 5 then s1.startMove m x false else (.error (.illegal, 0), s1)
  match r with
  | (.error (e, units), s2) => (true, s2.chanBad m 0 0 x.serial e units)
  | (.ok y, s2) => (false, s2.setGchan m { s2.gchan m with cur := some y })

/-- DW_SHADOW_PROMOTION (R427): the shadow set becomes the active set. -/
def State.copyShadow (s : State) (m : Nat) : State :=
  let s1 := ((s.set (F.GC_SRC_LO m) (s.get (F.GC_SH_SRC_LO m))).set (F.GC_SRC_HI m) (s.get (F.GC_SH_SRC_HI m)))
  let s2 := ((s1.set (F.GC_DST_LO m) (s.get (F.GC_SH_DST_LO m))).set (F.GC_DST_HI m) (s.get (F.GC_SH_DST_HI m)))
  let s3 := s2.setReg (F.GC_XFER_OP m).off (s.reg (F.GC_SH_XFER_OP m).off)
  (s3.set (F.GC_SH_XFER_GO m) 0).bump F.DW_PROMOTIONS

/-- The active transfer has retired, and settled when its SETTLE bit is set: its event line pulses, and a shadow set that
waits is promoted (R427). At most one set waits, so a promotion that fails its checks is followed by no other.
Log 24 (DEDUCED). -/
def State.promote (s : State) (m : Nat) : Nat → State
  | 0 => s
  | n + 1 =>
    let s1 := if s.flag (F.GC_XFER_SIGNAL_EN m) then s.pulse (32 + s.get (F.GC_XFER_EV m)) else s
    if s1.flag (F.GC_SH_XFER_GO m) then
      match (s1.copyShadow m).beginXfer m with
      | (true, s2) => s2.promote m n
      | (false, s2) => s2
    else s1.gcState m 0

/-- The register transfer retires (R427). -/
def State.retireXfer (s : State) (m : Nat) : State :=
  let s1 := s.setGchan m { s.gchan m with cur := none }
  if s1.flag (F.GC_XFER_SETTLE m) ∧ (s1.gchan m).flight ≠ [] then
    (s1.setGchan m { s1.gchan m with settleFrom := some s1.now }).gcState m 3
  else s1.promote m 2

/-- The instruction under way retires once its last burst has been issued, its reads have delivered and its last write
has left the engine (R418). -/
def State.tryRetire (s : State) (m : Nat) : State :=
  let c := s.gchan m
  match c.cur with
  | none => s
  | some x =>
    if x.total ≤ x.issued ∧ c.readsDone x.serial then
      if c.running then ((s.retireStatus m x.slot).setGchan m { c with cur := none }).advanceSlot m x.width
      else s.retireXfer m
    else s

/-- What waits for every earlier response ends: a SIGNAL with SETTLE pulses, a FENCE lets the channel go on, a register
transfer settles (R418, R427). -/
def State.trySettle (s : State) (m : Nat) : State :=
  let c := s.gchan m
  match c.settleFrom with
  | none => s
  | some f =>
    if c.flight ≠ [] then s
    else
      let s1 := (s.setGchan m { c with settleFrom := none, settleLine := none }).set F.DW_SETTLE_MAX
        (max (s.get F.DW_SETTLE_MAX) (min (s.now - f) 0xFFFFFFFF))
      if c.running then
        (match c.settleLine with
          | some k => s1.pulse k
          | none => s1).advanceSlot m 1
      else s1.promote m 2

/-! ### Bursts (R407, R409, R417, R420 to R426) -/

/-- The address of the byte at offset `o` of a side's stream (R412). -/
def sideAddr (base stride : Int) (len o : Nat) : Int := base + stride * (o / len : Nat) + (o % len : Nat)

/-- The bytes of a burst that begins at offset `o`: to the end of the transfer and of its lines, and to the next multiple
of 512 bytes on either side (R407). Log 96 (DEDUCED). -/
def Moving.burstLen (x : Moving) (srcAddr dstAddr o : Nat) : Nat :=
  let d := min (x.dstLen - o % x.dstLen) (512 - dstAddr % 512)
  let r := min (x.total - o) d
  if x.op = 3 ∨ x.op = 4 then r else min r (min (x.srcLen - o % x.srcLen) (512 - srcAddr % 512))

/-- The next burst of a transfer (R407, R424). A descending copy takes the bytes below those already issued. -/
def State.nextBurst (s : State) (m : Nat) (x : Moving) : Burst :=
  let left := x.total - x.issued
  if x.descend then
    let se := s.fullAddr m x.srcSpace (x.src + left)
    let de := s.fullAddr m x.dstSpace (x.dst + left)
    let k := min left (min ((se + 511) % 512 + 1) ((de + 511) % 512 + 1))
    { slot := x.slot, iter := x.iter, serial := x.serial, op := x.op, off := left - k, len := k, src := se - k, dst := de - k,
      srcSpace := x.srcSpace, dstSpace := x.dstSpace }
  else
    let fill := decide (x.op = 3 ∨ x.op = 4)
    let sa := s.fullAddr m x.srcSpace (sideAddr x.src x.srcStride x.srcLen x.issued)
    let da := s.fullAddr m x.dstSpace (sideAddr x.dst x.dstStride x.dstLen x.issued)
    let k := x.burstLen sa da x.issued
    { slot := x.slot, iter := x.iter, serial := x.serial, op := x.op, off := x.issued, len := k, src := sa, dst := da,
      srcSpace := x.srcSpace, dstSpace := x.dstSpace
      data := if fill then some ((List.range k).map (fun j => x.pattern.getD ((x.issued + j) % 8) 0)) else none }

/-- Bursts in flight: of a stream channel, of every channel (R407). -/
def State.flightOf (s : State) (ch : Nat) : Nat :=
  if ch < 128 then
    match (s.stream ch).fetch with
    | some f => f.flight.length
    | none => 0
  else (s.gchan (ch - 128)).flight.length

/-- The bursts in flight on every channel (R407). -/
def State.flightAll (s : State) : Nat := ((List.range 160).map s.flightOf).foldl (· + ·) 0

/-- Channel `ch` is ready to issue a burst (R81, R407, R425, R426). -/
def State.burstReady (s : State) (ch : Nat) : Bool :=
  s.flag F.DW_CTRL_ENABLE && decide (s.flightOf ch < 16) &&
    if ch < 128 then
      s.flag F.DW_CTRL_STREAM_EN && s.flag (F.SC_CTRL_ENABLE ch) && s.gateOpen ch &&
        match (s.stream ch).fetch with
        | some f => !f.discard && decide (f.issued < f.len)
        | none => false
    else
      s.generalOn (ch - 128) &&
        match (s.gchan (ch - 128)).cur with
        | some x => decide (x.issued < x.total) && (!x.lineByLine || decide (x.issued % x.dstLen ≠ 0) ||
            (s.gchan (ch - 128)).flight.all (fun b => decide (b.serial ≠ x.serial)))
        | none => false

/-- The priority of a channel (R407, R426). -/
def State.dwPriority (s : State) (ch : Nat) : Nat :=
  if ch < 128 then s.get (F.SC_CTRL_PRIORITY ch) else s.get (F.GC_CTRL_PRIORITY (ch - 128))

/-- The channel that issues next: the highest level that has a ready channel, round-robin within it (R407). -/
def State.dwNext (s : State) : Option Nat :=
  let ready := (List.range 160).filter s.burstReady
  let level := (ready.map s.dwPriority).foldl max 0
  let l := ready.filter (fun ch => decide (s.dwPriority ch = level))
  match l.find? (fun ch => decide (s.dwLast.get 159 level < ch)) with
  | some ch => some ch
  | none => l.head?

/-- Channel `ch` issues a burst. -/
def State.issueBurst (s : State) (ch : Nat) : State :=
  let level := s.dwPriority ch
  let s1 := { s with dwLast := s.dwLast.set 159 level ch }.set F.DW_STATUS_LEVEL level
  if ch < 128 then s1.issueStream ch
  else
    let m := ch - 128
    let c := s1.gchan m
    match c.cur with
    | none => s1
    | some x =>
      let b := s1.nextBurst m x
      let s2 := s1.setGchan m { c with cur := some { x with issued := x.issued + b.len }, flight := c.flight ++ [b] }
      (s2.bump F.DW_BURST_TOTAL).tryRetire m

/-- DW_BURST_ISSUE (R407). -/
def execDwBurstIssue (t : Nat) (s : State) : Host.Outcome State Fault Refusal :=
  coreStep t (fun s =>
    if s.flightAll < 256 then
      match s.dwNext with
      | some ch => s.issueBurst ch
      | none => s
    else s) s

/-- The write of a burst may not be issued: an earlier read of its instruction is outstanding that it could overwrite
(R424). -/
def GenChan.held (c : GenChan) (b : Burst) : Bool :=
  decide (b.op = 1) && c.flight.any (fun e => decide (e.serial = b.serial) && e.data.isNone &&
    decide (e.srcSpace = b.dstSpace ∧ e.src < b.dst + b.len ∧ b.dst < e.src + e.len))

/-- The first offset at which two byte strings differ. -/
def firstDiff : List Byte → List Byte → Nat → Option Nat
  | a :: r, b :: q, k => if a = b then firstDiff r q (k + 1) else some k
  | _, _, _ => none

/-- A difference found by a CMP (R423). -/
def State.mismatch (s : State) (m : Nat) (b : Burst) (off : Nat) : State :=
  let c := s.gchan m
  let s1 := s.setGchan m { c with
    sticky := c.sticky.set 0 b.slot (c.sticky.get 0 b.slot ||| 4), misOf := some (c.misOf.getD b.serial) }
  match c.misOf with
  | none => s1.set (F.GC_MISMATCH m) off
  | some k => if k = b.serial then s1.set (F.GC_MISMATCH m) (min (s1.get (F.GC_MISMATCH m)) off) else s1

/-- The instruction of a burst has retired. -/
def GenChan.retired (c : GenChan) (b : Burst) : Bool :=
  match c.cur with
  | some x => decide (x.serial ≠ b.serial)
  | none => true

/-- A failure of a burst; after the retirement of its instruction it is late, and STATUS is written again (R421).
Log 98 (DEDUCED). -/
def State.burstBad (s : State) (m : Nat) (b : Burst) (fail : Option (DwCause × Nat)) : State :=
  match fail with
  | none => s
  | some (cause, units) =>
    let late := (s.gchan m).retired b
    let s1 := s.chanBad m b.slot b.iter b.serial cause units late
    if late then s1.writeStatus m b.slot (9 ||| (s1.gchan m).sticky.get 0 b.slot) else s1

/-- Burst `k` of channel m has left the flight. -/
def State.dropBurst (s : State) (m k : Nat) : State := s.setGchan m { s.gchan m with flight := (s.gchan m).flight.eraseIdx k }

/-- A read of a burst delivers: the data of a MOVE go on to be written, those of a CMP are compared (R420, R423). -/
def State.deliver (s : State) (m k : Nat) (b : Burst) : State :=
  let ((d, fail), s1) := s.burstRead b.srcSpace b.src b.len
  if b.op = 5 ∨ b.op = 6 then
    let ((e, fail2), s2) := s1.burstRead b.dstSpace b.dst b.len
    let s3 := ((s2.countSplit b.srcSpace b.src b.len fail).countSplit b.dstSpace b.dst b.len fail2).burstBad m b fail
    let s4 := (s3.burstBad m b fail2).bump F.DW_BYTE_TOTAL (ceilDiv b.len 64)
    let s5 := match d, e with
      | some x, some y => if fail.isNone ∧ fail2.isNone then
          match firstDiff x y 0 with
          | some o => s4.mismatch m b (b.off + o)
          | none => s4
        else s4
      | _, _ => s4
    s5.dropBurst m k
  else
    let s2 := (s1.countSplit b.srcSpace b.src b.len fail).burstBad m b fail
    match d with
    | some l => s2.setGchan m { s2.gchan m with flight := (s2.gchan m).flight.set k { b with data := some l } }
    | none => s2.dropBurst m k

/-- A write of a burst lands, and its response returns; `dead` and `fail` are those of a DW_LATE_ERROR. -/
def State.land (s : State) (m k : Nat) (b : Burst) (l : List Byte) (fail : Option (DwCause × Nat)) : State :=
  let (e, s1) := match fail with
    | none => s.burstWrite b.dstSpace b.dst l
    | some f => (some f, if b.dstSpace = 2 then (s.burstWrite 2 b.dst l f.2).2 else s)
  let s2 := (s1.countSplit b.dstSpace b.dst b.len e).bump F.DW_BYTE_TOTAL (ceilDiv b.len 64)
  (s2.burstBad m b e).dropBurst m k

/-- Burst `k` of general channel m completes: its read delivers, or its write lands. -/
def State.completeBurst (s : State) (m k : Nat) : State :=
  match (s.gchan m).flight[k]? with
  | none => s
  | some b =>
    match b.data with
    | none => ((s.deliver m k b).tryRetire m).trySettle m
    | some l => if (s.gchan m).held b then s else ((s.land m k b l none).tryRetire m).trySettle m

/-- DW_BURST_COMPLETE (R420): burst `k` of channel `ch`, the oldest of a stream channel; `stall`: edges on which its
access waited for its bank (R392). Log 105 (DESIGN CHOICE). -/
def execDwBurstComplete (t ch k stall : Nat) (s : State) : Host.Outcome State Fault Refusal :=
  coreStep t (fun s =>
    let s1 := s.bump F.PANTRY_DW_STALL stall
    if 160 ≤ ch ∨ s.flightOf ch ≤ k then s
    else if ch < 128 then s1.completeStream ch true
    else s1.completeBurst (ch - 128) k) s

/-- DW_LATE_ERROR (R421): the response to a write of an instruction that has retired reports an error, on the units
given for a Cellar write (R422). -/
def execDwLateError (t m k cause units : Nat) (s : State) : Host.Outcome State Fault Refusal :=
  coreStep t (fun s =>
    match (s.gchan m).flight[k]? with
    | some b =>
      match b.data with
      | some l =>
        if m < 32 ∧ (s.gchan m).retired b ∧ [2, 3, 4, 5, 8].contains cause then
          (s.land m k b l (some (DwCause.ofCode cause, units % 4096))).trySettle m
        else s
      | none => s
    | none => s) s

/-- HOST_READ_TIMEOUT (R414): a host read of burst `k` of channel `ch` gets no completion in time. -/
def execHostReadTimeout (t ch k : Nat) (s : State) : Host.Outcome State Fault Refusal :=
  coreStep t (fun s =>
    if 160 ≤ ch ∨ s.flightOf ch ≤ k then s
    else if ch < 128 then s.completeStream ch false
    else
      let m := ch - 128
      match (s.gchan m).flight[k]? with
      | some b =>
        let reads := b.srcSpace = 0 ∨ ((b.op = 5 ∨ b.op = 6) ∧ b.dstSpace = 0)
        if b.data.isNone ∧ reads then (((s.burstBad m b (some (.hostRead, 0))).dropBurst m k).tryRetire m).trySettle m else s
      | none => s) s

/-! ### Program mode (R410 to R419) -/

/-- DW_PROGRAM_START (R415): the firmware starts the program at `prog` on channel m; the host has no program mode
(R429). -/
def execDwProgramStart (t m prog base priority : Nat) (priv : Bool) (s : State) : Host.Outcome State Fault Refusal :=
  coreStep t (fun s =>
    let c := s.gchan m
    if m < 32 ∧ s.mode ≠ .boot ∧ s.mode ≠ .diagnose ∧ !c.running ∧ c.cur.isNone ∧ c.settleFrom.isNone then
      let s1 := (((s.set (F.GC_CTRL_ENABLE m) 1).set (F.GC_CTRL_MODE m) 1).set (F.GC_CTRL_PRIORITY m) priority).set
        (F.GC_CTRL_PRIV m) (b2n priv)
      let s2 := ((s1.set (F.GC_PROG m) (prog / 16 * 16)).set (F.GC_HOST_BASE m) base).setReg (F.GC_FAULT_INDEX m).off 0
      let s3 := ((s2.set (F.GC_STATUS_FAULT_ITER m) 0).set (F.GC_STATUS_PC m) 0).gcState m 1
      s3.setGchan m { c with running := true, loops := [], sticky := {}, bads := [], faultOf := none, misOf := none }
    else s) s

/-- The slot at the PC of channel m executes, when its OP is one that `ops` accepts; a slot that cannot be read is BAD and
passed over. -/
def State.onSlot (s : State) (m : Nat) (ops : Nat → Bool) (f : Slot → State → State) (unread : Bool := false) : State :=
  if s.slotReady m then
    match s.fetchSlot m (s.get (F.GC_STATUS_PC m)) with
    | (.ok x, s1) => if ops x.op then f x s1 else s
    | (.error e, s1) => if unread then s1.skipBad m 1 e false else s
  else s

/-- DW_NOP (R411); and an OP that names no opcode, or a slot that cannot be read, which is BAD. -/
def execDwNop (t m : Nat) (s : State) : Host.Outcome State Fault Refusal :=
  coreStep t (fun s => s.onSlot m (fun op => decide (op = 0 ∨ (11 ≤ op ∧ op ≤ 14)))
    (fun x s' => if x.op = 0 ∧ x.flags = 0 then s'.advanceSlot m 1 else s'.skipBad m 1 .illegal false) true) s

/-- DW_MOVE (R424). -/
def execDwMove (t m : Nat) (s : State) : Host.Outcome State Fault Refusal :=
  coreStep t (fun s => s.onSlot m (· = 1) (fun x s' => s'.execMove m x)) s

/-- DW_MOVE2D (R412, R425). -/
def execDwMove2d (t m : Nat) (s : State) : Host.Outcome State Fault Refusal :=
  coreStep t (fun s => s.onSlot m (· = 2) (fun x s' => s'.execMove m x)) s

/-- DW_FILL (R412). -/
def execDwFill (t m : Nat) (s : State) : Host.Outcome State Fault Refusal :=
  coreStep t (fun s => s.onSlot m (· = 3) (fun x s' => s'.execMove m x)) s

/-- DW_FILL2D (R412). -/
def execDwFill2d (t m : Nat) (s : State) : Host.Outcome State Fault Refusal :=
  coreStep t (fun s => s.onSlot m (· = 4) (fun x s' => s'.execMove m x)) s

/-- DW_CMP (R423). -/
def execDwCmp (t m : Nat) (s : State) : Host.Outcome State Fault Refusal :=
  coreStep t (fun s => s.onSlot m (· = 5) (fun x s' => s'.execMove m x)) s

/-- DW_CMP2D (R412, R423). -/
def execDwCmp2d (t m : Nat) (s : State) : Host.Outcome State Fault Refusal :=
  coreStep t (fun s => s.onSlot m (· = 6) (fun x s' => s'.execMove m x)) s

/-- The LOOP at the PC (R413). Log 97 (DEDUCED). -/
def State.execLoop (s : State) (m : Nat) (x : Slot) : State :=
  let c := s.gchan m
  let pc := s.get (F.GC_STATUS_PC m)
  let body := x.src / 2 ^ 32 + 256 * (x.dst / 2 ^ 32 % 16)
  if x.flags ≠ 0 ∨ body = 0 ∨ 4095 < pc + body then s.skipBad m 1 .illegal false
  else if x.count = 0 ∨ 4 ≤ c.loops.length then s.skipBad m (1 + body) .illegal false
  else
    let l : Loop := { first := pc + 1, last := pc + body, count := x.count, srcStep := toSigned 32 x.src, dstStep := toSigned 32 x.dst }
    (s.setGchan m { c with loops := l :: c.loops }).set (F.GC_STATUS_PC m) (pc + 1)

/-- DW_LOOP (R413). -/
def execDwLoop (t m : Nat) (s : State) : Host.Outcome State Fault Refusal :=
  coreStep t (fun s => s.onSlot m (· = 7) (fun x s' => s'.execLoop m x)) s

/-- A WAIT completes: its line's latch is cleared (R419). Log 97 (DEDUCED). -/
def State.waitDone (s : State) (m k : Nat) : State :=
  let c := s.gchan m
  let s1 := s.setGchan m { c with waiting := none, latches := putBit c.latches k false }
  (s1.retireStatus m (s1.get (F.GC_STATUS_PC m))).advanceSlot m 1

/-- DW_WAIT (R419). -/
def execDwWait (t m : Nat) (s : State) : Host.Outcome State Fault Refusal :=
  coreStep t (fun s => s.onSlot m (· = 8) (fun x s' =>
    let k := x.src % 64
    let c := s'.gchan m
    if 1 < x.flags then s'.skipBad m 1 .illegal true
    else if x.flags = 1 ∧ bitOf c.latches k then s'.waitDone m k
    else
      let w : Waiting := { line := k, deadline := if x.count = 0 then none else some (s'.now + 1000 * x.count) }
      (s'.setGchan m { c with waiting := some w }).gcState m 2)) s

/-- DW_WAIT_DONE (R419). -/
def execDwWaitDone (t m : Nat) (s : State) : Host.Outcome State Fault Refusal :=
  coreStep t (fun s =>
    match (s.gchan m).waiting with
    | some w => if m < 32 ∧ w.seen then s.waitDone m w.line else s
    | none => s) s

/-- DW_WAIT_TIMEOUT (R419). -/
def execDwWaitTimeout (t m : Nat) (s : State) : Host.Outcome State Fault Refusal :=
  coreStep t (fun s =>
    match (s.gchan m).waiting with
    | some w =>
      match w.deadline with
      | some d =>
        if m < 32 ∧ d ≤ s.now ∧ !w.seen then
          let s1 := s.setGchan m { s.gchan m with waiting := none, expired := some w.line }
          ((s1.bump F.DW_WAIT_TIMEOUT_TOTAL).cause F.DW_INT_STATUS_WAIT_TIMEOUT).skipBad m 1 .timeout true
        else s
      | none => s
    | none => s) s

/-- The channel waits for every earlier response; with none outstanding it goes on at once (R418). -/
def State.settleSlot (s : State) (m : Nat) (line : Option Nat) : State :=
  let c := s.gchan m
  ((s.setGchan m { c with settleFrom := some s.now, settleLine := line }).gcState m 3).trySettle m

/-- DW_SIGNAL (R418). -/
def execDwSignal (t m : Nat) (s : State) : Host.Outcome State Fault Refusal :=
  coreStep t (fun s => s.onSlot m (· = 9) (fun x s' =>
    let k := x.src % 64
    if 1 < x.flags ∨ k < 32 then s'.skipBad m 1 .illegal false
    else if x.flags = 1 then s'.settleSlot m (some k)
    else (s'.pulse k).advanceSlot m 1)) s

/-- DW_FENCE (R418). -/
def execDwFence (t m : Nat) (s : State) : Host.Outcome State Fault Refusal :=
  coreStep t (fun s => s.onSlot m (· = 10) (fun x s' =>
    if x.flags ≠ 0 then s'.skipBad m 1 .illegal false else s'.settleSlot m none)) s

/-- DW_END (R416): the run ends; bursts in flight complete. -/
def execDwEnd (t m : Nat) (s : State) : Host.Outcome State Fault Refusal :=
  coreStep t (fun s => s.onSlot m (· = 15) (fun x s' =>
    if x.flags ≠ 0 then s'.skipBad m 1 .illegal false
    else (s'.setGchan m { s'.gchan m with running := false, loops := [] }).gcState m 5)) s

/-- A STOP (R416): nothing more is issued, and the instruction in progress is BAD with cause ABORT. Log 97 (DEDUCED). -/
def State.stopChan (s : State) (m : Nat) : State :=
  let c := s.gchan m
  let pc := if c.running then s.get (F.GC_STATUS_PC m) else 0
  if !c.running ∧ c.cur.isNone ∧ c.settleFrom.isNone then s
  else
    let (serial, s0) := match c.cur with
      | some x => (x.serial, s)
      | none => (c.serial, s.setGchan m { c with serial := c.serial + 1 })
    let busy := c.cur.isSome || c.waiting.isSome || c.settleFrom.isSome
    let s1 := if busy then s0.chanBad m pc c.iter serial .abort else s0
    let s2 := if c.cur.isSome || c.waiting.isSome then s1.retireStatus m pc else s1
    (s2.setGchan m { s2.gchan m with
      running := false, cur := none, waiting := none, settleFrom := none, settleLine := none, loops := [] }).gcState m 4

/-! ### Register mode (R427 to R429) -/

/-- The active transfer of a channel runs: its registers take no write (R428). -/
def State.activeRuns (s : State) (m : Nat) : Bool :=
  let c := s.gchan m
  c.running || c.cur.isSome || c.settleFrom.isSome

/-- XFER with GO has been written (R427): FAULT is cleared, and the active set starts. -/
def State.startXfer (s : State) (m : Nat) : State :=
  let s1 := (s.setReg (F.GC_FAULT_INDEX m).off 0).set (F.GC_STATUS_FAULT_ITER m) 0
  let s2 := s1.setGchan m { s1.gchan m with sticky := {}, bads := [], faultOf := none, misOf := none }
  match (s2.set (F.GC_STATUS_PC m) 0).beginXfer m with
  | (true, s3) => s3.promote m 2
  | (false, s3) => s3

end Sys2Proof.Machine
end

