-- ==== Sys2Proof/Machine/Sys.lean ====
section
/-! DEFINITION. The SYS and DIAG commands: commit, jobs, maintenance, the way out of HALT, and DIAGNOSE (R353 to R355, R376,
R380 to R384). -/

namespace Sys2Proof.Machine

/-! ### SYS_NOP, SYS_QUERY (R353) -/

/-- SYS_NOP: the payload comes back. -/
def sysNop : Cmd := {
  op := 0x000, modes := Mode.notBoot, len := fun n => decide (n ≤ 2016), reads := true
  apply := fun _ rq s => okWith rq.payload s }

/-- The tracks that run or stop, as a mask. -/
def State.activeMask (s : State) : Nat := ((List.range 16).filter s.trackActive).foldl (fun m t => m ||| 2 ^ t) 0

/-- SYS_QUERY. -/
def sysQuery : Cmd := {
  op := 0x001, modes := Mode.notBoot, len := (· = 0), reads := true
  apply := fun _ _ s =>
    okWith (leBytes 1 s.mode.code ++ leBytes 1 (b2n s.committed) ++ leBytes 1 s.haltCause ++
      leBytes 1 (b2n s.boot.development + 2 * b2n s.ringActive) ++ leBytes 1 s.boot.major ++ leBytes 1 s.boot.minor ++
      leBytes 2 s.deviceId ++ leBytes 4 s.boot.version ++ leBytes 4 0 ++ leBytes 8 s.devTime ++ leBytes 2 s.activeMask ++
      leBytes 2 s.prepared.length ++ leBytes 4 0) s }

/-! ### SYS_COMMIT, SYS_UNCOMMIT (R354) -/

/-- The checks of SYS_COMMIT in order: the first that fails, with its code (R38, R71, R188, R222). -/
def State.commitChecks (s : State) : Option (Status × Nat) :=
  match s.geoChecks with
  | some e => some e
  | none =>
    if !s.tablesCheck then some (.outOfRange, 9)
    else match s.streamChecks with
      | some e => some e
      | none =>
        match s.timingChecks with
        | some e => some e
        | none => s.waveChecks

/-- SYS_COMMIT (R354): a remap that is due stands whatever the checks find. Log 42 (DEDUCED). Log 44 (DEDUCED). -/
def sysCommit : Cmd := {
  op := 0x002, modes := inConfigure, len := (· = 0)
  apply := fun _ _ s =>
    let s1 := if s.remapDue then s.remapCellar else s
    match s1.commitChecks with
    | some (st, code) => ({ status := st, payload := leBytes 4 code }, s1)
    | none =>
      let s2 := s1.placeGeometry.assignDecomps
      let s3 := { (s2.set F.CELLAR_CTRL_RING_EN 1).set F.THERM_TRI_LOCK_LOCKED 1 with committed := true }
      let s4 : State := s3.enterReady 0
      ({ payload := leBytes 4 0 }, if s4.mode = Mode.ready then s4.commitPorts else s4) }

/-- SYS_UNCOMMIT. -/
def sysUncommit : Cmd := {
  op := 0x003, modes := fun m => decide (m = .ready), len := (· = 0)
  apply := fun _ _ s => ok (s.uncommit 0) }

/-! ### Jobs (R168, R169, R355) -/

/-- The tracks that a JOB_START names, and the mode that it enters. -/
def jobTracks (rq : Req) : List Nat := (List.range 16).filter (bitOf (uAt rq.payload 0 2))

/-- The MODE that JOB_START asks for (R355). -/
def jobMode (rq : Req) : Mode := if uAt rq.payload 2 1 = 3 then .track else .clock

/-- The ports with rows of a named track that are neither up nor optional (R228). -/
def State.jobPorts (s : State) (l : List Nat) : List Nat :=
  (List.range 128).filter (fun p => l.any (fun t => (s.trackPorts t).contains p) && !s.linked p && !s.flag (F.HP_CTRL_OPTIONAL p))

/-- The checks 2 to 5 of R355 in order. -/
def State.jobChecks (s : State) (rq : Req) : Option Resp :=
  let l := jobTracks rq
  if !l.all (fun t => s.sourceRuns t (jobMode rq)) then some { status := .wrongMode }
  else if l.any (fun t => decide (s.source t = 2) && s.tooFast t (s.pEff t)) then some { status := .outOfRange }
  else match s.jobPorts l with
    | p :: _ => refuse .hwFault p
    | [] =>
      match s.ringChecks (rq.u 0 2) with
      | some (st, code) => refuse st code
      | none => none

/-- The instant of t_start: the first multiple of 1 µs of device time to come (R355). Log 30 (DEDUCED). -/
def State.toMicrosecond (s : State) : State := s.advance (s.now + (1000 - s.devTime % 1000))

/-- The least runway of each stream counts from JOB_START (R107). -/
def State.restartRunways (s : State) : State :=
  s.openStreams.foldl (fun (a : State) n => a.setStream n { a.stream n with minRunway := a.runway n }) s

/-- JOB_START (R355). Log 30 (DEDUCED). -/
def jobStart : Cmd := {
  op := 0x004, modes := fun m => decide (m = .ready), len := (· = 8)
  range := fun rq s => inRange (decide (rq.u 0 2 ≠ 0) && within (rq.u 2 1) 3 4 && zeroBytes rq.payload 3 5 &&
    (jobTracks rq).all (fun t => decide (s.source t ≠ 0)))
  stage := fun _ rq s => s.jobChecks rq
  apply := fun _ rq s =>
    let s1 := s.toMicrosecond.restartRunways
    let s2 : State := { s1 with job := rq.u 0 2, gov := { s1.gov with minP := 16, ltrig := {} } }
    let s3 := (jobTracks rq).foldl (fun (a : State) t => a.startTrack t) s2
    ok (s3.setMode (jobMode rq) 0) }

/-- JOB_END (R168, R254): TRACKS 0 names every running track. -/
def jobEnd : Cmd := {
  op := 0x005, modes := fun m => decide (m = .track ∨ m = .clock), len := (· = 4)
  range := fun rq _ => inRange (decide (rq.u 2 2 = 0))
  apply := fun _ rq s =>
    let named := (List.range 16).filter (fun t => decide ((s.track t).st = 1) && (decide (rq.u 0 2 = 0) || bitOf (rq.u 0 2) t))
    let s1 := named.foldl (fun (a : State) t => a.stopAtLast t 0) s
    let ports := (named.map s1.trackPorts).flatten.dedup
    ok (ports.foldl (fun (a : State) p => a.sendUsage p) s1) }

/-- SYS_MAINTAIN: any ACTION but 1 in READY and 0 in MAINTAIN returns WRONG_MODE. Log 76 (DEDUCED). -/
def sysMaintain : Cmd := {
  op := 0x006, modes := fun m => decide (m = .ready ∨ m = .maintain), len := (· = 4)
  forbids := fun rq s => !(decide (rq.u 0 1 = 1 ∧ s.mode = .ready) || decide (rq.u 0 1 = 0 ∧ s.mode = .maintain))
  range := fun rq _ => inRange (zeroBytes rq.payload 1 3)
  apply := fun _ rq s => ok (if rq.u 0 1 = 1 then s.setMode .maintain 0 else s.enterReady 0) }

/-! ### The state after READY_FOR_HOST, and DIAGNOSE (R370, R382 to R384) -/

/-- The enables that the firmware writes before READY_FOR_HOST, beside those of the Cellar's training; offline blocks stay
out of service (R370, R384). Log 41 (DEDUCED). -/
def State.firmwareEnables (s : State) : State :=
  let s1 := (s.set F.PORCH_CTRL_ENABLE 0x3FFF).set F.PORCH_CTRL_EVENTS_EN 1
  let s2 := ((s1.set F.DW_CTRL_ENABLE 1).set F.DW_CTRL_STREAM_EN 1).set F.DW_CTRL_GENERAL_EN 1
  let s3 := (List.range 8).foldl (fun (a : State) k =>
    if a.get (F.DECOMP_DC_STATUS_STATE k) = 3 then a
    else
      let b := a.set (F.DECOMP_DC_CTRL_ENABLE k) 1
      if b.get (F.DECOMP_DC_STATUS_STATE k) = 0 then b.set (F.DECOMP_DC_STATUS_STATE k) 1 else b) s2
  let s4 := (List.range 12).foldl (fun (a : State) e => if a.get (F.LE_STATUS_STATE e) = 3 then a else a.startEngine e) s3
  let s5 := [0, 1].foldl (fun (a : State) w => if a.get (F.WE_STATUS_STATE w) = 3 then a else a.startWaveEngine w) s4
  (s5.set F.HEADPORT_HEADS_CTRL_LINK_EN 1).showEngines.showWaves

/-- The channel enables of the Cellar layout that is kept (R384). Log 41 (DEDUCED). -/
def State.layoutEnables (s : State) : State :=
  let s1 := (s.cellar.layout.filter s.chanOnline).foldl (fun (a : State) c =>
    (a.set (F.CH_CTRL_ENABLE c) 1).set (F.CH_CTRL_SCRUB_EN c) 1) s
  s1.set F.CELLAR_CTRL_USE_MASK (s.cellar.layout.foldl (fun m c => m ||| 2 ^ c) 0)

/-- The parameters of the Triangle (R383, R485): its filter times, watchdog and discrepancy times, and shutdown limit.
Log 88 (DEDUCED). -/
def triangleParams : List Nat := [F.THERM_TRI_FILTER_FILT.off, F.THERM_TRI_WD_CFG_WD_TIME.off, F.THERM_SHUTDOWN_CFG_LIMIT.off]

/-- Registers whose read-only fields show the configuration: those of the streams, the head ports, the tracks, encoders
and governor, and the geometry's needs, tiles and waveform ports. -/
def showsConfig (off : Nat) : Bool :=
  let inBlock := fun (lo hi : Nat) => decide (lo ≤ off ∧ off < hi)
  inBlock 0x30000 0x30800 || inBlock 0x60000 0x60800 || inBlock 0x61010 0x61048 || inBlock 0x70000 0x73000 ||
    inBlock 0x50440 0x50480 || inBlock 0x80100 0x80200 ||
    [F.CELLAR_RING_NEED.off, F.LINE_MASK_VALID_PLANES.off, F.LINE_GEN_STATUS_BUSY.off, F.STREAM_MIN_RUNWAY_RUNWAY.off,
      F.WATCH_LEARN_STATUS.off].contains off

/-- A register as DIAG_LEAVE leaves it: its RWF fields, and its read-only fields where they show the configuration, at
their reset values; the OTP sticky locks and locked Triangle parameters are kept (R384). Log 88 (DEDUCED). -/
def State.leaveReg (s : State) (off : Nat) : State :=
  if (s.flag F.THERM_TRI_LOCK_LOCKED && triangleParams.contains off) || decide (off = F.OTP_STICKY.off) then s
  else match regRow off with
    | none => s
    | some r =>
      let m := r.mask (fun a => decide (a = .rwf) || (decide (a = .ro) && showsConfig off))
      let w := s.reg off
      s.setReg off ((w &&& ~~~ (BitVec.ofNat 32 m)) ||| (regReset off &&& BitVec.ofNat 32 m))

/-- The configuration is discarded, typed state and registers; counters, logs, the Triangle lock, the Cellar layout and
offline blocks are kept (R384). Log 19 (DEDUCED). Log 88 (DEDUCED). -/
def State.discardConfig (s : State) : State :=
  let s0 := (List.range 32).foldl (fun (a : State) m => a.stopChan m) s
  let s1 := (List.range 22).foldl (fun (a : State) b => a.setPower b 0) (s0.configRing 0 0 0 200)
  let s2 := (s1.regs.keys).foldl (fun (a : State) off => a.leaveReg off) s1
  let ports := s2.ports.keys.foldl (fun (tb : Tbl Port) p =>
    let x := tb.get {} p
    tb.set {} p { counts := x.counts, usage := { accrued := x.usage.accrued, total := x.usage.total } }) s2.ports
  let streams := s2.streams.keys.foldl (fun (tb : Tbl Stream) n =>
    let x := tb.get {} n
    tb.set {} n { ctr := x.ctr, log := x.log }) s2.streams
  let s3 : State := { s2 with
    geo := {}, streams := streams, encs := {}, tracks := {}, job := 0, waves := {}, waveOut := {}, ports := ports
    decomps := {}
    lines := { busy := s2.lines.busy, epochInUse := s2.lines.epochInUse }
    watch := { log := s2.watch.log }
    gov := { p := s2.gov.p, lastChange := s2.gov.lastChange, lastEval := s2.gov.lastEval, counter := s2.gov.counter }
    therm := { s2.therm with tables := {} }
    cellar := { s2.cellar with words := ⟨s2.cellar.words.cells.filter (fun c => decide (c.1 < s2.tableBase))⟩ } }
  let s4 := (List.range 16).foldl (fun (a : State) n => a.set (F.TH_STATUS_TABLE n) 0) s3
  let s5 := (List.range 4).foldl (fun (a : State) j => (a.set (F.THERM_HEAD_CUT j) 0).set (F.WATCH_REF_VALID j) 0) s4
  let s6 := if s5.flag F.THERM_TRI_LOCK_LOCKED then s5
    else s5.set F.THERM_SHUTDOWN_CFG_LIMIT (s5.get F.THERM_SHUTDOWN_CFG_FUSE_LIMIT)
  let s7 := (List.range 128).foldl (fun (a : State) p => a.limpClearIf 0x0C (fun k => decide (k % 128 = p))) s6
  (s7.set F.CELLAR_STATUS_FIT 1).layoutEnables.firmwareEnables

/-- Negotiation opens again (R373). -/
def State.reopen (s : State) : State :=
  (List.range 8).foldl (fun (a : State) i => (a.set (F.GL_FEATURE_ACCEPT i) 0).set (F.GL_FEATURE_ACTIVE i) 0)
    (s.set F.GL_FEATURE_STATUS_CLOSED 0)

/-- DIAGNOSE is left (R384). Log 88 (DEDUCED). -/
def State.leaveDiagnose (s : State) : State :=
  let s1 := s.discardConfig.reopen
  { s1 with committed := false, boot := { s1.boot with diagChannels := 0 } }

/-- SYS_CLEAR_HALT (R379, R380, R480): the Triangle's cut has ceased when no channel still sees a cut condition.
Log 77 (DEDUCED). -/
def State.haltCeased (s : State) : Bool :=
  decide (s.haltCause = 1) && [0, 1, 2].all (fun k => (s.tri k).stopped || decide (s.cutConditions k = 0))

/-- The latched cuts are cleared (R480). Log 77 (DEDUCED). -/
def State.clearCut (s : State) : State :=
  let s1 : State := [0, 1, 2].foldl (fun (a : State) k => a.setTri k { a.tri k with latched := 0 }) s
  { s1 with therm := { s1.therm with cut := false } }

/-- SYS_CLEAR_HALT (R353). Log 77 (DEDUCED). -/
def sysClearHalt : Cmd := {
  op := 0x007, modes := fun m => decide (m = .halt), len := (· = 0)
  stage := fun _ _ s => if s.haltCeased then none else refuse .denied s.haltCause
  apply := fun _ _ s =>
    let s1 := s.clearCut
    let s2 := if s1.haltDiag then s1.leaveDiagnose else s1
    ok ({ s2 with haltCause := 0, haltDiag := false }.uncommit 0) }

/-- SYS_RESET (R353): the reset follows the response. -/
def sysReset : Cmd := {
  op := 0x008, modes := Mode.notBoot, len := (· = 0)
  apply := fun _ _ s => ok s }

/-- DIAG_ENTER (R381, R382): every head port goes OFF, and the general channels pass to the host in register mode.
Log 88 (DEDUCED). -/
def diagEnter : Cmd := {
  op := 0xD00, modes := inConfigure, len := (· = 8)
  range := fun rq _ => inRange (decide (rq.u 0 4 = 0x44494147 ∧ rq.u 4 4 = 0))
  stage := fun _ _ s => if s.ringRole = 0 then none else some { status := .denied }
  apply := fun _ _ s =>
    let s1 := (List.range 128).foldl (fun (a : State) p => if (a.port p).st = 0 then a else a.portOff p) s
    let s2 := (List.range 32).foldl (fun (a : State) m =>
      ((a.stopChan m).set (F.GC_CTRL_MODE m) 0).set (F.GC_CTRL_PRIV m) 0) s1
    let s3 := s2.setMode .diagnose 0
    ok { s3 with boot := { s3.boot with
      diagWrites := 0, diagDiscarded := 0, diagChannels := 0xFFFFFFFF, diagEntered := s3.devTime } } }

/-- DIAG_LEAVE (R384). -/
def diagLeave : Cmd := {
  op := 0xD01, modes := fun m => decide (m = .diagnose), len := (· = 0)
  apply := fun _ _ s => ok (s.leaveDiagnose.setMode .configure 0) }

/-- DIAG_QUERY (R381). -/
def diagQuery : Cmd := {
  op := 0xD02, modes := fun m => decide (m = .configure ∨ m = .diagnose), len := (· = 0), reads := true
  apply := fun _ _ s =>
    okWith (leBytes 1 (b2n (decide (s.mode = .diagnose))) ++ leBytes 3 0 ++ leBytes 4 s.boot.diagWrites ++
      leBytes 4 s.boot.diagDiscarded ++ leBytes 4 s.boot.diagChannels ++ leBytes 8 s.boot.diagEntered) s }

end Sys2Proof.Machine
end

