-- ==== Sys2Proof/Machine/Porch.lean ====
section
/-! DEFINITION. The porches: the checks of a command, its staging, its apply point and its deadline, prepared changes,
tunnelled commands, the event porch's read count, and accesses of porch RAM (R317 to R349, R372, R378, R379). -/

namespace Sys2Proof.Machine

/-! ### The catalogue (R352) -/

/-- The commands of interface level 1, in opcode order (R352). -/
def catalogue : List Cmd := [
  sysNop, sysQuery, sysCommit, sysUncommit, jobStart, jobEnd, sysMaintain, sysClearHalt, sysReset,
  geoClear, geoPlane, geoRows, geoRowsets, geoQuery, geoReadRow, geoScrub,
  streamOpen, streamClose, streamReset, streamWater, streamQuery, streamFaults,
  lineRemap, lineBoost, lineMaskLoad, lineMaskGen, lineMaskClear, lineFlags, lineQuery,
  timingEncoder, timingTrack, timingLive, timingGovernor, timingLtrig, timingNozzleTrim, timingQuery,
  waveModule, waveLoad, waveTemp, waveMap, waveAmpTrim, wavePort, waveDeadband, waveQuery,
  headConfig, headLink, headSpit, headUsage, headQuery, headPurge, headPattern,
  watchConfig, watchLearn, watchSet, watchRead, watchRefSave, watchRefLoad, watchLog, watchQuery,
  ringConfig, ringDiscover, ringRoleCmd, ringQuery, ringTable,
  memBankPower, memPatrol, memCopy, memQuery,
  otpRead, otpProgram, otpSeal, otpLock, otpSticky, otpQuery,
  thermDie, thermHeadLimits, thermThTable, thermTriangle, thermQuery,
  healthReport, healthLog, healthConfig, healthClear,
  diagEnter, diagLeave, diagQuery]

/-- The command of an opcode. -/
def cmdOf (op : Nat) : Option Cmd := catalogue.find? (fun c => decide (c.op = op))

/-! ### Checks (R324, R336, R379) -/

/-- A command that names no payload of its own: a COMMIT or an ABORT (R339, R340). -/
def isBare (rq : Req) : Bool := isCommit rq || isAbort rq

/-- Step 5 for FLAGS: reserved bits 0, and at most one of PREPARE, COMMIT and ABORT. -/
def flagsOk (rq : Req) : Bool :=
  decide (rq.flags < 16) && decide (b2n (isPrepare rq) + b2n (isCommit rq) + b2n (isAbort rq) ≤ 1)

/-- Steps 7, 8, 10 and 11 of R324 for a command of the catalogue; no opcode of interface level 1 requires a feature bit
(step 9, R371). -/
def State.checkCmd (s : State) (op : Nat) (rq : Req) : Option Resp :=
  if s.haltMonitor && !([0, 1, 7, 8].contains op) then some { status := .wrongMode }
  else match cmdOf op with
    | none => some { status := .badOpcode }
    | some c =>
      let n := rq.payload.length
      if !(if isBare rq && c.prep then decide (n = 0) else c.len n) then some { status := .badLength }
      else if !c.modes s.mode || (!isBare rq && c.forbids rq s) then some { status := .wrongMode }
      else if !flagsOk rq || (decide (rq.flags % 8 ≠ 0) && !c.prep) then some { status := .outOfRange }
      else if isBare rq then none
      else c.range rq s

/-- A staged command comes before another: by its doorbell, then by its porch; or its effect is under way (R327). -/
def staysAhead (g : Staged) (slot : Nat) (rungAt mine : Nat) : Bool :=
  g.applied || decide (g.rungAt < rungAt) || (decide (g.rungAt = rungAt) && decide (slot < mine))

/-- The command of opcode `op` only reads. -/
def onlyReads (op : Nat) : Bool := match cmdOf op with
  | some c => c.reads
  | none => true

/-- What a command needs is held by another (R327, R337): an earlier command of its opcode range, or a prepared change of
another key. -/
def State.heldUp (s : State) (slot op rungAt : Nat) (rq : Req) : Bool :=
  !onlyReads op &&
    (stagedSlots.any (fun n => decide (n ≠ slot) && match (s.porch n).staged with
      | some g => decide (g.op / 256 = op / 256) && !onlyReads g.op && staysAhead g n rungAt slot
      | none => false) ||
    s.prepared.any (fun x => decide (x.op / 256 = op / 256) && !x.byKey rq.origin rq.porch))

/-! ### Staging and applying (R329, R330, R337 to R340) -/

/-- The result of a command that was applied here for another device is posted as TUNNEL_APPLIED (R313).
Log 73 (DEDUCED). -/
def State.tunnelApplied (s : State) (op : Nat) (rq : Req) (r : Resp) : State :=
  if rq.origin ≠ 0 ∧ r.status = .ok ∧ !onlyReads op then
    s.postEvent 0xB (leBytes 2 rq.origin ++ leBytes 2 op ++ leBytes 4 rq.tag ++ leBytes 1 rq.porch)
  else s

/-- A command takes effect, and is answered unless its response comes later. -/
def State.applyNow (s : State) (slot : Nat) (c : Cmd) (g : Staged) (bulk : List Byte) (eff : Req) : State :=
  let (r, s1) := c.apply bulk eff s
  if r.later then s1.setPorch slot { s1.porch slot with staged := some { g with applied := true } }
  else (s1.tunnelApplied g.op g.rq r).answer slot g.op g.rq r

/-- A COMMIT or an ABORT reaches its apply point (R339, R340). Log 74 (DEDUCED). -/
def State.applyBare (s : State) (slot : Nat) (c : Cmd) (g : Staged) : State :=
  let mine := fun (x : Prepared) => x.byKey g.rq.origin g.rq.porch && decide (x.op = g.op)
  match s.prepared.find? mine with
  | none => s.answer slot g.op g.rq { status := .notPrepared }
  | some x =>
    if isCommit g.rq then
      ({ s with prepared := s.prepared.filter (fun y => !mine y) }).applyNow slot c g x.bulk x.rq
    else (s.discardPrepared mine).answer slot g.op g.rq {}

/-- The staged effect is held as a prepared change (R337). Log 50 (DEDUCED). -/
def State.prepare (s : State) (slot : Nat) (g : Staged) (bulk : List Byte) : State :=
  let s1 := s.lapsePrepared (Prepared.byKey g.rq.origin g.rq.porch) 1
  let x : Prepared := { origin := g.rq.origin, porch := g.rq.porch, op := g.op, rq := g.rq, bulk := bulk, sent := g.sent,
                        since := s1.now }
  ({ s1 with prepared := s1.prepared ++ [x] }).answer slot g.op g.rq {}

/-- The table of a staged command is fetched (R329, R343): what fails, or the bytes. -/
def State.fetchBulk (s : State) (c : Cmd) (g : Staged) : Except Resp (List Byte) × State :=
  match g.bulk with
  | some l => (.ok l, s)
  | none =>
    match c.bulk g.rq s with
    | none => (.ok [], s)
    | some b =>
      match s.hostRead b.addr b.len with
      | none => (.error { status := .hwFault }, s.bulkBad)
      | some l => if b.crc.getD (crc32c l) = crc32c l then (.ok l, s) else (.error { status := .crcError }, s)

/-- What a head must still accept before a command can take effect (R221): its contents are sent, and the command goes on
once the head has answered. None: nothing stands in the way. Log 50 (DEDUCED). -/
def State.stageHead (s : State) (slot : Nat) (c : Cmd) (g : Staged) (bulk : List Byte) : Option State :=
  let p := g.rq.u 0 1
  let g1 := { g with bulk := some bulk, sent := true }
  if g.sent then
    if (s.port p).refused then
      some (((s.setPort p { s.port p with refused := false })).answer slot g.op g.rq { status := .hwFault })
    else if s.headWaiting p 2 then some s
    else none
  else
    let msgs := c.head bulk g.rq s
    if msgs = [] then none
    else
      let s1 := s.setPort p { s.port p with refused := false }
      some ((s1.queueMsgs p 2 msgs).setPorch slot { s1.porch slot with staged := some g1 })

/-- A staged command comes to its apply point (R327 to R330): it waits while another holds what it needs; its deadline,
its mode and its ranges are judged as they then are. Log 31 (DEDUCED). Log 70 (DEDUCED). -/
def State.tryApply (s : State) (slot : Nat) : State :=
  match (s.porch slot).staged with
  | none => s
  | some g =>
    if g.applied then s
    else if s.tickPast g.due then s.answer slot g.op g.rq { status := .timeout }
    else match s.checkCmd g.op g.rq, cmdOf g.op with
      | some r, _ => s.answer slot g.op g.rq r
      | none, none => s
      | none, some c =>
        if s.heldUp slot g.op g.rungAt g.rq then s
        else if isBare g.rq then s.applyBare slot c g
        else match s.fetchBulk c g with
          | (.error r, s1) => s1.answer slot g.op g.rq r
          | (.ok bulk, s1) =>
            match c.stage bulk g.rq s1 with
            | some r => s1.answer slot g.op g.rq r
            | none =>
              match s1.stageHead slot c g bulk with
              | some s2 => s2
              | none =>
                if isPrepare g.rq then s1.prepare slot { g with sent := g.sent } bulk
                else s1.applyNow slot c g bulk g.rq

/-- Negotiation closes at the first command but SYS_NOP and SYS_QUERY (R372). -/
def State.closeNegotiation (s : State) (op : Nat) : State :=
  if op < 2 ∨ s.flag F.GL_FEATURE_STATUS_CLOSED then s
  else (List.range 8).foldl (fun (a : State) i =>
    a.set (F.GL_FEATURE_ACTIVE i) (a.get (F.GL_FEATURE_OFFER i) &&& a.get (F.GL_FEATURE_ACCEPT i)))
    (s.set F.GL_FEATURE_STATUS_CLOSED 1)

/-- Steps 7 to 12 of R324: the command is turned away, or staged in its slot. Log 70 (DEDUCED). -/
def State.issue (s : State) (slot op : Nat) (rq : Req) (due : Nat) : State :=
  let g : Staged := { op := op, rq := rq, rungAt := (s.porch slot).rungAt, due := due }
  let s1 := s.setPorch slot { s.porch slot with staged := some g }
  match s1.checkCmd op rq with
  | some r => s1.answer slot op rq r
  | none => if isNowait rq && s1.heldUp slot op g.rungAt rq then s1.answer slot op rq { status := .busy } else s1

/-! ### Porches 0 to 13 (R317, R319, R322 to R325, R332) -/

/-- Porch `n` is served by the firmware, or by the halt monitor (R319, R370, R379). -/
def State.served (s : State) (n : Nat) : Bool :=
  decide (n < 14) && decide (s.mode ≠ .boot) && s.boot.ready && bitOf (s.get F.PORCH_CTRL_ENABLE) n

/-- A doorbell finds the porch IDLE or DONE (R323). -/
def State.porchFree (s : State) (n : Nat) : Bool :=
  decide (s.get (F.PR_STATE_STATE n) = 0 ∨ s.get (F.PR_STATE_STATE n) = 3)

/-- A doorbell is recognised: the porch is BUSY. -/
def State.ring (s : State) (n seq : Nat) : State :=
  (s.setPorch n { s.porch n with rungSeq := seq, rungAt := s.now }).set (F.PR_STATE_STATE n) 2

/-- The deadline of a command rung at a time (R328). Log 71 (DEDUCED). -/
def dueAt (rungAt deadline : Nat) : Nat := rungAt + 1000000 * (if deadline = 0 then 10 else deadline)

/-- A command header's reserved bytes are 0 (R320, step 5). -/
def headerOk (hdr : List Byte) : Bool := zeroBytes hdr 11 1 && zeroBytes hdr 14 14

/-- A command that has passed step 5 goes to its target (step 6 of R324, R312, R332). Log 74 (DEDUCED). -/
def State.dispatchCmd (s : State) (n op target : Nat) (rq : Req) (bytes : List Byte) : State :=
  let own := s.deviceId
  let due := dueAt (s.porch n).rungAt rq.deadline
  let m : Remote := { op := op, rq := rq, target := target, due := due }
  if target = 0 ∨ (target = own ∧ own ≠ 0) then s.issue n op rq due
  else if target = 0xFFFF then
    if s.ringActive then
      let others := s.ringIds.filter (fun id => decide (id ≠ own))
      let s1 := s.setPorch n { s.porch n with remote := some { m with entries := (own :: others).map (fun id => (id, none)) } }
      (s1.sendCommand n 0xFFFF due bytes).issue n op rq due
    else (s.setPorch n { s.porch n with remote := some { m with entries := [(own, none)] } }).issue n op rq due
  else if s.ringActive && s.ringIds.contains target then
    (s.setPorch n { s.porch n with remote := some { m with entries := [(target, none)] } }).sendCommand n target due bytes
  else s.postResponse n rq.seq op target 15 0 [] true

/-- A command that has passed step 3 is judged by its SEQ (step 4, R325) and its header (step 5). Log 70 (DEDUCED). -/
def State.takeCommand (s : State) (n : Nat) (hdr payload : List Byte) : State :=
  let seq := uAt hdr 0 4
  let op := uAt hdr 4 2
  let rq : Req := { porch := n, seq := seq, flags := uAt hdr 10 1, deadline := uAt hdr 12 2, payload := payload }
  let s1 := s.closeNegotiation op
  let want := s1.get (F.PR_EXPECT_SEQ n)
  if s1.flag (F.PR_STATE_EXPECT_VALID n) ∧ seq ≠ want then
    if (seq + 1) % 2 ^ 32 = want then s1.repost n
    else s1.postResponse n seq op s1.deviceId 9 0 [] false
  else
    let s2 := (s1.set (F.PR_EXPECT_SEQ n) ((seq + 1) % 2 ^ 32)).set (F.PR_STATE_EXPECT_VALID n) 1
    if headerOk hdr && flagsOk rq then s2.dispatchCmd n op (uAt hdr 6 2) rq (hdr ++ payload)
    else s2.postResponse n seq op s2.deviceId 3 0 [] true

/-- Steps 1 to 3 of R324 on the command area of porch `n`: a response, or what `f` makes of the header and the payload. -/
def State.readCommand (s : State) (n : Nat) (f : List Byte → List Byte → State → State) : State :=
  let (hdr, _, s1) := s.pread (porchAddr n 0) 32
  let len := uAt hdr 8 2
  let op := uAt hdr 4 2
  let rung := (s1.porch n).rungSeq
  if 2016 < len then s1.postResponse n rung op s1.deviceId 2 0 [] false
  else
    let (payload, _, s2) := s1.pread (porchAddr n 0x20) len
    if crc32c (hdr.take 28 ++ payload) ≠ uAt hdr 28 4 then s2.postResponse n rung op s2.deviceId 8 0 [] false
    else if uAt hdr 0 4 ≠ rung then s2.postResponse n rung op s2.deviceId 9 0 [] false
    else f hdr payload s2

/-- A doorbell of a porch of the firmware (R319, R323, R324). Log 70 (DEDUCED). Log 81 (DEDUCED). -/
def State.doorbell (s : State) (n seq : Nat) : State :=
  if s.served n && s.porchFree n then (s.ring n seq).readCommand n (fun hdr payload s' => s'.takeCommand n hdr payload)
  else s.porchError n 6 0

/-! ### Commands as steps of their own -/

/-- The slots of tunnelled commands (R313). -/
def State.freeSlot (s : State) : Option Nat := [16, 17, 18, 19].find? (fun n => decide ((s.porch n).staged = none))

/-- A tunnelled command is taken into a free slot (R313). -/
def State.takeTunnelled (s : State) (op : Nat) (rq : Req) (due : Nat) : State :=
  match s.freeSlot with
  | none => s.bump F.PEAL_TUNNEL_REFUSED |>.sendAnswer op rq s.now due { status := .busy }
  | some n =>
    let s1 := (s.closeNegotiation op).bump F.PEAL_TUNNEL_IN
    ((s1.setPorch n { s1.porch n with rungAt := s1.now }).issue n op rq due).tryApply n

/-- A command whose steps 1 to 6 have been passed: on its own porch where that is served and free, or tunnelled. It is
checked, staged and applied in one step, and goes on waiting where another command or a head keeps it.
Log 70 (DEDUCED). -/
def State.runCommand (s : State) (op : Nat) (rq : Req) : State :=
  let due := dueAt s.now rq.deadline
  if rq.origin ≠ 0 then
    if s.mode ≠ .boot ∧ s.boot.ready then s.takeTunnelled op rq due else s
  else if s.served rq.porch && s.porchFree rq.porch then
    let n := rq.porch
    let s1 := (s.ring n rq.seq).closeNegotiation op
    let s2 := (s1.set (F.PR_EXPECT_SEQ n) ((rq.seq + 1) % 2 ^ 32)).set (F.PR_STATE_EXPECT_VALID n) 1
    (s2.issue n op rq due).tryApply n
  else s

/-- The step of one porch command. -/
def runRow (c : Cmd) (t : Nat) (rq : Req) (s : State) : Host.Outcome State Fault Refusal :=
  coreStep t (fun s => s.runCommand c.op rq) s

/-- SYS_NOP (R353). -/
def execSysNop (t : Nat) (rq : Req) (s : State) : Host.Outcome State Fault Refusal := runRow sysNop t rq s

/-- SYS_QUERY (R353). -/
def execSysQuery (t : Nat) (rq : Req) (s : State) : Host.Outcome State Fault Refusal := runRow sysQuery t rq s

/-- SYS_COMMIT (R354). -/
def execSysCommit (t : Nat) (rq : Req) (s : State) : Host.Outcome State Fault Refusal := runRow sysCommit t rq s

/-- SYS_UNCOMMIT (R353). -/
def execSysUncommit (t : Nat) (rq : Req) (s : State) : Host.Outcome State Fault Refusal := runRow sysUncommit t rq s

/-- JOB_START (R355). -/
def execJobStart (t : Nat) (rq : Req) (s : State) : Host.Outcome State Fault Refusal := runRow jobStart t rq s

/-- JOB_END (R168). -/
def execJobEnd (t : Nat) (rq : Req) (s : State) : Host.Outcome State Fault Refusal := runRow jobEnd t rq s

/-- SYS_MAINTAIN (R353). -/
def execSysMaintain (t : Nat) (rq : Req) (s : State) : Host.Outcome State Fault Refusal := runRow sysMaintain t rq s

/-- SYS_CLEAR_HALT (R380). -/
def execSysClearHalt (t : Nat) (rq : Req) (s : State) : Host.Outcome State Fault Refusal := runRow sysClearHalt t rq s

/-- SYS_RESET (R353). -/
def execSysReset (t : Nat) (rq : Req) (s : State) : Host.Outcome State Fault Refusal := runRow sysReset t rq s

/-- GEO_CLEAR (R36). -/
def execGeoClear (t : Nat) (rq : Req) (s : State) : Host.Outcome State Fault Refusal := runRow geoClear t rq s

/-- GEO_PLANE (R36). -/
def execGeoPlane (t : Nat) (rq : Req) (s : State) : Host.Outcome State Fault Refusal := runRow geoPlane t rq s

/-- GEO_ROWS (R37). -/
def execGeoRows (t : Nat) (rq : Req) (s : State) : Host.Outcome State Fault Refusal := runRow geoRows t rq s

/-- GEO_ROWSETS (R35). -/
def execGeoRowsets (t : Nat) (rq : Req) (s : State) : Host.Outcome State Fault Refusal := runRow geoRowsets t rq s

/-- GEO_QUERY (R36). -/
def execGeoQuery (t : Nat) (rq : Req) (s : State) : Host.Outcome State Fault Refusal := runRow geoQuery t rq s

/-- GEO_READ_ROW (R36). -/
def execGeoReadRow (t : Nat) (rq : Req) (s : State) : Host.Outcome State Fault Refusal := runRow geoReadRow t rq s

/-- GEO_SCRUB (R58). -/
def execGeoScrub (t : Nat) (rq : Req) (s : State) : Host.Outcome State Fault Refusal := runRow geoScrub t rq s

/-- STREAM_OPEN (R556). -/
def execStreamOpen (t : Nat) (rq : Req) (s : State) : Host.Outcome State Fault Refusal := runRow streamOpen t rq s

/-- STREAM_CLOSE (R556). -/
def execStreamClose (t : Nat) (rq : Req) (s : State) : Host.Outcome State Fault Refusal := runRow streamClose t rq s

/-- STREAM_RESET (R108). -/
def execStreamReset (t : Nat) (rq : Req) (s : State) : Host.Outcome State Fault Refusal := runRow streamReset t rq s

/-- STREAM_WATER (R81). -/
def execStreamWater (t : Nat) (rq : Req) (s : State) : Host.Outcome State Fault Refusal := runRow streamWater t rq s

/-- STREAM_QUERY (R107). -/
def execStreamQuery (t : Nat) (rq : Req) (s : State) : Host.Outcome State Fault Refusal := runRow streamQuery t rq s

/-- STREAM_FAULTS (R110). -/
def execStreamFaults (t : Nat) (rq : Req) (s : State) : Host.Outcome State Fault Refusal := runRow streamFaults t rq s

/-- LINE_REMAP (R116). -/
def execLineRemap (t : Nat) (rq : Req) (s : State) : Host.Outcome State Fault Refusal := runRow lineRemap t rq s

/-- LINE_BOOST (R125). -/
def execLineBoost (t : Nat) (rq : Req) (s : State) : Host.Outcome State Fault Refusal := runRow lineBoost t rq s

/-- LINE_MASK_LOAD (R119). -/
def execLineMaskLoad (t : Nat) (rq : Req) (s : State) : Host.Outcome State Fault Refusal := runRow lineMaskLoad t rq s

/-- LINE_MASK_GEN (R120). Log 62 (DESIGN CHOICE). -/
def execLineMaskGen (t : Nat) (rq : Req) (s : State) : Host.Outcome State Fault Refusal := runRow lineMaskGen t rq s

/-- LINE_MASK_CLEAR (R118). -/
def execLineMaskClear (t : Nat) (rq : Req) (s : State) : Host.Outcome State Fault Refusal := runRow lineMaskClear t rq s

/-- LINE_FLAGS (R135). -/
def execLineFlags (t : Nat) (rq : Req) (s : State) : Host.Outcome State Fault Refusal := runRow lineFlags t rq s

/-- LINE_QUERY (R135). -/
def execLineQuery (t : Nat) (rq : Req) (s : State) : Host.Outcome State Fault Refusal := runRow lineQuery t rq s

/-- TIMING_ENCODER (R139). -/
def execTimingEncoder (t : Nat) (rq : Req) (s : State) : Host.Outcome State Fault Refusal := runRow timingEncoder t rq s

/-- TIMING_TRACK (R136). -/
def execTimingTrack (t : Nat) (rq : Req) (s : State) : Host.Outcome State Fault Refusal := runRow timingTrack t rq s

/-- TIMING_LIVE (R185). -/
def execTimingLive (t : Nat) (rq : Req) (s : State) : Host.Outcome State Fault Refusal := runRow timingLive t rq s

/-- TIMING_GOVERNOR (R186). -/
def execTimingGovernor (t : Nat) (rq : Req) (s : State) : Host.Outcome State Fault Refusal := runRow timingGovernor t rq s

/-- TIMING_LTRIG (R182). -/
def execTimingLtrig (t : Nat) (rq : Req) (s : State) : Host.Outcome State Fault Refusal := runRow timingLtrig t rq s

/-- TIMING_NOZZLE_TRIM (R186). -/
def execTimingNozzleTrim (t : Nat) (rq : Req) (s : State) : Host.Outcome State Fault Refusal := runRow timingNozzleTrim t rq s

/-- TIMING_QUERY (R185). -/
def execTimingQuery (t : Nat) (rq : Req) (s : State) : Host.Outcome State Fault Refusal := runRow timingQuery t rq s

/-- WAVE_MODULE (R215). -/
def execWaveModule (t : Nat) (rq : Req) (s : State) : Host.Outcome State Fault Refusal := runRow waveModule t rq s

/-- WAVE_LOAD (R192). -/
def execWaveLoad (t : Nat) (rq : Req) (s : State) : Host.Outcome State Fault Refusal := runRow waveLoad t rq s

/-- WAVE_TEMP (R200). -/
def execWaveTemp (t : Nat) (rq : Req) (s : State) : Host.Outcome State Fault Refusal := runRow waveTemp t rq s

/-- WAVE_MAP (R194). -/
def execWaveMap (t : Nat) (rq : Req) (s : State) : Host.Outcome State Fault Refusal := runRow waveMap t rq s

/-- WAVE_AMP_TRIM (R199). -/
def execWaveAmpTrim (t : Nat) (rq : Req) (s : State) : Host.Outcome State Fault Refusal := runRow waveAmpTrim t rq s

/-- WAVE_PORT (R207). -/
def execWavePort (t : Nat) (rq : Req) (s : State) : Host.Outcome State Fault Refusal := runRow wavePort t rq s

/-- WAVE_DEADBAND (R204). -/
def execWaveDeadband (t : Nat) (rq : Req) (s : State) : Host.Outcome State Fault Refusal := runRow waveDeadband t rq s

/-- WAVE_QUERY (R221). -/
def execWaveQuery (t : Nat) (rq : Req) (s : State) : Host.Outcome State Fault Refusal := runRow waveQuery t rq s

/-- HEAD_CONFIG (R558). -/
def execHeadConfig (t : Nat) (rq : Req) (s : State) : Host.Outcome State Fault Refusal := runRow headConfig t rq s

/-- HEAD_LINK (R557). -/
def execHeadLink (t : Nat) (rq : Req) (s : State) : Host.Outcome State Fault Refusal := runRow headLink t rq s

/-- HEAD_SPIT (R256). -/
def execHeadSpit (t : Nat) (rq : Req) (s : State) : Host.Outcome State Fault Refusal := runRow headSpit t rq s

/-- HEAD_USAGE (R256). -/
def execHeadUsage (t : Nat) (rq : Req) (s : State) : Host.Outcome State Fault Refusal := runRow headUsage t rq s

/-- HEAD_QUERY (R256). -/
def execHeadQuery (t : Nat) (rq : Req) (s : State) : Host.Outcome State Fault Refusal := runRow headQuery t rq s

/-- HEAD_PURGE (R256). -/
def execHeadPurge (t : Nat) (rq : Req) (s : State) : Host.Outcome State Fault Refusal := runRow headPurge t rq s

/-- HEAD_PATTERN (R258). -/
def execHeadPattern (t : Nat) (rq : Req) (s : State) : Host.Outcome State Fault Refusal := runRow headPattern t rq s

/-- WATCH_CONFIG (R277). -/
def execWatchConfig (t : Nat) (rq : Req) (s : State) : Host.Outcome State Fault Refusal := runRow watchConfig t rq s

/-- WATCH_LEARN (R264). -/
def execWatchLearn (t : Nat) (rq : Req) (s : State) : Host.Outcome State Fault Refusal := runRow watchLearn t rq s

/-- WATCH_SET (R270). -/
def execWatchSet (t : Nat) (rq : Req) (s : State) : Host.Outcome State Fault Refusal := runRow watchSet t rq s

/-- WATCH_READ (R277). -/
def execWatchRead (t : Nat) (rq : Req) (s : State) : Host.Outcome State Fault Refusal := runRow watchRead t rq s

/-- WATCH_REF_SAVE (R277). -/
def execWatchRefSave (t : Nat) (rq : Req) (s : State) : Host.Outcome State Fault Refusal := runRow watchRefSave t rq s

/-- WATCH_REF_LOAD (R277). -/
def execWatchRefLoad (t : Nat) (rq : Req) (s : State) : Host.Outcome State Fault Refusal := runRow watchRefLoad t rq s

/-- WATCH_LOG (R278). -/
def execWatchLog (t : Nat) (rq : Req) (s : State) : Host.Outcome State Fault Refusal := runRow watchLog t rq s

/-- WATCH_QUERY (R277). -/
def execWatchQuery (t : Nat) (rq : Req) (s : State) : Host.Outcome State Fault Refusal := runRow watchQuery t rq s

/-- RING_CONFIG (R285). -/
def execRingConfig (t : Nat) (rq : Req) (s : State) : Host.Outcome State Fault Refusal := runRow ringConfig t rq s

/-- RING_DISCOVER (R286). -/
def execRingDiscover (t : Nat) (rq : Req) (s : State) : Host.Outcome State Fault Refusal := runRow ringDiscover t rq s

/-- RING_ROLE (R316). -/
def execRingRole (t : Nat) (rq : Req) (s : State) : Host.Outcome State Fault Refusal := runRow ringRoleCmd t rq s

/-- RING_QUERY (R316). -/
def execRingQuery (t : Nat) (rq : Req) (s : State) : Host.Outcome State Fault Refusal := runRow ringQuery t rq s

/-- RING_TABLE (R316). -/
def execRingTable (t : Nat) (rq : Req) (s : State) : Host.Outcome State Fault Refusal := runRow ringTable t rq s

/-- MEM_BANK_POWER (R399). -/
def execMemBankPower (t : Nat) (rq : Req) (s : State) : Host.Outcome State Fault Refusal := runRow memBankPower t rq s

/-- MEM_PATROL (R400). -/
def execMemPatrol (t : Nat) (rq : Req) (s : State) : Host.Outcome State Fault Refusal := runRow memPatrol t rq s

/-- MEM_COPY (R430). -/
def execMemCopy (t : Nat) (rq : Req) (s : State) : Host.Outcome State Fault Refusal := runRow memCopy t rq s

/-- MEM_QUERY (R430). -/
def execMemQuery (t : Nat) (rq : Req) (s : State) : Host.Outcome State Fault Refusal := runRow memQuery t rq s

/-- OTP_READ (R462). -/
def execOtpRead (t : Nat) (rq : Req) (s : State) : Host.Outcome State Fault Refusal := runRow otpRead t rq s

/-- OTP_PROGRAM (R446). -/
def execOtpProgram (t : Nat) (rq : Req) (s : State) : Host.Outcome State Fault Refusal := runRow otpProgram t rq s

/-- OTP_SEAL (R454). -/
def execOtpSeal (t : Nat) (rq : Req) (s : State) : Host.Outcome State Fault Refusal := runRow otpSeal t rq s

/-- OTP_LOCK (R455). -/
def execOtpLock (t : Nat) (rq : Req) (s : State) : Host.Outcome State Fault Refusal := runRow otpLock t rq s

/-- OTP_STICKY (R460). -/
def execOtpSticky (t : Nat) (rq : Req) (s : State) : Host.Outcome State Fault Refusal := runRow otpSticky t rq s

/-- OTP_QUERY (R462). -/
def execOtpQuery (t : Nat) (rq : Req) (s : State) : Host.Outcome State Fault Refusal := runRow otpQuery t rq s

/-- THERM_DIE (R466). -/
def execThermDie (t : Nat) (rq : Req) (s : State) : Host.Outcome State Fault Refusal := runRow thermDie t rq s

/-- THERM_HEAD_LIMITS (R473). -/
def execThermHeadLimits (t : Nat) (rq : Req) (s : State) : Host.Outcome State Fault Refusal := runRow thermHeadLimits t rq s

/-- THERM_TH_TABLE (R472). -/
def execThermThTable (t : Nat) (rq : Req) (s : State) : Host.Outcome State Fault Refusal := runRow thermThTable t rq s

/-- THERM_TRIANGLE (R485). -/
def execThermTriangle (t : Nat) (rq : Req) (s : State) : Host.Outcome State Fault Refusal := runRow thermTriangle t rq s

/-- THERM_QUERY (R489). -/
def execThermQuery (t : Nat) (rq : Req) (s : State) : Host.Outcome State Fault Refusal := runRow thermQuery t rq s

/-- HEALTH_REPORT (R506). -/
def execHealthReport (t : Nat) (rq : Req) (s : State) : Host.Outcome State Fault Refusal := runRow healthReport t rq s

/-- HEALTH_LOG (R506). -/
def execHealthLog (t : Nat) (rq : Req) (s : State) : Host.Outcome State Fault Refusal := runRow healthLog t rq s

/-- HEALTH_CONFIG (R496). -/
def execHealthConfig (t : Nat) (rq : Req) (s : State) : Host.Outcome State Fault Refusal := runRow healthConfig t rq s

/-- HEALTH_CLEAR (R506). -/
def execHealthClear (t : Nat) (rq : Req) (s : State) : Host.Outcome State Fault Refusal := runRow healthClear t rq s

/-- DIAG_ENTER (R382). -/
def execDiagEnter (t : Nat) (rq : Req) (s : State) : Host.Outcome State Fault Refusal := runRow diagEnter t rq s

/-- DIAG_LEAVE (R384). -/
def execDiagLeave (t : Nat) (rq : Req) (s : State) : Host.Outcome State Fault Refusal := runRow diagLeave t rq s

/-- DIAG_QUERY (R381). -/
def execDiagQuery (t : Nat) (rq : Req) (s : State) : Host.Outcome State Fault Refusal := runRow diagQuery t rq s

/-- PREPARE (R337): a command with the flag PREPARE. -/
def execPrepare (t op : Nat) (rq : Req) (s : State) : Host.Outcome State Fault Refusal :=
  coreStep t (fun s => s.runCommand op { rq with flags := 1 + 8 * b2n (isNowait rq) }) s

/-- COMMIT (R339). -/
def execCommit (t op : Nat) (rq : Req) (s : State) : Host.Outcome State Fault Refusal :=
  coreStep t (fun s => s.runCommand op { rq with flags := 2 + 8 * b2n (isNowait rq), payload := [] }) s

/-- ABORT (R340). -/
def execAbort (t op : Nat) (rq : Req) (s : State) : Host.Outcome State Fault Refusal :=
  coreStep t (fun s => s.runCommand op { rq with flags := 4 + 8 * b2n (isNowait rq), payload := [] }) s

/-- PREPARE_LAPSED (R337): 1,000 ms have passed since the response. Log 74 (DEDUCED). -/
def execPrepareLapsed (t origin porch : Nat) (s : State) : Host.Outcome State Fault Refusal :=
  coreStep t (fun s =>
    s.lapsePrepared (fun x => x.byKey origin porch && s.tickPast (x.since + 1000000000)) 0) s

/-- COMMAND_APPLY (R330): the command of a slot, a porch or one of the four of tunnelled commands, comes to its apply
point. Log 105 (DESIGN CHOICE). -/
def execCommandApply (t slot : Nat) (s : State) : Host.Outcome State Fault Refusal :=
  coreStep t (fun s => if stagedSlots.contains slot then s.tryApply slot else s) s

/-- COMMAND_DEADLINE (R314, R328, R329, R333, R338). -/
def execCommandDeadline (t slot : Nat) (s : State) : Host.Outcome State Fault Refusal :=
  coreStep t (fun s =>
    if stagedSlots.contains slot then
      let s1 := match (s.porch slot).staged with
        | some g => if !g.applied && s.tickPast g.due then s.answer slot g.op g.rq { status := .timeout } else s
        | none => s
      match (s1.porch slot).remote with
      | some m => if (s1.porch slot).staged.isNone && s1.tickPast m.due then s1.remoteExpired slot m else s1
      | none => s1
    else s) s

/-! ### Tunnelled traffic (R312 to R314, R333, R338) -/

/-- A tunnelled command arrives: DENIED without TUNNEL_ACCEPT, TIMEOUT when too little of its time is left (R313).
Log 73 (DEDUCED). -/
def State.tunnelCommand (s : State) (f : PealFrame) : State :=
  let hdr := f.payload.drop 16
  let op := uAt hdr 4 2
  let rq : Req := { origin := f.src, porch := uAt f.payload 1 1, seq := uAt hdr 0 4, flags := uAt hdr 10 1,
                    deadline := uAt hdr 12 2, tag := uAt f.payload 4 4, payload := bytesAt hdr 32 (uAt hdr 8 2) }
  let left : Int := 1000 * (uAt f.payload 8 4 : Int) - 2 * (s.get F.PEAL_WORST_PATH / 1000 : Nat) - 100000
  let due := s.now + left.toNat
  if s.mode = .boot ∨ !s.boot.ready ∨ s.haltMonitor then s
  else if !s.flag F.PEAL_RING_CTRL_TUNNEL_ACCEPT then
    s.bump F.PEAL_TUNNEL_REFUSED |>.sendAnswer op rq s.now due { status := .denied }
  else if left ≤ 0 then s.bump F.PEAL_TUNNEL_REFUSED |>.sendAnswer op rq s.now due { status := .timeout }
  else s.takeTunnelled op rq due

/-- TUNNEL_RX (R313). -/
def execTunnelRx (t k : Nat) (f : PealFrame) (s : State) : Host.Outcome State Fault Refusal :=
  coreStep t (fun s => if f.kind = 5 ∧ uAt f.payload 0 1 = 0 then s.pealReceive k f (fun s' => s'.tunnelCommand f) else s) s

/-- A response comes back: the entry of its device is filled in, or its ABORT is acknowledged (R333, R338). -/
def State.tunnelResponse (s : State) (f : PealFrame) : State :=
  let n := uAt f.payload 1 1
  let rsp := f.payload.drop 16
  match (s.porch n).remote with
  | none => s
  | some m =>
    if m.rq.seq ≠ uAt f.payload 4 4 ∨ 14 ≤ n then s
    else
      let m1 := match m.aborting with
        | some l => if l.contains f.src then m.acknowledge f.src else m
        | none => m.fill f.src (uAt rsp 10 1) (bytesAt rsp 32 (uAt rsp 8 2))
      (s.setPorch n { s.porch n with remote := some m1 }).settleRemote n

/-- TUNNEL_RESPONSE_RX (R333). -/
def execTunnelResponseRx (t k : Nat) (f : PealFrame) (s : State) : Host.Outcome State Fault Refusal :=
  coreStep t (fun s => if f.kind = 5 ∧ uAt f.payload 0 1 = 1 then s.pealReceive k f (fun s' => s'.tunnelResponse f) else s) s

/-! ### Programming rounds (R449 to R451, R454 to R456) -/

/-- The slot whose applied command is `rq`. -/
def State.slotOf (s : State) (rq : Req) : Option Nat :=
  stagedSlots.find? (fun n => match (s.porch n).staged with
    | some g => g.applied && decide (g.rq = rq)
    | none => false)

/-- The command that a programming operation belongs to is answered. -/
def State.otpAnswer (s : State) (op : Nat) (rq : Req) (payload : List Byte) : State :=
  match s.slotOf rq with
  | some n => (s.tunnelApplied op rq {}).answer n op rq { payload := payload }
  | none => s

/-- A word's operation has ended with RESULT and CAUSE: the next lock copy, or the end of the command.
Log 101 (DEDUCED). -/
def State.otpEnded (s : State) (x : OtpProg) (result cause : Nat) : State :=
  match x.via with
  | 0 => s.otpAnswer 0xA01 x.rq (s.otpProgramPayload result)
  | 2 => (s.settleRegion x.region).otpAnswer 0xA02 x.rq (otpSealPayload x.crc result cause)
  | 3 =>
    match x.rest with
    | (w, want) :: rest =>
      if result = 0 then s.otpStart { x with word := w, want := want, rounds := 0, rest := rest }
      else (s.settleRegion x.region).otpAnswer 0xA03 x.rq (otpLockPayload result cause)
    | [] => (s.settleRegion x.region).otpAnswer 0xA03 x.rq (otpLockPayload result cause)
  | _ => s

/-- OTP_PROGRAM_ROUND (R449): of the bits pulsed, those that read 1 from now on, at the tight reference and at the
nominal one. Log 101 (DEDUCED). -/
def execOtpProgramRound (t tight nominal : Nat) (s : State) : Host.Outcome State Fault Refusal :=
  coreStep t (fun s =>
    match s.otp.prog with
    | none => s
    | some x =>
      match s.otpRound x tight nominal with
      | (none, s1) => s1
      | (some (result, cause), s1) => s1.otpEnded x result cause) s

/-! ### The event porch's read count (R349) -/

/-- A write of EV_READ (R349): counts are taken modulo 2^32. Log 80 (DEDUCED). -/
def State.evRead (s : State) (v : Nat) : State :=
  if (v + 2 ^ 32 - s.get F.PORCH_EV_READ) % 2 ^ 32 ≤ s.evHeld then (s.set F.PORCH_EV_READ v).flushLost
  else s.bump F.PORCH_ERR_TOTAL

/-- EV_READ_WRITE (R349). Log 80 (DEDUCED). -/
def execEvReadWrite (t : Nat) (path : Path) (v : Nat) (s : State) : Host.Outcome State Fault Refusal :=
  coreStep t (fun s => if s.reaches path then s.evRead (v % 2 ^ 32) else s) s

/-! ### Porch RAM and the boot window (R345 to R347, R360) -/

/-- The enables and the data of word `w` in a write of bytes from address `a`; a byte that is none is not enabled. -/
def wordPart (a : Nat) (l : List (Option Byte)) (w : Nat) : Nat × Nat :=
  (List.range 8).foldl (fun (r : Nat × Nat) k =>
    if a ≤ 8 * w + k then
      match l.getD (8 * w + k - a) none with
      | some b => (r.1 + 2 ^ k, r.2 + b.toNat * 256 ^ k)
      | none => r
    else r) (0, 0)

/-- The host writes a part of a word which the CP port writes on the same cycle (R346): the CP's word, which memory holds,
stands, and different data are a collision. Log 26 (DEDUCED). -/
def State.collide (s : State) (w enables data : Nat) : State :=
  if (List.range 8).all (fun k => !bitOf enables k || decide (byteOf s.pmem (8 * w + k) = BitVec.ofNat 8 (data >>> (8 * k)))) then s
  else (((s.set F.PORCH_STATUS_COLLIDE 1).bump F.PORCH_COLLIDE_COUNT).set F.PORCH_LAST_COLLIDE_WORD (w % 0x200000)).set
    F.PORCH_LAST_COLLIDE_VALID 1

/-- A host write of bytes of a bank, word by word (R345); `cp` lists the words that the CP port writes on the same
cycle. -/
def State.hostStore (s : State) (a : Nat) (l : List (Option Byte)) (cp : List Nat) : State :=
  ((List.range ((a + l.length + 7) / 8 - a / 8)).map (· + a / 8)).foldl (fun (s' : State) w =>
    let (e, d) := wordPart a l w
    if e = 0 then s' else if cp.contains w then s'.collide w e d else (s'.writeWord w e d).2) (s.touchBank (bankOf a))

/-- A host read of bytes of a bank. -/
def State.hostLoad (s : State) (path : Path) (off a n : Nat) : State :=
  let (l, _, s1) := s.pread a n
  s1.emit (.readData path off l)

/-- PORCH_RAM_ACCESS (R345 to R347): a write of bytes from byte `off` of the mailbox, or a read of `n` bytes there. `cp`
lists the words that the CP port writes on the same cycle with what memory holds; a read on that cycle comes before the
step that writes. Log 26 (DEDUCED). -/
def execPorchRamAccess (t : Nat) (path : Path) (off n : Nat) (write : Option (List (Option Byte))) (cp : List Nat) (s : State) :
    Host.Outcome State Fault Refusal :=
  coreStep t (fun s =>
    let a := porchAddr 0 off
    if !s.reaches path then s
    else match write with
      | some l => if off + l.length ≤ 0x10000 then s.hostStore a l (cp.map (· + porchAddr 0 0 / 8)) else s
      | none => if off + n ≤ 0x10000 then s.hostLoad path (0x100000 + off) a n else s) s

end Sys2Proof.Machine
end

