-- ==== Sys2Proof/Machine/Boot.lean ====
section
/-! DEFINITION. Start-up: the ROM's commands on porch 15, the image and its checks, its distribution, and READY_FOR_HOST
(R356 to R370). -/

namespace Sys2Proof.Machine

/-! ### The image buffer and the ROM's transfers (R360, R361, R368) -/

/-- Pantry address and size of the image buffer: 3 MiB at the start of staging bank 0. -/
def imageBase : Nat := 0x0F000000

/-- The size of the image buffer. -/
def imageSize : Nat := 3145728

/-- The image buffer is filled with 0. -/
def State.clearImage (s : State) : State :=
  let s1 := s.touchBank 15
  { s1 with pmem := s1.pmem.drop imageBase (imageBase + imageSize), perr := s1.perr.drop (imageBase / 8) ((imageBase + imageSize) / 8) }

/-- One transfer of the ROM on G0 in register mode: OP, addresses with their spaces, bytes. -/
structure RomXfer where
  op : Nat := 1
  src : Nat := 0
  dst : Nat := 0
  len : Nat := 0
  deriving DecidableEq, Repr

/-- The XFER word of a transfer, with GO set. -/
def RomXfer.word (x : RomXfer) : Word := BitVec.ofNat 32 (x.op + 2048 + 4096 * (x.len % 1048576))

/-- The active set of G0 is written. -/
def State.romActive (s : State) (x : RomXfer) : State :=
  (((((s.set (F.GC_SRC_LO 0) x.src).set (F.GC_SRC_HI 0) (x.src / 2 ^ 32)).set (F.GC_DST_LO 0) x.dst).set
    (F.GC_DST_HI 0) (x.dst / 2 ^ 32)).setReg (F.GC_XFER_OP 0).off x.word)

/-- The shadow set of G0 is written. -/
def State.romShadow (s : State) (x : RomXfer) : State :=
  (((((s.set (F.GC_SH_SRC_LO 0) x.src).set (F.GC_SH_SRC_HI 0) (x.src / 2 ^ 32)).set (F.GC_SH_DST_LO 0) x.dst).set
    (F.GC_SH_DST_HI 0) (x.dst / 2 ^ 32)).setReg (F.GC_SH_XFER_OP 0).off x.word)

/-- G0 runs until its transfers, and those that wait for the shadow set, are done: bursts are issued and completed one by
one, for at most `n` of these. Log 87 (DESIGN CHOICE). -/
def State.romRun : Nat → List RomXfer → State → State
  | 0, _, s => s
  | n + 1, l, s =>
    match l with
    | x :: r =>
      if s.activeRuns 0 && !s.flag (F.GC_SH_XFER_GO 0) then State.romRun n r (s.romShadow x)
      else if s.burstReady 128 then State.romRun n l (s.issueBurst 128)
      else if (s.gchan 0).flight ≠ [] then State.romRun n l (s.completeBurst 0 0)
      else s
    | [] =>
      if s.burstReady 128 then State.romRun n [] (s.issueBurst 128)
      else if (s.gchan 0).flight ≠ [] then State.romRun n [] (s.completeBurst 0 0)
      else s

/-- Burst steps that a transfer can take: three for each burst, bursts ending at the multiples of 512 of either side. -/
def romSteps (l : List RomXfer) : Nat := l.foldl (fun n x => n + 3 * (x.len / 256 + 4)) 16

/-- The ROM's transfers, the first in the active set and each other in the shadow set: true when one was marked BAD or,
comparing, found a difference. G0 is in service, and privileged, for as long as they run. Log 87 (DESIGN CHOICE). -/
def State.romTransfer (s : State) (hostBase : Nat) (l : List RomXfer) : Bool × State :=
  match l with
  | [] => (false, s)
  | x :: r =>
    let s1 := ((s.set F.DW_CTRL_ENABLE 1).set F.DW_CTRL_GENERAL_EN 1).set (F.GC_HOST_BASE 0) hostBase
    let s2 := ((s1.set (F.GC_CTRL_ENABLE 0) 1).set (F.GC_CTRL_MODE 0) 0).set (F.GC_CTRL_PRIV 0) 1
    let s3 := State.romRun (romSteps l) r ((s2.romActive x).startXfer 0)
    let bad := s3.flag (F.GC_FAULT_VALID 0) || (s3.gchan 0).misOf.isSome
    let s4 := (s3.set (F.GC_CTRL_ENABLE 0) 0).set (F.GC_CTRL_PRIV 0) 0
    (bad, (s4.set F.DW_CTRL_ENABLE (s.get F.DW_CTRL_ENABLE)).set F.DW_CTRL_GENERAL_EN (s.get F.DW_CTRL_GENERAL_EN))

/-- A space and an offset as SRC and DST hold them (R408): host memory, the Pantry. -/
def pantrySide (a : Nat) : Nat := 2 ^ 37 + a

/-- A transfer of more than 1 MiB in pieces of 1 MiB; `n` bounds their number. -/
def romPieces : Nat → Nat → Nat → Nat → List RomXfer
  | 0, _, _, _ => []
  | n + 1, src, dst, len =>
    if len = 0 then [] else
    let k := min len 1048576
    { src := src, dst := dst, len := k } :: romPieces n (src + k) (dst + k) (len - k)

/-! ### Image header (R363) -/

/-- Section k of an image. -/
def imageSection (l : List Byte) (k : Nat) : Section :=
  { kind := uAt l (64 + 16 * k) 1, offset := uAt l (68 + 16 * k) 4, length := uAt l (72 + 16 * k) 4 }

/-- The four sections that the header of an image lists (R363). -/
def imageSections (l : List Byte) : List Section := (List.range 4).map (imageSection l)

/-- The longest section of a kind. -/
def sectionMax (kind : Nat) : Nat :=
  if kind = 1 then 917504 else if kind = 2 then 229376 else if kind = 3 then 1048576 else 524288

/-- A section has a length and an offset of its range and lies in the image. Log 85 (DEDUCED). -/
def Section.within (x : Section) (len : Nat) : Bool :=
  decide (x.offset % 64 = 0 ∧ 256 ≤ x.offset ∧ 64 ≤ x.length ∧ x.length ≤ sectionMax x.kind ∧ x.offset + x.length ≤ len)

/-- Two sections have no byte in common. -/
def Section.apart (x y : Section) : Bool := decide (x.offset + x.length ≤ y.offset ∨ y.offset + y.length ≤ x.offset)

/-- No two sections of a list overlap. -/
def sectionsApart : List Section → Bool
  | [] => true
  | x :: r => r.all x.apart && sectionsApart r

/-- Check 1 of R364, with the ranges of R363, on an image of `len` bytes. Log 85 (DEDUCED). -/
def imageForm (l : List Byte) (len : Nat) : Bool :=
  let secs := imageSections l
  decide (uAt l 0 4 = 0x57465A4B ∧ uAt l 4 2 = 1 ∧ uAt l 12 4 = len ∧ uAt l 16 2 ≤ 4096 ∧ uAt l 18 1 ≤ 3) && zeroBytes l 19 13 &&
    (List.range 4).all (fun k => zeroBytes l (65 + 16 * k) 3 && zeroBytes l (76 + 16 * k) 4) &&
    [1, 2, 3, 4].all (fun k => (secs.map (·.kind)).count k == 1) && secs.all (fun x => x.within len) && sectionsApart secs

/-- SIGNATURE verifies with PUBLIC_KEY over the SHA-256 of bytes 0 to 127 (R363). -/
def imageSigned (l : List Byte) : Bool :=
  ecdsaVerify (beNat (bytesAt l 192 32)) (beNat (bytesAt l 224 32)) (beNat (sha256 (l.take 128))) (beNat (bytesAt l 128 32))
    (beNat (bytesAt l 160 32))

/-- Checks 1 to 6 of R364 on the bytes of an image: the RESULT of the first that fails, 0 when none does. Development images
skip checks 3 to 5 (R366). -/
def State.imageResult (s : State) (l : List Byte) (len : Nat) : Nat :=
  let slot := uAt l 18 1
  if !imageForm l len then 1
  else if sha256 (l.drop 256) ≠ bytesAt l 32 32 then 2
  else if !s.devAllowed && !s.fwUsable slot then 3
  else if !s.devAllowed && decide (sha256 (bytesAt l 192 64) ≠ s.fwHash slot) then 4
  else if !s.devAllowed && !imageSigned l then 5
  else if uAt l 16 2 < s.otpFloor then 6
  else 0

/-! ### Distribution (R368) -/

/-- The banks that take each kind of section, with the numbers of their copies: 0 the CP bank, 1 the HP bank, 2 + e line
engine e, 14 + w waveform engine w. -/
def sectionBanks (kind : Nat) : List (Nat × Nat) :=
  if kind = 1 then [(0, 0)]
  else if kind = 2 then [(1, 1)]
  else if kind = 3 then (List.range 12).map (fun e => (3 + e, 2 + e))
  else [(19, 14), (20, 15)]

/-- One copy of a section and its comparison: true when either fails. `fails`: the copies whose bank does not take them. -/
def State.copySection (s : State) (x : Section) (bank : Nat) (fails : Bool) : Bool × State :=
  let src := pantrySide (imageBase + x.offset)
  let dst := pantrySide (bank * 0x1000000)
  let (bad, s1) := s.romTransfer 0 [{ op := 1, src := src, dst := dst, len := x.length }]
  let (differs, s2) := s1.romTransfer 0 [{ op := 5, src := src, dst := dst, len := x.length }]
  (bad || differs || fails, s2)

/-- Every section is copied: the numbers of the copies that failed, as a mask. Log 87 (DESIGN CHOICE). -/
def State.distribute (s : State) (secs : List Section) (fails : Nat) : Nat × State :=
  ((secs.map (fun x => (sectionBanks x.kind).map (fun b => (x, b)))).flatten).foldl (fun (r : Nat × State) c =>
    let (bad, s1) := r.2.copySection c.1 c.2.1 (bitOf fails c.2.2)
    (if bad then r.1 ||| 2 ^ c.2.2 else r.1, s1)) (0, s)

/-! ### ROM commands (R361, R362, R364, R369) -/

/-- The ROM's answer on porch 15. -/
def State.romAnswer (s : State) (op : Nat) (rq : Req) (status : Status) (payload : List Byte := []) : State :=
  s.postResponse 15 rq.seq op 0 status.code 0 payload true

/-- BOOT_QUERY. -/
def State.bootQuery (s : State) (rq : Req) : State :=
  s.romAnswer 0xF000 rq .ok (leBytes 1 (s.get F.GL_BOOT_STATUS_STATE) ++ leBytes 1 (s.get F.GL_BOOT_STATUS_RESULT) ++
    leBytes 1 (s.get F.GL_BOOT_CTRL_PAGE) ++ leBytes 1 (maskOf 4 s.fwUsable) ++ leBytes 2 s.otpFloor ++
    leBytes 1 (b2n s.devAllowed) ++ leBytes 1 0 ++ leBytes 4 (Config.partId 4))

/-- BOOT_WRITE. -/
def State.bootWrite (s : State) (rq : Req) : State :=
  let off := rq.u 0 4
  let n := rq.u 4 4
  if rq.payload.length < 8 then s.romAnswer 0xF001 rq .badLength
  else if off % 8 ≠ 0 ∨ n % 8 ≠ 0 ∨ n < 8 ∨ 2008 < n ∨ imageSize < off + n then s.romAnswer 0xF001 rq .outOfRange
  else if rq.payload.length ≠ 8 + n then s.romAnswer 0xF001 rq .badLength
  else (s.pwrite (imageBase + off) (rq.payload.drop 8)).romAnswer 0xF001 rq .ok

/-- BOOT_FETCH. -/
def State.bootFetch (s : State) (rq : Req) : State :=
  let a := rq.u 0 8
  let n := rq.u 8 4
  if rq.payload.length ≠ 16 then s.romAnswer 0xF002 rq .badLength
  else if !within n 256 imageSize || !zeroBytes rq.payload 12 4 then s.romAnswer 0xF002 rq .outOfRange
  else
    let (bad, s1) := s.romTransfer (a / 2 ^ 32) (romPieces 3 (a % 2 ^ 32) (pantrySide imageBase) n)
    s1.romAnswer 0xF002 rq (if bad then .hwFault else .ok)

/-- BOOT_CLEAR. -/
def State.bootClear (s : State) (rq : Req) : State :=
  if rq.payload ≠ [] then s.romAnswer 0xF004 rq .badLength else s.clearImage.romAnswer 0xF004 rq .ok

/-- A BOOT_RUN that fails (R362). -/
def State.runFailed (s : State) (rq : Req) (result : Nat) : State :=
  let s1 := (s.clearImage.set F.GL_BOOT_STATUS_STATE 3).set F.GL_BOOT_STATUS_RESULT result
  (s1.cause F.GL_BOOT_INT_STATUS_RUN_FAILED).romAnswer 0xF003 rq .denied (leBytes 4 result)

/-- The firmware of an accepted image starts in CONFIGURE (R369). Log 85 (DEDUCED). Log 86 (DEDUCED). -/
def State.startFirmware (s : State) (hdr : List Byte) : State :=
  let s1 := ((s.set F.GL_BOOT_STATUS_STATE 2).set F.GL_BOOT_STATUS_RESULT 0).set F.GL_BOOT_STATUS_FW_RUNNING 1
  let s2 : State := { s1 with boot := { s1.boot with
    ranAt := s1.now, major := uAt hdr 6 1, minor := uAt hdr 7 1, version := uAt hdr 8 4, development := s1.devAllowed } }
  (s2.setMode .configure 0).cause F.GL_BOOT_INT_STATUS_FW_STARTED

/-- BOOT_RUN (R362 to R369); `fails` lists as a mask the copies whose banks do not take them. -/
def State.bootRun (s : State) (rq : Req) (fails : Nat) : State :=
  let n := rq.u 0 4
  if rq.payload.length ≠ 8 then s.romAnswer 0xF003 rq .badLength
  else if !within n 256 imageSize || !zeroBytes rq.payload 4 4 then s.romAnswer 0xF003 rq .outOfRange
  else
    let (l, _, s1) := s.pread imageBase n
    let result := s1.imageResult l n
    if result ≠ 0 then s1.runFailed rq result
    else
      let (bad, s2) := s1.distribute (imageSections l) fails
      if bad % 4 ≠ 0 then s2.runFailed rq 7
      else
        let s3 := s2.clearImage.romAnswer 0xF003 rq .ok
        { s3 with boot := { s3.boot with heldOff := bad / 4 } }.startFirmware l

/-- The ROM runs a command (R361). Log 84 (DEDUCED). -/
def State.romCommand (s : State) (op : Nat) (rq : Req) (fails : Nat) : State :=
  match op with
  | 0xF000 => if rq.payload ≠ [] then s.romAnswer 0xF000 rq .badLength else s.bootQuery rq
  | 0xF001 => s.bootWrite rq
  | 0xF002 => s.bootFetch rq
  | 0xF003 => s.bootRun rq fails
  | 0xF004 => s.bootClear rq
  | _ => s.romAnswer op rq .badOpcode

/-- A command that has passed step 3 of R324 on porch 15 is judged by its SEQ (R325). Log 84 (DEDUCED). -/
def State.takeRom (s : State) (hdr payload : List Byte) : State :=
  let seq := uAt hdr 0 4
  let op := uAt hdr 4 2
  let rq : Req := { porch := 15, seq := seq, flags := uAt hdr 10 1, deadline := uAt hdr 12 2, payload := payload }
  let want := s.get (F.PR_EXPECT_SEQ 15)
  if s.flag (F.PR_STATE_EXPECT_VALID 15) ∧ seq ≠ want then
    if (seq + 1) % 2 ^ 32 = want then s.repost 15
    else s.postResponse 15 seq op 0 9 0 [] false
  else ((s.set (F.PR_EXPECT_SEQ 15) ((seq + 1) % 2 ^ 32)).set (F.PR_STATE_EXPECT_VALID 15) 1).romCommand op rq 0

/-- The ROM serves porch 15 (R319, R361). -/
def State.romServes (s : State) : Bool := decide (s.mode = .boot) && s.porchFree 15

/-- The step of one ROM command: steps 1 to 3 of R324 and R325 have been passed. Log 84 (DEDUCED). -/
def romRow (op t : Nat) (rq : Req) (fails : Nat) (s : State) : Host.Outcome State Fault Refusal :=
  coreStep t (fun s =>
    if s.romServes then
      let s1 := s.ring 15 rq.seq
      ((s1.set (F.PR_EXPECT_SEQ 15) ((rq.seq + 1) % 2 ^ 32)).set (F.PR_STATE_EXPECT_VALID 15) 1).romCommand op rq fails
    else s) s

/-- BOOT_QUERY (R361). -/
def execBootQuery (t : Nat) (rq : Req) (s : State) : Host.Outcome State Fault Refusal := romRow 0xF000 t rq 0 s

/-- BOOT_WRITE (R361). -/
def execBootWrite (t : Nat) (rq : Req) (s : State) : Host.Outcome State Fault Refusal := romRow 0xF001 t rq 0 s

/-- BOOT_FETCH (R361). -/
def execBootFetch (t : Nat) (rq : Req) (s : State) : Host.Outcome State Fault Refusal := romRow 0xF002 t rq 0 s

/-- BOOT_RUN (R364). -/
def execBootRun (t : Nat) (rq : Req) (fails : Nat) (s : State) : Host.Outcome State Fault Refusal := romRow 0xF003 t rq fails s

/-- BOOT_CLEAR (R361). -/
def execBootClear (t : Nat) (rq : Req) (s : State) : Host.Outcome State Fault Refusal := romRow 0xF004 t rq 0 s

/-! ### Doorbells (R319, R323, R361, R370) -/

/-- A doorbell of any porch: porch 15 is the ROM's in BOOT, porches 0 to 13 the firmware's outside it; every other doorbell
is discarded and counted. -/
def State.ringDoorbell (s : State) (n seq : Nat) : State :=
  if n = 15 then
    if s.romServes then (s.ring 15 seq).readCommand 15 (fun hdr payload s' => s'.takeRom hdr payload)
    else s.porchError 15 6 0
  else s.doorbell n seq

/-- DOORBELL (R323): the write of SEQ to the doorbell of porch `n` on a path. -/
def execDoorbell (t : Nat) (path : Path) (n seq : Nat) (s : State) : Host.Outcome State Fault Refusal :=
  coreStep t (fun s => if s.reaches path ∧ n < 16 then s.ringDoorbell n (seq % 2 ^ 32) else s) s

/-! ### READY_FOR_HOST (R5, R370, R499) -/

/-- The engines whose bank could not be loaded are offline: OFF_CAUSE 1, bank error (R368). Log 86 (DEDUCED). -/
def State.holdEngines (s : State) : State :=
  let s1 := (List.range 12).foldl (fun (a : State) e => if bitOf s.boot.heldOff e then a.engineOffline e 1 true else a) s
  [0, 1].foldl (fun (a : State) w => if bitOf s.boot.heldOff (12 + w) then a.waveOffline w 1 true else a) s1

/-- READY_FOR_HOST is posted, and what goes with it. Log 86 (DEDUCED). -/
def State.postReady (s : State) : State :=
  let code := s.get F.GL_RESET_CAUSE_CODE
  let s1 := ((s.set F.GL_FW_ID_LEVEL_MINOR s.boot.minor).set F.GL_FW_ID_LEVEL_MAJOR s.boot.major).set F.GL_FW_ID_VALID 1
  let s2 := ((s1.set F.GL_FW_ID_DEVELOPMENT (b2n s.boot.development)).set F.GL_FW_VERSION s.boot.version).set
    F.PORCH_STATUS_FW_READY 1
  let s3 : State := { s2 with boot := { s2.boot with ready := true } }
  let s4 := s3.postEvent 1 (leBytes 1 s.boot.major ++ leBytes 1 s.boot.minor ++ leBytes 1 code ++
    leBytes 1 (b2n (decide (code = 4)) + 2 * b2n s.boot.development) ++ leBytes 4 s.boot.version)
  let s5 := if code = 4 then s4.set F.HEALTH_ALERT_STATUS_THERMAL_RESTART 1 else s4
  let s6 := if code = 5 then s5.set F.HEALTH_ALERT_STATUS_VIN_SHUTDOWN 1 else s5
  s6.logHealth 0x81 1 code

/-- READY_FOR_HOST (R370): `trained` is the mask of the Cellar channels whose training succeeds, `temps` holds 3 bits of
DRAM_TEMP for each. Log 86 (DEDUCED). -/
def execReadyForHost (t trained temps : Nat) (s : State) : Host.Outcome State Fault Refusal :=
  coreStep t (fun s =>
    if s.mode ≠ .boot ∧ !s.boot.ready ∧ !s.haltMonitor then
      (s.holdEngines.trainCellar (trained % 4096) temps).firmwareEnables.postReady
    else s) s

end Sys2Proof.Machine
end

