-- ==== Sys2Proof/Machine/RegView.lean ====
section
/-! DEFINITION. What a read of a register returns and does: fields that show state held elsewhere, the codes of R13, and
the clearing of RC fields (R11 to R14, R503, R543, R544, R552). -/

namespace Sys2Proof.Machine

/-! ### Fields that show other state, by block -/

/-- Fields of a register and what they show. -/
abbrev Shown := List (Fld × Nat)

/-- The number that identifies a path among the latches of TIME_HI. -/
def pathKey : Path → Nat
  | .pcie => 0
  | .spi => 1

/-- GLOBAL (R552). Log 90 (DESIGN CHOICE). -/
def State.showGlobal (s : State) (path : Path) (off : Nat) : Shown :=
  if off = F.GL_REVISION.off then [(F.GL_REVISION_REV, Config.partId 0), (F.GL_REVISION_VERSION, Config.partId 1)]
  else if off = F.GL_SERIAL_LO.off then [(F.GL_SERIAL_LO, Config.partId 2)]
  else if off = F.GL_SERIAL_HI.off then [(F.GL_SERIAL_HI, Config.partId 3)]
  else if off = F.GL_ROM_VERSION.off then [(F.GL_ROM_VERSION, Config.partId 4)]
  else if off = F.GL_MODE.off then [(F.GL_MODE_MODE, s.mode.code), (F.GL_MODE_COMMITTED, b2n s.committed)]
  else if off = F.GL_TIME_LO.off then [(F.GL_TIME_LO, s.devTime)]
  else if off = F.GL_TIME_HI.off then [(F.GL_TIME_HI, s.timeHi.get 0 (pathKey path))]
  else if off = F.GL_UPTIME.off then [(F.GL_UPTIME, s.secondsAt s.now)]
  else if off = F.GL_PCIE_STATUS.off then [(F.GL_PCIE_STATUS_MSIX_EN, b2n (s.msix.enable && !s.msix.mask))]
  else []

/-- A prepared change that came through porch `n` of this device is held. -/
def State.preparedOn (s : State) (n : Nat) : Bool := s.prepared.any (fun x => decide (x.origin = 0 ∧ x.porch = n))

/-- PORCH and PORCH[n]. -/
def State.showPorch (s : State) (off : Nat) : Shown :=
  if off = F.PORCH_STATUS_COLLIDE.off then
    [(F.PORCH_STATUS_EV_FULL, b2n (decide (s.evHeld = 128))), (F.PORCH_STATUS_PREPARED, min s.prepared.length 255)]
  else if off < 0x10100 then
    let n := (off - 0x10000) / 16
    if off = (F.PR_STATE_PREPARED n).off then [(F.PR_STATE_PREPARED n, b2n (s.preparedOn n))] else []
  else []

/-- STATE of a stream channel: IDLE while it is out of service or its stream is CLOSED, else RUNNING with the gate open and
WAITING with the gate closed. Log 20 (DEDUCED). -/
def State.scState (s : State) (n : Nat) : Nat :=
  if !s.flag (F.SC_CTRL_ENABLE n) ∨ (s.stream n).st = 0 then 0 else if s.gateOpen n then 1 else 2

/-- A channel of the Dumbwaiter is not IDLE. -/
def State.chActive (s : State) (ch : Nat) : Bool :=
  if ch < 128 then decide (s.scState ch ≠ 0) else decide (s.get (F.GC_STATUS_STATE (ch - 128)) ≠ 0)

/-- The slot that a stream channel executes: of the program that the firmware supplies. Log 20 (DEDUCED). -/
def State.scSlot (s : State) (n : Nat) : Nat :=
  if (s.stream n).fetch.isSome then Config.ingressSlot 1 else Config.ingressSlot 0

/-- DUMBWAITER. -/
def State.showDw (s : State) (off : Nat) : Shown :=
  if off < 0x21000 then
    let n := (off - 0x20000) / 16
    if off = (F.SC_STATUS_STATE n).off then
      [(F.SC_STATUS_STATE n, s.scState n), (F.SC_STATUS_GATE n, b2n (s.gateOpen n)), (F.SC_STATUS_PC n, s.scSlot n),
        (F.SC_STATUS_IN_FLIGHT n, s.flightOf n)]
    else []
  else if off < 0x22000 then
    let m := (off - 0x21000) / 64
    if off = (F.GC_STATUS_SHADOW_GO m).off then [(F.GC_STATUS_SHADOW_GO m, s.get (F.GC_SH_XFER_GO m))] else []
  else if off = F.DW_STATUS_IN_FLIGHT.off then
    [(F.DW_STATUS_IN_FLIGHT, min s.flightAll 256), (F.DW_STATUS_ACTIVE, ((List.range 160).filter s.chActive).length)]
  else if (F.DW_ACTIVE 0).off ≤ off ∧ off < (F.DW_ACTIVE 5).off then
    let j := (off - (F.DW_ACTIVE 0).off) / 4
    [(F.DW_ACTIVE j, maskOf 32 (fun k => s.chActive (32 * j + k)))]
  else []

/-- STREAM. -/
def State.showStream (s : State) (off : Nat) : Shown :=
  if off < 0x30800 then
    let n := (off - 0x30000) / 16
    let x := s.stream n
    if off = (F.SN_TAIL_TAIL n).off then [(F.SN_TAIL_TAIL n, if x.st = 0 then 0 else x.tail)]
    else if off = (F.SN_HEAD_STATE_HEAD n).off then
      [(F.SN_HEAD_STATE_HEAD n, x.head), (F.SN_HEAD_STATE_STATE n, x.st), (F.SN_HEAD_STATE_DECOMP n, x.decomp),
        (F.SN_HEAD_STATE_GATE n, b2n (s.gateOpen n)), (F.SN_HEAD_STATE_FILL_KIB n, min (x.fill / 1024) 256)]
    else []
  else if (F.STREAM_OPEN 0).off ≤ off ∧ off < (F.STREAM_OPEN 4).off then
    let j := (off - (F.STREAM_OPEN 0).off) / 4
    [(F.STREAM_OPEN j, maskOf 32 (fun k => decide ((s.stream (32 * j + k)).st ≠ 0)))]
  else []

/-- An overspeed event of a track in the last 100 µs. -/
def State.overspeedNow (s : State) (t : Nat) : Bool :=
  match (s.track t).lastOver with
  | some a => decide (s.devTime ≤ a + 100000)
  | none => false

/-- The pacing encoder of a track moves forward. -/
def State.moving (s : State) (t : Nat) : Bool :=
  match s.trackEnc t with
  | some e => decide (0 < (s.enc e).v)
  | none => false

/-- FIRE TIMING. -/
def State.showTiming (s : State) (off : Nat) : Shown :=
  if off < 0x71000 then
    let t := (off - 0x70000) / 64
    if off = (F.TRACK_TR_STATUS_STATE t).off then
      [(F.TRACK_TR_STATUS_OVERSPEED t, b2n (s.overspeedNow t)), (F.TRACK_TR_STATUS_MOVING t, b2n (s.moving t))]
    else if off = (F.TRACK_RATE t).off then [(F.TRACK_RATE t, s.lineRate t)]
    else []
  else if off = F.TIMING_TRACK_FAULT.off then [(F.TIMING_TRACK_FAULT, maskOf 16 (fun t => decide ((s.track t).st = 3)))]
  else []

/-- WAVEFORM, HEAD PORT and LINE ENGINE. -/
def State.showHeads (s : State) (off : Nat) : Shown :=
  if off = F.LINE_STATE_EPOCH.off then [(F.LINE_STATE_EPOCH, s.get F.WATCH_EPOCH)]
  else if 0x60000 ≤ off ∧ off < 0x60800 then
    let p := (off - 0x60000) / 16
    if off = (F.HP_STATUS_TEMP_VALID p).off then
      [(F.HP_STATUS_TEMP_VALID p, b2n (decide ((s.port p).therm.validTemps s.now ≠ [])))]
    else []
  else if 0x80100 ≤ off ∧ off < 0x80200 then
    let n := (off - 0x80100) / 16
    if off = (F.WP_STATUS_STATE n).off then [(F.WP_STATUS_STATE n, s.waveState n)] else []
  else []

/-- NOZZLE WATCH. Log 21 (DESIGN CHOICE). -/
def State.showWatch (s : State) (off : Nat) : Shown :=
  let inArr := fun (f : Nat → Fld) => decide ((f 0).off ≤ off ∧ off < (f 4).off)
  let mask := fun (f : Nat → Fld) (p : Nat → Bool) =>
    let j := (off - (f 0).off) / 4
    [(f j, maskOf 32 (fun k => p (32 * j + k)))]
  if off = F.WATCH_TABLE_BASE.off then [(F.WATCH_TABLE_BASE, s.watchTables)]
  else if inArr F.WATCH_STATE_COUNT then
    let j := (off - (F.WATCH_STATE_COUNT 0).off) / 4
    [(F.WATCH_STATE_COUNT j, if s.committed then s.countState (fun _ => true) j else 0)]
  else if inArr F.WATCH_REF_VALID then mask F.WATCH_REF_VALID (fun p => s.committed && s.refsComplete p)
  else if inArr F.WATCH_COVER_FULL then mask F.WATCH_COVER_FULL (fun p => decide (512 ≤ (s.coverList p).length))
  else if inArr F.WATCH_UNUSABLE then mask F.WATCH_UNUSABLE s.portUnusable
  else []

/-- ns since a time, saturating in 32 bits; 0 while there is none. Log 21 (DESIGN CHOICE). -/
def State.age (s : State) (at_ : Option Nat) : Nat :=
  match at_ with
  | some a => min (s.now - a) 0xFFFFFFFF
  | none => 0

/-- PEAL. The longest wait and the longest forwarding latency are free: the model leaves the frames' timing out.
Log 22 (DESIGN CHOICE). -/
def State.showPeal (s : State) (off : Nat) : Shown :=
  if off < 0xA0100 then
    let k := (off - 0xA0000) / 128
    let x := s.peal1 k
    if off = (F.PP_LINK_UP_TIME k).off then
      [(F.PP_LINK_UP_TIME k, if s.pealUp k then (s.now - x.upAt) / 1000000 else 0)]
    else if off = (F.PP_MASTER_CHIME_AGE k).off then [(F.PP_MASTER_CHIME_AGE k, s.age x.masterChime)]
    else if off = (F.PP_DEPUTY_CHIME_AGE k).off then [(F.PP_DEPUTY_CHIME_AGE k, s.age x.deputyChime)]
    else if off = (F.PP_EXPRESS_WAIT_MAX k).off then [(F.PP_EXPRESS_WAIT_MAX k, Config.staleField s.free)]
    else if off = (F.PP_FORWARD_LAT_MAX k).off then [(F.PP_FORWARD_LAT_MAX k, Config.staleField s.free)]
    else []
  else if off = F.PEAL_RING_STATUS_DEPUTY_READY.off then [(F.PEAL_RING_STATUS_DEPUTY_READY, b2n s.deputyReady)]
  else if off = F.PEAL_RING_TIME_LO.off then [(F.PEAL_RING_TIME_LO, s.devTime)]
  else if off = F.PEAL_RING_TIME_HI.off then [(F.PEAL_RING_TIME_HI, s.devTime / 2 ^ 32)]
  else if off = F.PEAL_SYNC_RESIDUAL.off then
    [(F.PEAL_SYNC_RESIDUAL, ofSigned 32 (1000 * (s.clock.left - s.slewed)))]
  else if off = F.PEAL_CLAPPER_RELEASED_US.off then
    [(F.PEAL_CLAPPER_RELEASED_US, if s.peal.released then min ((s.now - s.peal.clapperSince) / 1000) 65535 else 0)]
  else if off = F.PEAL_HOLDOVER_US.off then
    [(F.PEAL_HOLDOVER_US, satAdd 32 (s.get F.PEAL_HOLDOVER_US) s.holdoverDue)]
  else []

/-- The port whose T_head is the hottest, and that temperature: the lowest port where several are. -/
def State.hottestHead (s : State) : Option (Nat × Int) :=
  (List.range 128).foldl (fun (best : Option (Nat × Int)) p =>
    match (s.port p).therm.hottest s.now, best with
    | some t, some (q, u) => if u < t then some (p, t) else some (q, u)
    | some t, none => some (p, t)
    | none, b => b) none

/-- THERM_HEAD_STATUS. Log 21 (DESIGN CHOICE). -/
def State.headStatus (s : State) : Shown :=
  let h := s.hottestHead
  let t := match h with
    | some (_, t) => ofSigned 16 t
    | none => 0
  [(F.THERM_HEAD_STATUS_T_HEAD, t), (F.THERM_HEAD_STATUS_PORT, (h.map (·.1)).getD 0),
    (F.THERM_HEAD_STATUS_K_T_MAX, ((List.range 128).map (fun p => (s.port p).therm.kt)).foldl max 0),
    (F.THERM_HEAD_STATUS_VALID, b2n h.isSome)]

/-- OTP and THERMAL & TRIANGLE. Log 21 (DESIGN CHOICE). -/
def State.showTherm (s : State) (off : Nat) : Shown :=
  if off = F.OTP_ENV.off then [(F.OTP_ENV, s.otpEnv)]
  else if off = F.THERM_DIE_STATUS_T_DIE.off then [(F.THERM_DIE_STATUS_T_DIE, s.dieTemp)]
  else if off = F.THERM_HEAD_STATUS_T_HEAD.off then s.headStatus
  else if off = F.THERM_WD_STATUS_REMAIN_MS.off then
    [(F.THERM_WD_STATUS_REMAIN_MS, if s.flag F.THERM_WD_STATUS_ARMED then
        min ((s.therm.wdFrom + s.wdTime - s.now) / 1000000) 1023 else 0)]
  else if 0xD0100 ≤ off ∧ off < 0xD0180 then
    let n := (off - 0xD0100) / 8
    if off = (F.TH_STATUS_PORT n).off then
      [(F.TH_STATUS_PORT n, (s.thPorts n).headD 0), (F.TH_STATUS_BOUND n, b2n (decide (s.thPorts n ≠ [])))]
    else []
  else []

/-- HP_HEARTBEAT has advanced within 2 ms (HP_RUNNING). -/
def State.hpRunning (s : State) : Bool := s.health.beatAt.isSome && !s.hpStopped

/-- ALERT_N is driven low (R495). -/
def State.alertLow (s : State) : Bool :=
  s.flag F.HEALTH_CTRL_ALERT_PIN_EN &&
    decide ((s.reg F.HEALTH_ALERT_STATUS_LIMP_RAISED.off).toNat &&& (s.reg F.HEALTH_ALERT_ENABLE_LIMP_RAISED.off).toNat ≠ 0)

/-- PWRGOOD is high: the core runs (R358, R521). -/
def State.pwrGood (s : State) : Bool := decide (s.core = .run)

/-- HEALTH. -/
def State.showHealth (s : State) (off : Nat) : Shown :=
  if off = F.HEALTH_STATUS.off then
    [(F.HEALTH_STATUS_HP_RUNNING, b2n s.hpRunning), (F.HEALTH_STATUS_REPLACE, b2n (anyReplace s.health.limps)),
      (F.HEALTH_STATUS_ADVISORY, b2n (s.health.limps.any (fun c => !limpReplace c.1))),
      (F.HEALTH_STATUS_CODES, onesIn 17 s.limpBits)]
  else if off = F.HEALTH_LIMP_PRESENT.off then [(F.HEALTH_LIMP_PRESENT_CODE, s.limpBits / 2)]
  else if off = F.HEALTH_PINS.off then [(F.HEALTH_PINS_REPLACE_N, b2n s.replaceLow), (F.HEALTH_PINS_ALERT_N, b2n s.alertLow)]
  else if off = F.HEALTH_VECTOR_PEND.off then [(F.HEALTH_VECTOR_PEND_PEND, maskOf 15 s.vectorPending)]
  else []

/-- The fields of a register that show state held elsewhere than in its word. Log 15 (DEDUCED). -/
def State.shown (s : State) (path : Path) (off : Nat) : Shown :=
  match off / 0x10000 with
  | 0 => s.showGlobal path off
  | 1 => s.showPorch off
  | 2 => s.showDw off
  | 3 => s.showStream off
  | 4 | 6 | 8 => s.showHeads off
  | 7 => s.showTiming off
  | 9 => s.showWatch off
  | 10 => s.showPeal off
  | 12 | 13 => s.showTherm off
  | 14 => s.showHealth off
  | _ => []

/-! ### Reads of registers -/

/-- What a register holds as a read finds it: the current value of every field. Log 21 (DESIGN CHOICE). -/
def State.current (s : State) (path : Path) (off : Nat) : Word :=
  (s.shown path off).foldl (fun w c => putBits w c.1.lo c.1.width c.2) (s.reg off)

/-- Bits of the fields that a read returns: reserved bits and WO fields read 0 (R12, R13). -/
def RegRow.readable (r : RegRow) : Nat := r.mask (fun a => decide (a ≠ .wo))

/-- What a read of the register at `off` returns (R11 to R13); 0 where the offset is reserved (R544).
Log 15 (DEDUCED). -/
def State.readValue (s : State) (path : Path) (off : Nat) : Word :=
  match regRow off with
  | some r => s.current path off &&& BitVec.ofNat 32 r.readable
  | none => 0

/-- What a read does: RC fields clear (R13, R14), TIME_LO latches the high bits for its path (R552), a free value is
used up. -/
def State.afterRead (s : State) (path : Path) (off : Nat) : State :=
  match regRow off with
  | none => s
  | some r =>
    let s1 := s.setReg off (s.reg off &&& ~~~ (BitVec.ofNat 32 (r.mask (fun a => decide (a = .rc)))))
    if off = F.GL_TIME_LO.off then { s1 with timeHi := s1.timeHi.set 0 (pathKey path) (s.devTime / 2 ^ 32) }
    else if off = F.PEAL_HOLDOVER_US.off then
      { s1 with peal := { s1.peal with holdCounted := s1.peal.holdCounted + s.holdoverDue } }
    else if [0, 1].any (fun k => decide (off = (F.PP_EXPRESS_WAIT_MAX k).off ∨ off = (F.PP_FORWARD_LAT_MAX k).off)) then s1.fresh.2
    else s1

/-- The PBA's word `k` (R503, R543): bit v of word 0 is set while vector v is pending and masked. -/
def State.pbaWord (s : State) (k : Nat) : Nat :=
  if k = 0 then maskOf 15 (fun v => s.vectorMasked v && s.vectorPending v) else 0

/-- A register, MSI-X table or PBA word at a multiple of 4 is read: its value, and the state after it. -/
def State.readWord (s : State) (path : Path) (off : Nat) : Nat × State :=
  if 0xF0000 ≤ off ∧ off < 0xF0200 then ((s.msixWord ((off - 0xF0000) / 4)).toNat, s)
  else if off = 0xF0800 ∨ off = 0xF0804 then (s.pbaWord ((off - 0xF0800) / 4), s)
  else ((s.readValue path off).toNat, s.afterRead path off)

/-- An offset in the MSI-X table or the PBA (R543). -/
def msixOffset (off : Nat) : Bool := decide ((0xF0000 ≤ off ∧ off < 0xF0200) ∨ (0xF0800 ≤ off ∧ off < 0xF0808))

/-- The Pantry address that an offset of the boot window reaches (R360). -/
def State.windowAddr (s : State) (off : Nat) : Nat := imageBase + 0x100000 * s.get F.GL_BOOT_CTRL_PAGE + (off - 0x200000)

/-- The host reads `width` bytes at `off` (R11, R345, R360, R543, R544): porch RAM and the boot window byte by byte, an
aligned 64-bit access of the MSI-X table or PBA as two words, and anything else as the whole word that holds the byte. -/
def State.busRead (s : State) (path : Path) (off width : Nat) : State :=
  if 0x100000 ≤ off ∧ off < 0x110000 then s.hostLoad path off (porchAddr 0 (off - 0x100000)) (min width (0x110000 - off))
  else if 0x200000 ≤ off ∧ off < 0x400000 then
    let n := min width (0x400000 - off)
    if s.mode = .boot then s.hostLoad path off (s.windowAddr off) n
    else s.emit (.readData path off (List.replicate n 0))
  else if msixOffset off ∧ width = 8 ∧ off % 8 = 0 then
    let (a, s1) := s.readWord path off
    let (b, s2) := s1.readWord path (off + 4)
    s2.emit (.readData path off (leBytes 4 a ++ leBytes 4 b))
  else
    let (v, s1) := s.readWord path (off / 4 * 4)
    s1.emit (.readData path off (leBytes 4 v))

/-- RC_FIELD_READ (R13, R14): a read of `width` bytes at an offset on a path. -/
def execRcFieldRead (t : Nat) (path : Path) (off width : Nat) (s : State) : Host.Outcome State Fault Refusal :=
  coreStep t (fun s => if s.reaches path then s.busRead path off width else s) s

/-- TIME_LO_READ (R552). -/
def execTimeLoRead (t : Nat) (path : Path) (s : State) : Host.Outcome State Fault Refusal :=
  coreStep t (fun s => if s.reaches path then s.busRead path F.GL_TIME_LO.off 4 else s) s

end Sys2Proof.Machine
end

