-- ==== Sys2Proof/Machine/RegAccess.lean ====
section
/-! DEFINITION. What a host write to BAR0 does: the rules of storing and discarding, the registers whose write acts, and the
commands of the register space and of the SPI path (R11 to R14, R62, R75, R102, R131, R218, R360, R372, R383, R416, R427 to
R429, R436, R452, R503, R543 to R551). -/

namespace Sys2Proof.Machine

/-! ### Stored or discarded (R11, R13, R372, R383, R544, R546) -/

/-- Some field of the register has an access code that satisfies `p`. -/
def RegRow.hasAcc (r : RegRow) (p : Acc → Bool) : Bool := r.fields.any (fun f => p f.acc)

/-- The register has a field that a host write may change in some mode: one that is neither RO nor RC. -/
def RegRow.writable (r : RegRow) : Bool := r.hasAcc (fun a => decide (a ≠ .ro ∧ a ≠ .rc))

/-- A register whose writes BOOT stores (R546). -/
def bootWrites (off : Nat) (r : RegRow) : Bool :=
  (decide (off < 0x10000) && r.hasAcc (fun a => decide (a = .rw ∨ a = .w1c)) && !decide (off = F.GL_RESET_CTRL_PERST_FULL.off) &&
      !decide ((F.GL_FEATURE_ACCEPT 0).off ≤ off ∧ off < (F.GL_FEATURE_ACCEPT 8).off)) ||
    (decide (0x10000 ≤ off ∧ off < 0x20000) && r.hasAcc (fun a => decide (a = .rw ∨ a = .w1c ∨ a = .wo)))

/-- The KIND with which a host write of a register is discarded, none where it is stored (R372, R546).
Log 16 (DEDUCED). -/
def State.writeRefused (s : State) (off : Nat) (r : RegRow) : Option Nat :=
  if r.hasAcc (fun a => decide (a = .rwf)) && decide (s.mode ≠ .diagnose) then some 2
  else if decide (s.mode = .boot) && !bootWrites off r then some 3
  else if s.flag F.GL_FEATURE_STATUS_CLOSED && decide ((F.GL_FEATURE_ACCEPT 0).off ≤ off ∧ off < (F.GL_FEATURE_ACCEPT 8).off) then some 5
  else none

/-- The word that a register holds after a write of `v`, by the access codes of its fields (R13). Log 15 (DEDUCED). -/
def storeWord (r : RegRow) (old v : Word) : Word :=
  let rw := BitVec.ofNat 32 (r.mask (fun a => decide (a = .rw ∨ a = .rwf)))
  let w1c := BitVec.ofNat 32 (r.mask (fun a => decide (a = .w1c)))
  let w1s := BitVec.ofNat 32 (r.mask (fun a => decide (a = .w1s)))
  ((old &&& ~~~ rw) ||| (v &&& rw) ||| (v &&& w1s)) &&& ~~~ (v &&& w1c)

/-- A plain write of a register: it is stored, and a cause that is now enabled sends its message (R503).
Log 15 (DEDUCED). -/
def State.storePlain (s : State) (off : Nat) (r : RegRow) (v : Word) : State :=
  sendNewMsi s (s.setReg off (storeWord r (s.reg off) v))

/-! ### Writes that act -/

/-- A write of TAIL (R75, R78): discarded while the stream is CLOSED; a value outside the ring is a DESC fault. -/
def State.writeTail (s : State) (n v : Nat) : State :=
  let x := s.stream n
  if x.st = 0 then s
  else if x.bind.ringSize ≤ v then s.streamFaultNoDesc n 8 0xFF noLine
  else s.setStream n { x with tail := v }

/-- A write of GC_CTRL by the host (R416, R429): one that selects program mode is discarded, PRIV is not stored, and START
and STOP read 0. Log 23 (DEDUCED). -/
def State.writeGcCtrl (s : State) (m : Nat) (v : Word) : State :=
  if v.getLsbD 1 then s.bump F.DW_IGNORED_WRITES
  else
    let s1 := (s.set (F.GC_CTRL_ENABLE m) (bitsOf v.toNat 0 1)).set (F.GC_CTRL_PRIORITY m) (bitsOf v.toNat 4 3)
    let s2 := if v.getLsbD 7 then s1.bump F.DW_IGNORED_WRITES else s1
    if v.getLsbD 3 then s2.stopChan m else s2

/-- GO of the shadow set has been written: on an idle channel the set is promoted at once, else when the active transfer
retires (R427). Log 24 (DEDUCED). -/
def State.shadowGo (s : State) (m : Nat) : State :=
  if s.activeRuns m then s
  else match (s.copyShadow m).beginXfer m with
    | (true, s1) => s1.promote m 1
    | (false, s1) => s1

/-- A write of a register of a general channel from XFER's sets (R427, R428); `x` is the register's place among the channel's. -/
def State.writeXferSet (s : State) (m x off : Nat) (r : RegRow) (v : Word) : State :=
  let active := decide (0x10 ≤ x ∧ x ≤ 0x20)
  if (active && s.activeRuns m) || (!active && s.flag (F.GC_SH_XFER_GO m)) then s.bump F.DW_IGNORED_WRITES
  else
    let s1 := s.storePlain off r v
    if x = 0x20 ∧ v.getLsbD 11 then s1.startXfer m else if x = 0x34 ∧ v.getLsbD 11 then s1.shadowGo m else s1

/-- A write to the OTP block in DIAGNOSE, or of its interrupt registers (R436, R452, R460). -/
def State.writeOtp (s : State) (off : Nat) (r : RegRow) (v : Word) : State :=
  if off = F.OTP_PROG_KEY.off then (s.storePlain off r v).otpKey v.toNat
  else if off = F.OTP_PROG_CMD.off then if v.getLsbD 0 then s.otpGo else s.otpOther false
  else if off = F.OTP_STICKY.off then (s.storePlain off r (v ||| s.reg off)).otpOther false
  else if off = F.OTP_READ_ADDR.off then
    let s1 := (s.storePlain off r v).otpOther false
    s1.otpReadReg (s1.get F.OTP_READ_ADDR_WORD)
  else (s.storePlain off r v).otpOther (decide (off = F.OTP_PROG_ADDR.off ∨ off = F.OTP_PROG_DATA.off))

/-- The enables of a decompressor take effect: STATE leaves or enters OFF, unless the decompressor is offline. -/
def State.writeDcCtrl (s : State) (k : Nat) : State :=
  if s.flag (F.DECOMP_DC_CTRL_FORCE_OFFLINE k) then s.decompOffline k 2
  else
    let st := s.get (F.DECOMP_DC_STATUS_STATE k)
    let on := s.flag (F.DECOMP_DC_CTRL_ENABLE k)
    if st = 3 then s else if on && decide (st = 0) then s.set (F.DECOMP_DC_STATUS_STATE k) 1
    else if on then s else s.set (F.DECOMP_DC_STATUS_STATE k) 0

/-- The enables of the line engines take effect: an engine is in service with its ENABLE and its bit of ENABLE_MASK set. -/
def State.writeLineEnables (s : State) : State :=
  ((List.range 12).foldl (fun (a : State) e =>
    let st := a.get (F.LE_STATUS_STATE e)
    let on := a.flag (F.LE_CTRL_ENABLE e) && bitOf (a.get F.LINE_CTRL_ENABLE_MASK) e
    if st = 3 then a else if on && decide (st = 0) then a.set (F.LE_STATUS_STATE e) 1
    else if on then a else a.set (F.LE_STATUS_STATE e) 0) s).showEngines

/-- The enable of a waveform engine takes effect. -/
def State.writeWaveEnable (s : State) (w : Nat) : State :=
  let st := s.get (F.WE_STATUS_STATE w)
  let on := s.flag (F.WE_CTRL_ENABLE w)
  if st = 3 then s else if on && decide (st = 0) then (s.set (F.WE_STATUS_STATE w) 1).showWaves
  else if on then s else (s.set (F.WE_STATUS_STATE w) 0).showWaves

/-- What follows the plain store of a register: FORCE_OFFLINE and the enables of the blocks that can go offline
(R62, R102, R131, R218). Log 19 (DEDUCED). -/
def State.afterStore (s : State) (off : Nat) : State :=
  if 0x50000 ≤ off ∧ off < 0x50300 then
    let c := (off - 0x50000) / 64
    if off = (F.CH_CTRL c).off ∧ s.flag (F.CH_CTRL_FORCE_OFFLINE c) then s.cellarForce c else s
  else if 0x31000 ≤ off ∧ off < 0x31100 then
    let k := (off - 0x31000) / 32
    if off = (F.DECOMP_DC_CTRL_ENABLE k).off then s.writeDcCtrl k else s
  else if 0x40000 ≤ off ∧ off < 0x40300 then
    let e := (off - 0x40000) / 64
    if off ≠ (F.LE_CTRL_ENABLE e).off then s
    else if s.flag (F.LE_CTRL_FORCE_OFFLINE e) then s.engineOffline e 3 else s.writeLineEnables
  else if off = F.LINE_CTRL_ENABLE_MASK.off then s.writeLineEnables
  else if 0x80000 ≤ off ∧ off < 0x80100 then
    let w := (off - 0x80000) / 128
    if off ≠ (F.WE_CTRL_ENABLE w).off then s
    else if s.flag (F.WE_CTRL_FORCE_OFFLINE w) then s.waveOffline w 3 else s.writeWaveEnable w
  else s

/-- A host write of a register that the mode stores. Log 19 (DEDUCED). -/
def State.writeStored (s : State) (off : Nat) (r : RegRow) (v : Word) : State :=
  if 0x10000 ≤ off ∧ off < 0x10100 then s.ringDoorbell ((off - 0x10000) / 16) v.toNat
  else if off = F.PORCH_EV_READ.off then s.evRead v.toNat
  else if 0x30000 ≤ off ∧ off < 0x30800 then s.writeTail ((off - 0x30000) / 16) (v.toNat % 0x10000)
  else if 0xB0000 ≤ off ∧ off < 0xB0160 then
    let b := (off - 0xB0000) / 16
    let p := v.toNat % 4
    if hasSetting b p then s.setPower b p else s
  else if 0x21000 ≤ off ∧ off < 0x21800 then
    let m := (off - 0x21000) / 64
    let x := (off - 0x21000) % 64
    if x = 0 then s.writeGcCtrl m v
    else if 0x10 ≤ x ∧ x ≤ 0x34 then s.writeXferSet m x off r v
    else s.storePlain off r v
  else if 0xC0000 ≤ off ∧ off < 0xC0100 then s.writeOtp off r v
  else (s.storePlain off r v).afterStore off

/-- A host write to a register of which no field can be written is ignored and not counted; one that the mode discards is
counted; the writes stored in DIAGNOSE are counted too (R13, R381, R383, R481, R546). Log 16 (DEDUCED). -/
def State.writeReg (s : State) (path : Path) (off : Nat) (r : RegRow) (v : Word) : State :=
  if !r.writable then s
  else match s.writeRefused off r with
    | some kind => s.accessErr path off kind
    | none =>
      if s.mode ≠ .diagnose then s.writeStored off r v
      else if [F.THERM_WD_KICK0.off, F.THERM_WD_KICK1.off, F.THERM_WD_KICK2.off].contains off then s
      else if s.flag F.THERM_TRI_LOCK_LOCKED && triangleParams.contains off then
        { s with boot := { s.boot with diagDiscarded := satAdd 32 s.boot.diagDiscarded 1 } }
      else { s with boot := { s.boot with diagWrites := satAdd 32 s.boot.diagWrites 1 } }.writeStored off r v

/-! ### The MSI-X table (R503, R543) -/

/-- The messages of the vectors whose mask has cleared while they are pending (R503). Log 17 (PRESUMED). -/
def sendUnmasked (old s : State) : State :=
  (List.range 15).foldl (fun (a : State) v =>
    if old.vectorMasked v && !s.vectorMasked v && s.vectorPending v then a.sendMsi v else a) s

/-- Word `k` of the MSI-X table is written; of Vector Control only the mask bit is kept. -/
def State.writeMsix (s : State) (k : Nat) (v : Word) : State :=
  let w := if k % 4 = 3 then v &&& 1 else v
  sendUnmasked s { s with msix := { s.msix with table := s.msix.table.set (msixReset k) k w } }

/-! ### Writes by address (R11, R345, R360, R543, R544) -/

/-- A host write of the MSI-X table or the PBA (R11, R543, R550). -/
def State.busWriteMsix (s : State) (path : Path) (off width v : Nat) : State :=
  if path = .spi then s.accessErr path off 3
  else if !(decide (width = 4 ∧ off % 4 = 0) || decide (width = 8 ∧ off % 8 = 0)) then s.accessErr path off 0
  else if 0xF0800 ≤ off then s
  else
    let k := (off - 0xF0000) / 4
    let s1 := s.writeMsix k (BitVec.ofNat 32 v)
    if width = 8 then s1.writeMsix (k + 1) (BitVec.ofNat 32 (v / 2 ^ 32)) else s1

/-- The host writes `width` bytes of `v`, least significant first, at `off`. Log 16 (DEDUCED). -/
def State.busWrite (s : State) (path : Path) (off width v : Nat) : State :=
  if 0x100000 ≤ off ∧ off < 0x110000 then
    s.hostStore (porchAddr 0 (off - 0x100000)) ((leBytes (min width (0x110000 - off)) v).map some) []
  else if 0x200000 ≤ off ∧ off < 0x400000 then
    if s.mode = .boot then s.hostStore (s.windowAddr off) ((leBytes (min width (0x400000 - off)) v).map some) []
    else s.accessErr path off 4
  else if msixOffset off then s.busWriteMsix path off width v
  else if width ≠ 4 ∨ off % 4 ≠ 0 then s.accessErr path off 0
  else match regRow off with
    | none => s.accessErr path off 1
    | some r => s.writeReg path off r (BitVec.ofNat 32 v)

/-- A register word with a field replaced, as the host writes it. -/
def State.busWriteField (s : State) (path : Path) (f : Fld) (v : Nat) : State :=
  s.busWrite path f.off 4 (putBits (s.reg f.off) f.lo f.width v).toNat

/-! ### The commands -/

/-- REGISTER_WRITE (R546). -/
def execRegisterWrite (t : Nat) (path : Path) (off width v : Nat) (s : State) : Host.Outcome State Fault Refusal :=
  coreStep t (fun s => if s.reaches path then s.busWrite path off width v else s) s

/-- FEATURE_ACCEPT_WRITE (R372). -/
def execFeatureAcceptWrite (t : Nat) (path : Path) (i v : Nat) (s : State) : Host.Outcome State Fault Refusal :=
  coreStep t (fun s => if s.reaches path ∧ i < 8 then s.busWrite path (F.GL_FEATURE_ACCEPT i).off 4 v else s) s

/-- TAIL_WRITE (R75). -/
def execTailWrite (t : Nat) (path : Path) (n v : Nat) (s : State) : Host.Outcome State Fault Refusal :=
  coreStep t (fun s => if s.reaches path ∧ n < 128 then s.busWrite path (F.SN_TAIL_TAIL n).off 4 v else s) s

/-- BOOT_WINDOW_ACCESS (R360): a write of bytes from byte `off` of the window, or a read of `n` bytes there. -/
def execBootWindowAccess (t : Nat) (path : Path) (off n : Nat) (write : Option (List (Option Byte))) (s : State) :
    Host.Outcome State Fault Refusal :=
  coreStep t (fun s =>
    if !s.reaches path then s
    else match write with
      | some l =>
        if 0x200000 < off + l.length then s
        else if s.mode = .boot then s.hostStore (s.windowAddr (0x200000 + off)) l [] else s.accessErr path (0x200000 + off) 4
      | none =>
        if 0x200000 < off + n then s
        else if s.mode = .boot then s.hostLoad path (0x200000 + off) (s.windowAddr (0x200000 + off)) n
        else s.emit (.readData path (0x200000 + off) (List.replicate n 0))) s

/-- MSIX_UNMASK (R503): a write of a vector's mask, of the function mask or of the enables in the configuration space, which
is reached over PCIe alone. Log 17 (PRESUMED). Log 108 (DESIGN CHOICE). -/
def execMsixUnmask (t : Nat) (w : MaskWrite) (s : State) : Host.Outcome State Fault Refusal :=
  coreStep t (fun s =>
    match w with
    | .vector path v value => if s.reaches path ∧ v < 32 then s.busWrite path (0xF0000 + 16 * v + 12) 4 value else s
    | .config enable mask master =>
      if s.linkUp then
        sendUnmasked s ({ s with msix := { s.msix with enable := enable, mask := mask } }.set F.GL_PCIE_STATUS_BUS_MASTER (b2n master))
      else s) s

/-- WD_KICK (R11, R481): the control processor, or the host on a path, makes the writes of a kick: register index (0 to 2
for WD_KICK0 to WD_KICK2, another for any other register of the block) and value, in the order made.
Log 55 (DEDUCED). -/
def execWdKick (t : Nat) (host : Option Path) (writes : List (Nat × Nat)) (s : State) : Host.Outcome State Fault Refusal :=
  coreStep t (fun s =>
    match host with
    | none => s.kick writes
    | some p =>
      if s.reaches p then writes.foldl (fun (a : State) w => a.busWrite p (F.THERM_WD_KICK0.off + 4 * w.1) 4 w.2) s else s) s

/-- CELLAR_FORCE_OFFLINE (R62). -/
def execCellarForceOffline (t : Nat) (path : Path) (c : Nat) (s : State) : Host.Outcome State Fault Refusal :=
  coreStep t (fun s => if s.reaches path ∧ c < 12 then s.busWriteField path (F.CH_CTRL_FORCE_OFFLINE c) 1 else s) s

/-- DECOMP_FORCE_OFFLINE (R102). -/
def execDecompForceOffline (t : Nat) (path : Path) (k : Nat) (s : State) : Host.Outcome State Fault Refusal :=
  coreStep t (fun s => if s.reaches path ∧ k < 8 then s.busWriteField path (F.DECOMP_DC_CTRL_FORCE_OFFLINE k) 1 else s) s

/-- LINE_ENGINE_FORCE_OFFLINE (R131). -/
def execLineEngineForceOffline (t : Nat) (path : Path) (e : Nat) (s : State) : Host.Outcome State Fault Refusal :=
  coreStep t (fun s => if s.reaches path ∧ e < 12 then s.busWriteField path (F.LE_CTRL_FORCE_OFFLINE e) 1 else s) s

/-- WAVE_ENGINE_FORCE_OFFLINE (R218). -/
def execWaveEngineForceOffline (t : Nat) (path : Path) (w : Nat) (s : State) : Host.Outcome State Fault Refusal :=
  coreStep t (fun s => if s.reaches path ∧ w < 2 then s.busWriteField path (F.WE_CTRL_FORCE_OFFLINE w) 1 else s) s

/-- OTP_PROG_KEY_WRITE (R452). -/
def execOtpProgKeyWrite (t : Nat) (path : Path) (v : Nat) (s : State) : Host.Outcome State Fault Refusal :=
  coreStep t (fun s => if s.reaches path then s.busWrite path F.OTP_PROG_KEY.off 4 v else s) s

/-- OTP_PROG_GO (R452). -/
def execOtpProgGo (t : Nat) (path : Path) (s : State) : Host.Outcome State Fault Refusal :=
  coreStep t (fun s => if s.reaches path then s.busWrite path F.OTP_PROG_CMD.off 4 1 else s) s

/-- OTP_READ_ADDR_WRITE (R436). -/
def execOtpReadAddrWrite (t : Nat) (path : Path) (w : Nat) (s : State) : Host.Outcome State Fault Refusal :=
  coreStep t (fun s => if s.reaches path then s.busWrite path F.OTP_READ_ADDR.off 4 w else s) s

/-- The firmware writes registers of general channels, in the modes in which it holds them (R382, R427). -/
def State.firmwareDw (s : State) : Bool := s.mode.normal

/-- DW_STOP (R416): by the host on a path, or by the firmware. -/
def execDwStop (t : Nat) (host : Option Path) (m : Nat) (s : State) : Host.Outcome State Fault Refusal :=
  coreStep t (fun s =>
    if 32 ≤ m then s
    else match host with
      | some p => if s.reaches p then s.busWriteField p (F.GC_CTRL_STOP m) 1 else s
      | none => if s.firmwareDw then s.stopChan m else s) s

/-- The control processor places a channel in register mode with the host base of a transfer. -/
def State.cpChannel (s : State) (m hostBase : Nat) : State :=
  ((s.set (F.GC_CTRL_ENABLE m) 1).set (F.GC_CTRL_MODE m) 0).set (F.GC_HOST_BASE m) hostBase

/-- DW_XFER_GO (R427): XFER is written with GO, by the host as its registers stand, or by the firmware.
Log 24 (DEDUCED). -/
def execDwXferGo (t : Nat) (who : XferBy) (m v : Nat) (s : State) : Host.Outcome State Fault Refusal :=
  coreStep t (fun s =>
    let v' := BitVec.ofNat 32 (putBit v 11 true)
    if 32 ≤ m then s
    else match who with
      | .host p => if s.reaches p then s.busWrite p (F.GC_XFER_OP m).off 4 v'.toNat else s
      | .cp hostBase src dst =>
        if !s.firmwareDw then s
        else if s.activeRuns m then s.bump F.DW_IGNORED_WRITES
        else
          let s1 := ((s.cpChannel m hostBase).set64 (F.GC_SRC_LO m) (F.GC_SRC_HI m) src).set64 (F.GC_DST_LO m) (F.GC_DST_HI m) dst
          (s1.setReg (F.GC_XFER_OP m).off v').startXfer m) s

/-- DW_SHADOW_GO (R427): SH_XFER is written with GO, by the host as its registers stand, or by the firmware.
Log 24 (DEDUCED). -/
def execDwShadowGo (t : Nat) (who : XferBy) (m v : Nat) (s : State) : Host.Outcome State Fault Refusal :=
  coreStep t (fun s =>
    let v' := BitVec.ofNat 32 (putBit v 11 true)
    if 32 ≤ m then s
    else match who with
      | .host p => if s.reaches p then s.busWrite p (F.GC_SH_XFER_OP m).off 4 v'.toNat else s
      | .cp hostBase src dst =>
        if !s.firmwareDw ∨ (s.gchan m).running then s
        else if s.flag (F.GC_SH_XFER_GO m) then s.bump F.DW_IGNORED_WRITES
        else
          let s1 := ((s.cpChannel m hostBase).set64 (F.GC_SH_SRC_LO m) (F.GC_SH_SRC_HI m) src).set64 (F.GC_SH_DST_LO m)
            (F.GC_SH_DST_HI m) dst
          (s1.setReg (F.GC_SH_XFER_OP m).off v').shadowGo m) s

/-! ### The SPI path (R548 to R551) -/

/-- Words read over SPI from `off` upward. -/
def State.spiRead (s : State) (off n : Nat) : State :=
  (List.range n).foldl (fun (a : State) k => a.busRead .spi ((off + 4 * k) % 0x1000000) 4) s

/-- Words written over SPI from `off` upward; an incomplete word at the end is discarded and counted.
Log 25 (DEDUCED). -/
def State.spiWrite (s : State) (off : Nat) (words : List Nat) (cut : Bool) : State :=
  let s1 := (words.zipIdx).foldl (fun (a : State) w => a.busWrite .spi ((off + 4 * w.2) % 0x1000000) 4 (w.1 % 2 ^ 32)) s
  if cut then s1.accessErr .spi ((off + 4 * words.length) % 0x1000000) 6 else s1

/-- SPI_READ_FRAME (R549, R550): a frame with command byte `cmd` and offset `off` in which `n` words are read. A command other
than READ and WRITE, or a misaligned offset, makes the target ignore the frame. -/
def execSpiReadFrame (t : Nat) (cmd off n : Nat) (s : State) : Host.Outcome State Fault Refusal :=
  coreStep t (fun s =>
    if (cmd ≠ 2 ∧ cmd ≠ 3) ∨ off % 4 ≠ 0 then s.bump F.GL_SPI_ABORTS
    else if cmd = 2 then s
    else (s.spiRead off n).bump F.GL_SPI_FRAMES) s

/-- SPI_WRITE_FRAME (R549, R550). -/
def execSpiWriteFrame (t : Nat) (off : Nat) (words : List Nat) (cut : Bool) (s : State) : Host.Outcome State Fault Refusal :=
  coreStep t (fun s =>
    if off % 4 ≠ 0 then s.bump F.GL_SPI_ABORTS else (s.spiWrite off words cut).bump F.GL_SPI_FRAMES) s

/-- SPI_ABORT (R551): what the frame did before the abort stands. Log 25 (DEDUCED). -/
def execSpiAbort (t : Nat) (frame : Option SpiFrame) (s : State) : Host.Outcome State Fault Refusal :=
  coreStep t (fun s =>
    let s1 := match frame with
      | none => s
      | some (.read off n) => if off % 4 = 0 then s.spiRead off n else s
      | some (.write off words cut) => if off % 4 = 0 then s.spiWrite off words cut else s
    s1.bump F.GL_SPI_ABORTS) s

end Sys2Proof.Machine
end

