-- ==== Sys2Proof/Machine/Power.lean ====
section
/-! DEFINITION. Supply, clock, the reset pins, JTAG and the PCIe link (R356, R357, R385 to R390, R488, R493, R513, R515, R518,
R521, R528). Voltages are in 0.1 V. -/

namespace Sys2Proof.Machine

/-- A step of the supervisor: it works while it has power, whatever the core does (R356, R357). Log 12 (DEDUCED). -/
def supervisorStep (t : Nat) (f : State → State) (s : State) : Host.Outcome State Fault Refusal :=
  .next (s.keepQueue (f (s.advance t)))

/-! ### VIN (R356, R385, R488, R515, R518) -/

/-- What the supervisor samples at VIN. Log 60 (DEDUCED). -/
def State.sampleVin (s : State) (vin : Nat) : State :=
  ((s.set F.THERM_VIN_STATUS_VIN (min vin 1023)).set F.THERM_VIN_STATUS_LOW_WARN (b2n (decide (vin < 63)))).set
    F.THERM_VIN_STATUS_HIGH_WARN (b2n (decide (410 < vin)))

/-- The code of a reset for VIN: code 4 stands where a thermal shutdown was recognised at the same time (R518).
Log 60 (DEDUCED). -/
def State.vinCode (s : State) : Nat := if s.power.hot ∧ s.power.resetAt = s.now then 4 else 5

/-- POWER_ON (R356, R385): VIN rises through the release threshold. `unpowered`: it rises from below the supervisor's operating
minimum; `clock`: SYSCLK is within tolerance (R521). Log 61 (DEDUCED). -/
def execPowerOn (t vin : Nat) (unpowered clock : Bool) (s : State) : Host.Outcome State Fault Refusal :=
  supervisorStep t (fun s =>
    if vin < 59 ∨ (s.power.vinOk ∧ !unpowered) then s
    else if unpowered then
      let p : Power := { resetLow := s.power.resetLow, testLow := s.power.testLow, perstLow := s.power.perstLow, noClock := !clock }
      let s1 := { s with power := p }.fullReset 0
      ({ s1 with therm := {}, core := .held }.sampleVin vin).settleCore
    else ({ s with power := { s.power with vinOk := true, noClock := !clock } }.sampleVin vin).settleCore) s

/-- VIN_UNDERVOLTAGE (R488): `vin` has held for `ns`. -/
def execVinUndervoltage (t vin ns : Nat) (s : State) : Host.Outcome State Fault Refusal :=
  supervisorStep t (fun s =>
    if vin < 56 ∧ 10000 ≤ ns ∧ s.power.vinOk then
      ((s.set F.THERM_VIN_STATUS_LAST_SHUTDOWN 1).sampleVin vin).hold { s.power with vinOk := false } s.vinCode
    else s) s

/-- VIN_OVERVOLTAGE (R488). -/
def execVinOvervoltage (t vin ns : Nat) (s : State) : Host.Outcome State Fault Refusal :=
  supervisorStep t (fun s =>
    if 430 < vin ∧ 10000 ≤ ns ∧ s.power.vinOk ∧ !s.power.overV then
      ((s.set F.THERM_VIN_STATUS_LAST_SHUTDOWN 2).sampleVin vin).hold { s.power with overV := true } s.vinCode
    else s) s

/-- VIN_OVERVOLTAGE_RESTART (R385): VIN has stayed at `vin` or below for `ns`. The reset took effect at the shutdown. -/
def execVinOvervoltageRestart (t vin ns : Nat) (s : State) : Host.Outcome State Fault Refusal :=
  supervisorStep t (fun s =>
    if vin < 410 ∧ 1000000000 ≤ ns ∧ s.power.overV then
      ({ s with power := { s.power with overV := false } }.sampleVin vin).settleCore
    else s) s

/-- VIN_MARGINAL (R488): work continues; limp 0x0F with INSTANCE 0 for low and 1 for high. Log 60 (DEDUCED). -/
def execVinMarginal (t vin ns : Nat) (s : State) : Host.Outcome State Fault Refusal :=
  supervisorStep t (fun s =>
    if (63 ≤ vin ∧ vin ≤ 410) ∨ ns < 100000 ∨ !s.power.vinOk then s
    else
      let s1 := s.sampleVin vin
      if s1.core = .run then (s1.cause F.THERM_INT_STATUS_VIN_WARN).limpRaise 0x0F (if vin < 63 then 0 else 1) else s1) s

/-- VIN_MARGINAL_CLEAR (R488). -/
def execVinMarginalClear (t vin ns : Nat) (s : State) : Host.Outcome State Fault Refusal :=
  supervisorStep t (fun s =>
    if vin < 65 ∨ 405 < vin ∨ ns < 1000000000 ∨ !s.power.vinOk then s
    else
      let s1 := s.sampleVin vin
      if s1.core = .run then s1.limpClearIf 0x0F (fun _ => true) else s1) s

/-! ### Clock, reset pins, JTAG (R357, R385, R387 to R389, R513, R521, R528) -/

/-- SYSCLK_VALID (R521): SYSCLK has been within tolerance for `ns`. -/
def execSysclkValid (t ns : Nat) (s : State) : Host.Outcome State Fault Refusal :=
  supervisorStep t (fun s =>
    if 1000000 ≤ ns ∧ s.power.noClock then { s with power := { s.power with noClock := false } }.settleCore else s) s

/-- RESET_N (R357, R385): it has been low for `ns`, or rises. -/
def execResetN (t : Nat) (low : Bool) (ns : Nat) (s : State) : Host.Outcome State Fault Refusal :=
  supervisorStep t (fun s =>
    if low then
      if 1000 ≤ ns ∧ !s.power.resetLow then s.hold { s.power with resetLow := true } 1 else s
    else if s.power.resetLow then { s with power := { s.power with resetLow := false } }.settleCore
    else s) s

/-- TEST_N (R513): while it is low, the core is held as under RESET_N. Log 59 (DEDUCED). -/
def execTestN (t : Nat) (low : Bool) (ns : Nat) (s : State) : Host.Outcome State Fault Refusal :=
  supervisorStep t (fun s =>
    if low then
      if 1000 ≤ ns ∧ !s.power.testLow then s.hold { s.power with testLow := true } 1 else s
    else if s.power.testLow then { s with power := { s.power with testLow := false } }.settleCore
    else s) s

/-- JTAG_INSTRUCTION (R528): EXTEST, CLAMP and HIGHZ hold the core until the TAP returns to Test-Logic-Reset.
Log 59 (DEDUCED). -/
def execJtagInstruction (t : Nat) (instr : Jtag) (s : State) : Host.Outcome State Fault Refusal :=
  supervisorStep t (fun s =>
    match instr with
    | .bypass | .idcode | .samplePreload => s
    | .extest | .clamp | .highz => if s.power.jtag then s else s.hold { s.power with jtag := true } 1
    | .testLogicReset => if s.power.jtag then { s with power := { s.power with jtag := false } }.settleCore else s) s

/-- The PCIe side is reset (R386, R388): the configuration space, the MSI-X table and the link. Log 58 (DEDUCED). -/
def State.pcieReset (s : State) : State := { s with msix := {} }.setReg F.GL_PCIE_STATUS_WIDTH.off 0

/-- PERST_N (R385, R387 to R389): a full reset or, with PERST_FULL 0, a PCIe-only reset. Log 58 (DEDUCED). -/
def execPerstN (t : Nat) (low : Bool) (s : State) : Host.Outcome State Fault Refusal :=
  supervisorStep t (fun s =>
    let s1 : State := { s with power := { s.power with perstLow := low } }
    if !low ∨ s.power.perstLow ∨ s.core ≠ .run then s1
    else if s.flag F.GL_RESET_CTRL_PERST_FULL then s1.resetNow 2
    else (s1.pcieReset.set F.GL_RESET_CAUSE_CODE 2).set F.GL_RESET_CAUSE_LINK_ONLY 1) s

/-! ### The PCIe link (R414, R493) -/

/-- PCIE_LINK_TRAINED (R356, R493): the link reaches L0 with `width` lanes at `speed` (encoded as in R491); the two others are
the best that both ends can form. Log 102 (DEDUCED). Log 108 (DESIGN CHOICE). -/
def execPcieLinkTrained (t width speed bestWidth bestSpeed : Nat) (s : State) : Host.Outcome State Fault Refusal :=
  coreStep t (fun s =>
    if s.power.perstLow then s
    else
      let s1 := ((s.set F.GL_PCIE_STATUS_WIDTH width).set F.GL_PCIE_STATUS_SPEED speed).set F.GL_PCIE_STATUS_LINK_UP 1
      if width < min bestWidth 16 ∨ speed < min bestSpeed 5 then s1.limpRaise 0x0E (width + 32 * speed)
      else s1.limpClearIf 0x0E (fun _ => true)) s

/-- PCIE_LINK_DOWN (R414): the link leaves L0 without a PERST_N. Log 108 (DESIGN CHOICE). -/
def execPcieLinkDown (t : Nat) (s : State) : Host.Outcome State Fault Refusal :=
  coreStep t (fun s => s.set F.GL_PCIE_STATUS_LINK_UP 0) s

end Sys2Proof.Machine
end

