-- ==== Sys2Proof/Machine/Dispatch.lean ====
section
/-! DEFINITION. The dispatch of the commands: one arm for each row of the table of operations, in its order. -/

namespace Sys2Proof.Machine

def exec (i : Instr) (s : State) : Host.Outcome State Fault Refusal :=
  match i with
  | .sysNop t rq => Sys2Proof.Machine.execSysNop t rq s
  | .sysQuery t rq => Sys2Proof.Machine.execSysQuery t rq s
  | .sysCommit t rq => Sys2Proof.Machine.execSysCommit t rq s
  | .sysUncommit t rq => Sys2Proof.Machine.execSysUncommit t rq s
  | .jobStart t rq => Sys2Proof.Machine.execJobStart t rq s
  | .jobEnd t rq => Sys2Proof.Machine.execJobEnd t rq s
  | .sysMaintain t rq => Sys2Proof.Machine.execSysMaintain t rq s
  | .sysClearHalt t rq => Sys2Proof.Machine.execSysClearHalt t rq s
  | .sysReset t rq => Sys2Proof.Machine.execSysReset t rq s
  | .geoClear t rq => Sys2Proof.Machine.execGeoClear t rq s
  | .geoPlane t rq => Sys2Proof.Machine.execGeoPlane t rq s
  | .geoRows t rq => Sys2Proof.Machine.execGeoRows t rq s
  | .geoRowsets t rq => Sys2Proof.Machine.execGeoRowsets t rq s
  | .geoQuery t rq => Sys2Proof.Machine.execGeoQuery t rq s
  | .geoReadRow t rq => Sys2Proof.Machine.execGeoReadRow t rq s
  | .geoScrub t rq => Sys2Proof.Machine.execGeoScrub t rq s
  | .streamOpen t rq => Sys2Proof.Machine.execStreamOpen t rq s
  | .streamClose t rq => Sys2Proof.Machine.execStreamClose t rq s
  | .streamReset t rq => Sys2Proof.Machine.execStreamReset t rq s
  | .streamWater t rq => Sys2Proof.Machine.execStreamWater t rq s
  | .streamQuery t rq => Sys2Proof.Machine.execStreamQuery t rq s
  | .streamFaults t rq => Sys2Proof.Machine.execStreamFaults t rq s
  | .lineRemap t rq => Sys2Proof.Machine.execLineRemap t rq s
  | .lineBoost t rq => Sys2Proof.Machine.execLineBoost t rq s
  | .lineMaskLoad t rq => Sys2Proof.Machine.execLineMaskLoad t rq s
  | .lineMaskGen t rq => Sys2Proof.Machine.execLineMaskGen t rq s
  | .lineMaskClear t rq => Sys2Proof.Machine.execLineMaskClear t rq s
  | .lineFlags t rq => Sys2Proof.Machine.execLineFlags t rq s
  | .lineQuery t rq => Sys2Proof.Machine.execLineQuery t rq s
  | .timingEncoder t rq => Sys2Proof.Machine.execTimingEncoder t rq s
  | .timingTrack t rq => Sys2Proof.Machine.execTimingTrack t rq s
  | .timingLive t rq => Sys2Proof.Machine.execTimingLive t rq s
  | .timingGovernor t rq => Sys2Proof.Machine.execTimingGovernor t rq s
  | .timingLtrig t rq => Sys2Proof.Machine.execTimingLtrig t rq s
  | .timingNozzleTrim t rq => Sys2Proof.Machine.execTimingNozzleTrim t rq s
  | .timingQuery t rq => Sys2Proof.Machine.execTimingQuery t rq s
  | .waveModule t rq => Sys2Proof.Machine.execWaveModule t rq s
  | .waveLoad t rq => Sys2Proof.Machine.execWaveLoad t rq s
  | .waveTemp t rq => Sys2Proof.Machine.execWaveTemp t rq s
  | .waveMap t rq => Sys2Proof.Machine.execWaveMap t rq s
  | .waveAmpTrim t rq => Sys2Proof.Machine.execWaveAmpTrim t rq s
  | .wavePort t rq => Sys2Proof.Machine.execWavePort t rq s
  | .waveDeadband t rq => Sys2Proof.Machine.execWaveDeadband t rq s
  | .waveQuery t rq => Sys2Proof.Machine.execWaveQuery t rq s
  | .headConfig t rq => Sys2Proof.Machine.execHeadConfig t rq s
  | .headLink t rq => Sys2Proof.Machine.execHeadLink t rq s
  | .headSpit t rq => Sys2Proof.Machine.execHeadSpit t rq s
  | .headUsage t rq => Sys2Proof.Machine.execHeadUsage t rq s
  | .headQuery t rq => Sys2Proof.Machine.execHeadQuery t rq s
  | .headPurge t rq => Sys2Proof.Machine.execHeadPurge t rq s
  | .headPattern t rq => Sys2Proof.Machine.execHeadPattern t rq s
  | .watchConfig t rq => Sys2Proof.Machine.execWatchConfig t rq s
  | .watchLearn t rq => Sys2Proof.Machine.execWatchLearn t rq s
  | .watchSet t rq => Sys2Proof.Machine.execWatchSet t rq s
  | .watchRead t rq => Sys2Proof.Machine.execWatchRead t rq s
  | .watchRefSave t rq => Sys2Proof.Machine.execWatchRefSave t rq s
  | .watchRefLoad t rq => Sys2Proof.Machine.execWatchRefLoad t rq s
  | .watchLog t rq => Sys2Proof.Machine.execWatchLog t rq s
  | .watchQuery t rq => Sys2Proof.Machine.execWatchQuery t rq s
  | .ringConfig t rq => Sys2Proof.Machine.execRingConfig t rq s
  | .ringDiscover t rq => Sys2Proof.Machine.execRingDiscover t rq s
  | .ringRole t rq => Sys2Proof.Machine.execRingRole t rq s
  | .ringQuery t rq => Sys2Proof.Machine.execRingQuery t rq s
  | .ringTable t rq => Sys2Proof.Machine.execRingTable t rq s
  | .memBankPower t rq => Sys2Proof.Machine.execMemBankPower t rq s
  | .memPatrol t rq => Sys2Proof.Machine.execMemPatrol t rq s
  | .memCopy t rq => Sys2Proof.Machine.execMemCopy t rq s
  | .memQuery t rq => Sys2Proof.Machine.execMemQuery t rq s
  | .otpRead t rq => Sys2Proof.Machine.execOtpRead t rq s
  | .otpProgram t rq => Sys2Proof.Machine.execOtpProgram t rq s
  | .otpSeal t rq => Sys2Proof.Machine.execOtpSeal t rq s
  | .otpLock t rq => Sys2Proof.Machine.execOtpLock t rq s
  | .otpSticky t rq => Sys2Proof.Machine.execOtpSticky t rq s
  | .otpQuery t rq => Sys2Proof.Machine.execOtpQuery t rq s
  | .thermDie t rq => Sys2Proof.Machine.execThermDie t rq s
  | .thermHeadLimits t rq => Sys2Proof.Machine.execThermHeadLimits t rq s
  | .thermThTable t rq => Sys2Proof.Machine.execThermThTable t rq s
  | .thermTriangle t rq => Sys2Proof.Machine.execThermTriangle t rq s
  | .thermQuery t rq => Sys2Proof.Machine.execThermQuery t rq s
  | .healthReport t rq => Sys2Proof.Machine.execHealthReport t rq s
  | .healthLog t rq => Sys2Proof.Machine.execHealthLog t rq s
  | .healthConfig t rq => Sys2Proof.Machine.execHealthConfig t rq s
  | .healthClear t rq => Sys2Proof.Machine.execHealthClear t rq s
  | .diagEnter t rq => Sys2Proof.Machine.execDiagEnter t rq s
  | .diagLeave t rq => Sys2Proof.Machine.execDiagLeave t rq s
  | .diagQuery t rq => Sys2Proof.Machine.execDiagQuery t rq s
  | .prepare t op rq => Sys2Proof.Machine.execPrepare t op rq s
  | .commit t op rq => Sys2Proof.Machine.execCommit t op rq s
  | .abort t op rq => Sys2Proof.Machine.execAbort t op rq s
  | .prepareLapsed t origin porch => Sys2Proof.Machine.execPrepareLapsed t origin porch s
  | .bootQuery t rq => Sys2Proof.Machine.execBootQuery t rq s
  | .bootWrite t rq => Sys2Proof.Machine.execBootWrite t rq s
  | .bootFetch t rq => Sys2Proof.Machine.execBootFetch t rq s
  | .bootRun t rq fails => Sys2Proof.Machine.execBootRun t rq fails s
  | .bootClear t rq => Sys2Proof.Machine.execBootClear t rq s
  | .readyForHost t trained temps => Sys2Proof.Machine.execReadyForHost t trained temps s
  | .doorbell t path n seq => Sys2Proof.Machine.execDoorbell t path n seq s
  | .commandApply t slot => Sys2Proof.Machine.execCommandApply t slot s
  | .commandDeadline t slot => Sys2Proof.Machine.execCommandDeadline t slot s
  | .evReadWrite t path v => Sys2Proof.Machine.execEvReadWrite t path v s
  | .featureAcceptWrite t path k v => Sys2Proof.Machine.execFeatureAcceptWrite t path k v s
  | .tailWrite t path n v => Sys2Proof.Machine.execTailWrite t path n v s
  | .porchRamAccess t path off n write cp => Sys2Proof.Machine.execPorchRamAccess t path off n write cp s
  | .bootWindowAccess t path off n write => Sys2Proof.Machine.execBootWindowAccess t path off n write s
  | .rcFieldRead t path off width => Sys2Proof.Machine.execRcFieldRead t path off width s
  | .timeLoRead t path => Sys2Proof.Machine.execTimeLoRead t path s
  | .registerWrite t path off width v => Sys2Proof.Machine.execRegisterWrite t path off width v s
  | .msixUnmask t w => Sys2Proof.Machine.execMsixUnmask t w s
  | .wdKick t host writes => Sys2Proof.Machine.execWdKick t host writes s
  | .cellarForceOffline t path c => Sys2Proof.Machine.execCellarForceOffline t path c s
  | .decompForceOffline t path k => Sys2Proof.Machine.execDecompForceOffline t path k s
  | .lineEngineForceOffline t path e => Sys2Proof.Machine.execLineEngineForceOffline t path e s
  | .waveEngineForceOffline t path w => Sys2Proof.Machine.execWaveEngineForceOffline t path w s
  | .otpProgKeyWrite t path v => Sys2Proof.Machine.execOtpProgKeyWrite t path v s
  | .otpProgGo t path => Sys2Proof.Machine.execOtpProgGo t path s
  | .otpReadAddrWrite t path w => Sys2Proof.Machine.execOtpReadAddrWrite t path w s
  | .dwProgramStart t m prog base priority priv => Sys2Proof.Machine.execDwProgramStart t m prog base priority priv s
  | .dwStop t host m => Sys2Proof.Machine.execDwStop t host m s
  | .dwXferGo t who m v => Sys2Proof.Machine.execDwXferGo t who m v s
  | .dwShadowGo t who m v => Sys2Proof.Machine.execDwShadowGo t who m v s
  | .spiReadFrame t cmd off n => Sys2Proof.Machine.execSpiReadFrame t cmd off n s
  | .spiWriteFrame t off words cut => Sys2Proof.Machine.execSpiWriteFrame t off words cut s
  | .spiAbort t frame => Sys2Proof.Machine.execSpiAbort t frame s
  | .powerOn t vin unpowered clock => Sys2Proof.Machine.execPowerOn t vin unpowered clock s
  | .resetN t low ns => Sys2Proof.Machine.execResetN t low ns s
  | .perstN t low => Sys2Proof.Machine.execPerstN t low s
  | .sysclkValid t ns => Sys2Proof.Machine.execSysclkValid t ns s
  | .pcieLinkTrained t width speed bestWidth bestSpeed => Sys2Proof.Machine.execPcieLinkTrained t width speed bestWidth bestSpeed s
  | .vinUndervoltage t vin ns => Sys2Proof.Machine.execVinUndervoltage t vin ns s
  | .vinOvervoltage t vin ns => Sys2Proof.Machine.execVinOvervoltage t vin ns s
  | .vinOvervoltageRestart t vin ns => Sys2Proof.Machine.execVinOvervoltageRestart t vin ns s
  | .vinMarginal t vin ns => Sys2Proof.Machine.execVinMarginal t vin ns s
  | .vinMarginalClear t vin ns => Sys2Proof.Machine.execVinMarginalClear t vin ns s
  | .dieSensorReading t readings => Sys2Proof.Machine.execDieSensorReading t readings s
  | .thermalRestart t => Sys2Proof.Machine.execThermalRestart t s
  | .thConversion t n code => Sys2Proof.Machine.execThConversion t n code s
  | .safetyInputAccept t ch input level => Sys2Proof.Machine.execSafetyInputAccept t ch input level s
  | .estopDiscrepancy t ch => Sys2Proof.Machine.execEstopDiscrepancy t ch s
  | .cpWatchdogExpiry t => Sys2Proof.Machine.execCpWatchdogExpiry t s
  | .livenessStall t stalled => Sys2Proof.Machine.execLivenessStall t stalled s
  | .clockFault t ratio osc => Sys2Proof.Machine.execClockFault t ratio osc s
  | .clockMarginal t ratio => Sys2Proof.Machine.execClockMarginal t ratio s
  | .clockMarginalClear t ratio => Sys2Proof.Machine.execClockMarginalClear t ratio s
  | .triangleDisagree t ch => Sys2Proof.Machine.execTriangleDisagree t ch s
  | .haltEntry t cause => Sys2Proof.Machine.execHaltEntry t cause s
  | .hpHeartbeat t => Sys2Proof.Machine.execHpHeartbeat t s
  | .hpStall t => Sys2Proof.Machine.execHpStall t s
  | .healthDrain t => Sys2Proof.Machine.execHealthDrain t s
  | .encoderSample t e a b z half => Sys2Proof.Machine.execEncoderSample t e a b z half s
  | .ssiRead t e clk high value => Sys2Proof.Machine.execSsiRead t e clk high value s
  | .bissRead t e clk frame => Sys2Proof.Machine.execBissRead t e clk frame s
  | .zIndex t e => Sys2Proof.Machine.execZIndex t e s
  | .encInputFault t e => Sys2Proof.Machine.execEncInputFault t e s
  | .encInputRecover t e => Sys2Proof.Machine.execEncInputRecover t e s
  | .encStall t e => Sys2Proof.Machine.execEncStall t e s
  | .schedulerEval t tr => Sys2Proof.Machine.execSchedulerEval t tr s
  | .clockLineCommit t tr => Sys2Proof.Machine.execClockLineCommit t tr s
  | .lineInstant t tr => Sys2Proof.Machine.execLineInstant t tr s
  | .ltrigPulse t n => Sys2Proof.Machine.execLtrigPulse t n s
  | .portFetch t p => Sys2Proof.Machine.execPortFetch t p s
  | .trackStopped t tr => Sys2Proof.Machine.execTrackStopped t tr s
  | .governorEval t => Sys2Proof.Machine.execGovernorEval t s
  | .hl1ShiftStart t p => Sys2Proof.Machine.execHl1ShiftStart t p s
  | .hl1Latch t p => Sys2Proof.Machine.execHl1Latch t p s
  | .hl2FireStrobe t p => Sys2Proof.Machine.execHl2FireStrobe t p s
  | .frameTransmit t p => Sys2Proof.Machine.execFrameTransmit t p s
  | .fireAtUnacked t p => Sys2Proof.Machine.execFireAtUnacked t p s
  | .headAckRx t p seq => Sys2Proof.Machine.execHeadAckRx t p seq s
  | .headNakRx t p seq => Sys2Proof.Machine.execHeadNakRx t p seq s
  | .headAckTimeout t p => Sys2Proof.Machine.execHeadAckTimeout t p s
  | .headFrameDiscard t p seq => Sys2Proof.Machine.execHeadFrameDiscard t p seq s
  | .headStatusRx t p seq lanes answer result => Sys2Proof.Machine.execHeadStatusRx t p seq lanes answer result s
  | .headTempRx t p seq readings => Sys2Proof.Machine.execHeadTempRx t p seq readings s
  | .headTempLoss t p => Sys2Proof.Machine.execHeadTempLoss t p s
  | .headCutClear t p => Sys2Proof.Machine.execHeadCutClear t p s
  | .headSenseRx t p seq line entries => Sys2Proof.Machine.execHeadSenseRx t p seq line entries s
  | .headTimeSyncRx t p seq t1 t2 t3 t4 => Sys2Proof.Machine.execHeadTimeSyncRx t p seq t1 t2 t3 t4 s
  | .headTimeSyncPeriodic t p => Sys2Proof.Machine.execHeadTimeSyncPeriodic t p s
  | .headIdReadRx t p seq bytes => Sys2Proof.Machine.execHeadIdReadRx t p seq bytes s
  | .headAuthRespRx t p seq serial count mac => Sys2Proof.Machine.execHeadAuthRespRx t p seq serial count mac s
  | .headUsageReadRx t p seq nonce serial count mac => Sys2Proof.Machine.execHeadUsageReadRx t p seq nonce serial count mac s
  | .headUsagePeriodic t p => Sys2Proof.Machine.execHeadUsagePeriodic t p s
  | .headCfgReadRx t p seq space data => Sys2Proof.Machine.execHeadCfgReadRx t p seq space data s
  | .headTrainingLock t p lanes => Sys2Proof.Machine.execHeadTrainingLock t p lanes s
  | .headTrainingTimeout t p => Sys2Proof.Machine.execHeadTrainingTimeout t p s
  | .headAuxLockLoss t p lostFor => Sys2Proof.Machine.execHeadAuxLockLoss t p lostFor s
  | .headAuxSilence t p => Sys2Proof.Machine.execHeadAuxSilence t p s
  | .headAutoRelink t p => Sys2Proof.Machine.execHeadAutoRelink t p s
  | .maintFiring t p => Sys2Proof.Machine.execMaintFiring t p s
  | .watchPublish t => Sys2Proof.Machine.execWatchPublish t s
  | .waveTempUpdate t p ns => Sys2Proof.Machine.execWaveTempUpdate t p ns s
  | .waveEngineOverrun t w => Sys2Proof.Machine.execWaveEngineOverrun t w s
  | .powerStepEval t w => Sys2Proof.Machine.execPowerStepEval t w s
  | .cellarRead t b errors => Sys2Proof.Machine.execCellarRead t b errors s
  | .cellarPartialWrite t b off bytes => Sys2Proof.Machine.execCellarPartialWrite t b off bytes s
  | .cellarProbe t c temp => Sys2Proof.Machine.execCellarProbe t c temp s
  | .scrubStep t c => Sys2Proof.Machine.execScrubStep t c s
  | .descriptorRead t n => Sys2Proof.Machine.execDescriptorRead t n s
  | .descriptorRetry t n => Sys2Proof.Machine.execDescriptorRetry t n s
  | .writeBack t n => Sys2Proof.Machine.execWriteBack t n s
  | .sdsPacket t k parityFails => Sys2Proof.Machine.execSdsPacket t k parityFails s
  | .decompPacketTimeout t k => Sys2Proof.Machine.execDecompPacketTimeout t k s
  | .lineEngineLine t n p parity => Sys2Proof.Machine.execLineEngineLine t n p parity s
  | .sliceTimeout t e => Sys2Proof.Machine.execSliceTimeout t e s
  | .lineStored t n p sliceNs => Sys2Proof.Machine.execLineStored t n p sliceNs s
  | .pantryRead t addr user flips => Sys2Proof.Machine.execPantryRead t addr user flips s
  | .pantryPartialWrite t addr user enables data flips => Sys2Proof.Machine.execPantryPartialWrite t addr user enables data flips s
  | .bankRest t b => Sys2Proof.Machine.execBankRest t b s
  | .bankWakeComplete t b => Sys2Proof.Machine.execBankWakeComplete t b s
  | .bankFillComplete t b => Sys2Proof.Machine.execBankFillComplete t b s
  | .patrolCycleStart t b => Sys2Proof.Machine.execPatrolCycleStart t b s
  | .patrolPhaseEnd t b fault bad suppressed => Sys2Proof.Machine.execPatrolPhaseEnd t b fault bad suppressed s
  | .dwBurstIssue t => Sys2Proof.Machine.execDwBurstIssue t s
  | .dwBurstComplete t ch k stall => Sys2Proof.Machine.execDwBurstComplete t ch k stall s
  | .dwLateError t m k cause units => Sys2Proof.Machine.execDwLateError t m k cause units s
  | .dwNop t m => Sys2Proof.Machine.execDwNop t m s
  | .dwMove t m => Sys2Proof.Machine.execDwMove t m s
  | .dwMove2d t m => Sys2Proof.Machine.execDwMove2d t m s
  | .dwFill t m => Sys2Proof.Machine.execDwFill t m s
  | .dwFill2d t m => Sys2Proof.Machine.execDwFill2d t m s
  | .dwCmp t m => Sys2Proof.Machine.execDwCmp t m s
  | .dwCmp2d t m => Sys2Proof.Machine.execDwCmp2d t m s
  | .dwLoop t m => Sys2Proof.Machine.execDwLoop t m s
  | .dwWait t m => Sys2Proof.Machine.execDwWait t m s
  | .dwWaitDone t m => Sys2Proof.Machine.execDwWaitDone t m s
  | .dwWaitTimeout t m => Sys2Proof.Machine.execDwWaitTimeout t m s
  | .dwSignal t m => Sys2Proof.Machine.execDwSignal t m s
  | .dwFence t m => Sys2Proof.Machine.execDwFence t m s
  | .dwEnd t m => Sys2Proof.Machine.execDwEnd t m s
  | .otpProgramRound t tight nominal => Sys2Proof.Machine.execOtpProgramRound t tight nominal s
  | .otpResense t read => Sys2Proof.Machine.execOtpResense t read s
  | .pealPortUp t k nport lockFor => Sys2Proof.Machine.execPealPortUp t k nport lockFor s
  | .pealPortDown t k cause lostFor => Sys2Proof.Machine.execPealPortDown t k cause lostFor s
  | .holdoverTimeout t => Sys2Proof.Machine.execHoldoverTimeout t s
  | .pealFrameDiscard t k err src f => Sys2Proof.Machine.execPealFrameDiscard t k err src f s
  | .tollRx t k f => Sys2Proof.Machine.execTollRx t k f s
  | .tollLoss t tr => Sys2Proof.Machine.execTollLoss t tr s
  | .chimeRx t k f => Sys2Proof.Machine.execChimeRx t k f s
  | .chimeSend t alive => Sys2Proof.Machine.execChimeSend t alive s
  | .deputyTakeover t => Sys2Proof.Machine.execDeputyTakeover t s
  | .pairLinkLost t => Sys2Proof.Machine.execPairLinkLost t s
  | .clapperAccept t level => Sys2Proof.Machine.execClapperAccept t level s
  | .clapperClaim t => Sys2Proof.Machine.execClapperClaim t s
  | .clapperConflict t => Sys2Proof.Machine.execClapperConflict t s
  | .syncExchange t k => Sys2Proof.Machine.execSyncExchange t k s
  | .syncRx t k f => Sys2Proof.Machine.execSyncRx t k f s
  | .paceReportRx t k f => Sys2Proof.Machine.execPaceReportRx t k f s
  | .paceReportTimeout t eval => Sys2Proof.Machine.execPaceReportTimeout t eval s
  | .paceRingRx t k f => Sys2Proof.Machine.execPaceRingRx t k f s
  | .ringValueStale t => Sys2Proof.Machine.execRingValueStale t s
  | .tunnelRx t k f => Sys2Proof.Machine.execTunnelRx t k f s
  | .tunnelResponseRx t k f => Sys2Proof.Machine.execTunnelResponseRx t k f s
  | .discoverAssignRx t k f => Sys2Proof.Machine.execDiscoverAssignRx t k f s
  | .discoverEndRx t k f => Sys2Proof.Machine.execDiscoverEndRx t k f s
  | .discoverDoneRx t k f => Sys2Proof.Machine.execDiscoverDoneRx t k f s
  | .discoverBusyRx t k f => Sys2Proof.Machine.execDiscoverBusyRx t k f s
  | .discoveryTimeout t => Sys2Proof.Machine.execDiscoveryTimeout t s
  | .statusSend t => Sys2Proof.Machine.execStatusSend t s
  | .statusRx t k f => Sys2Proof.Machine.execStatusRx t k f s
  | .presenceExpire t devId => Sys2Proof.Machine.execPresenceExpire t devId s
  | .deputyLost t => Sys2Proof.Machine.execDeputyLost t s
  | .pcieLinkDown t => Sys2Proof.Machine.execPcieLinkDown t s
  | .hostReadTimeout t ch k => Sys2Proof.Machine.execHostReadTimeout t ch k s
  | .testN t low ns => Sys2Proof.Machine.execTestN t low ns s
  | .jtagInstruction t instr => Sys2Proof.Machine.execJtagInstruction t instr s
  | .channelHeartbeatLapse t ch => Sys2Proof.Machine.execChannelHeartbeatLapse t ch s

end Sys2Proof.Machine
end

