-- ==== Sys2Proof/WellFormed.lean ====
section
/-! DEFINITION. Which commands are well formed: every operand lies in the range that the part's numbering, field widths
and tables give it. -/

namespace Sys2Proof

/-- Every value that is there passes. -/
def optAll {α : Type} (f : α → Bool) : Option α → Bool
  | none => true
  | some x => f x

/-- A value of 16 bits in two's complement. -/
def s16 (v : Int) : Bool := decide (-32768 ≤ v) && decide (v ≤ 32767)

/-- Every word has 32 bits. -/
def wordsWf (l : List Nat) : Bool := l.all (fun w => decide (w < 4294967296))

/-- A command as a porch carries it (R320): the header's field widths, a porch of the host or of a tunnelled command, and
at most 2,016 bytes of payload. Log 13 (DESIGN CHOICE). -/
def Req.wf (rq : Req) : Bool :=
  decide (rq.origin < 65536) && decide (rq.porch < 16) && decide (rq.seq < 4294967296) && decide (rq.flags < 256) &&
    decide (rq.deadline < 65536) && decide (rq.tag < 4294967296) && decide (rq.payload.length ≤ 2016)

/-- A Peal frame (R283): the header's field widths, and at most 2,064 bytes of payload. Log 13 (DESIGN CHOICE). -/
def PealFrame.wf (f : PealFrame) : Bool :=
  decide (f.kind < 256) && decide (f.flags < 256) && decide (f.src < 65536) && decide (f.dst < 65536) &&
    decide (f.seq < 65536) && decide (f.hops < 65536) && decide (f.payload.length ≤ 2064)

/-- One row of a SENSE message (R243, R259). -/
def SenseEntry.wf (e : SenseEntry) : Bool :=
  decide (e.row < 256) && decide (e.nozzle < 65536) && decide (e.amp < 256) && decide (e.freq < 256) &&
    decide (e.decay < 256) && decide (e.phase < 256)

/-- A write to one of the masks of R503: one of 32 vectors. -/
def MaskWrite.wf : MaskWrite → Bool
  | .vector _ v value => decide (v < 32) && decide (value < 4294967296)
  | .config _ _ _ => true

/-- Who writes GO (R427): 64-bit addresses. -/
def XferBy.wf : XferBy → Bool
  | .host _ => true
  | .cp hostBase src dst =>
    decide (hostBase < 18446744073709551616) && decide (src < 18446744073709551616) && decide (dst < 18446744073709551616)

/-- An SPI frame: a 24-bit offset and words of 32 bits (R549). -/
def SpiFrame.wf : SpiFrame → Bool
  | .read off _ => decide (off < 16777216)
  | .write off words _ => decide (off < 16777216) && wordsWf words

/-- An access of `size` bytes of memory: a write of at least one byte, or a read of at least one, inside it. -/
def accessWf (size off n : Nat) : Option (List (Option Byte)) → Bool
  | none => decide (0 < n) && decide (off + n ≤ size)
  | some l => decide (0 < l.length) && decide (off + l.length ≤ size)

/-- Lanes and speed of a PCIe link: x1, x2, x4, x8 or x16, at speed 1 to 5 (R491). -/
def linkWf (width speed : Nat) : Bool :=
  [1, 2, 4, 8, 16].contains width && decide (1 ≤ speed) && decide (speed ≤ 5)

/-- A command is well formed. Log 13 (DESIGN CHOICE). -/
def Instr.wf : Instr → Bool
  | .sysNop _ rq => rq.wf
  | .sysQuery _ rq => rq.wf
  | .sysCommit _ rq => rq.wf
  | .sysUncommit _ rq => rq.wf
  | .jobStart _ rq => rq.wf
  | .jobEnd _ rq => rq.wf
  | .sysMaintain _ rq => rq.wf
  | .sysClearHalt _ rq => rq.wf
  | .sysReset _ rq => rq.wf
  | .geoClear _ rq => rq.wf
  | .geoPlane _ rq => rq.wf
  | .geoRows _ rq => rq.wf
  | .geoRowsets _ rq => rq.wf
  | .geoQuery _ rq => rq.wf
  | .geoReadRow _ rq => rq.wf
  | .geoScrub _ rq => rq.wf
  | .streamOpen _ rq => rq.wf
  | .streamClose _ rq => rq.wf
  | .streamReset _ rq => rq.wf
  | .streamWater _ rq => rq.wf
  | .streamQuery _ rq => rq.wf
  | .streamFaults _ rq => rq.wf
  | .lineRemap _ rq => rq.wf
  | .lineBoost _ rq => rq.wf
  | .lineMaskLoad _ rq => rq.wf
  | .lineMaskGen _ rq => rq.wf
  | .lineMaskClear _ rq => rq.wf
  | .lineFlags _ rq => rq.wf
  | .lineQuery _ rq => rq.wf
  | .timingEncoder _ rq => rq.wf
  | .timingTrack _ rq => rq.wf
  | .timingLive _ rq => rq.wf
  | .timingGovernor _ rq => rq.wf
  | .timingLtrig _ rq => rq.wf
  | .timingNozzleTrim _ rq => rq.wf
  | .timingQuery _ rq => rq.wf
  | .waveModule _ rq => rq.wf
  | .waveLoad _ rq => rq.wf
  | .waveTemp _ rq => rq.wf
  | .waveMap _ rq => rq.wf
  | .waveAmpTrim _ rq => rq.wf
  | .wavePort _ rq => rq.wf
  | .waveDeadband _ rq => rq.wf
  | .waveQuery _ rq => rq.wf
  | .headConfig _ rq => rq.wf
  | .headLink _ rq => rq.wf
  | .headSpit _ rq => rq.wf
  | .headUsage _ rq => rq.wf
  | .headQuery _ rq => rq.wf
  | .headPurge _ rq => rq.wf
  | .headPattern _ rq => rq.wf
  | .watchConfig _ rq => rq.wf
  | .watchLearn _ rq => rq.wf
  | .watchSet _ rq => rq.wf
  | .watchRead _ rq => rq.wf
  | .watchRefSave _ rq => rq.wf
  | .watchRefLoad _ rq => rq.wf
  | .watchLog _ rq => rq.wf
  | .watchQuery _ rq => rq.wf
  | .ringConfig _ rq => rq.wf
  | .ringDiscover _ rq => rq.wf
  | .ringRole _ rq => rq.wf
  | .ringQuery _ rq => rq.wf
  | .ringTable _ rq => rq.wf
  | .memBankPower _ rq => rq.wf
  | .memPatrol _ rq => rq.wf
  | .memCopy _ rq => rq.wf
  | .memQuery _ rq => rq.wf
  | .otpRead _ rq => rq.wf
  | .otpProgram _ rq => rq.wf
  | .otpSeal _ rq => rq.wf
  | .otpLock _ rq => rq.wf
  | .otpSticky _ rq => rq.wf
  | .otpQuery _ rq => rq.wf
  | .thermDie _ rq => rq.wf
  | .thermHeadLimits _ rq => rq.wf
  | .thermThTable _ rq => rq.wf
  | .thermTriangle _ rq => rq.wf
  | .thermQuery _ rq => rq.wf
  | .healthReport _ rq => rq.wf
  | .healthLog _ rq => rq.wf
  | .healthConfig _ rq => rq.wf
  | .healthClear _ rq => rq.wf
  | .diagEnter _ rq => rq.wf
  | .diagLeave _ rq => rq.wf
  | .diagQuery _ rq => rq.wf
  | .prepare _ op rq => rq.wf && decide (op < 65536)
  | .commit _ op rq => rq.wf && decide (op < 65536)
  | .abort _ op rq => rq.wf && decide (op < 65536)
  | .prepareLapsed _ origin porch => decide (origin < 65536) && decide (porch < 14)
  | .bootQuery _ rq => rq.wf
  | .bootWrite _ rq => rq.wf
  | .bootFetch _ rq => rq.wf
  | .bootRun _ rq fails => rq.wf && decide (fails < 4294967296)
  | .bootClear _ rq => rq.wf
  | .readyForHost _ trained temps => decide (trained < 4096) && decide (temps < 68719476736)
  | .doorbell _ _ n seq => decide (n < 16) && decide (seq < 4294967296)
  | .commandApply _ slot => decide (slot < 14 ∨ 16 ≤ slot) && decide (slot < 20)
  | .commandDeadline _ slot => decide (slot < 14 ∨ 16 ≤ slot) && decide (slot < 20)
  | .evReadWrite _ _ v => decide (v < 4294967296)
  | .featureAcceptWrite _ _ i v => decide (i < 8) && decide (v < 4294967296)
  | .tailWrite _ _ n v => decide (n < 128) && decide (v < 4294967296)
  | .porchRamAccess _ _ off n write cp => accessWf 0x10000 off n write && cp.all (fun k => decide (k < 8192))
  | .bootWindowAccess _ _ off n write => accessWf 0x200000 off n write
  | .rcFieldRead _ _ off width => decide (off < 4194304) && decide (width = 1 ∨ width = 2 ∨ width = 4 ∨ width = 8)
  | .timeLoRead _ _ => true
  | .registerWrite _ _ off width v => decide (off < 4194304) && decide (width = 1 ∨ width = 2 ∨ width = 4 ∨ width = 8) && decide (v < 2 ^ (8 * width))
  | .msixUnmask _ w => w.wf
  | .wdKick _ _ writes => writes.all (fun x => decide (x.2 < 4294967296))
  | .cellarForceOffline _ _ c => decide (c < 12)
  | .decompForceOffline _ _ k => decide (k < 8)
  | .lineEngineForceOffline _ _ e => decide (e < 12)
  | .waveEngineForceOffline _ _ w => decide (w < 2)
  | .otpProgKeyWrite _ _ v => decide (v < 4294967296)
  | .otpProgGo _ _ => true
  | .otpReadAddrWrite _ _ w => decide (w < 4294967296)
  | .dwProgramStart _ m prog base priority _ => decide (m < 32) && decide (prog < 4294967296) && decide (base < 18446744073709551616) && decide (priority < 4)
  | .dwStop _ _ m => decide (m < 32)
  | .dwXferGo _ who m v => who.wf && decide (m < 32) && decide (v < 4294967296)
  | .dwShadowGo _ who m v => who.wf && decide (m < 32) && decide (v < 4294967296)
  | .spiReadFrame _ cmd off _ => decide (cmd < 256) && decide (off < 16777216)
  | .spiWriteFrame _ off words _ => decide (off < 16777216) && wordsWf words
  | .spiAbort _ frame => optAll SpiFrame.wf frame
  | .powerOn _ vin _ _ => decide (vin < 1024)
  | .resetN _ _ _ => true
  | .perstN _ _ => true
  | .sysclkValid _ _ => true
  | .pcieLinkTrained _ width speed bestWidth bestSpeed => linkWf width speed && linkWf bestWidth bestSpeed
  | .vinUndervoltage _ vin _ => decide (vin < 1024)
  | .vinOvervoltage _ vin _ => decide (vin < 1024)
  | .vinOvervoltageRestart _ vin _ => decide (vin < 1024)
  | .vinMarginal _ vin _ => decide (vin < 1024)
  | .vinMarginalClear _ vin _ => decide (vin < 1024)
  | .dieSensorReading _ readings => decide (readings.length = 32) && readings.all (fun r => decide (r.1 < 65536) && s16 r.2)
  | .thermalRestart _ => true
  | .thConversion _ n code => decide (n < 16) && decide (code < 4096)
  | .safetyInputAccept _ ch input _ => decide (ch < 3) && decide (input < 4)
  | .estopDiscrepancy _ ch => decide (ch < 3)
  | .cpWatchdogExpiry _ => true
  | .livenessStall _ _ => true
  | .clockFault _ ratio osc => s16 ratio && decide (osc < 8)
  | .clockMarginal _ ratio => s16 ratio
  | .clockMarginalClear _ ratio => s16 ratio
  | .triangleDisagree _ ch => decide (ch < 3)
  | .haltEntry _ cause => decide (cause = 1 ∨ cause = 3)
  | .hpHeartbeat _ => true
  | .hpStall _ => true
  | .healthDrain _ => true
  | .encoderSample _ e _ _ _ _ => decide (e < 4)
  | .ssiRead _ e _ _ value => decide (e < 4) && decide (value < 4294967296)
  | .bissRead _ e _ frame => decide (e < 4) && optAll (fun (x : Nat × Bool × Bool × Nat) => decide (x.1 < 4294967296) && decide (x.2.2.2 < 64)) frame
  | .zIndex _ e => decide (e < 4)
  | .encInputFault _ e => decide (e < 4)
  | .encInputRecover _ e => decide (e < 4)
  | .encStall _ e => decide (e < 4)
  | .schedulerEval _ tr => decide (tr < 16)
  | .clockLineCommit _ tr => decide (tr < 16)
  | .lineInstant _ tr => decide (tr < 16)
  | .ltrigPulse _ n => decide (n < 4)
  | .portFetch _ p => decide (p < 128)
  | .trackStopped _ tr => decide (tr < 16)
  | .governorEval _ => true
  | .hl1ShiftStart _ p => decide (p < 128)
  | .hl1Latch _ p => decide (p < 128)
  | .hl2FireStrobe _ p => decide (p < 128)
  | .frameTransmit _ p => decide (p < 128)
  | .fireAtUnacked _ p => decide (p < 128)
  | .headAckRx _ p seq => decide (p < 128) && decide (seq < 65536)
  | .headNakRx _ p seq => decide (p < 128) && decide (seq < 65536)
  | .headAckTimeout _ p => decide (p < 128)
  | .headFrameDiscard _ p seq => decide (p < 128) && optAll (fun (q : Nat) => decide (q < 65536)) seq
  | .headStatusRx _ p seq lanes answer result => decide (p < 128) && decide (seq < 65536) && decide (lanes < 256) && decide (answer < 65536) && decide (result < 4)
  | .headTempRx _ p seq readings => decide (p < 128) && decide (seq < 65536) && decide (1 ≤ readings.length ∧ readings.length ≤ 16) && readings.all (fun r => decide (r.1 < 256) && s16 r.2.2)
  | .headTempLoss _ p => decide (p < 128)
  | .headCutClear _ p => decide (p < 128)
  | .headSenseRx _ p seq line entries => decide (p < 128) && decide (seq < 65536) && decide (line < 18446744073709551616) && decide (1 ≤ entries.length ∧ entries.length ≤ 64) && entries.all SenseEntry.wf
  | .headTimeSyncRx _ p seq t1 t2 t3 t4 => decide (p < 128) && decide (seq < 65536) && decide (t1 < 18446744073709551616) && decide (t2 < 18446744073709551616) && decide (t3 < 18446744073709551616) && decide (t4 < 18446744073709551616)
  | .headTimeSyncPeriodic _ p => decide (p < 128)
  | .headIdReadRx _ p seq bytes => decide (p < 128) && decide (seq < 65536) && decide (bytes.length = 64)
  | .headAuthRespRx _ p seq serial count mac => decide (p < 128) && decide (seq < 65536) && decide (serial < 18446744073709551616) && decide (count < 18446744073709551616) && decide (mac.length = 16)
  | .headUsageReadRx _ p seq nonce serial count mac => decide (p < 128) && decide (seq < 65536) && decide (serial < 18446744073709551616) && decide (count < 18446744073709551616) && decide (mac.length = 16) && decide (nonce < 340282366920938463463374607431768211456)
  | .headUsagePeriodic _ p => decide (p < 128)
  | .headCfgReadRx _ p seq space data => decide (p < 128) && decide (seq < 65536) && decide (space < 256) && decide (data.length ≤ 4080)
  | .headTrainingLock _ p lanes => decide (p < 128) && decide (lanes < 4)
  | .headTrainingTimeout _ p => decide (p < 128)
  | .headAuxLockLoss _ p _ => decide (p < 128)
  | .headAuxSilence _ p => decide (p < 128)
  | .headAutoRelink _ p => decide (p < 128)
  | .maintFiring _ p => decide (p < 128)
  | .watchPublish _ => true
  | .waveTempUpdate _ p _ => decide (p < 128)
  | .waveEngineOverrun _ w => decide (w < 2)
  | .powerStepEval _ w => decide (w < 2)
  | .cellarRead _ b errors => decide (b < 201326592) && errors.all (fun e => decide (e.1 < 36) && decide (e.2 < 65536))
  | .cellarPartialWrite _ b off bytes => decide (b < 201326592) && decide (0 < bytes.length) && decide (off + bytes.length ≤ 64)
  | .cellarProbe _ c temp => decide (c < 12) && optAll (fun (v : Nat) => decide (v < 8)) temp
  | .scrubStep _ c => decide (c < 12)
  | .descriptorRead _ n => decide (n < 128)
  | .descriptorRetry _ n => decide (n < 128)
  | .writeBack _ n => decide (n < 128)
  | .sdsPacket _ k _ => decide (k < 8)
  | .decompPacketTimeout _ k => decide (k < 8)
  | .lineEngineLine _ n p parity => decide (n < 128) && decide (p < 16) && optAll (fun (e : Nat) => decide (e < 12)) parity
  | .sliceTimeout _ e => decide (e < 12)
  | .lineStored _ n p sliceNs => decide (n < 128) && decide (p < 16) && decide (sliceNs.length ≤ 12)
  | .pantryRead _ addr _ flips => decide (addr % 8 = 0) && decide (addr < 4294967296) && flips.all (fun k => decide (k < 72))
  | .pantryPartialWrite _ addr _ enables data flips => decide (addr % 8 = 0) && decide (addr < 4294967296) && flips.all (fun k => decide (k < 72)) && decide (enables < 256) && decide (data < 18446744073709551616)
  | .bankRest _ b => decide (b < 22)
  | .bankWakeComplete _ b => decide (b < 22)
  | .bankFillComplete _ b => decide (b < 22)
  | .patrolCycleStart _ b => decide (b < 22)
  | .patrolPhaseEnd _ b _ bad _ => decide (b < 22) && bad.all (fun x => x.2.all (fun k => decide (k < 72)))
  | .dwBurstIssue _ => true
  | .dwBurstComplete _ ch _ _ => decide (ch < 160)
  | .dwLateError _ m _ cause units => decide (m < 32) && decide (cause < 16) && decide (units < 4096)
  | .dwNop _ m => decide (m < 32)
  | .dwMove _ m => decide (m < 32)
  | .dwMove2d _ m => decide (m < 32)
  | .dwFill _ m => decide (m < 32)
  | .dwFill2d _ m => decide (m < 32)
  | .dwCmp _ m => decide (m < 32)
  | .dwCmp2d _ m => decide (m < 32)
  | .dwLoop _ m => decide (m < 32)
  | .dwWait _ m => decide (m < 32)
  | .dwWaitDone _ m => decide (m < 32)
  | .dwWaitTimeout _ m => decide (m < 32)
  | .dwSignal _ m => decide (m < 32)
  | .dwFence _ m => decide (m < 32)
  | .dwEnd _ m => decide (m < 32)
  | .otpProgramRound _ tight nominal => decide (tight < 549755813888) && decide (nominal < 549755813888)
  | .otpResense _ read => optAll (fun (r : Nat × Nat) => decide (r.1 < 549755813888) && decide (r.2 < 549755813888)) read
  | .pealPortUp _ k nport _ => decide (k < 2) && decide (nport < 2)
  | .pealPortDown _ k cause _ => decide (k < 2) && decide (cause < 3)
  | .holdoverTimeout _ => true
  | .pealFrameDiscard _ k err src f => optAll PealFrame.wf f && decide (k < 2) && decide (err < 5) && decide (src < 65536)
  | .tollRx _ k f => f.wf && decide (k < 2)
  | .tollLoss _ tr => decide (tr < 16)
  | .chimeRx _ k f => f.wf && decide (k < 2)
  | .chimeSend _ _ => true
  | .deputyTakeover _ => true
  | .pairLinkLost _ => true
  | .clapperAccept _ _ => true
  | .clapperClaim _ => true
  | .clapperConflict _ => true
  | .syncExchange _ k => decide (k < 2)
  | .syncRx _ k f => f.wf && decide (k < 2)
  | .paceReportRx _ k f => f.wf && decide (k < 2)
  | .paceReportTimeout _ _ => true
  | .paceRingRx _ k f => f.wf && decide (k < 2)
  | .ringValueStale _ => true
  | .tunnelRx _ k f => f.wf && decide (k < 2)
  | .tunnelResponseRx _ k f => f.wf && decide (k < 2)
  | .discoverAssignRx _ k f => f.wf && decide (k < 2)
  | .discoverEndRx _ k f => f.wf && decide (k < 2)
  | .discoverDoneRx _ k f => f.wf && decide (k < 2)
  | .discoverBusyRx _ k f => f.wf && decide (k < 2)
  | .discoveryTimeout _ => true
  | .statusSend _ => true
  | .statusRx _ k f => f.wf && decide (k < 2)
  | .presenceExpire _ devId => decide (devId < 65536)
  | .deputyLost _ => true
  | .pcieLinkDown _ => true
  | .hostReadTimeout _ ch _ => decide (ch < 160)
  | .testN _ _ _ => true
  | .jtagInstruction _ _ => true
  | .channelHeartbeatLapse _ ch => decide (ch < 3)

end Sys2Proof
end

