-- ==== Sys2Proof/Safety.lean ====
section
/-! DEFINITION. The terms in which claims about runs are made: the canonical form of memory, queues of well-formed commands,
and how a row takes effect. -/

namespace Sys2Proof

/-- The commands of the supervisor and the Triangle, which work while the core is in reset or powered off (R356, R357). -/
def Instr.supervised : Instr → Bool
  | .powerOn _ _ _ _ | .resetN _ _ _ | .perstN _ _ | .sysclkValid _ _ | .vinUndervoltage _ _ _ | .vinOvervoltage _ _ _
  | .vinOvervoltageRestart _ _ _ | .vinMarginal _ _ _ | .vinMarginalClear _ _ _ | .testN _ _ _ | .jtagInstruction _ _
  | .dieSensorReading _ _ | .thermalRestart _ | .safetyInputAccept _ _ _ _ | .estopDiscrepancy _ _ | .cpWatchdogExpiry _
  | .livenessStall _ _ | .clockFault _ _ _ | .channelHeartbeatLapse _ _ => true
  | _ => false

end Sys2Proof

namespace Sys2Proof.Machine

/-- The registers are in canonical form: offsets rise, and none is listed at its reset value. -/
def State.regsWf (s : State) : Bool := s.regs.wfBy regReset

/-- Every memory of the state is in canonical form: the host's, the Pantry with its bits in error, the Cellar's codewords,
the MSI-X table and the registers. -/
def Memory.wf (s : State) : Bool :=
  s.host.mem.wf 0 && s.pmem.wf 0 && s.perr.wf 0 && s.cellar.words.wfBy (fun b => encodeBlock b zeroBlock) &&
    s.msix.table.wfBy msixReset && s.regsWf

/-- Every command that waits is well formed. -/
def State.queueWf (s : State) : Bool := s.pending.all Instr.wf

/-- The core runs, and `a` is the state in which a row at time `t` takes effect: time has come to `t`, and what follows
from that alone has come about. -/
def Live (s : State) (t : Nat) (a : State) : Prop := s.core = .run ∧ a = s.advance t

/-- The same for a row of the Triangle, which works while the supervisor has power. -/
def Watched (s : State) (t : Nat) (a : State) : Prop := s.power.vinOk = true ∧ a = s.advance t

/-- The memories of two states hold the same: the host's, the Pantry with its bits in error, the Cellar's codewords, the
fuses and the MSI-X table. -/
def SameMemory (a u : State) : Prop :=
  u.host = a.host ∧ u.pmem = a.pmem ∧ u.perr = a.perr ∧ u.cellar.words = a.cellar.words ∧ u.otp = a.otp ∧
    u.msix.table = a.msix.table

/-- A command answers a next state, which is `u` with the commands that waited still waiting. -/
def Gives (c : Instr) (s u : State) : Prop := exec c s = .next (s.keepQueue u)

/-- A frame on a Peal port that R284 neither discards nor takes as LOCAL: the port is in service and UP, and the frame has a
good form, another source, and has not come before. -/
def Arrives (a : State) (k : Nat) (f : PealFrame) : Prop :=
  a.pealOn k = true ∧ a.pealUp k = true ∧ frameOk f = true ∧ f.flags = 0 ∧ f.src ≠ a.deviceId ∧ a.pealDup f = false

/-- The frame is for this device, or for all. -/
def Meant (a : State) (f : PealFrame) : Prop := f.dst = 0xFFFF ∨ f.dst = a.deviceId

/-- A LOCAL frame of the neighbour on a Peal port in service. -/
def LocalFrame (a : State) (k : Nat) (f : PealFrame) : Prop := a.pealOn k = true ∧ frameOk f = true ∧ f.flags = 1

/-- One porch command of the catalogue: how its step is written, and what it is. -/
abbrev PorchRow := (Nat → Req → Instr) × Cmd

/-- The SYS commands. -/
def sysOperations : List PorchRow := [
  (.sysNop, sysNop),
  (.sysQuery, sysQuery),
  (.sysCommit, sysCommit),
  (.sysUncommit, sysUncommit)]

/-- The JOB commands. -/
def jobOperations : List PorchRow := [
  (.jobStart, jobStart),
  (.jobEnd, jobEnd)]

/-- The SYS commands, continued. -/
def sysCareOperations : List PorchRow := [
  (.sysMaintain, sysMaintain),
  (.sysClearHalt, sysClearHalt),
  (.sysReset, sysReset)]

/-- The GEO commands. -/
def geoOperations : List PorchRow := [
  (.geoClear, geoClear),
  (.geoPlane, geoPlane),
  (.geoRows, geoRows),
  (.geoRowsets, geoRowsets),
  (.geoQuery, geoQuery),
  (.geoReadRow, geoReadRow),
  (.geoScrub, geoScrub)]

/-- The STREAM commands. -/
def streamOperations : List PorchRow := [
  (.streamOpen, streamOpen),
  (.streamClose, streamClose),
  (.streamReset, streamReset),
  (.streamWater, streamWater),
  (.streamQuery, streamQuery),
  (.streamFaults, streamFaults)]

/-- The LINE commands. -/
def lineOperations : List PorchRow := [
  (.lineRemap, lineRemap),
  (.lineBoost, lineBoost),
  (.lineMaskLoad, lineMaskLoad),
  (.lineMaskGen, lineMaskGen),
  (.lineMaskClear, lineMaskClear),
  (.lineFlags, lineFlags),
  (.lineQuery, lineQuery)]

/-- The TIMING commands. -/
def timingOperations : List PorchRow := [
  (.timingEncoder, timingEncoder),
  (.timingTrack, timingTrack),
  (.timingLive, timingLive),
  (.timingGovernor, timingGovernor),
  (.timingLtrig, timingLtrig),
  (.timingNozzleTrim, timingNozzleTrim),
  (.timingQuery, timingQuery)]

/-- The WAVE commands. -/
def waveOperations : List PorchRow := [
  (.waveModule, waveModule),
  (.waveLoad, waveLoad),
  (.waveTemp, waveTemp),
  (.waveMap, waveMap),
  (.waveAmpTrim, waveAmpTrim),
  (.wavePort, wavePort),
  (.waveDeadband, waveDeadband),
  (.waveQuery, waveQuery)]

/-- The HEAD commands. -/
def headOperations : List PorchRow := [
  (.headConfig, headConfig),
  (.headLink, headLink),
  (.headSpit, headSpit),
  (.headUsage, headUsage),
  (.headQuery, headQuery),
  (.headPurge, headPurge),
  (.headPattern, headPattern)]

/-- The WATCH commands. -/
def watchOperations : List PorchRow := [
  (.watchConfig, watchConfig),
  (.watchLearn, watchLearn),
  (.watchSet, watchSet),
  (.watchRead, watchRead),
  (.watchRefSave, watchRefSave),
  (.watchRefLoad, watchRefLoad),
  (.watchLog, watchLog),
  (.watchQuery, watchQuery)]

/-- The RING commands. -/
def ringOperations : List PorchRow := [
  (.ringConfig, ringConfig),
  (.ringDiscover, ringDiscover),
  (.ringRole, ringRoleCmd),
  (.ringQuery, ringQuery),
  (.ringTable, ringTable)]

/-- The MEM commands. -/
def memOperations : List PorchRow := [
  (.memBankPower, memBankPower),
  (.memPatrol, memPatrol),
  (.memCopy, memCopy),
  (.memQuery, memQuery)]

/-- The OTP commands. -/
def otpOperations : List PorchRow := [
  (.otpRead, otpRead),
  (.otpProgram, otpProgram),
  (.otpSeal, otpSeal),
  (.otpLock, otpLock),
  (.otpSticky, otpSticky),
  (.otpQuery, otpQuery)]

/-- The THERM commands. -/
def thermOperations : List PorchRow := [
  (.thermDie, thermDie),
  (.thermHeadLimits, thermHeadLimits),
  (.thermThTable, thermThTable),
  (.thermTriangle, thermTriangle),
  (.thermQuery, thermQuery)]

/-- The HEALTH commands. -/
def healthOperations : List PorchRow := [
  (.healthReport, healthReport),
  (.healthLog, healthLog),
  (.healthConfig, healthConfig),
  (.healthClear, healthClear)]

/-- The DIAG commands. -/
def diagOperations : List PorchRow := [
  (.diagEnter, diagEnter),
  (.diagLeave, diagLeave),
  (.diagQuery, diagQuery)]

/-- Every command of interface level 1 (R352). -/
def porchRows : List PorchRow :=
  sysOperations ++ jobOperations ++ sysCareOperations ++ geoOperations ++ streamOperations ++ lineOperations ++ timingOperations ++
    waveOperations ++ headOperations ++ watchOperations ++ ringOperations ++ memOperations ++ otpOperations ++ thermOperations ++
    healthOperations ++ diagOperations

/-- A command has passed steps 1 to 6 of R324 and is staged as `g` in slot `n`: on its own porch, which is served and free,
or tunnelled, in a free slot (R313, R323, R325), where nothing else is outstanding. `b` is the state then. -/
def Taken (a : State) (op : Nat) (rq : Req) (n : Nat) (g : Staged) (b : State) : Prop :=
  g = { op := op, rq := rq, rungAt := a.now, due := dueAt a.now rq.deadline } ∧ ∃ x : State,
    b = x.setPorch n { x.porch n with staged := some g } ∧ (x.porch n).remote = none ∧
    ((rq.origin = 0 ∧ n = rq.porch ∧ a.served n = true ∧ a.porchFree n = true ∧
        x = ((((a.ring n rq.seq).closeNegotiation op).set (F.PR_EXPECT_SEQ n) ((rq.seq + 1) % 2 ^ 32)).set
          (F.PR_STATE_EXPECT_VALID n) 1)) ∨
      (rq.origin ≠ 0 ∧ a.mode ≠ .boot ∧ a.boot.ready = true ∧ a.freeSlot = some n ∧ ∃ y : State,
        y = (a.closeNegotiation op).bump F.PEAL_TUNNEL_IN ∧ x = y.setPorch n { y.porch n with rungAt := y.now }))

/-- The checks of a staged command find nothing, no other holds what it needs, and its deadline has not passed
(R324, R327, R328). -/
def Ready (b : State) (n : Nat) (g : Staged) : Prop :=
  b.checkCmd g.op g.rq = none ∧ b.heldUp n g.op g.rungAt g.rq = false ∧ b.tickPast g.due = false

end Sys2Proof.Machine
end

