-- ==== Sys2Proof/Certificates/Slice0/Obligations.lean ====
section
/-! DEFINITION. The statements about the model, each from the rules of the spec it cites. -/

open Sys2Proof Sys2Proof.Machine

/-- For every command c, rest of the queue and state s, the step of s with c in front is exec c on s with the rest
waiting; with an empty queue the step answers s. Idling is the model's choice (log entry 2).
(95_what_each_step_holds.md) -/
def Obligations.FrontCommandExecutes : Prop :=
  (∀ (c : Instr) (rest : List Instr) (s : State),
    step { s with pending := c :: rest } = exec c { s with pending := rest }) ∧
  (∀ s : State, s.pending = [] → step s = .next s)

/-- From every state whose queue holds well-formed commands, the step answers a next state (never a fault or a
refusal) whose queue is the old one without its front command, and is well formed again: no command drops, adds or
reorders waiting commands. (95_what_each_step_holds.md) -/
def Obligations.EveryStepTakesOneCommand : Prop :=
  ∀ s : State, s.queueWf = true →
    ∃ u, step s = .next u ∧ u.pending = s.pending.tail ∧ u.queueWf = true

/-- For every command that is not of the supervisor or the Triangle, and every state whose core does not run, exec
answers the state with nothing changed but the time. (11_startup_firmware_modes.md, R390) -/
def Obligations.NothingHappensWhileTheCoreIsHeld : Prop :=
  ∀ (c : Instr) (s : State), c.supervised = false → s.core ≠ .run → ∃ t, exec c s = .next (s.at t)

/-- For every offset but TIME_HI (whose latch belongs to its path), a word read over SPI has the value of the same
read over PCIe; after either read every register holds the same word, and every RC bit of the register read is 0.
(R14) -/
def Obligations.SpiAndPcieReadsClearAlike : Prop :=
  ∀ (s : State) (off : Nat),
    (off ≠ F.GL_TIME_HI.off → (s.readWord .spi off).1 = (s.readWord .pcie off).1) ∧
    (∀ o, (s.readWord .spi off).2.reg o = (s.readWord .pcie off).2.reg o) ∧
    (∀ r, regRow off = some r → msixOffset off = false → ∀ path k, k < 32 →
      (r.mask (fun c => decide (c = .rc))).testBit k = true → ((s.readWord path off).2.reg off).getLsbD k = false)

/-- For an aligned word offset that no chapter assigns (no register, not the MSI-X table, the PBA, porch RAM or the
boot window), RC_FIELD_READ delivers four bytes of 0 and changes nothing else; REGISTER_WRITE leaves every register
but ACCESS_ERR and LAST_ACCESS_ERR, and all memory; ACCESS_ERR counts one more, saturating, and LAST_ACCESS_ERR shows
the word offset, KIND 1, the path and VALID. (R544) -/
def Obligations.ReservedOffsetsReadZeroAndCountWrites : Prop :=
  ∀ (s a : State) (t : Nat) (path : Path) (off v : Nat),
    Live s t a → a.reaches path = true → off % 4 = 0 → regRow off = none → msixOffset off = false →
    ¬ (0x100000 ≤ off ∧ off < 0x110000) → ¬ (0x200000 ≤ off ∧ off < 0x400000) →
    Gives (.rcFieldRead t path off 4) s (a.emit (.readData path off [0, 0, 0, 0])) ∧
    ∃ u, Gives (.registerWrite t path off 4 v) s u ∧ SameMemory a u ∧
      u.get F.GL_ACCESS_ERR = min (a.get F.GL_ACCESS_ERR + 1) (2 ^ 32 - 1) ∧
      u.get F.GL_LAST_ACCESS_ERR_WORD = off / 4 % 2 ^ 20 ∧ u.get F.GL_LAST_ACCESS_ERR_KIND = 1 ∧
      u.get F.GL_LAST_ACCESS_ERR_PATH = pathKey path ∧ u.get F.GL_LAST_ACCESS_ERR_VALID = 1 ∧
      ∀ o, o ≠ F.GL_ACCESS_ERR.off → o ≠ F.GL_LAST_ACCESS_ERR_WORD.off → u.reg o = a.reg o

/-- A 32-bit write of a register with an RWF field outside DIAGNOSE has KIND 2; of a register that BOOT does not store
has KIND 3 in BOOT; of FEATURE_ACCEPT after negotiation closed has KIND 5; a boot-window write outside BOOT has KIND
4; a write of a register in another width has KIND 0. Each answers the state in which only the access error of that
KIND has been counted. (17_register_map.md, R546, 11_startup_firmware_modes.md, R372, 00_scope.md, R11) -/
def Obligations.WritesDiscardedByMode : Prop :=
  ∀ (s a : State) (t : Nat) (path : Path) (off width v : Nat) (r : RegRow),
    Live s t a → a.reaches path = true →
    (off % 4 = 0 → regRow off = some r → msixOffset off = false → off < 0xF0000 → r.writable = true →
      (r.hasAcc (fun c => decide (c = .rwf)) = true → a.mode ≠ .diagnose →
        Gives (.registerWrite t path off 4 v) s (a.accessErr path off 2)) ∧
      (r.hasAcc (fun c => decide (c = .rwf)) = false → a.mode = .boot → bootWrites off r = false →
        Gives (.registerWrite t path off 4 v) s (a.accessErr path off 3)) ∧
      (a.mode ≠ .boot → a.flag F.GL_FEATURE_STATUS_CLOSED = true → r.hasAcc (fun c => decide (c = .rwf)) = false →
        (∃ i, i < 8 ∧ off = (F.GL_FEATURE_ACCEPT i).off) →
        Gives (.registerWrite t path off 4 v) s (a.accessErr path off 5))) ∧
    (0x200000 ≤ off → off < 0x400000 → a.mode ≠ .boot →
      Gives (.registerWrite t path off width v) s (a.accessErr path off 4)) ∧
    (off < 0xF0000 → width ≠ 4 → Gives (.registerWrite t path off width v) s (a.accessErr path off 0))

/-- TIME_LO_READ delivers device time modulo 2^32; the next read of TIME_HI on the same path delivers bits 63:32 of
that time, the latch of the other path stays, and no register changes. (17_register_map.md, The GLOBAL block) -/
def Obligations.TimeReadLatchesItsHighWord : Prop :=
  ∀ (s a : State) (t : Nat) (path : Path), Live s t a → a.reaches path = true →
    ∃ u, Gives (.timeLoRead t path) s u ∧
      u.sent = .readData path F.GL_TIME_LO.off (leBytes 4 (a.devTime % 2 ^ 32)) :: a.sent ∧
      (u.readWord path F.GL_TIME_HI.off).1 = a.devTime / 2 ^ 32 % 2 ^ 32 ∧
      (∀ q, q ≠ path → (u.readWord q F.GL_TIME_HI.off).1 = (a.readWord q F.GL_TIME_HI.off).1) ∧
      (∀ o, u.reg o = a.reg o) ∧ SameMemory a u

/-- In a state whose core runs, over a path that reaches the device: RC_FIELD_READ, REGISTER_WRITE,
FEATURE_ACCEPT_WRITE, TAIL_WRITE, OTP_PROG_KEY_WRITE, OTP_PROG_GO, OTP_READ_ADDR_WRITE, the four FORCE_OFFLINE
commands, MSIX_UNMASK and WD_KICK answer the state after the access they stand for; SPI_READ_FRAME, SPI_WRITE_FRAME
and SPI_ABORT answer the state after their words with SPI_FRAMES or SPI_ABORTS counted; PORCH_RAM_ACCESS and
BOOT_WINDOW_ACCESS move their bytes. (95_what_each_step_holds.md, 17_register_map.md, Writes and their timing,
17_register_map.md, The SPI path) -/
def Obligations.RegisterSpaceCommandsTakeEffect : Prop :=
  ∀ (s a : State) (t : Nat) (path : Path), Live s t a → a.reaches path = true →
    (∀ off width, Gives (.rcFieldRead t path off width) s (a.busRead path off width)) ∧
    (∀ off width v, Gives (.registerWrite t path off width v) s (a.busWrite path off width v)) ∧
    (∀ k v, k < 8 → Gives (.featureAcceptWrite t path k v) s (a.busWrite path (F.GL_FEATURE_ACCEPT k).off 4 v)) ∧
    (∀ n v, n < 128 → a.mode.normal = true → Gives (.tailWrite t path n v) s (a.writeTail n (v % 2 ^ 32 % 0x10000))) ∧
    (∀ v, Gives (.otpProgKeyWrite t path v) s (a.busWrite path F.OTP_PROG_KEY.off 4 v)) ∧
    Gives (.otpProgGo t path) s (a.busWrite path F.OTP_PROG_CMD.off 4 1) ∧
    (∀ w, Gives (.otpReadAddrWrite t path w) s (a.busWrite path F.OTP_READ_ADDR.off 4 w)) ∧
    (∀ c, c < 12 → Gives (.cellarForceOffline t path c) s (a.busWriteField path (F.CH_CTRL_FORCE_OFFLINE c) 1)) ∧
    (∀ k, k < 8 → Gives (.decompForceOffline t path k) s (a.busWriteField path (F.DECOMP_DC_CTRL_FORCE_OFFLINE k) 1)) ∧
    (∀ e, e < 12 → Gives (.lineEngineForceOffline t path e) s (a.busWriteField path (F.LE_CTRL_FORCE_OFFLINE e) 1)) ∧
    (∀ w, w < 2 → Gives (.waveEngineForceOffline t path w) s (a.busWriteField path (F.WE_CTRL_FORCE_OFFLINE w) 1)) ∧
    (∀ v value, v < 32 → Gives (.msixUnmask t (.vector path v value)) s (a.busWrite path (0xF0000 + 16 * v + 12) 4 value)) ∧
    (∀ enable mask master, a.linkUp = true → Gives (.msixUnmask t (.config enable mask master)) s
      (sendUnmasked a ({ a with msix := { a.msix with enable := enable, mask := mask } }.set F.GL_PCIE_STATUS_BUS_MASTER
        (b2n master)))) ∧
    (∀ writes, Gives (.wdKick t (some path) writes) s
      (writes.foldl (fun (x : State) w => x.busWrite path (F.THERM_WD_KICK0.off + 4 * w.1) 4 w.2) a)) ∧
    (∀ writes, Gives (.wdKick t none writes) s (a.kick writes)) ∧
    (∀ cmd off n, (cmd ≠ 2 ∧ cmd ≠ 3) ∨ off % 4 ≠ 0 → Gives (.spiReadFrame t cmd off n) s (a.bump F.GL_SPI_ABORTS)) ∧
    (∀ off n, off % 4 = 0 → Gives (.spiReadFrame t 3 off n) s ((a.spiRead off n).bump F.GL_SPI_FRAMES)) ∧
    (∀ off words cut, off % 4 ≠ 0 → Gives (.spiWriteFrame t off words cut) s (a.bump F.GL_SPI_ABORTS)) ∧
    (∀ off words cut, off % 4 = 0 →
      Gives (.spiWriteFrame t off words cut) s ((a.spiWrite off words cut).bump F.GL_SPI_FRAMES)) ∧
    Gives (.spiAbort t none) s (a.bump F.GL_SPI_ABORTS) ∧
    (∀ off n, off % 4 = 0 → Gives (.spiAbort t (some (.read off n))) s ((a.spiRead off n).bump F.GL_SPI_ABORTS)) ∧
    (∀ off words cut, off % 4 = 0 →
      Gives (.spiAbort t (some (.write off words cut))) s ((a.spiWrite off words cut).bump F.GL_SPI_ABORTS)) ∧
    (∀ off n cp, off + n ≤ 0x10000 →
      Gives (.porchRamAccess t path off n none cp) s (a.hostLoad path (0x100000 + off) (porchAddr 0 off) n)) ∧
    (∀ off n l cp, off + l.length ≤ 0x10000 → Gives (.porchRamAccess t path off n (some l) cp) s
      (a.hostStore (porchAddr 0 off) l (cp.map (· + porchAddr 0 0 / 8)))) ∧
    (∀ off n, off + n ≤ 0x200000 → a.mode = .boot → Gives (.bootWindowAccess t path off n none) s
      (a.hostLoad path (0x200000 + off) (a.windowAddr (0x200000 + off)) n)) ∧
    (∀ off n l, off + l.length ≤ 0x200000 → a.mode = .boot → Gives (.bootWindowAccess t path off n (some l)) s
      (a.hostStore (a.windowAddr (0x200000 + off)) l [])) ∧
    (∀ off n, off + n ≤ 0x200000 → a.mode ≠ .boot → Gives (.bootWindowAccess t path off n none) s
      (a.emit (.readData path (0x200000 + off) (List.replicate n 0)))) ∧
    (∀ off n l, off + l.length ≤ 0x200000 → a.mode ≠ .boot → Gives (.bootWindowAccess t path off n (some l)) s
      (a.accessErr path (0x200000 + off) 4))

/-- The coefficients of (x + 1)(x + α)(x + α^2)(x + α^3) are 0x000F, 0x0036, 0x0078 and 0x0040; and for every address
and every block of 64 bytes, the four syndromes of the encoded codeword with the virtual symbols of its address are 0.
(R50) -/
def Obligations.CodewordsSatisfyTheGenerator : Prop :=
  (1 ^^^ gfPow 1 ^^^ gfPow 2 ^^^ gfPow 3 = 0x000F ∧
    gfMul 1 (gfPow 1) ^^^ gfMul 1 (gfPow 2) ^^^ gfMul 1 (gfPow 3) ^^^ gfMul (gfPow 1) (gfPow 2) ^^^
      gfMul (gfPow 1) (gfPow 3) ^^^ gfMul (gfPow 2) (gfPow 3) = 0x0036 ∧
    gfMul (gfMul 1 (gfPow 1)) (gfPow 2) ^^^ gfMul (gfMul 1 (gfPow 1)) (gfPow 3) ^^^
      gfMul (gfMul 1 (gfPow 2)) (gfPow 3) ^^^ gfMul (gfMul (gfPow 1) (gfPow 2)) (gfPow 3) = 0x0078 ∧
    gfMul (gfMul (gfMul 1 (gfPow 1)) (gfPow 2)) (gfPow 3) = 0x0040) ∧
  ∀ (b : Nat) (bytes : List Byte), bytes.length = 64 →
    ∀ i, i < 4 → syndrome (receivedSymbols b (encodeBlock b bytes)) i = 0

/-- For every address, block of 64 bytes and erased lane (or none), decoding the encoded codeword delivers those bytes
with no correction and leaves the codeword. (02_nozzle_geometry_and_cellar.md, R46 to R51,
02_nozzle_geometry_and_cellar.md, R56) -/
def Obligations.StoredBlocksReadBack : Prop :=
  ∀ (b : Nat) (bytes : List Byte) (erased : Option Nat), bytes.length = 64 → (∀ k, erased = some k → k < 36) →
    decodeBlock b (encodeBlock b bytes) erased = .good bytes [] (encodeBlock b bytes)

/-- For every address, block, lane k of the 36 and error value v from 1 to 65,535: the codeword with v added to symbol
k decodes to the block, reports exactly lane k, and restores the codeword. (02_nozzle_geometry_and_cellar.md, R51) -/
def Obligations.OneSymbolErrorIsCorrected : Prop :=
  ∀ (b k v : Nat) (bytes : List Byte), bytes.length = 64 → k < 36 → 0 < v → v < 65536 →
    decodeBlock b (encodeBlock b bytes ^^^ BitVec.ofNat 576 (v <<< (16 * k))) none =
      .good bytes [k] (encodeBlock b bytes)

/-- For every address, block, lanes j below k of the 36 and error values from 1 to 65,535: the codeword with both
errors decodes to the block, reports exactly the two lanes, and restores the codeword.
(02_nozzle_geometry_and_cellar.md, R51) -/
def Obligations.TwoSymbolErrorsAreCorrected : Prop :=
  ∀ (b j k v w : Nat) (bytes : List Byte), bytes.length = 64 → j < k → k < 36 → 0 < v → v < 65536 → 0 < w → w < 65536 →
    decodeBlock b (encodeBlock b bytes ^^^ BitVec.ofNat 576 (v <<< (16 * j)) ^^^ BitVec.ofNat 576 (w <<< (16 * k))) none =
      .good bytes [j, k] (encodeBlock b bytes)

/-- For any two different 32-bit addresses, any block and any erased lane or none: decoding the codeword of the one
under the other answers an address error. (02_nozzle_geometry_and_cellar.md, R52) -/
def Obligations.WrongAddressIsAnAddressError : Prop :=
  ∀ (b c : Nat) (bytes : List Byte) (erased : Option Nat), bytes.length = 64 → b < 2 ^ 32 → c < 2 ^ 32 → b ≠ c →
    (∀ k, erased = some k → k < 36) → decodeBlock c (encodeBlock b bytes) erased = .addrErr

/-- With lane k erased: any damage in lane k alone decodes to the block with no lane reported; with a further error in
another lane j the block is delivered and only lane j is reported. The codeword is restored in both cases.
(02_nozzle_geometry_and_cellar.md, R56) -/
def Obligations.ErasedLaneIsFilledInUncounted : Prop :=
  ∀ (b k v : Nat) (bytes : List Byte), bytes.length = 64 → k < 36 → v < 65536 →
    decodeBlock b (encodeBlock b bytes ^^^ BitVec.ofNat 576 (v <<< (16 * k))) (some k) = .good bytes [] (encodeBlock b bytes) ∧
    ∀ j w, j < 36 → j ≠ k → 0 < w → w < 65536 →
      decodeBlock b (encodeBlock b bytes ^^^ BitVec.ofNat 576 (v <<< (16 * k)) ^^^ BitVec.ofNat 576 (w <<< (16 * j))) (some k) =
        .good bytes [j] (encodeBlock b bytes)

/-- On an online channel whose read of the block delivers data (and does not take the channel offline),
CELLAR_PARTIAL_WRITE answers a state in which the block holds the fresh codeword of the old bytes with the enabled
ones replaced, every other block keeps its codeword, and RMW of the channel is one higher, saturating. Read, merge and
write are one step, so no other access comes between. (R60) -/
def Obligations.PartialWriteReadsMergesAndWrites : Prop :=
  ∀ (s a : State) (t b off c : Nat) (bytes old : List Byte), Live s t a → off + bytes.length ≤ 64 → off < 64 → c < 12 →
    a.blockChannel b = some c → a.chanOnline c = true → (a.cellarRead b).1 = some old → (a.cellarRead b).2.chanOnline c = true →
    ∃ u, Gives (.cellarPartialWrite t b off bytes) s u ∧
      u.codeword b = encodeBlock b (mergeBytes old bytes off) ∧ (∀ x, x ≠ b → u.codeword x = a.codeword x) ∧
      u.get (F.CH_RMW c) = min (a.get (F.CH_RMW c) + 1) (2 ^ 32 - 1)

/-- For a block on a channel that is not online, a read delivers no data and a whole or partial write stores nothing:
each answers the state with BLANK of the channel and BLANK_TOTAL one higher, saturating, every other register and
every codeword as before. (02_nozzle_geometry_and_cellar.md, R63) -/
def Obligations.LostChannelsDeliverNothing : Prop :=
  ∀ (s a : State) (t b c off : Nat) (bytes : List Byte), Live s t a → c < 12 → a.blockChannel b = some c →
    a.chanOnline c = false →
    (a.cellarRead b).1 = none ∧ (a.cellarRead b).2 = a.countBlank c ∧ a.cellarWrite b bytes = a.countBlank c ∧
    Gives (.cellarPartialWrite t b off bytes) s (a.countBlank c) ∧
    (a.countBlank c).get (F.CH_BLANK c) = min (a.get (F.CH_BLANK c) + 1) (2 ^ 32 - 1) ∧
    (a.countBlank c).get F.CELLAR_BLANK_TOTAL = min (a.get F.CELLAR_BLANK_TOTAL + 1) (2 ^ 32 - 1) ∧
    (∀ o, o ≠ (F.CH_BLANK c).off → o ≠ F.CELLAR_BLANK_TOTAL.off → (a.countBlank c).reg o = a.reg o) ∧
    SameMemory a (a.countBlank c)

/-- CELLAR_READ reads the block with the errors given; CELLAR_PARTIAL_WRITE writes it; CELLAR_PROBE keeps the
temperature read or counts the failure, the second in succession losing the channel with cause 1; SCRUB_STEP writes
back a corrected block, or reads the next row and moves SCRUB_POS on, storing nothing.
(02_nozzle_geometry_and_cellar.md, R51, R58 to R62) -/
def Obligations.CellarCommandsTakeEffect : Prop :=
  ∀ (s a : State) (t : Nat), Live s t a →
    (∀ b errors, Gives (.cellarRead t b errors) s ((a.setCodeword b (errors.foldl (fun w e =>
      w ^^^ BitVec.ofNat 576 ((e.2 % 65536) <<< (16 * (e.1 % 36)))) (a.codeword b))).cellarRead b).2) ∧
    (∀ b off bytes, off + bytes.length ≤ 64 → off < 64 →
      Gives (.cellarPartialWrite t b off bytes) s (a.cellarPartialWrite b off bytes).2) ∧
    (∀ c v, c < 12 → a.chanOnline c = true → v < 8 → ∃ u, Gives (.cellarProbe t c (some v)) s u ∧
      u.get (F.CH_STATUS_DRAM_TEMP c) = v ∧ (u.chan c).probeFails = 0) ∧
    (∀ c, c < 12 → a.chanOnline c = true → (a.chan c).probeFails = 0 → ∃ u, Gives (.cellarProbe t c none) s u ∧
      (u.chan c).probeFails = 1 ∧ u.get (F.CH_PROBE_FAIL c) = min (a.get (F.CH_PROBE_FAIL c) + 1) (2 ^ 32 - 1) ∧
      u.get (F.CH_STATUS_STATE c) = a.get (F.CH_STATUS_STATE c)) ∧
    (∀ c, c < 12 → a.chanOnline c = true → 1 ≤ (a.chan c).probeFails → ∃ u, Gives (.cellarProbe t c none) s u ∧
      u.get (F.CH_STATUS_STATE c) = 4 ∧ u.get (F.CH_STATUS_LOST_CAUSE c) = 1 ∧ u.flag (F.CH_STATUS_LOST_CAUSE_VALID c) = true) ∧
    (∀ c b w, c < 12 → a.chanOnline c = true → a.flag (F.CH_CTRL_SCRUB_EN c) = true → a.cellar.layout.contains c = true →
      (a.chan c).scrub = some (b, w) → ∃ u, Gives (.scrubStep t c) s u ∧ u.codeword b = w ∧ (u.chan c).scrub = none ∧
        ∀ x, x ≠ b → u.codeword x = a.codeword x) ∧
    (∀ c, c < 12 → a.chanOnline c = true → a.flag (F.CH_CTRL_SCRUB_EN c) = true → a.cellar.layout.contains c = true →
      (a.chan c).scrub = none → ∃ u, Gives (.scrubStep t c) s u ∧ u.cellar.words = a.cellar.words ∧
        u.get (F.CH_SCRUB_POS c) = if a.get (F.CH_SCRUB_POS c) + 1 = channelRows then 0 else
          (a.get (F.CH_SCRUB_POS c) + 1) % 2 ^ 32)

/-- When the scrub of the channel of the block holds that block for write-back, a write of the block stores the fresh
codeword, drops the write-back and counts it in SCRUB_CANCEL. (02_nozzle_geometry_and_cellar.md, R59) -/
def Obligations.NewerDataOvertakeTheScrub : Prop :=
  ∀ (s : State) (b c : Nat) (w : Codeword) (bytes : List Byte), c < 12 → s.blockChannel b = some c → s.chanOnline c = true →
    (s.chan c).scrub = some (b, w) →
    ((s.cellarWrite b bytes).chan c).scrub = none ∧ (s.cellarWrite b bytes).codeword b = encodeBlock b bytes ∧
    (s.cellarWrite b bytes).get (F.CH_SCRUB_CANCEL c) = min (s.get (F.CH_SCRUB_CANCEL c) + 1) (2 ^ 32 - 1)

/-- In the placement of any tables, the ring at each place starts at the sum of the sizes of those before it; each
ring has depth DELAY + HEADROOM and slots of ceil(n * bits / 512) blocks of a row of a declared plane; a slot lies
inside its ring; and two write lines that differ modulo the depth have no block in common.
(02_nozzle_geometry_and_cellar.md, R42, 02_nozzle_geometry_and_cellar.md, R43) -/
def Obligations.RingsLieContiguouslyFromBlockZero : Prop :=
  (∀ (g : Geo) (i : Nat) (r : Ring), g.wanted[i]? = some r → r.base = ringBlocks (g.wanted.take i)) ∧
  (∀ (g : Geo) (r : Ring), r ∈ g.wanted → ∃ e ∈ g.rows, ∃ p, g.plane e.plane = some p ∧ r.port = e.port ∧ r.row = e.row ∧
    r.depth = e.delay + p.headroom ∧ r.slot = (e.n * p.bits + 511) / 512) ∧
  (∀ (r : Ring) (w x : Nat), 0 < r.depth →
    (∀ b ∈ r.slotOf w, r.base ≤ b ∧ b < r.base + r.depth * r.slot) ∧
    (w % r.depth ≠ x % r.depth → ∀ b ∈ r.slotOf w, b ∉ r.slotOf x))

/-- While it is staged, each command refuses with OUT_OF_RANGE and the index of the first entry out of range, and
passes exactly when every entry is in range. GEO_ROWS then enters every row, GEO_CLEAR leaves no plane, row or row
set, and GEO_PLANE declares its plane with the default headroom of 64 for 0. (02_nozzle_geometry_and_cellar.md, R36,
02_nozzle_geometry_and_cellar.md, R37) -/
def Obligations.GeometryTablesApplyWhole : Prop :=
  (∀ (l : List Byte) (rq : Req) (s : State) (k : Nat), k < 2 ^ 32 →
    (geoRows.stage l rq s = refuse .outOfRange k ↔
      (k < (entries 32 (rq.u 8 4) l).length ∧ ((entries 32 (rq.u 8 4) l)[k]?.bind parseRow) = none ∧
        ∀ j, j < k → ((entries 32 (rq.u 8 4) l)[j]?.bind parseRow).isSome = true)) ∧
    (geoRowsets.stage l rq s = refuse .outOfRange k ↔
      (k < (entries 24 (rq.u 8 4) l).length ∧ ((entries 24 (rq.u 8 4) l)[k]?.bind parseSet) = none ∧
        ∀ j, j < k → ((entries 24 (rq.u 8 4) l)[j]?.bind parseSet).isSome = true))) ∧
  (∀ (l : List Byte) (rq : Req) (s : State),
    (geoRows.stage l rq s = none ↔ ∀ e ∈ entries 32 (rq.u 8 4) l, (parseRow e).isSome) ∧
    (geoRowsets.stage l rq s = none ↔ ∀ e ∈ entries 24 (rq.u 8 4) l, (parseSet e).isSome)) ∧
  (∀ (l : List Byte) (rq : Req) (s : State), geoRows.stage l rq s = none → ∀ e ∈ entries 32 (rq.u 8 4) l, ∀ r,
    parseRow e = some r → ((geoRows.apply l rq s).2.geo.row r.port r.row).isSome) ∧
  (∀ (l : List Byte) (rq : Req) (s : State),
    (geoClear.apply l rq s).2.geo.planes = {} ∧ (geoClear.apply l rq s).2.geo.rows = [] ∧
    (geoClear.apply l rq s).2.geo.sets = [] ∧
    (geoPlane.apply l rq s).2.geo.plane (rq.u 0 1) =
      some { bits := rq.u 1 1, headroom := if rq.u 2 2 = 0 then 64 else rq.u 2 2, columns := rq.u 4 4 })

/-- When a payload decodes, with 1 to 4 bits per dot and a column count of at least 1, the line has exactly
COLUMN_COUNT levels (the units are ceil(COLUMN_COUNT / 16), the dots beyond it ignored); and with any further byte at
its end the payload decodes to nothing. (R87) -/
def Obligations.LinesDecodeToExactlyTheirUnits : Prop :=
  ∀ (bits count : Nat) (ref : Option (List Nat)) (payload : List Byte) (levels : List Nat) (rep : Bool),
    1 ≤ bits → bits ≤ 4 → 1 ≤ count → decodeLine bits count ref payload = some (levels, rep) →
    levels.length = count ∧ ∀ extra, extra ≠ [] → decodeLine bits count ref (payload ++ extra) = none

/-- For a whole packet with a line at or below the last line handled on its plane, before END_OF_JOB: no line is
handed and the plane keeps its state; LATE is counted when an underrun was declared since the last accepted packet,
else DUP when the line is the last handled, else ORDER; each saturates at 15 in FAULTS. (03_dot_streams.md, R90) -/
def Obligations.OldPacketsAreDiscardedAndClassified : Prop :=
  ∀ (s : State) (k n : Nat) (q : QBuf) (h : SdsHeader), n < 128 → k < 8 → (s.plane n h.plane).eoj = false →
    h.line < (s.plane n h.plane).expect →
    (s.takePacket k n q h).lines.handed = s.lines.handed ∧ (s.takePacket k n q h).plane n h.plane = s.plane n h.plane ∧
    ((s.plane n h.plane).underSince = true → (s.takePacket k n q h).get (F.SN_FAULTS_LATE n) = min (s.get (F.SN_FAULTS_LATE n) + 1) 15) ∧
    ((s.plane n h.plane).underSince = false → h.line + 1 = (s.plane n h.plane).expect →
      (s.takePacket k n q h).get (F.SN_FAULTS_DUP n) = min (s.get (F.SN_FAULTS_DUP n) + 1) 15) ∧
    ((s.plane n h.plane).underSince = false → h.line + 1 ≠ (s.plane n h.plane).expect →
      (s.takePacket k n q h).get (F.SN_FAULTS_ORDER n) = min (s.get (F.SN_FAULTS_ORDER n) + 1) 15)

/-- When DESCRIPTOR_READ reads its descriptor from host memory, HEAD moves on modulo RING_SIZE, CONSUMED counts it and
SEQ + 1 is expected next. The buffer is fetched exactly when the SEQ is the expected one, FLAGS are 0 and LENGTH lies
in range; a DESC fault is counted exactly when the SEQ is not the expected one, a reserved FLAGS bit is set, or the
descriptor is no SKIP and its LENGTH is out of range. When the read fails, HEAD stays and the read is due again 100 µs
later. (03_dot_streams.md, R73, R76, R78) -/
def Obligations.DescriptorReadsConsumeInOrder : Prop :=
  ∀ (s a : State) (t n : Nat), Live s t a → n < 128 → a.mayReadDescriptor n = true → (a.stream n).retryAt = none →
    (∀ d, a.hostRead ((a.stream n).bind.ringAddr + 16 * (a.stream n).head) 16 = some d →
      ∃ u, Gives (.descriptorRead t n) s u ∧
        (u.stream n).head = ((a.stream n).head + 1) % (a.stream n).bind.ringSize ∧
        (u.stream n).consumed = ((a.stream n).consumed + 1) % 2 ^ 32 ∧
        (u.stream n).seqExpect = some ((uAt d 14 2 + 1) % 65536) ∧
        ((u.stream n).fetch.isSome = true ↔
          ((a.stream n).seqOk (uAt d 14 2) = true ∧ uAt d 12 2 = 0 ∧ 37 ≤ uAt d 8 4 ∧ uAt d 8 4 ≤ 4194304)) ∧
        u.get (F.SN_FAULTS_DESC n) = (if (a.stream n).seqOk (uAt d 14 2) = false ∨ 2 ≤ uAt d 12 2 ∨
          (uAt d 12 2 = 0 ∧ ¬ (37 ≤ uAt d 8 4 ∧ uAt d 8 4 ≤ 4194304)) then min (a.get (F.SN_FAULTS_DESC n) + 1) 15
          else a.get (F.SN_FAULTS_DESC n))) ∧
    (a.hostRead ((a.stream n).bind.ringAddr + 16 * (a.stream n).head) 16 = none →
      ∃ u, Gives (.descriptorRead t n) s u ∧ (u.stream n).head = (a.stream n).head ∧
        (u.stream n).retryAt = some (a.now + 100000))

/-- Both commands leave the gate closed, no fetch and an empty staging queue, and no write-back waits; the fault
counters and the log stay. STREAM_CLOSE leaves the stream CLOSED. STREAM_OPEN binds it as its payload says, OPEN, with
HEAD, TAIL and CONSUMED 0, no sequence expectation, and every plane of the mask expecting image line 0 with a blank
reference line and no mark. STREAM_FAULTS with CLEAR 1 empties the log and zeroes the counters. (R556) -/
def Obligations.StreamOpenAndCloseStartAfresh : Prop :=
  ∀ (l : List Byte) (rq : Req) (s : State),
    (∀ x, x = (streamOpen.apply l rq s).2.stream (rq.u 0 1) ∨ x = (streamClose.apply l rq s).2.stream (rq.u 0 1) →
      x.gate = false ∧ x.fetch = none ∧ x.queue = [] ∧ x.wb = [] ∧
      x.ctr = (s.stream (rq.u 0 1)).ctr ∧ x.log = (s.stream (rq.u 0 1)).log) ∧
    ((streamClose.apply l rq s).2.stream (rq.u 0 1)).st = 0 ∧
    (∀ x, x = (streamOpen.apply l rq s).2.stream (rq.u 0 1) →
      x.st = 1 ∧ x.bind = openBinding rq ∧ x.head = 0 ∧ x.tail = 0 ∧ x.consumed = 0 ∧ x.seqExpect = none ∧
      ∀ p, p < 16 → bitOf (rq.u 4 2) p = true →
        (x.planes.get {} p).expect = 0 ∧ (x.planes.get {} p).ref = none ∧ (x.planes.get {} p).gapMark = false) ∧
    (rq.u 1 1 = 1 → ((streamFaults.apply l rq s).2.stream (rq.u 0 1)).log = [] ∧
      ((streamFaults.apply l rq s).2.stream (rq.u 0 1)).ctr = List.replicate 12 0)

/-- Naming a CLOSED stream, the command is out of range. On the stream it names, or with 0xFF on every stream that is
not CLOSED (the others staying as they are), the gate is closed, no fetch and no queue are left, HEAD is the TAIL,
CONSUMED counts the outstanding descriptors, one write-back waits behind the earlier ones with that HEAD, that
CONSUMED and the last SEQ read, no sequence is expected, every plane of the mask expects line 0 with a blank
reference, the state is OPEN, and counters and log are kept. (R108) -/
def Obligations.StreamResetConsumesWhatIsOutstanding : Prop :=
  (∀ (rq : Req) (s : State), rq.u 0 1 < 128 → (s.stream (rq.u 0 1)).st = 0 →
    streamReset.range rq s = some { status := .outOfRange }) ∧
  (∀ (l : List Byte) (rq : Req) (s : State), (streamReset.apply l rq s).1.status = .ok) ∧
  (∀ (l : List Byte) (rq : Req) (s : State) (n : Nat), rq.u 0 1 = 0xFF → n < 128 → (s.stream n).st = 0 →
    (streamReset.apply l rq s).2.stream n = s.stream n) ∧
  (∀ (l : List Byte) (rq : Req) (s : State) (n : Nat) (x y : Stream), x = s.stream n →
    y = (streamReset.apply l rq s).2.stream n → n < 128 → (rq.u 0 1 = n ∨ (rq.u 0 1 = 0xFF ∧ x.st ≠ 0)) →
    x.head < x.bind.ringSize → x.tail < x.bind.ringSize →
    y.gate = false ∧ y.fetch = none ∧ y.queue = [] ∧ y.st = 1 ∧ y.head = x.tail ∧ y.tail = x.tail ∧ y.seqExpect = none ∧
    y.consumed = (x.consumed + (if x.head ≤ x.tail then x.tail - x.head else x.tail + x.bind.ringSize - x.head)) % 2 ^ 32 ∧
    y.ctr = x.ctr ∧ y.log = x.log ∧ y.bind = x.bind ∧ y.wb.length = x.wb.length + 1 ∧
    (∀ w, y.wb.getLast? = some w → w.head = y.head ∧ w.consumed = y.consumed ∧ w.lastSeq = x.lastSeq ∧ w.ready = true) ∧
    ∀ p, p < 16 → bitOf x.bind.planeMask p = true → (y.planes.get {} p).expect = 0 ∧ (y.planes.get {} p).ref = none)

/-- TAIL_WRITE stores a TAIL inside the ring of a stream that is not CLOSED and leaves a CLOSED one; DESCRIPTOR_RETRY
reads the descriptor again once 100 µs have passed; WRITE_BACK writes the 8 bytes of the write-back in front to
WB_ADDR; SDS_PACKET gives the decompressor a turn, or takes it offline for a parity failure; DECOMP_PACKET_TIMEOUT
takes it offline with cause 1, so that it is OFFLINE. (03_dot_streams.md, R75, R79, R101, R102) -/
def Obligations.StreamCommandsTakeEffect : Prop :=
  ∀ (s a : State) (t : Nat), Live s t a →
    (∀ path n v, a.reaches path = true → n < 128 → a.mode.normal = true → (a.stream n).st ≠ 0 →
      v % 65536 < (a.stream n).bind.ringSize →
      Gives (.tailWrite t path n v) s (a.setStream n { a.stream n with tail := v % 65536 })) ∧
    (∀ path n v, a.reaches path = true → n < 128 → a.mode.normal = true → (a.stream n).st = 0 →
      Gives (.tailWrite t path n v) s a) ∧
    (∀ n r, n < 128 → a.mayReadDescriptor n = true → (a.stream n).retryAt = some r → r ≤ a.now →
      Gives (.descriptorRetry t n) s ((a.decideGate n).readDescriptor n)) ∧
    (∀ n w rest, n < 128 → (a.stream n).wb = w :: rest → w.ready = true → a.busMaster = true →
      touches a.host.badWrite (a.stream n).bind.wbAddr 8 = false →
      ∃ u, Gives (.writeBack t n) s u ∧ (u.stream n).wb = rest ∧
        readBytes u.host.mem (a.stream n).bind.wbAddr 8 = leBytes 2 w.head ++ leBytes 2 w.lastSeq ++ leBytes 4 w.consumed ∧
        ∀ x, (x < (a.stream n).bind.wbAddr ∨ (a.stream n).bind.wbAddr + 8 ≤ x) → byteOf u.host.mem x = byteOf a.host.mem x) ∧
    (∀ k, k < 8 → Gives (.sdsPacket t k false) s (a.decompTurn k)) ∧
    (∀ k, k < 8 → a.get (F.DECOMP_DC_STATUS_STATE k) ≠ 3 → ∃ u, Gives (.sdsPacket t k true) s u ∧
      u.get (F.DECOMP_DC_STATUS_STATE k) = 3 ∧ u.get (F.DECOMP_DC_STATUS_OFF_CAUSE k) = 0) ∧
    (∀ k n since, k < 8 → a.get (F.DECOMP_DC_STATUS_STATE k) ≠ 3 → (a.decomps.get {} k).busy = some (n, since) →
      since + 2000000 < a.now → ∃ u, Gives (.decompPacketTimeout t k) s u ∧
        u.get (F.DECOMP_DC_STATUS_STATE k) = 3 ∧ u.get (F.DECOMP_DC_STATUS_OFF_CAUSE k) = 1)

/-- For every window of c columns shared by n engines, the slice of column x is the one j with ⌊j * c / n⌋ ≤ x < ⌊(j +
1) * c / n⌋, and the owner of the column is the online engine of that rank. (04_line_engines.md, R127) -/
def Obligations.EveryColumnHasOneOwningSlice : Prop :=
  ∀ (engines : List Nat) (c x : Nat), engines ≠ [] → x < c →
    (∀ j, sliceOf c engines.length x = j ↔
      j < engines.length ∧ j * c / engines.length ≤ x ∧ x < (j + 1) * c / engines.length) ∧
    ∃ e, engines[sliceOf c engines.length x]? = some e ∧ ownerOf engines c x = e

/-- In a plane with spread, the sources of a line of codes and members are exactly the columns with a code and no
usable member, each once; on an even line source c tries c - 1, c + 1, c - 2, c + 2 and on an odd line c + 1, c - 1, c
+ 2, c - 2; its target is the first of these that lies in the window, has code 0 and has a usable member, and it has
none where no candidate is so. (R123) -/
def Obligations.SpreadTakesTheFirstEligibleColumn : Prop :=
  ∀ (codes : List Nat) (members : List (Option (Nat × Nat × Nat))) (even : Bool) (x : Nat) (target : Option Nat),
    (x, target) ∈ spreadSources codes members even true ↔
      (x < codes.length ∧ codes.getD x 0 ≠ 0 ∧ members.getD x none = none ∧
        target = ((if even then [(x : Int) - 1, x + 1, x - 2, x + 2] else [(x : Int) + 1, x - 1, x + 2, x - 2]).find? (fun (t : Int) =>
          decide (0 ≤ t ∧ t < codes.length ∧ codes.getD t.toNat 0 = 0 ∧ members.getD t.toNat none ≠ none))).map Int.toNat)

/-- The winner of a target is one of its sources; none is nearer; and of two at equal distance the one at t - d wins
on an even image line, the one at t + d on an odd one. A target with a source has a winner. In the counts of the
engines, over all owners, every source whose record is used is placed or dropped. (04_line_engines.md, R124,
04_line_engines.md, R126) -/
def Obligations.NearestSourceWinsTheTarget : Prop :=
  (∀ (even : Bool) (live : List (Nat × Option Nat)) (t x : Nat), winner even live t = some x →
    (x, some t) ∈ live ∧ ∀ y, (y, some t) ∈ live →
      ((x : Int) - t).natAbs ≤ ((y : Int) - t).natAbs ∧
      (((x : Int) - t).natAbs = ((y : Int) - t).natAbs → if even then x ≤ y else y ≤ x)) ∧
  (∀ (even : Bool) (live : List (Nat × Option Nat)) (t y : Nat), (y, some t) ∈ live → (winner even live t).isSome = true) ∧
  (∀ (f : InFlight) (c : Nat) (live : List (Nat × Option Nat)) (engines : List Nat), engines.Nodup →
    (∀ x ∈ live, f.owner c x.1 ∈ engines ∧ ∀ t, x.2 = some t → f.owner c t ∈ engines) →
    (engines.map (fun e => (f.spreadCounts c live e).1 + (f.spreadCounts c live e).2)).sum = live.length)

/-- LINE_ENGINE_LINE takes the next line handed from the queue and begins it, under the published epoch and with the
engines then online, when an engine is online and the ring has room; with a parity error it takes the engine offline
with cause 2. LINE_STORED stores the oldest line in flight of the plane, and W_stored passes it. SLICE_TIMEOUT takes
an engine offline with cause 0 when a slice has taken more than 1 ms. An offline engine raises limp condition 0x03.
(04_line_engines.md, R111, R112, R114, R129 to R131) -/
def Obligations.LineEngineCommandsTakeEffect : Prop :=
  ∀ (s a : State) (t : Nat), Live s t a →
    (∀ n p h, a.firstHanded n p = some h → a.onlineEngines ≠ [] →
      a.lineFree n p (h.line + (a.stream n).bind.barOffset) = true →
      (a.plane n p).storedEnd ≤ h.line + (a.stream n).bind.barOffset →
      ∃ u f, Gives (.lineEngineLine t n p none) s u ∧ u.lines.handed = a.lines.handed.erase h ∧
        u.lines.inFlight = a.lines.inFlight ++ [f] ∧ f.stream = h.stream ∧ f.plane = h.plane ∧ f.line = h.line ∧
        f.epoch = a.get F.WATCH_EPOCH ∧ f.engines = a.onlineEngines ∧ f.lost = [] ∧ f.blank = h.levels.isNone ∧
        u.lines.epochInUse = a.get F.WATCH_EPOCH) ∧
    (∀ n p e, e < 12 → a.engineOn e = true → a.firstHanded n p = none →
      ∃ u, Gives (.lineEngineLine t n p (some e)) s u ∧ u.get (F.LE_STATUS_STATE e) = 3 ∧
        u.get (F.LE_STATUS_OFF_CAUSE e) = 2 ∧ (3, e + 32) ∈ u.health.limps) ∧
    (∀ n p f ns, a.lines.inFlight.find? (fun g => decide (g.stream = n ∧ g.plane = p)) = some f →
      ∃ u, Gives (.lineStored t n p ns) s u ∧ u.lines.inFlight = a.lines.inFlight.erase f ∧
        (u.plane n p).storedEnd = max (a.plane n p).storedEnd (f.line + (a.stream n).bind.barOffset + 1)) ∧
    (∀ e f, e < 12 → a.engineOn e = true → f ∈ a.lines.inFlight → f.engines.contains e = true → f.lost.contains e = false →
      f.since + 1000000 < a.now →
      ∃ u, Gives (.sliceTimeout t e) s u ∧ u.get (F.LE_STATUS_STATE e) = 3 ∧ u.get (F.LE_STATUS_OFF_CAUSE e) = 0 ∧
        (3, e) ∈ u.health.limps ∧ u.engineOn e = false)

/-- ENCODER_SAMPLE moves the count by one, forward when A leads B and reversed by DIR_INVERT; a change of both levels
counts ILLEGAL and moves nothing. Z_INDEX latches the integer position when Z_EN is set and never moves it. SSI_READ
and BISS_READ take a reading as a sample or count a FRAME error. ENC_INPUT_FAULT and ENC_STALL record fault 3 and 1
and stop the running tracks that the encoder paces; ENC_INPUT_RECOVER starts the estimator afresh and leaves FAULT.
(05_fire_timing.md, R142 to R145, R148, R149, R151, R168) -/
def Obligations.EncoderCommandsTakeEffect : Prop :=
  ∀ (s a : State) (t e : Nat), Live s t a → e < 4 →
    (∀ x b z half, a.encKind e = 1 → (a.enc e).inputFault = false → x ≠ (a.enc e).a → b = (a.enc e).b →
      ∃ u, Gives (.encoderSample t e x b z half) s u ∧ (u.enc e).a = x ∧ (u.enc e).b = b ∧
        (u.enc e).count = (a.enc e).count +
          (if a.flag (F.ENC_EN_CTRL_DIR_INVERT e) then -1 else 1) * (if x = b then -1 else 1)) ∧
    (∀ x b z half, a.encKind e = 1 → (a.enc e).inputFault = false → x = (a.enc e).a → b ≠ (a.enc e).b →
      ∃ u, Gives (.encoderSample t e x b z half) s u ∧ (u.enc e).a = x ∧ (u.enc e).b = b ∧
        (u.enc e).count = (a.enc e).count +
          (if a.flag (F.ENC_EN_CTRL_DIR_INVERT e) then -1 else 1) * (if b = x then 1 else -1)) ∧
    (∀ x b z half, a.encKind e = 1 → (a.enc e).inputFault = false → x ≠ (a.enc e).a → b ≠ (a.enc e).b →
      ∃ u, Gives (.encoderSample t e x b z half) s u ∧ (u.enc e).a = x ∧ (u.enc e).b = b ∧
        (u.enc e).count = (a.enc e).count ∧ (u.enc e).x = (a.enc e).x ∧
        u.get (F.ENC_ERRORS_ILLEGAL e) = min (a.get (F.ENC_ERRORS_ILLEGAL e) + 1) 255) ∧
    (a.encKind e = 1 → (a.enc e).z = false → (a.enc e).inputFault = false →
      ∃ u, Gives (.zIndex t e) s u ∧ (u.enc e).z = true ∧ (u.enc e).x = (a.enc e).x ∧
        u.get (F.ENC_Z_POS e) =
          if a.flag (F.ENC_EN_CTRL_Z_EN e) then ofSigned 32 ((a.enc e).x / 65536) else a.get (F.ENC_Z_POS e)) ∧
    (∀ clk value, a.readDue e 2 clk = true →
      Gives (.ssiRead t e clk true value) s ((a.nextRead e clk true).absolute e clk
        (if a.flag (F.ENC_EN_CTRL_GRAY e)
          then grayToBinary (value % 2 ^ a.get (F.ENC_EN_CTRL_BITS e)) (a.get (F.ENC_EN_CTRL_BITS e))
          else value % 2 ^ a.get (F.ENC_EN_CTRL_BITS e))) ∧
      ∃ u, Gives (.ssiRead t e clk false value) s u ∧ (u.enc e).readAt = clk + 1000 * a.get (F.ENC_ABS_CFG_SAMPLE_US e) ∧
        u.get (F.ENC_ERRORS_FRAME e) = min (a.get (F.ENC_ERRORS_FRAME e) + 1) 255) ∧
    (∀ clk, a.readDue e 3 clk = true →
      (∃ u, Gives (.bissRead t e clk none) s u ∧
        u.get (F.ENC_ERRORS_FRAME e) = min (a.get (F.ENC_ERRORS_FRAME e) + 1) 255) ∧
      ∀ value nW crc, value < 2 ^ a.get (F.ENC_EN_CTRL_BITS e) → crc < 64 →
        crc = 63 - crc6 (4 * value + 2 + b2n nW) (a.get (F.ENC_EN_CTRL_BITS e) + 2) 0 →
        Gives (.bissRead t e clk (some (value, true, nW, crc))) s
          (((a.nextRead e clk true).setEnc e { (a.nextRead e clk true).enc e with warn := !nW }).absolute e clk value)) ∧
    (a.encKind e ≠ 0 → (a.enc e).inputFault = false →
      ∃ u, Gives (.encInputFault t e) s u ∧ (u.enc e).inputFault = true ∧ u.get (F.ENC_EN_STATUS_FAULT e) = 3 ∧
        ∀ tr, tr ∈ a.pacedBy e → (u.track tr).st = 2 ∧ (u.track tr).cause = 3 ∧
          (u.track tr).stopLine = (a.track tr).last.map (·.line)) ∧
    ((a.enc e).inputFault = true →
      ∃ u, Gives (.encInputRecover t e) s u ∧ (u.enc e).inputFault = false ∧ (u.enc e).est = .acquiring ∧
        (u.enc e).started = false ∧ u.get (F.ENC_EN_STATUS_FAULT e) = a.get (F.ENC_EN_STATUS_FAULT e)) ∧
    (a.encArmed e = true → (a.enc e).wdLate = false → (a.enc e).wdFrom + 1000 * a.get (F.ENC_WD_TIME e) ≤ a.now →
      ∃ u, Gives (.encStall t e) s u ∧ (u.enc e).wdLate = true ∧ u.get (F.ENC_EN_STATUS_FAULT e) = 1 ∧
        ∀ tr, tr ∈ a.pacedBy e → (u.track tr).st = 2 ∧ (u.track tr).cause = 1 ∧
          (u.track tr).stopLine = (a.track tr).last.map (·.line))

/-- SCHEDULER_EVAL commits the lines of a running encoder track within the lead horizon; CLOCK_LINE_COMMIT commits the
next line of a clocked track once it is within LEAD, at its exact instant rounded half up; LINE_INSTANT gives the
instant of a line once, with a pulse of event line t; LTRIG_PULSE begins the pulse of a line trigger; TRACK_STOPPED
ends STOPPING in IDLE after a JOB_END and in FAULTED otherwise, and with the last track ends the job; GOVERNOR_EVAL
outside TRACK and CLOCK sets P and the reasons. (05_fire_timing.md, R156 to R158, R168, R169, R172, R182) -/
def Obligations.TrackCommandsTakeEffect : Prop :=
  ∀ (s a : State) (t : Nat), Live s t a →
    (∀ tr e, tr < 16 → (a.track tr).st = 1 → a.byEncoder tr = true → a.trackEnc tr = some e →
      Gives (.schedulerEval t tr) s (a.schedule tr e)) ∧
    (∀ tr, tr < 16 → (a.track tr).st = 1 → a.byClock tr = true →
      roundHalfUp (a.nextClocked tr) - a.devTime ≤ a.leadNs tr →
      ∃ u, Gives (.clockLineCommit t tr) s u ∧ (u.track tr).nextLine = (a.track tr).nextLine + 1 ∧
        (u.track tr).clockAcc = some (a.nextClocked tr) ∧
        ∃ c ∈ (u.track tr).lines, c.line = (a.track tr).nextLine ∧ c.tl = roundHalfUp (a.nextClocked tr) ∧
          c.tc = a.devTime ∧ c.given = false) ∧
    (∀ tr c, tr < 16 → a.trackActive tr = true → a.dueLine tr = some c →
      ∃ u, Gives (.lineInstant t tr) s u ∧ (u.track tr).lastInstant = some c ∧ u.arrBit F.DW_EV_SEEN tr = true) ∧
    (∀ n q, n < 4 → (a.gov.ltrig.get {} n).pulses.find? (fun q => decide (q.2 ≤ (a.devTime : Int))) = some q →
      ∃ u, Gives (.ltrigPulse t n) s u ∧ (u.gov.ltrig.get {} n).pulses = (a.gov.ltrig.get {} n).pulses.erase q ∧
        (u.gov.ltrig.get {} n).until_ = max (a.gov.ltrig.get {} n).until_ (q.2 + 1000 * a.get (F.TIMING_LTRIG_WIDTH n))) ∧
    (∀ tr, tr < 16 → (a.track tr).st = 2 → a.stopLinePassed tr = true →
      ∃ u, Gives (.trackStopped t tr) s u ∧ (u.track tr).st = (if (a.track tr).cause = 0 then 0 else 3) ∧
        (u.track tr).lines = [] ∧
        ((a.mode = .track ∨ a.mode = .clock) → (∀ k, k < 16 → k ≠ tr → a.trackActive k = false) →
          u.job = 0 ∧ (u.mode = .ready ∨ u.mode = .configure))) ∧
    (a.devTime % 100000 = 0 → a.devTime ≠ a.gov.lastEval → ∃ u, Gives (.governorEval t) s u ∧ u.gov.lastEval = a.devTime ∧
      ((a.mode = .ready ∨ a.mode = .maintain) → u.gov.p =
        min (a.get F.TIMING_GOV_CTRL_IDLE_P) (a.get F.TIMING_GOV_CTRL_HOST_CAP)) ∧
      ((a.mode = .boot ∨ a.mode = .configure ∨ a.mode = .diagnose ∨ a.mode = .halt) → u.gov.p = 0) ∧
      (a.mode ≠ .track → a.mode ≠ .clock → u.get F.TIMING_GOV_STATUS_REASON =
        256 + (if a.get F.TIMING_GOV_CTRL_HOST_CAP < 16 then 128 else 0)))

/-- Stopping a running track makes it STOPPING with its cause and stop line; its committed lines are those up to the
stop line; a port of the track keeps the lines of other tracks and those up to the stop line, and queues no frame of a
later line. No other track changes, and stopping a track that does not run changes nothing. (05_fire_timing.md, R168,
05_fire_timing.md, R169) -/
def Obligations.TracksStopAtTheirStopLine : Prop :=
  ∀ (s : State) (t cause : Nat) (stop : Option Nat),
    ((s.track t).st ≠ 1 → s.stopTrack t cause stop = s) ∧
    ((s.track t).st = 1 →
      ((s.stopTrack t cause stop).track t).st = 2 ∧ ((s.stopTrack t cause stop).track t).cause = cause ∧
      ((s.stopTrack t cause stop).track t).stopLine = stop ∧
      (∀ c, c ∈ ((s.stopTrack t cause stop).track t).lines ↔
        c ∈ (s.track t).lines ∧ ∃ k, stop = some k ∧ c.line ≤ k) ∧
      (∀ p l, p ∈ s.trackPorts t → (l ∈ ((s.stopTrack t cause stop).port p).lines ↔
        l ∈ (s.port p).lines ∧ (l.track = t → ∃ k, stop = some k ∧ l.line ≤ k))) ∧
      (∀ p f n, p ∈ s.trackPorts t → f ∈ ((s.stopTrack t cause stop).port p).lineQ → f.msg.lineNo = some n →
        ∃ k, stop = some k ∧ n ≤ k)) ∧
    (∀ k, k ≠ t → (s.stopTrack t cause stop).track k = s.track k)

/-- In TRACK or CLOCK, on a device of no ring and on the timing master, with L the least of the limits at the
evaluation and of the ring limit: P becomes L when L is below P; P rises by 1 when L is above P and at least HYST has
passed since P last changed; otherwise P is unchanged; a change of P is the start of the next HYST. P stays within 16
when it was. HYST is 50 ms from reset, and TIMING_GOVERNOR takes only 10 to 5,000 ms. On another device of a ring P is
the least of its own limits and the ring value, without hysteresis (R175). (R174) -/
def Obligations.GovernorFollowsTheLeastLimit : Prop :=
  (∀ (s : State) (l : Nat), (s.mode = .track ∨ s.mode = .clock) → (s.inRing = false ∨ s.isMaster = true) →
    l = min s.limits.least (if s.inRing then s.ringLimit else 16) →
    (l < s.gov.p → s.govern.gov.p = l) ∧
    (s.gov.p < l → s.gov.lastChange + 1000000 * s.get F.TIMING_HYST ≤ s.now → s.govern.gov.p = s.gov.p + 1) ∧
    (s.gov.p < l → s.now < s.gov.lastChange + 1000000 * s.get F.TIMING_HYST → s.govern.gov.p = s.gov.p) ∧
    (l = s.gov.p → s.govern.gov.p = s.gov.p) ∧
    l ≤ 16 ∧ (s.gov.p ≤ 16 → s.govern.gov.p ≤ 16) ∧
    (s.govern.gov.p ≠ s.gov.p → s.govern.gov.lastChange = s.now)) ∧
  (∀ (s : State), (s.mode = .track ∨ s.mode = .clock) → s.inRing = true → s.isMaster = false →
    s.govern.gov.p = min s.limits.least s.ringValue) ∧
  (∀ (rq : Req) (s : State), timingGovernor.range rq s = none → 10 ≤ rq.u 6 2 ∧ rq.u 6 2 ≤ 5000) ∧
  (∀ (l : List Byte) (rq : Req) (s : State), timingGovernor.range rq s = none →
    (timingGovernor.apply l rq s).2.get F.TIMING_HYST = rq.u 6 2) ∧
  State.reset.get F.TIMING_HYST = 50

/-- In every running state that an evaluation at device time d leaves, and at every later instant of the 100 µs that
follow: PACE is high exactly while PWM_EN is set and less than P * 6.25 µs have passed, so that P = 0 holds it low and
P = 16 holds it high for the whole period. Evaluations fall on the multiples of 100 µs, which makes the signal 10 kHz.
(R176) -/
def Obligations.PaceIsHighForItsShareOfThePeriod : Prop :=
  (∀ (s : State) (x : Nat), s.core = .run → s.now ≤ x →
    ({ s.govern with now := x }).pacePins.1 = (s.flag F.TIMING_GOV_CTRL_PWM_EN && decide (x < s.now + 6250 * s.govern.gov.p)) ∧
    (s.flag F.TIMING_GOV_CTRL_PWM_EN = true → s.govern.gov.p = 16 → x < s.now + 100000 →
      ({ s.govern with now := x }).pacePins.1 = true) ∧
    (s.govern.gov.p = 0 → ({ s.govern with now := x }).pacePins.1 = false)) ∧
  (∀ (s a : State) (t : Nat), Live s t a → a.devTime % 100000 ≠ 0 → Gives (.governorEval t) s a)

/-- For every port, line interval and earliest instant t: the fire instant is at least t; and for every shift
coefficient k between the least and the greatest of the port, in 1/1,024 line, the firing f + k * T_L is at least
T_min after the last firing f_prev + k * T_L,prev, on an HL-2 port by 8 ns more. (05_fire_timing.md, R165,
05_fire_timing.md, R166) -/
def Obligations.EveryNozzleKeepsTheMinimumPeriod : Prop :=
  ∀ (s : State) (p interval : Nat) (t : Int),
    t ≤ s.earliest p interval t ∧
    ∀ (f k : Int), (s.port p).fPrev = some f → (s.port p).coefMin ≤ k → k ≤ (s.port p).coefMax →
      (f : Rat) + (k * (s.port p).intervalPrev : Int) / (67108864 : Rat) + (s.tMin p : Rat) + (if s.gen p = 2 then 8 else 0) ≤
        (s.earliest p interval t : Rat) + (k * interval : Int) / (67108864 : Rat)

/-- For a table of rising points, the scale is the first point at or below its temperature, the last at or above its
temperature, and between two points the linear interpolation rounded half up. At an update with a valid temperature
each loaded waveform with a table takes the new scale exactly when it differs from the one in force by at least
DEADBAND, on an HL-1 port once its input has converted since the link-up, and before that every scale stays (the model's
reading, log entry 110); without a valid reading every scale stays and TEMP_MISSING counts. (06_drop_waveforms.md, R201,
06_drop_waveforms.md, R202, 06_drop_waveforms.md, R204, 06_drop_waveforms.md, R206) -/
def Obligations.ScalesFollowTheTemperatureTable : Prop :=
  (∀ (table : List (Int × Nat)) (tm : Int), risingTemps table = true →
    (∀ p, table.head? = some p → tm ≤ p.1 → scaleIn table tm = p.2) ∧
    (∀ p, table.getLast? = some p → p.1 ≤ tm → scaleIn table tm = p.2) ∧
    (∀ i p q, table[i]? = some p → table[i + 1]? = some q → p.1 ≤ tm → tm < q.1 →
      (scaleIn table tm : Int) = roundHalfUp ((p.2 : Rat) + ((tm - p.1 : Int) : Rat) / ((q.1 - p.1 : Int) : Rat) *
        ((q.2 : Rat) - p.2)))) ∧
  (∀ (s : State) (w p : Nat), s.gen p = 1 → s.scalesLive p = false → (s.port p).therm.mean s.now ≠ none →
    s.updateModule w p = s) ∧
  (∀ (s : State) (w p v : Nat) (tm : Int) (table : List (Int × Nat)), (s.port p).therm.mean s.now = some tm →
    (s.gen p = 1 → s.linked p = true ∧ (s.port p).therm.readSince s.now (s.port p).since = true) →
    ((s.wp p).temps.cells.map (·.1)).Nodup → (v, table) ∈ (s.wp p).temps.cells → ((s.wp p).wave v).isSome = true →
    ((s.updateModule w p).wp p).scale v =
      if s.get (F.WE_DEADBAND w) ≤ max ((s.wp p).scale v - scaleIn table tm) (scaleIn table tm - (s.wp p).scale v)
      then scaleIn table tm else (s.wp p).scale v) ∧
  (∀ (s : State) (w p : Nat), (s.port p).therm.mean s.now = none → s.gen p ≠ 0 →
    (s.updateModule w p).waves = s.waves ∧
    (s.updateModule w p).get (F.WE_TEMP_MISSING w) =
      min (s.get (F.WE_TEMP_MISSING w) + 1) (2 ^ (F.WE_TEMP_MISSING w).width - 1))

/-- The new step is the least of 0 to 8 at which demand * (8 - step) is within 8 times the limit: 0 without a demand,
8 with a demand and no limit. A step at or below it takes it; a higher one falls by 1 when the demand at the lower
step keeps 15/16 of the limit, and stays otherwise. P_lim is POWER_MAX * (8 - k_t) / 8. A module that fired no line in
the window keeps its step. (06_drop_waveforms.md, R215, 06_drop_waveforms.md, R216) -/
def Obligations.PowerStepIsTheLeastWithinTheLimit : Prop :=
  (∀ (d limit : Rat), 0 ≤ d → 0 ≤ limit →
    (∀ k, leastStep d limit = k ↔ k ≤ 8 ∧ d * ((8 - k : Nat) : Rat) ≤ 8 * limit ∧
      ∀ j, j < k → 8 * limit < d * ((8 - j : Nat) : Rat)) ∧
    (d = 0 → leastStep d limit = 0) ∧ (0 < d → limit = 0 → leastStep d limit = 8) ∧
    ∀ step, step ≤ 8 →
      (step ≤ leastStep d limit → nextStep step d limit = leastStep d limit) ∧
      (leastStep d limit < step → d * ((9 - step : Nat) : Rat) * 16 ≤ 15 * 8 * limit → nextStep step d limit = step - 1) ∧
      (leastStep d limit < step → 15 * 8 * limit < d * ((9 - step : Nat) : Rat) * 16 → nextStep step d limit = step) ∧
      nextStep step d limit ≤ 8) ∧
  (∀ (x : WavePort) (k : Nat), k ≤ 8 → x.powerLimit k * 8 = x.powerLimit 0 * ((8 - k : Nat) : Rat)) ∧
  (∀ (s : State) (w window p : Nat), s.firedLines p window = [] → s.evalModule w window p = s)

/-- WAVE_TEMP_UPDATE updates the scales of a port at its place in the schedule of the engine that serves it, and the
update of the last port of each half pulses event line 28 or 29. POWER_STEP_EVAL gives each module served, with a
power ceiling and lines fired in the window, its next step. WAVE_ENGINE_OVERRUN takes the engine offline with cause 0
and limp condition 0x05: the other takes over, and when both are offline every module steps to 8.
(06_drop_waveforms.md, R203, R216, R218 to R220) -/
def Obligations.WaveEngineCommandsTakeEffect : Prop :=
  ∀ (s a : State) (t : Nat), Live s t a →
    (∀ p w ns, p < 128 → a.waveServer p = some w → a.devTime % (a.updateGrid w p).1 = (a.updateGrid w p).2 →
      ∃ u, Gives (.waveTempUpdate t p ns) s u ∧ u.wp p = (a.updateModule w p).wp p ∧
        (p % 64 = 63 → u.arrBit F.DW_EV_SEEN (28 + w) = true)) ∧
    (∀ w, w < 2 → a.waveOn w = true →
      ∃ u, Gives (.waveEngineOverrun t w) s u ∧ u.get (F.WE_STATUS_STATE w) = 3 ∧ u.get (F.WE_STATUS_OFF_CAUSE w) = 0 ∧
        (5, w) ∈ u.health.limps ∧
        (a.waveOn (1 - w) = true → u.get (F.WE_STATUS_TAKEOVER (1 - w)) = 1 ∧ ∀ p, p < 128 → u.waveServer p = some (1 - w)) ∧
        (a.get (F.WE_STATUS_STATE (1 - w)) = 3 → ∀ p, p < 128 → a.gen p ≠ 0 → (u.wp p).step = 8)) ∧
    (∀ w, w < 2 → a.waveOn w = true → a.devTime % (if a.waveSole w then 2000000 else 1000000) = 0 →
      ∃ u, Gives (.powerStepEval t w) s u ∧
        ∀ p tr, p < 128 → a.waveServer p = some w → (a.wp p).powerMax ≠ 0 → a.portTrack p = some tr →
          a.firedLines p (if a.waveSole w then 2000000 else 1000000) ≠ [] →
          (u.wp p).step = nextStep (a.wp p).step
            ((((a.firedLines p (if a.waveSole w then 2000000 else 1000000)).map (·.energy)).sum : Nat) /
              ((a.firedLines p (if a.waveSole w then 2000000 else 1000000)).length : Rat) * (a.get (F.TRACK_RATED tr) : Rat) / 16)
            ((a.wp p).powerLimit (a.port p).therm.ktFetch))

/-- HEAD_TRAINING_LOCK takes a port in TRAINING to IDENTIFY with fresh numbering and an ID_READ queued;
HEAD_TRAINING_TIMEOUT to DOWN after 10 ms, uncounted; HEAD_AUTO_RELINK starts the link again after 100 ms; loss of AUX
lock for more than 100 µs and 5 ms of silence take the link down, counted. HEAD_ID_READ_RX keeps the descriptor and
refuses with codes 11, 1 and 12 in order. HEAD_AUTH_RESP_RX and HEAD_USAGE_READ_RX go on when the MAC verifies, and
fail AUTH otherwise. The periodic and other replies have their effects. (07_head_link.md, R226, R241, R249 to R255) -/
def Obligations.HeadLinkCommandsTakeEffect : Prop :=
  ∀ (s a : State) (t p : Nat), Live s t a → p < 128 →
    (∀ lanes, (a.port p).st = 1 → (if a.gen p = 3 then lanes % 4 else lanes % 2) ≠ 0 →
      a.flag F.HEADPORT_HEADS_CTRL_LINK_EN = true →
      ∃ u, Gives (.headTrainingLock t p lanes) s u ∧ (u.port p).st = 2 ∧ u.get (F.HP_STATUS_STATE p) = 2 ∧
        (u.port p).lanes = (if a.gen p = 3 then lanes % 4 else lanes % 2) ∧ (u.port p).inSeq = 0 ∧ (u.port p).outSeq = 0 ∧
        (u.port p).otherQ.map (·.msg) = [.idRead]) ∧
    ((a.port p).st = 1 → (a.port p).since + 10000000 ≤ a.now →
      ∃ u, Gives (.headTrainingTimeout t p) s u ∧ (u.port p).st = 7 ∧
        u.get (F.HP_LINK_ERR_DOWN p) = a.get (F.HP_LINK_ERR_DOWN p)) ∧
    ((a.port p).st = 7 → a.flag (F.HP_CTRL_AUTO_RELINK p) = true → a.mayLink p = true → (a.port p).since + 100000000 ≤ a.now →
      ∃ u, Gives (.headAutoRelink t p) s u ∧ (a.gen p ≠ 1 → (u.port p).st = 1) ∧ (u.port p).st ≠ 7) ∧
    (∀ lost, a.auxRx p = true → 100000 < lost →
      ∃ u, Gives (.headAuxLockLoss t p lost) s u ∧ (u.port p).st = 7 ∧
        u.get (F.HP_LINK_ERR_DOWN p) = min (a.get (F.HP_LINK_ERR_DOWN p) + 1) 255) ∧
    (a.auxRx p = true → (a.port p).lastRx + 5000000 ≤ a.now →
      ∃ u, Gives (.headAuxSilence t p) s u ∧ (u.port p).st = 7 ∧
        u.get (F.HP_LINK_ERR_DOWN p) = min (a.get (F.HP_LINK_ERR_DOWN p) + 1) 255) ∧
    (∀ bytes d, a.auxRx p = true → (a.port p).st = 2 → d = parseDescriptor bytes →
      ∃ u, Gives (.headIdReadRx t p (a.port p).inSeq bytes) s u ∧ (u.port p).desc = some d ∧
        (d.sound = false → (u.port p).st = 8 ∧ u.get (F.HP_STATUS_REFUSE p) = 11) ∧
        (d.sound = true → d.gen ≠ a.gen p → (u.port p).st = 8 ∧ u.get (F.HP_STATUS_REFUSE p) = 1) ∧
        (d.sound = true → d.gen = a.gen p → bitOf d.rates (a.get (F.HP_CTRL_RATE p)) = false →
          (u.port p).st = 8 ∧ u.get (F.HP_STATUS_REFUSE p) = 12) ∧
        (d.sound = true → d.gen = a.gen p → bitOf d.rates (a.get (F.HP_CTRL_RATE p)) = true → a.judged = false →
          (a.port p).lastSerial = none → bitOf d.flags 1 = false → (u.port p).st = 4 ∧ u.get (F.HP_STATUS_AUTH p) = 0)) ∧
    (∀ serial count mac, a.auxRx p = true → (a.port p).st = 3 → (a.port p).authStage = 1 →
      ∃ u, Gives (.headAuthRespRx t p (a.port p).inSeq serial count mac) s u ∧
        (a.verifies p (a.port p).nonceD serial count mac = true → (u.port p).authStage = 2 ∧
          (u.port p).otherQ.map (·.msg) = (a.port p).otherQ.map (·.msg) ++ [.usageRead]) ∧
        (a.verifies p (a.port p).nonceD serial count mac = false → (a.port p).usage.refuse = true →
          (u.port p).st = 8 ∧ u.get (F.HP_STATUS_REFUSE p) = 8 ∧ u.get (F.HP_STATUS_AUTH p) = 2)) ∧
    (∀ nonce serial count mac k rest, a.auxRx p = true → (a.port p).st = 3 → (a.port p).usage.asked = k :: rest →
      a.verifies p nonce serial count mac = true →
      ∃ u, Gives (.headUsageReadRx t p (a.port p).inSeq nonce serial count mac) s u ∧ u.get (F.HP_STATUS_AUTH p) = 1 ∧
        (u.port p).usage.count = count ∧ (u.port p).usage.nonceH = nonce) ∧
    (a.linked p = true → (a.port p).usage.auth = 1 → (a.port p).usage.readAt + 60000000000 ≤ a.now →
      ∃ u, Gives (.headUsagePeriodic t p) s u ∧ (u.port p).usage.asked = (a.port p).usage.asked ++ [none] ∧
        (u.port p).otherQ.map (·.msg) = (a.port p).otherQ.map (·.msg) ++ [.usageRead]) ∧
    (a.linked p = true → (a.gen p = 2 ∨ a.gen p = 3) → (a.port p).syncAt ≤ a.now →
      ∃ u, Gives (.headTimeSyncPeriodic t p) s u ∧ (u.port p).syncAt = (a.port p).syncAt + 100000000 ∧
        (u.port p).otherQ.map (·.msg) = (a.port p).otherQ.map (·.msg) ++ [.timeSync 0]) ∧
    (∀ t1 t2 t3 t4 : Nat, a.auxRx p = true → a.linked p = true → a.gen p = 3 →
      ∃ u, Gives (.headTimeSyncRx t p (a.port p).inSeq t1 t2 t3 t4) s u ∧
        (8 < ((((t2 : Int) - t1) - (t4 - t3) + 1) / 2 - (a.port p).theta).natAbs → (u.port p).st = 7) ∧
        (((((t2 : Int) - t1) - (t4 - t3) + 1) / 2 - (a.port p).theta).natAbs ≤ 8 → (u.port p).st = (a.port p).st ∧
          (u.port p).sync.head? = some ((((t2 : Int) - t1) - (t4 - t3) + 1) / 2, (((t4 : Int) - t1) - (t3 - t2) + 1) / 2))) ∧
    (∀ space data, a.auxRx p = true → (a.port p).inSeq < 65536 →
      ∃ u, Gives (.headCfgReadRx t p (a.port p).inSeq space data) s u ∧ (u.port p).inSeq = ((a.port p).inSeq + 1) % 65536 ∧
        Msg.ack (a.port p).inSeq ∈ (u.port p).owed) ∧
    (∀ lanes answer result, a.auxRx p = true →
      ∃ u, Gives (.headStatusRx t p (a.port p).inSeq lanes answer result) s u ∧
        (a.gen p = 3 → (a.port p).st = 5 → lanes % 4 = 0 → (u.port p).st = 7) ∧
        (a.gen p = 2 → answer ≠ 0xFFFF → (a.port p).waits.find? (fun w => w.1 = answer) = some (answer, 1) → result ≠ 0 →
          (u.port p).st = 8 ∧ u.get (F.HP_STATUS_REFUSE p) = 9))

/-- FRAME_TRANSMIT sends an acknowledgement that is owed before anything else, and otherwise, at a frame boundary with
nothing to resend and room in the replay buffer, the next frame of the line queue under the next SEQ. HEAD_ACK_RX
releases what it covers. HEAD_NAK_RX and HEAD_ACK_TIMEOUT count a failure and make the frame and its followers wait
for a resend; the eighth failure in succession takes the link down. HEAD_FRAME_DISCARD asks for the expected frame
once. (07_head_link.md, R238 to R242, R244) -/
def Obligations.HeadFrameCommandsTakeEffect : Prop :=
  ∀ (s a : State) (t p : Nat), Live s t a → p < 128 →
    (∀ q rest, 2 ≤ (a.port p).st → (a.port p).st ≤ 6 → (a.gen p = 2 ∨ a.gen p = 3) →
      a.flag F.HEADPORT_HEADS_CTRL_LINK_EN = true → (a.port p).busyUntil ≤ (a.now : Int) → (a.port p).owed = .ack q :: rest →
      ∃ u, Gives (.frameTransmit t p) s u ∧ (u.port p).owed = rest ∧
        u.sent = .head p (frameBytes 16 q false []) :: a.sent) ∧
    (∀ f rest, 2 ≤ (a.port p).st → (a.port p).st ≤ 6 → (a.gen p = 2 ∨ a.gen p = 3) →
      a.flag F.HEADPORT_HEADS_CTRL_LINK_EN = true → (a.port p).busyUntil ≤ (a.now : Int) → (a.port p).owed = [] →
      (a.port p).ghosts = [] → (a.port p).replay.find? (·.resend) = none → a.replayFull p = false →
      a.lineReady p = true → (a.port p).lineQ = f :: rest →
      ∃ u g, Gives (.frameTransmit t p) s u ∧ (u.port p).lineQ = rest ∧
        (u.port p).outSeq = ((a.port p).outSeq + 1) % 65536 ∧ (u.port p).replay = (a.port p).replay ++ [g] ∧
        g.seq = (a.port p).outSeq ∧ g.resend = false) ∧
    (∀ seq, a.auxRx p = true → ∃ u, Gives (.headAckRx t p seq) s u ∧ (u.port p).lastRx = a.now ∧
      (u.port p).replay = (a.port p).replay.filter (fun f => !ackCovers seq f.seq) ∧
      ((a.port p).replay.any (fun f => ackCovers seq f.seq) = true → (u.port p).failures = 0)) ∧
    (∀ seq, a.auxRx p = true → ∃ u, Gives (.headNakRx t p seq) s u ∧
      u.get (F.HP_LINK_ERR_NAK p) = min (a.get (F.HP_LINK_ERR_NAK p) + 1) 255 ∧
      (7 ≤ (a.port p).failures → (u.port p).st = 7) ∧
      ((a.port p).failures < 7 → (∀ f ∈ (a.port p).replay, f.retries < 4) → (u.port p).failures = (a.port p).failures + 1 ∧
        ((a.port p).replay.any (fun f => decide (f.seq = seq)) = true →
          (u.port p).replay = (a.port p).replay.map (fun f => if ackCovers f.seq seq then { f with resend := true } else f)))) ∧
    (∀ f, a.auxRx p = true → a.expiredFrame p = some f → ∃ u, Gives (.headAckTimeout t p) s u ∧
      u.get (F.HP_LINK_ERR_TIMEOUT p) = min (a.get (F.HP_LINK_ERR_TIMEOUT p) + 1) 255 ∧
      (7 ≤ (a.port p).failures → (u.port p).st = 7) ∧
      ((a.port p).failures < 7 → (∀ g ∈ (a.port p).replay, g.retries < 4) → (u.port p).failures = (a.port p).failures + 1 ∧
        ∀ g ∈ (u.port p).replay, g.seq = f.seq → g.resend = true)) ∧
    (a.auxRx p = true → ∃ u, Gives (.headFrameDiscard t p none) s u ∧ (u.port p).nakOut = true ∧
      (u.port p).owed = (a.port p).owed ++ (if (a.port p).nakOut then [] else [.nak (a.port p).inSeq]))

/-- PORT_FETCH marks the next line of the track of the port fetched, Dropped and counted where the port is not linked.
FIRE_AT_UNACKED drops each line whose FIRE_AT no ACK covers. HL1_SHIFT_START shifts the bits of the line, HL1_LATCH
latches it and HL2_FIRE_STROBE strobes its rows, the last two only while the voted fire-enable is active; otherwise
nothing leaves the pins. MAINT_FIRING counts the next firing of an activity and ends it after the last.
(07_head_link.md, R229 to R232, R236, R247, R257, 05_fire_timing.md, R164) -/
def Obligations.HeadFiringCommandsTakeEffect : Prop :=
  ∀ (s a : State) (t p : Nat), Live s t a → p < 128 →
    (∀ tr c, a.portTrack p = some tr → a.trackActive tr = true → a.nextFetch p tr = some c →
      ∃ u, Gives (.portFetch t p) s u ∧ (u.port p).fetched = some c.line ∧
        (a.linked p = false → (a.port p).usage.refuseDue = false → u.get (F.HP_LINE_ERR_DROPPED p) = min (a.get (F.HP_LINE_ERR_DROPPED p) + 1) 65535)) ∧
    (a.gen p = 3 → (a.port p).lines.any (PortLine.unheard (a.devTime + 1) (a.port p).unacked) = true →
      ∃ u, Gives (.fireAtUnacked t p) s u ∧ (u.port p).lines.length = (a.port p).lines.length ∧
        ∀ l ∈ (a.port p).lines, l.unheard (a.devTime + 1) (a.port p).unacked = true →
          { l with started := true, ended := true, outcome := 4 } ∈ (u.port p).lines) ∧
    (∀ l, (a.port p).lines.find? (fun l => !l.shifted && decide (l.outcome < 4)) = some l → a.gen p = 1 → a.linked p = true →
      max (l.first - a.shiftNs p - 40) ((a.port p).latchEnd + 20) ≤ (a.devTime : Int) →
      ∃ u, Gives (.hl1ShiftStart t p) s u ∧ u.sent = .shift p (a.shiftBits p l) :: a.sent ∧
        { l with shifted := true } ∈ (u.port p).lines) ∧
    (∀ l, (a.port p).lines.find? (fun l => l.shifted && !l.latched && decide (l.outcome < 4)) = some l → a.gen p = 1 →
      a.linked p = true → l.first ≤ (a.devTime : Int) →
      ∃ u, Gives (.hl1Latch t p) s u ∧ { l with latched := true } ∈ (u.port p).lines ∧
        (a.flag F.THERM_TRI_STATUS_FIRE_EN = true → u.sent = .latch p l.first :: a.sent ∧
          (u.port p).latchEnd = l.first + (a.port p).latchNs) ∧
        (a.flag F.THERM_TRI_STATUS_FIRE_EN = false → u.sent = a.sent)) ∧
    (∀ l i latency, a.nextStrobe p = some (l, i) → a.gen p = 2 → a.linked p = true →
      (latency : Int) = (match (a.port p).desc with | some d => (d.latency : Int) | none => 0) →
      i - (a.port p).delta - latency ≤ (a.devTime : Int) →
      ∃ u, Gives (.hl2FireStrobe t p) s u ∧
        (a.flag F.THERM_TRI_STATUS_FIRE_EN = true →
          .strobe p (max (i - (a.port p).delta - latency) (a.port p).strobeEnd) (l.line % 256)
            (((l.rows.filter (fun r => decide (r.2.1 = i))).map (fun r => 2 ^ r.1)).sum) ∈ u.sent) ∧
        (a.flag F.THERM_TRI_STATUS_FIRE_EN = false → u.sent = a.sent)) ∧
    (∀ m, (a.port p).maint = some m →
      (m.total ≤ m.fired → (a.port p).fPrev = none → ∃ u, Gives (.maintFiring t p) s u ∧ (u.port p).maint = none) ∧
      (m.fired < m.total → a.linked p = true →
        m.startAt + roundHalfUp ((m.fired * 1000000000 : Nat) / (max m.rate 1 : Rat)) - 200000 ≤ (a.devTime : Int) →
        ∃ u, Gives (.maintFiring t p) s u ∧ (u.port p).maint = some { m with fired := m.fired + 1 }))

/-- On a port with a link, a frame with the expected SEQ advances it by 1 modulo 65,536, ends an outstanding NAK, owes
an ACK of it in place of every earlier ACK, and has its effect; one up to 32,768 below is not taken again and only
owes an ACK of the last accepted; any other one has no effect and owes one NAK of the expected SEQ, none where one is
outstanding. (07_head_link.md, R239) -/
def Obligations.SequencedFramesAreTakenInOrder : Prop :=
  ∀ (s : State) (p seq : Nat) (f : State → State), s.auxRx p = true → seq < 65536 → (s.port p).inSeq < 65536 →
    (seq = (s.port p).inSeq → ∃ a, s.headIn p seq f = f a ∧ (a.port p).inSeq = (seq + 1) % 65536 ∧
      (a.port p).nakOut = false ∧ Msg.ack seq ∈ (a.port p).owed ∧ (∀ q, Msg.ack q ∈ (a.port p).owed → q = seq) ∧
      (∀ k, k ≠ p → a.port k = s.port k) ∧ a.regs = s.regs ∧ a.sent = s.sent) ∧
    (seq ≠ (s.port p).inSeq → ((s.port p).inSeq + 65536 - seq) % 65536 ≤ 32768 →
      ((s.headIn p seq f).port p).inSeq = (s.port p).inSeq ∧ (s.headIn p seq f).regs = s.regs ∧
      Msg.ack (((s.port p).inSeq + 65535) % 65536) ∈ ((s.headIn p seq f).port p).owed ∧
      ((s.headIn p seq f).port p).nakOut = (s.port p).nakOut) ∧
    (32768 < ((s.port p).inSeq + 65536 - seq) % 65536 →
      ((s.headIn p seq f).port p).inSeq = (s.port p).inSeq ∧ ((s.headIn p seq f).port p).nakOut = true ∧
      (s.headIn p seq f).regs = s.regs ∧
      ((s.headIn p seq f).port p).owed =
        (s.port p).owed ++ (if (s.port p).nakOut then [] else [.nak (s.port p).inSeq]))

/-- With f the fire instant and f - t_L its lateness: beyond SLACK * T_L / 256 the fetch remembers the line as
Dropped, counts it once in OVERSPEED.DROPPED and fires nothing; otherwise the line joins the lines of the port with
the instant f, which is also f_prev from then on, Fired blank, late (counted in OVERSPEED.LATE) or Fired.
(05_fire_timing.md, R165, 05_fire_timing.md, R167) -/
def Obligations.FetchDecidesTheOutcomeOfALine : Prop :=
  ∀ (s : State) (p t : Nat) (c : CLine) (f : Int), t < 16 → p < 128 →
    f = s.earliest p c.interval (max c.tl ((c.tc : Int) + s.fetchNs t)) →
    ((s.get (F.TRACK_SLACK_TOL_SLACK t) * c.interval : Int) < (f - c.tl) * 256 * 65536 →
      ((s.fetchLine p t c).port p).fPrev = (s.port p).fPrev ∧
      (s.fetchLine p t c).get (F.TRACK_OVERSPEED_DROPPED t) = min (s.get (F.TRACK_OVERSPEED_DROPPED t) + 1) 65535 ∧
      (s.fetchLine p t c).get (F.TRACK_OVERSPEED_LATE t) = s.get (F.TRACK_OVERSPEED_LATE t) ∧
      ∃ l, ((s.fetchLine p t c).port p).lines = (s.port p).lines ++ [l] ∧ l.line = c.line ∧ l.outcome = 4 ∧ l.ended = true) ∧
    ((f - c.tl) * 256 * 65536 ≤ (s.get (F.TRACK_SLACK_TOL_SLACK t) * c.interval : Int) →
      ((s.fetchLine p t c).port p).fPrev = some f ∧
      (s.fetchLine p t c).get (F.TRACK_OVERSPEED_DROPPED t) = s.get (F.TRACK_OVERSPEED_DROPPED t) ∧
      (s.fetchLine p t c).get (F.TRACK_OVERSPEED_LATE t) =
        (if 0 < f - c.tl then min (s.get (F.TRACK_OVERSPEED_LATE t) + 1) 65535 else s.get (F.TRACK_OVERSPEED_LATE t)) ∧
      ∃ l, ((s.fetchLine p t c).port p).lines = (s.port p).lines ++ [l] ∧ l.line = c.line ∧ l.f = f ∧ l.tl = c.tl ∧
        l.track = t ∧ l.ended = false ∧ (l.outcome = 3 ∨ l.outcome = (if 0 < f - c.tl then 2 else 1)))

/-- HEAD_SENSE_RX of a frame that the watch takes counts it; each entry of a late one is counted in LATE; an entry of
no committed row, or with the wrong index, is counted in BAD_SENSE, and one of a nozzle that is HOST_DISABLED in
SKIPPED. A frame that the watch does not take changes nothing but the link. WATCH_PUBLISH makes every change of the
batch current under the next state epoch, with a pulse of event line 30, and without a change it does nothing.
(08_nozzle_watch.md, R260 to R262, R269, R272) -/
def Obligations.WatchCommandsTakeEffect : Prop :=
  ∀ (s a : State) (t p : Nat), Live s t a → p < 128 → a.auxRx p = true → (a.port p).inSeq < 65536 →
    (∀ line entries, ∃ u, Gives (.headSenseRx t p (a.port p).inSeq line entries) s u ∧
      (u.port p).inSeq = ((a.port p).inSeq + 1) % 65536 ∧
      (a.senseTaken p = false → u.regs = a.regs ∧ u.watch = a.watch) ∧
      (a.senseTaken p = true → u.get F.WATCH_SENSE_FRAMES = min (a.get F.WATCH_SENSE_FRAMES + 1) (2 ^ 32 - 1)) ∧
      (∀ l, a.senseTaken p = true → a.portLine p line = some l → l.tl + 1000 * a.get F.WATCH_WINDOW_SENSE_WINDOW_US < a.devTime →
        u.watch = a.watch ∧ u.get F.WATCH_LATE = min (a.get F.WATCH_LATE + entries.length) (2 ^ 32 - 1))) ∧
    (∀ line e l, a.senseTaken p = true → (a.port p).maint = none → a.portLine p line = some l →
      (a.devTime : Int) ≤ l.tl + 1000 * a.get F.WATCH_WINDOW_SENSE_WINDOW_US →
      ∃ u, Gives (.headSenseRx t p (a.port p).inSeq line [e]) s u ∧
        (a.geo.row p e.row = none → u.watch = a.watch ∧
          u.get F.WATCH_BAD_SENSE = min (a.get F.WATCH_BAD_SENSE + 1) (2 ^ F.WATCH_BAD_SENSE.width - 1)) ∧
        (∀ r, a.geo.row p e.row = some r → e.nozzle = r.local (line % r.n) → l.outcome < 4 →
          a.watchState (nozzleId p e.nozzle) = 3 → u.watch = a.watch ∧
          u.get F.WATCH_SKIPPED = min (a.get F.WATCH_SKIPPED + 1) (2 ^ F.WATCH_SKIPPED.width - 1))) ∧
    (a.watch.batch = [] → Gives (.watchPublish t) s a) ∧
    (∀ c rest, a.watch.batch = c :: rest → (a.watch.batch.map (·.nozzle)).Nodup →
      ∃ u, Gives (.watchPublish t) s u ∧ u.watch.batch = [] ∧ u.get F.WATCH_EPOCH = (a.get F.WATCH_EPOCH + 1) % 2 ^ 32 ∧
        u.arrBit F.DW_EV_SEEN 30 = true ∧ (∀ x ∈ a.watch.batch, u.watch.states.get 0 x.nozzle = x.new) ∧
        ∀ k, (∀ x ∈ a.watch.batch, x.nozzle ≠ k) → u.watch.states.get 0 k = a.watch.states.get 0 k)

/-- For every row and every list of its sources in ascending index: each source is sent code 0; a target is a
neighbour of the source, usable, empty in the slot, claimed once and sent the code of its source unchanged; every
other nozzle keeps its code; covers and drops add up to the sources. From SUSPECT four clean samples in a row lead to
GOOD with an empty history, from GOOD three outliers in a row to OUT, and OUT is left only by eight clean samples with
AUTO_RECOVER. (08_nozzle_watch.md, R274, 08_nozzle_watch.md, R269) -/
def Obligations.QuickCoverMovesEachDotOnce : Prop :=
  (∀ (n : Nat) (usable : Nat → Bool) (even : Bool) (slot codes claimed sources : List Nat) (moved dropped : Nat),
    slot.length = n → sources.Pairwise (· < ·) → (∀ k ∈ sources, k < n ∧ slot.getD k 0 ≠ 0) →
    sources.foldl (coverStep n usable even slot) (slot, [], 0, 0) = (codes, claimed, moved, dropped) →
    codes.length = n ∧ claimed.Nodup ∧ claimed.length = moved ∧ moved + dropped = sources.length ∧
    (∀ k ∈ sources, codes.getD k 0 = 0) ∧
    (∀ j ∈ claimed, j < n ∧ slot.getD j 0 = 0 ∧ usable j = true ∧
      ∃ k ∈ sources, (j + 1 = k ∨ j = k + 1) ∧ codes.getD j 0 = slot.getD k 0) ∧
    (∀ j, j ∉ claimed → j ∉ sources → codes.getD j 0 = slot.getD j 0)) ∧
  (∀ (h : WatchHist) (auto : Bool),
    ([false, false, false, false].foldl (fun (x : Nat × WatchHist) o => senseNext x.1 x.2 o auto) (1, h)).1 = 0 ∧
    ([true, true, true].foldl (fun (x : Nat × WatchHist) o => senseNext x.1 x.2 o auto) (0, h)).1 = 2) ∧
  (∀ (samples : List Bool) (h : WatchHist),
    (samples.foldl (fun (x : Nat × WatchHist) o => senseNext x.1 x.2 o false) (2, h)).1 = 2 ∧
    (samples.length < 8 → h.run = 0 →
      (samples.foldl (fun (x : Nat × WatchHist) o => senseNext x.1 x.2 o true) (2, h)).1 = 2) ∧
    (senseNext 2 h true true).1 = 2 ∧ (7 ≤ h.run → senseNext 2 h false true = (0, {})))

/-- On a port in service: a frame of bad form counts FORMAT_ERR; a LOCAL frame is consumed and never forwarded; a
frame of its own source counts LOOP_DISCARD and a repeated one DUP_DISCARD, without a use or a forwarding; every other
frame leaves on the other port, when that is UP and the frame is not for this device alone, with HOPS one higher, its
SEQ is remembered, and it is consumed exactly when it is for all or for this device. Off service, or not LOCAL on a
port that is not UP, nothing happens. (09_peal_ring.md, R284) -/
def Obligations.PealFramesAreHandledInOrder : Prop :=
  ∀ (s : State) (k : Nat) (f : PealFrame) (use : State → State),
    (s.pealOn k = false ∨ (f.flags ≠ 1 ∧ s.pealUp k = false) → s.pealReceive k f use = s) ∧
    (s.pealOn k = true → (f.flags = 1 ∨ s.pealUp k = true) →
      (frameOk f = false → (s.pealReceive k f use).sent = s.sent ∧
        (s.pealReceive k f use).get (F.PP_FORMAT_ERR k) =
          min (s.get (F.PP_FORMAT_ERR k) + 1) (2 ^ (F.PP_FORMAT_ERR k).width - 1)) ∧
      (frameOk f = true → f.flags = 1 → ∃ b, s.pealReceive k f use = use b ∧ b.sent = s.sent ∧ b.tracks = s.tracks) ∧
      (frameOk f = true → f.flags = 0 → f.src = s.deviceId → (s.pealReceive k f use).sent = s.sent ∧
        (s.pealReceive k f use).get (F.PP_LOOP_DISCARD k) =
          min (s.get (F.PP_LOOP_DISCARD k) + 1) (2 ^ (F.PP_LOOP_DISCARD k).width - 1)) ∧
      (frameOk f = true → f.flags = 0 → f.src ≠ s.deviceId → s.pealDup f = true → (s.pealReceive k f use).sent = s.sent ∧
        (s.pealReceive k f use).tracks = s.tracks ∧
        (s.pealReceive k f use).get (F.PP_DUP_DISCARD k) =
          min (s.get (F.PP_DUP_DISCARD k) + 1) (2 ^ (F.PP_DUP_DISCARD k).width - 1)) ∧
      (Arrives s k f → ∃ b, b.tracks = s.tracks ∧ b.peal.seqIn.get none (seqKey f) = some f.seq ∧
        (Meant s f → s.pealReceive k f use = use b) ∧ (¬ Meant s f → s.pealReceive k f use = b) ∧
        b.sent = (if s.pealUp (1 - k) = true ∧ f.dst ≠ s.deviceId
          then .peal (1 - k) { f with hops := (f.hops + 1) % 65536 } :: s.sent else s.sent)))

/-- A port comes UP after 8 exchanges and 1 ms of lock, and goes DOWN by its cause; holdover ends on SYSCLK after 10
ms; discarded frames are counted; exchanges are started and answered; discovery frames make, pass on and end a round;
STATUS frames are sent and expire; a lost toll stops its track with cause 7; chimes are sent; the Clapper line is
accepted, claimed and contested; the deputy takes over; late REPORTs and stale ring values are dealt with.
(09_peal_ring.md, R281, R286, R287, R289, R291 to R293, R297, R299, R301 to R303, R305, R306, R308, R309, R311) -/
def Obligations.PealRingCommandsTakeEffect : Prop :=
  ∀ (s a : State) (t k : Nat), Live s t a →
    (∀ nport lock, a.pealOn k = true → a.pealUp k = false → 1000000 ≤ lock → (a.peal1 k).sync.length = 8 →
      ∃ u, Gives (.pealPortUp t k nport lock) s u ∧ u.pealUp k = true ∧ (u.peal1 k).upAt = a.now) ∧
    (∀ cause lost, a.pealOn k = true → a.pealUp k = true →
      (cause = 0 ∧ 100000 < lost ∨ cause = 1 ∧ (a.peal1 k).lastRx + 50000 ≤ a.now ∨ cause = 2 ∧ 16 ≤ (a.recentCrc k).length) →
      ∃ u, Gives (.pealPortDown t k cause lost) s u ∧ u.get (F.PP_STATUS_STATE k) = 3 ∧
        u.get (F.PP_STATUS_DOWN_CAUSE k) = cause ∧ (u.peal1 k).sync = [] ∧
        ((a.peal1 k).formed = true → (0x0D, k) ∈ u.health.limps)) ∧
    (∀ x, a.peal.holdFrom = some x → x + 10000000 ≤ a.now →
      ∃ u, Gives (.holdoverTimeout t) s u ∧ u.flag F.PEAL_RING_STATUS_HOLDOVER = true) ∧
    (∀ src, a.pealOn k = true → (∃ u, Gives (.pealFrameDiscard t k 0 src none) s u ∧ a.now ∈ (u.peal1 k).crcAt ∧
      u.get (F.PP_CRC_ERR k) = min (a.get (F.PP_CRC_ERR k) + 1) (2 ^ (F.PP_CRC_ERR k).width - 1)) ∧
      (∃ u, Gives (.pealFrameDiscard t k 1 src none) s u ∧
        u.get (F.PP_BLOCK_ERR k) = min (a.get (F.PP_BLOCK_ERR k) + 1) (2 ^ (F.PP_BLOCK_ERR k).width - 1)) ∧
      ∀ f, a.pealUp k = true → frameOk f = false → ∃ u, Gives (.pealFrameDiscard t k 2 src (some f)) s u ∧
        u.get (F.PP_FORMAT_ERR k) = min (a.get (F.PP_FORMAT_ERR k) + 1) (2 ^ (F.PP_FORMAT_ERR k).width - 1)) ∧
    (a.pealOn k = true → ∃ u g, Gives (.syncExchange t k) s u ∧ (u.peal1 k).t1 = some a.devTime ∧
      u.sent = .peal k g :: a.sent ∧ g.kind = 4 ∧ g.flags = 1 ∧ g.payload = syncPayload 0 a.devTime 0 0) ∧
    (∀ x, a.peal.roundAt = some x → x + 100000000 ≤ a.now → ∃ u, Gives (.discoveryTimeout t) s u ∧
      u.get F.PEAL_DISCOVERY_RESULT = 2 ∧ u.get F.PEAL_RING_STATUS_STATE = 4 ∧ u.peal.roundAt = none) ∧
    (a.inRing = true → a.isMaster = false → a.masterId ≠ a.deviceId →
      ∃ u, Gives (.statusSend t) s u ∧ ∀ j ∈ a.pealUps, ∃ g, .peal j g ∈ u.sent ∧ g.kind = 7 ∧ g.dst = a.masterId) ∧
    (∀ d x, d ∈ a.peal.table → d.seen = some x → x + 30000000 ≤ a.now →
      ∃ u, Gives (.presenceExpire t d.id) s u ∧ { d with seen := none } ∈ u.peal.table) ∧
    (∀ tr c, tr < 16 → a.source tr = 3 → (a.track tr).st = 1 → (a.track tr).continued = false → (a.track tr).last = some c →
      c.tl * 65536 + (c.interval : Int) ≤ ((a.devTime : Int) + a.fetchNs tr) * 65536 →
      ∃ u, Gives (.tollLoss t tr) s u ∧ (u.track tr).st = 2 ∧ (u.track tr).cause = 7 ∧ (u.track tr).stopLine = some c.line ∧
        u.get F.PEAL_TOLL_STOPS = min (a.get F.PEAL_TOLL_STOPS + 1) (2 ^ F.PEAL_TOLL_STOPS.width - 1)) ∧
    (∀ alive, a.inRing = true → a.devTime % 10000 = 0 →
      (a.shownRole = 3 → (a.peal.held && alive) = false → Gives (.chimeSend t alive) s a) ∧
      (a.shownRole = 3 → a.peal.held = true → alive = true → ∃ u, Gives (.chimeSend t alive) s u ∧
        ∀ j ∈ a.pealUps, ∃ g, .peal j g ∈ u.sent ∧ g.kind = 2 ∧ g.dst = 0xFFFF ∧ g.payload = a.chimePayload false) ∧
      (a.shownRole = 1 → ∃ u, Gives (.chimeSend t alive) s u ∧
        ∀ j ∈ a.pealUps, ∃ g, .peal j g ∈ u.sent ∧ g.kind = 2 ∧ g.flags = 1)) ∧
    (∀ level, a.flag F.PEAL_RING_CTRL_CLAPPER_WIRED = true → level ≠ a.peal.released →
      ∃ u, Gives (.clapperAccept t level) s u ∧ u.peal.released = level ∧ u.peal.clapperSince = a.now ∧
        u.get F.PEAL_CLAPPER_RELEASED = b2n level) ∧
    (a.isMaster = true → a.peal.claimFrom.isSome = true → a.releasedFor 20000 = true → twoOf a.permits = true →
      ∃ u, Gives (.clapperClaim t) s u ∧ u.peal.held = true ∧ u.get F.PEAL_CLAPPER_HELD = 1) ∧
    (∀ x, a.peal.claimFrom = some x → a.isMaster = true → a.peal.released = false →
      max x a.peal.clapperSince + 10000000 ≤ a.now → ∃ u, Gives (.clapperConflict t) s u ∧
        u.get F.PEAL_DISCOVERY_RESULT = 4 ∧ u.get F.PEAL_RING_STATUS_STATE = 4 ∧ u.peal.roundAt = none) ∧
    (a.inRing = true → a.ringRole = 2 → a.peal.pairLost = false → a.peal.released = false → a.chimesLost = true →
      ∃ u, Gives (.pairLinkLost t) s u ∧ u.peal.pairLost = true ∧
        u.get F.PEAL_PAIR_LINK_LOST = min (a.get F.PEAL_PAIR_LINK_LOST + 1) (2 ^ F.PEAL_PAIR_LINK_LOST.width - 1)) ∧
    (a.isMaster = true → a.get F.PEAL_DEPUTY_STATUS_DEPUTY ≠ 0 → a.peal.deputyLost = false →
      [0, 1].filterMap (fun k => (a.peal1 k).deputyChime) ≠ [] →
      ([0, 1].filterMap (fun k => (a.peal1 k).deputyChime)).all (fun c => decide (c + a.lossNs ≤ a.now)) = true →
      ∃ u, Gives (.deputyLost t) s u ∧ u.peal.deputyLost = true) ∧
    (a.deputyReady = true → a.chimesLost = true → a.releasedFor 20000 = true →
      ∃ u, Gives (.deputyTakeover t) s u ∧ u.get F.PEAL_RING_STATUS_ROLE = 3 ∧ u.masterId = a.deviceId ∧
        u.get F.PEAL_TAKEOVER_FORMER = a.masterId ∧ ∀ tr ∈ a.ringTracks, (u.track tr).continued = true) ∧
    (∀ eval x, a.inRing = true → a.isMaster = false → a.peal.unsent.contains eval = true → eval + 10000 ≤ a.devTime →
      a.peal.locals.find? (fun x => decide (x.eval = eval)) = some x → ∃ u, Gives (.paceReportTimeout t eval) s u ∧
        eval ∉ u.peal.unsent ∧
        u.get F.PEAL_REPORT_INCOMPLETE = min (a.get F.PEAL_REPORT_INCOMPLETE + 1) (2 ^ F.PEAL_REPORT_INCOMPLETE.width - 1)) ∧
    (a.inRing = true → a.isMaster = false → a.ringFresh = false → ∃ u, Gives (.ringValueStale t) s u ∧ u.peal.ringNext = 0 ∧
      u.get F.PEAL_RING_P_RING_VALUE = 0 ∧ u.get F.PEAL_RING_P_STALE = 1)

/-- SYNC requests are answered and replies end the exchange; ASSIGN, END, DONE and BUSY carry a round; STATUS marks
its device present; a toll of the master commits its line, or stops the track, and any other toll is counted as
ignored; a chime of the master restarts the timer of its port; a REPORT of a child is kept; a RING frame of the master
gives the ring value; a tunnelled command is executed, refused without TUNNEL_ACCEPT, and a response fills in the
entry of its device. (09_peal_ring.md, R286, R287, R289, R291, R295, R296, R305, R309, R311 to R314) -/
def Obligations.PealFrameCommandsTakeEffect : Prop :=
  ∀ (s a : State) (t k : Nat) (f : PealFrame) (l : List Byte), Live s t a → l = f.payload →
    (LocalFrame a k f → f.kind = 4 → uAt l 0 1 = 0 → ∃ u g, Gives (.syncRx t k f) s u ∧ u.sent = .peal k g :: a.sent ∧
      g.kind = 4 ∧ g.flags = 1 ∧ g.payload = syncPayload 1 (uAt l 8 8) a.devTime a.devTime) ∧
    (∀ t1 t2 t3 t4 : Int, LocalFrame a k f → f.kind = 4 → uAt l 0 1 = 1 → (a.peal1 k).t1 = some (uAt l 8 8) →
      t1 = uAt l 8 8 → t2 = uAt l 16 8 → t3 = uAt l 24 8 → t4 = a.devTime → ∃ u, Gives (.syncRx t k f) s u ∧ (u.peal1 k).t1 = none ∧
        (u.peal1 k).sync.head? = some (((((t4 - t1) - (t3 - t2) + 1) / 2).toNat), ((t2 - t1) - (t4 - t3) + 1) / 2)) ∧
    (LocalFrame a k f → f.kind = 6 → uAt l 0 1 = 0 → a.ringRole ≠ 3 → a.mode.printing = false → a.peal.offer = none →
      ∃ u, Gives (.discoverAssignRx t k f) s u ∧ u.get F.PEAL_RING_STATUS_STATE = 2 ∧
        u.peal.offer = some { round := uAt l 1 1, id := uAt l 2 2, master := uAt l 6 2, port := k, path := uAt l 8 4,
                              hops := uAt l 4 2 }) ∧
    (∀ o, LocalFrame a k f → f.kind = 6 → uAt l 0 1 = 1 → a.ringRole ≠ 3 → a.offerOf l = some o → k ≠ o.port →
      ∃ u g, Gives (.discoverEndRx t k f) s u ∧ u.sent = .peal o.port g :: a.sent ∧ g.kind = 6 ∧
        g.payload = discoverPayload 1 o.round (uAt l 2 2) 0 o.master 0 0 0 0) ∧
    (∀ o, LocalFrame a k f → f.kind = 6 → uAt l 0 1 = 2 → a.ringRole ≠ 3 → a.offerOf l = some o →
      ∃ u, Gives (.discoverDoneRx t k f) s u ∧ u.get F.PEAL_RING_STATUS_STATE = 3 ∧ u.peal.place = o ∧
        u.deviceId = o.id % 65536 ∧ u.masterId = o.master % 65536) ∧
    (∀ o, LocalFrame a k f → f.kind = 6 → uAt l 0 1 = 3 → a.ringRole = 3 → a.offerOf l = some o → a.peal.roundAt.isSome = true →
      ∃ u, Gives (.discoverBusyRx t k f) s u ∧ u.get F.PEAL_DISCOVERY_RESULT = 3 ∧ u.get F.PEAL_RING_STATUS_STATE = 4 ∧
        u.peal.roundAt = none) ∧
    (∀ d, Arrives a k f → Meant a f → f.kind = 7 → a.isMaster = true → d ∈ a.peal.table → d.id = f.src →
      ∃ u, Gives (.statusRx t k f) s u ∧ ∃ e ∈ u.peal.table, e.id = f.src ∧ e.seen = some a.now ∧ e.role = uAt l 0 1) ∧
    (∀ tr, Arrives a k f → Meant a f → f.kind = 1 → tr = uAt l 0 1 → a.source tr = 3 → (a.track tr).st = 1 →
      (a.track tr).continued = false → f.src = a.masterId → ∃ u, Gives (.tollRx t k f) s u ∧
        (bitOf (uAt l 1 1) 1 = false → ∃ c ∈ (u.track tr).lines, c.line = uAt l 8 6 ∧ c.tl = toSigned 64 (uAt l 16 8) ∧
          c.interval = uAt l 24 8) ∧
        (bitOf (uAt l 1 1) 1 = true → (u.track tr).st = 2 ∧ (u.track tr).cause = uAt l 2 1 ∧
          (u.track tr).stopLine = some (uAt l 8 6))) ∧
    (Arrives a k f → Meant a f → f.kind = 1 → f.src ≠ a.masterId → f.src ≠ a.get F.PEAL_DEPUTY_STATUS_DEPUTY →
      ∃ u, Gives (.tollRx t k f) s u ∧ u.tracks = a.tracks ∧
        u.get F.PEAL_TOLL_IGNORED = min (a.get F.PEAL_TOLL_IGNORED + 1) (2 ^ F.PEAL_TOLL_IGNORED.width - 1)) ∧
    (Arrives a k f → f.kind = 2 → uAt l 0 1 = 3 → f.src = a.masterId →
      ∃ u, Gives (.chimeRx t k f) s u ∧ (u.peal1 k).masterChime = some a.now ∧ (u.peal1 k).timerFrom = a.now) ∧
    (Arrives a k f → f.kind = 3 → uAt l 0 1 = 0 → a.childOn k = some f.src → ∃ u, Gives (.paceReportRx t k f) s u ∧
      u.peal.reports.get [] f.src = (paceReport f :: a.peal.reports.get [] f.src).take 20) ∧
    (Arrives a k f → Meant a f → f.kind = 3 → uAt l 0 1 = 1 → f.src = a.masterId → a.inRing = true → a.isMaster = false →
      ∃ u, Gives (.paceRingRx t k f) s u ∧ u.peal.ringNext = uAt l 1 1 ∧ u.peal.ringAt = some a.now) ∧
    (Arrives a k f → Meant a f → f.kind = 5 → uAt l 0 1 = 0 → ∃ b, (∀ use, a.pealReceive k f use = use b) ∧
      Gives (.tunnelRx t k f) s (b.tunnelCommand f) ∧
      (a.mode ≠ .boot → a.boot.ready = true → a.haltMonitor = false → a.flag F.PEAL_RING_CTRL_TUNNEL_ACCEPT = false →
        (b.tunnelCommand f).get F.PEAL_TUNNEL_REFUSED =
          min (a.get F.PEAL_TUNNEL_REFUSED + 1) (2 ^ F.PEAL_TUNNEL_REFUSED.width - 1))) ∧
    (∀ m e, Arrives a k f → Meant a f → f.kind = 5 → uAt l 0 1 = 1 → uAt l 1 1 < 14 →
      (a.porch (uAt l 1 1)).remote = some m → m.rq.seq = uAt l 4 4 → m.aborting = none →
      e ∈ m.entries → e.1 ≠ f.src → e.2 = none → ∃ u, Gives (.tunnelResponseRx t k f) s u ∧
        (u.porch (uAt l 1 1)).remote =
          some (m.fill f.src (uAt (l.drop 16) 10 1) (bytesAt (l.drop 16) 32 (uAt (l.drop 16) 8 2))))

/-- For each command of the catalogue, without PREPARE, COMMIT and ABORT, staged on a porch that is served and free or
in a free slot of tunnelled commands: when the checks of R324 find nothing, no other command holds what it needs and
its deadline has not passed, the row answers the state after its effect, applied to the table that it fetched;
contents for a head are sent to the head first, and the command stays staged. A check that finds something is answered
with what it finds, as is a table that cannot be fetched or that the checks of its chapter turn away.
(10_porches_and_commands.md, R324, 10_porches_and_commands.md, R327 to R330, 10_porches_and_commands.md, R352,
06_drop_waveforms.md, R221) -/
def Obligations.PorchCommandsTakeEffect : Prop :=
  ∀ row ∈ porchRows, ∀ (s a b : State) (t n : Nat) (rq : Req) (g : Staged), Live s t a → Taken a row.2.op rq n g b →
    rq.flags % 8 = 0 →
    (∀ r, b.checkCmd row.2.op rq = some r → Gives (row.1 t rq) s (b.answer n row.2.op rq r)) ∧
    (Ready b n g →
      (∀ r b1, b.fetchBulk row.2 g = (.error r, b1) → Gives (row.1 t rq) s (b1.answer n row.2.op rq r)) ∧
      (∀ bulk b1, b.fetchBulk row.2 g = (.ok bulk, b1) →
        (∀ r, row.2.stage bulk rq b1 = some r → Gives (row.1 t rq) s (b1.answer n row.2.op rq r)) ∧
        (row.2.stage bulk rq b1 = none → row.2.head bulk rq b1 = [] →
          Gives (row.1 t rq) s (b1.applyNow n row.2 g bulk rq)) ∧
        (row.2.stage bulk rq b1 = none → row.2.head bulk rq b1 ≠ [] → ∃ u, Gives (row.1 t rq) s u ∧
          (u.porch n).staged = some { g with bulk := some bulk, sent := true } ∧
          (u.port (rq.u 0 1)).otherQ = (b1.port (rq.u 0 1)).otherQ ++
            (row.2.head bulk rq b1).map (fun m => ({ msg := m, tag := 2 } : OutFrame)))))

/-- A PREPARE that passes its checks is held as the prepared change of its key and answered OK; COMMIT applies the
change of its key and opcode, ABORT discards it, and with none both are answered NOT_PREPARED. PREPARE_LAPSED discards
what has been held for 1,000 ms. COMMAND_APPLY applies a staged command that is ready and leaves one that must wait;
COMMAND_DEADLINE answers TIMEOUT, or ends a command to other devices. A doorbell of a porch that is free takes the
command there; any other is counted with status BUSY. A write of EV_READ within the records held is taken, and any
other counted. (10_porches_and_commands.md, R323 to R325, 10_porches_and_commands.md, R327 to R330,
10_porches_and_commands.md, R337 to R340, 10_porches_and_commands.md, R349) -/
def Obligations.PorchEventsTakeEffect : Prop :=
  ∀ (s a : State) (t : Nat), Live s t a →
    (∀ c ∈ catalogue, c.prep = true → ∀ (n : Nat) (rq : Req) (g : Staged) (b : State) (mine : Prepared → Bool),
      mine = (fun y => y.byKey rq.origin rq.porch && decide (y.op = c.op)) →
      (∀ w bulk b1, w = ({ rq with flags := 1 + 8 * b2n (isNowait rq) } : Req) → Taken a c.op w n g b → Ready b n g →
        b.fetchBulk c g = (.ok bulk, b1) → c.stage bulk w b1 = none → c.head bulk w b1 = [] →
        ∃ (v : State) (x : Prepared), Gives (.prepare t c.op rq) s (v.answer n c.op w {}) ∧ x.byKey rq.origin rq.porch = true ∧ x.op = c.op ∧
          x.rq = w ∧ x.bulk = bulk ∧ v.prepared = b1.prepared.filter (fun y => !y.byKey rq.origin rq.porch) ++ [x]) ∧
      (∀ w, w = ({ rq with flags := 2 + 8 * b2n (isNowait rq), payload := [] } : Req) → Taken a c.op w n g b → Ready b n g →
        (∀ x, b.prepared.find? mine = some x →
          Gives (.commit t c.op rq) s (({ b with prepared := b.prepared.filter (fun y => !mine y) } : State).applyNow n c g x.bulk x.rq)) ∧
        (b.prepared.find? mine = none →
          Gives (.commit t c.op rq) s (b.answer n c.op w { status := .notPrepared }))) ∧
      (∀ w, w = ({ rq with flags := 4 + 8 * b2n (isNowait rq), payload := [] } : Req) → Taken a c.op w n g b → Ready b n g →
        (∀ x, b.prepared.find? mine = some x →
          Gives (.abort t c.op rq) s ((b.discardPrepared mine).answer n c.op w {})) ∧
        (b.prepared.find? mine = none →
          Gives (.abort t c.op rq) s (b.answer n c.op w { status := .notPrepared })))) ∧
    (∀ origin porch, ∃ u, Gives (.prepareLapsed t origin porch) s u ∧
      u.prepared = a.prepared.filter (fun x => !(x.byKey origin porch && a.tickPast (x.since + 1000000000)))) ∧
    (∀ n g, n ∈ stagedSlots → (a.porch n).staged = some g → g.applied = false →
      (∀ c bulk b, cmdOf g.op = some c → Ready a n g → isBare g.rq = false → isPrepare g.rq = false →
        a.fetchBulk c g = (.ok bulk, b) → c.stage bulk g.rq b = none → b.stageHead n c g bulk = none →
        Gives (.commandApply t n) s (b.applyNow n c g bulk g.rq)) ∧
      (a.tickPast g.due = false → a.checkCmd g.op g.rq = none → a.heldUp n g.op g.rungAt g.rq = true →
        Gives (.commandApply t n) s a) ∧
      (a.tickPast g.due = true → (a.porch n).remote = none → g.sent = false →
        Gives (.commandDeadline t n) s (a.answer n g.op g.rq { status := .timeout }))) ∧
    (∀ n m, n ∈ stagedSlots → (a.porch n).staged = none → (a.porch n).remote = some m → a.tickPast m.due = true →
      Gives (.commandDeadline t n) s (a.remoteExpired n m)) ∧
    (∀ path n seq, a.reaches path = true → seq < 2 ^ 32 →
      (n < 14 → a.served n = true → a.porchFree n = true → Gives (.doorbell t path n seq) s
        ((a.ring n seq).readCommand n (fun hdr payload x => x.takeCommand n hdr payload))) ∧
      (n < 14 → (a.served n && a.porchFree n) = false → ∃ u, Gives (.doorbell t path n seq) s u ∧ u.porches = a.porches ∧
        SameMemory a u ∧ u.get F.PORCH_LAST_ERR_PORCH = n ∧ u.get F.PORCH_LAST_ERR_STATUS = 6 ∧
        u.get F.PORCH_ERR_TOTAL = min (a.get F.PORCH_ERR_TOTAL + 1) (2 ^ F.PORCH_ERR_TOTAL.width - 1)) ∧
      (a.romServes = true → Gives (.doorbell t path 15 seq) s
        ((a.ring 15 seq).readCommand 15 (fun hdr payload x => x.takeRom hdr payload)))) ∧
    (∀ path v, a.reaches path = true → v < 2 ^ 32 →
      ((v + 2 ^ 32 - a.get F.PORCH_EV_READ) % 2 ^ 32 ≤ a.evHeld →
        ∃ u, Gives (.evReadWrite t path v) s u ∧ u.get F.PORCH_EV_READ = v) ∧
      (a.evHeld < (v + 2 ^ 32 - a.get F.PORCH_EV_READ) % 2 ^ 32 →
        ∃ u, Gives (.evReadWrite t path v) s u ∧ u.get F.PORCH_EV_READ = a.get F.PORCH_EV_READ ∧
          u.get F.PORCH_ERR_TOTAL = min (a.get F.PORCH_ERR_TOTAL + 1) (2 ^ F.PORCH_ERR_TOTAL.width - 1)))

/-- When a command of this device alone is answered with a status and a payload, the response area holds the 32 bytes
of the header, with SEQ, OPCODE, this device, the length, the status, TIME and ELAPSED, and the payload; DONE_SEQ is
its SEQ, STATE is DONE, LAST_STATUS and LAST_OPCODE are its own, its bit of DONE_PEND is set, and it is staged no
more. CMD_TOTAL counts a command answered OK or PARTIAL. SYS_RESET, after whose response the device is reset, is left
out. (10_porches_and_commands.md, R321, 10_porches_and_commands.md, R326, 10_porches_and_commands.md, R319) -/
def Obligations.AResponseStandsInItsPorch : Prop :=
  ∀ (a u : State) (n op : Nat) (rq : Req) (r : Resp), n < 14 → op < 65536 → op ≠ 8 → rq.origin = 0 → rq.seq < 2 ^ 32 →
    (a.porch n).remote = none → (∀ g, (a.porch n).staged = some g → g.sent = false ∨ r.status = .ok) →
    u = a.answer n op rq r →
    readBytes u.pmem (porchAddr n 0x800) (32 + r.payload.length) =
      responseBytes rq.seq op a.deviceId r.status.code 0 a.devTime (a.since (a.porch n).rungAt) r.payload ∧
    u.get (F.PR_DONE_SEQ n) = rq.seq ∧ u.get (F.PR_STATE_STATE n) = 3 ∧
    u.get (F.PR_STATE_LAST_STATUS n) = r.status.code ∧ u.get (F.PR_STATE_LAST_OPCODE n) = op ∧
    bitOf (u.get F.PORCH_DONE_PEND_PEND) n = true ∧ (u.porch n).staged = none ∧
    u.get F.PORCH_CMD_TOTAL = (if r.status = .ok ∨ r.status = .partialStatus
      then min (a.get F.PORCH_CMD_TOTAL + 1) (2 ^ F.PORCH_CMD_TOTAL.width - 1) else a.get F.PORCH_CMD_TOTAL)

/-- While the ROM serves porch 15: BOOT_QUERY is answered OK with the state of the boot; BOOT_WRITE in range stores
its bytes in the image buffer; BOOT_FETCH copies from host memory and is answered OK, or HW_FAULT when a transfer was
marked BAD; BOOT_CLEAR leaves the image buffer 0; BOOT_RUN of an image that fails a check is answered DENIED with the
RESULT shown, and of one that passes, with the CP and HP banks loaded, starts the firmware in CONFIGURE.
READY_FOR_HOST marks the firmware ready. HALT_ENTRY and HP_STALL enter HALT with their cause.
(11_startup_firmware_modes.md, R361 to R364, 11_startup_firmware_modes.md, R368 to R370, 11_startup_firmware_modes.md,
R377, 15_health_and_limp.md, R500) -/
def Obligations.BootCommandsTakeEffect : Prop :=
  ∀ (s a : State) (t : Nat), Live s t a →
    (∀ (rq : Req) (b : State), a.romServes = true →
      b = (((a.ring 15 rq.seq).set (F.PR_EXPECT_SEQ 15) ((rq.seq + 1) % 2 ^ 32)).set (F.PR_STATE_EXPECT_VALID 15) 1) →
      (rq.payload = [] → ∃ u, Gives (.bootQuery t rq) s u ∧ u.get (F.PR_STATE_STATE 15) = 3 ∧
        u.get (F.PR_STATE_LAST_STATUS 15) = 0 ∧ u.get (F.PR_DONE_SEQ 15) = rq.seq % 2 ^ 32 ∧
        readBytes u.pmem (porchAddr 15 0x820) 3 = leBytes 1 (b.get F.GL_BOOT_STATUS_STATE) ++
          leBytes 1 (b.get F.GL_BOOT_STATUS_RESULT) ++ leBytes 1 (b.get F.GL_BOOT_CTRL_PAGE)) ∧
      (∀ off n, off = rq.u 0 4 → n = rq.u 4 4 → off % 8 = 0 → n % 8 = 0 → 8 ≤ n → n ≤ 2008 → off + n ≤ imageSize →
        rq.payload.length = 8 + n → ∃ u, Gives (.bootWrite t rq) s u ∧ u.get (F.PR_STATE_LAST_STATUS 15) = 0 ∧
          readBytes u.pmem (imageBase + off) n = rq.payload.drop 8) ∧
      (∀ n x, n = rq.u 8 4 → rq.payload.length = 16 → 256 ≤ n → n ≤ imageSize → zeroBytes rq.payload 12 4 = true →
        x = b.romTransfer (rq.u 0 8 / 2 ^ 32) (romPieces 3 (rq.u 0 8 % 2 ^ 32) (pantrySide imageBase) n) →
        ∃ u, Gives (.bootFetch t rq) s u ∧ u.get (F.PR_STATE_LAST_STATUS 15) = (if x.1 = true then 11 else 0)) ∧
      (rq.payload = [] → ∃ u, Gives (.bootClear t rq) s u ∧ u.get (F.PR_STATE_LAST_STATUS 15) = 0 ∧
        ∀ i, i < imageSize → byteOf u.pmem (imageBase + i) = 0) ∧
      (∀ n l bad b1, n = rq.u 0 4 → rq.payload.length = 8 → 256 ≤ n → n ≤ imageSize → zeroBytes rq.payload 4 4 = true →
        b.pread imageBase n = (l, bad, b1) →
        (∀ fails, b1.imageResult l n ≠ 0 → ∃ u, Gives (.bootRun t rq fails) s u ∧ u.get (F.PR_STATE_LAST_STATUS 15) = 10 ∧
          u.get F.GL_BOOT_STATUS_STATE = 3 ∧ u.get F.GL_BOOT_STATUS_RESULT = b1.imageResult l n) ∧
        (∀ fails failed b2, b1.imageResult l n = 0 → b1.distribute (imageSections l) fails = (failed, b2) → failed % 4 = 0 →
          ∃ v : State, Gives (.bootRun t rq fails) s (v.startFirmware l) ∧ v.boot.heldOff = failed / 4 ∧
            v.get (F.PR_STATE_STATE 15) = 3 ∧ v.get (F.PR_STATE_LAST_STATUS 15) = 0))) ∧
    (∀ trained temps, a.mode ≠ .boot → a.boot.ready = false → a.haltMonitor = false →
      ∃ v : State, Gives (.readyForHost t trained temps) s v.postReady ∧ v.postReady.boot.ready = true ∧
        v.postReady.get F.PORCH_STATUS_FW_READY = 1) ∧
    (a.therm.cut = true → Gives (.haltEntry t 1) s (a.enterHalt 1)) ∧
    Gives (.haltEntry t 3) s (a.enterHalt 3) ∧
    ((a.health.beatAt.getD a.boot.ranAt) + 100000000 ≤ a.now → Gives (.hpStall t) s (a.enterHalt 3))

/-- In every mode but BOOT and HALT, the entry into HALT leaves the mode HALT with its cause, no track running or
stopping, no job, both enables of the Triangle low, and HALTED among the alerts; in BOOT and HALT nothing happens.
(11_startup_firmware_modes.md, R377, 11_startup_firmware_modes.md, R378) -/
def Obligations.HaltEndsTheJob : Prop :=
  ∀ (s u : State) (cause : Nat), u = s.enterHalt cause →
    (s.mode = .boot ∨ s.mode = .halt → u = s) ∧
    (s.mode ≠ .boot → s.mode ≠ .halt → u.mode = .halt ∧ u.haltCause = cause ∧ u.job = 0 ∧
      (∀ tr, tr < 16 → u.trackActive tr = false) ∧ u.flag F.THERM_TRI_STATUS_FIRE_EN = false ∧
      u.flag F.THERM_TRI_STATUS_HSUP_EN = false ∧ u.get F.HEALTH_ALERT_STATUS_HALTED = 1)

/-- A full reset leaves the mode BOOT, no firmware, no committed configuration, empty Pantry and no staged, prepared
or waiting data; the cells of the fuses and host memory stay. A register that is neither kept nor TS_STATUS takes its
reset value, the cause is recorded, and a reset other than a power-on keeps the words of the always-on domain.
(11_startup_firmware_modes.md, R386, 11_startup_firmware_modes.md, R389) -/
def Obligations.AResetKeepsOnlyTheAlwaysOnDomain : Prop :=
  ∀ (s u : State) (code : Nat), code < 8 → u = s.fullReset code →
    (u.mode = .boot ∧ u.boot = {} ∧ u.committed = false ∧ u.job = 0 ∧ u.prepared = [] ∧ u.porches = {} ∧ u.ports = {} ∧
      u.streams = {} ∧ u.chans = {} ∧ u.pmem = {} ∧ u.perr = {} ∧ u.health = {} ∧ u.geo = {} ∧ u.cellar = {} ∧
      u.msix = {} ∧ u.peal = {}) ∧
    u.otp.cells = s.otp.cells ∧ u.host = s.host ∧ u.now = s.now ∧ u.pending = s.pending ∧
    (∀ off, off ∉ keptRegs → (∀ i, i < 32 → off ≠ (F.TS_STATUS_VALID i).off) → u.reg off = regReset off) ∧
    (code ≠ 0 → ∀ off, off ∈ keptRegs → off ≠ F.GL_RESET_CAUSE_CODE.off → u.reg off = s.reg off) ∧
    u.get F.GL_RESET_CAUSE_CODE = code

/-- A supply outside its limits for 10 µs powers the core off with VIN recorded as the cause; RESET_N and TEST_N low
for 1 µs and the EXTEST, CLAMP and HIGHZ instructions hold the core in reset; each is released as its cause ends, and
the core then follows what else holds it. A marginal supply raises limp condition 0x0F and a good one clears it.
PERST_N resets the device or, with PERST_FULL 0, its PCIe side alone. Link training raises limp condition 0x0E when it
falls short. Heartbeats count, and the health processor records the oldest limp event. (11_startup_firmware_modes.md,
R356, R357, R385 to R389, 14_thermal_and_triangle.md, R488, 15_health_and_limp.md, R493, R498 to R501,
16_module_power_clocks.md, R513, R521, R528) -/
def Obligations.PowerAndHealthCommandsTakeEffect : Prop :=
  ∀ (s b : State) (t : Nat), b = s.advance t →
    (∀ vin clock, 59 ≤ vin → b.power.vinOk = false → Gives (.powerOn t vin false clock) s
      (({ b with power := { b.power with vinOk := true, noClock := !clock } } : State).sampleVin vin).settleCore) ∧
    (∀ vin clock p, 59 ≤ vin →
      p = ({ resetLow := b.power.resetLow, testLow := b.power.testLow, perstLow := b.power.perstLow, noClock := !clock } : Power) →
      Gives (.powerOn t vin true clock) s
        (({ (({ b with power := p } : State).fullReset 0) with therm := {}, core := .held } : State).sampleVin vin).settleCore) ∧
    (∀ vin ns, vin < 56 → 10000 ≤ ns → b.power.vinOk = true → ∃ u, Gives (.vinUndervoltage t vin ns) s u ∧ u.core = .off ∧
      u.mode = .boot ∧ u.power.vinOk = false ∧ u.get F.GL_RESET_CAUSE_CODE = b.vinCode ∧
      u.get F.THERM_VIN_STATUS_LAST_SHUTDOWN = 1) ∧
    (∀ vin ns, 430 < vin → 10000 ≤ ns → b.power.vinOk = true → b.power.overV = false →
      ∃ u, Gives (.vinOvervoltage t vin ns) s u ∧ u.core = .off ∧ u.mode = .boot ∧ u.power.overV = true ∧
        u.get F.GL_RESET_CAUSE_CODE = b.vinCode ∧ u.get F.THERM_VIN_STATUS_LAST_SHUTDOWN = 2) ∧
    (∀ vin ns, vin < 410 → 1000000000 ≤ ns → b.power.overV = true → Gives (.vinOvervoltageRestart t vin ns) s
      (({ b with power := { b.power with overV := false } } : State).sampleVin vin).settleCore) ∧
    (∀ vin ns, vin < 63 ∨ 410 < vin → 100000 ≤ ns → b.power.vinOk = true → ∃ u, Gives (.vinMarginal t vin ns) s u ∧
      u.get F.THERM_VIN_STATUS_VIN = min vin 1023 ∧ u.flag F.THERM_VIN_STATUS_LOW_WARN = decide (vin < 63) ∧
      (b.core = .run → (0x0F, if vin < 63 then 0 else 1) ∈ u.health.limps)) ∧
    (∀ vin ns, 65 ≤ vin → vin ≤ 405 → 1000000000 ≤ ns → b.power.vinOk = true → ∃ u, Gives (.vinMarginalClear t vin ns) s u ∧
      u.get F.THERM_VIN_STATUS_VIN = vin ∧ (b.core = .run → ∀ i, (0x0F, i) ∉ u.health.limps)) ∧
    (∀ ns, 1000000 ≤ ns → b.power.noClock = true → Gives (.sysclkValid t ns) s
      ({ b with power := { b.power with noClock := false } } : State).settleCore) ∧
    (∀ ns, 1000 ≤ ns → b.power.resetLow = false → ∃ u, Gives (.resetN t true ns) s u ∧ u.core ≠ .run ∧ u.mode = .boot ∧
      u.power.resetLow = true ∧ u.get F.GL_RESET_CAUSE_CODE = 1) ∧
    (∀ ns, b.power.resetLow = true → Gives (.resetN t false ns) s
      ({ b with power := { b.power with resetLow := false } } : State).settleCore) ∧
    (∀ ns, 1000 ≤ ns → b.power.testLow = false → ∃ u, Gives (.testN t true ns) s u ∧ u.core ≠ .run ∧ u.mode = .boot ∧
      u.power.testLow = true) ∧
    (∀ ns, b.power.testLow = true → Gives (.testN t false ns) s
      ({ b with power := { b.power with testLow := false } } : State).settleCore) ∧
    (∀ i ∈ [Jtag.extest, Jtag.clamp, Jtag.highz], b.power.jtag = false →
      ∃ u, Gives (.jtagInstruction t i) s u ∧ u.core ≠ .run ∧ u.mode = .boot ∧ u.power.jtag = true) ∧
    (∀ i ∈ [Jtag.bypass, Jtag.idcode, Jtag.samplePreload], Gives (.jtagInstruction t i) s b) ∧
    (b.power.jtag = true → Gives (.jtagInstruction t .testLogicReset) s
      ({ b with power := { b.power with jtag := false } } : State).settleCore) ∧
    (b.core = .run → b.power.perstLow = false →
      (b.flag F.GL_RESET_CTRL_PERST_FULL = true → Gives (.perstN t true) s
        (({ b with power := { b.power with perstLow := true } } : State).resetNow 2)) ∧
      (b.flag F.GL_RESET_CTRL_PERST_FULL = false → ∃ u, Gives (.perstN t true) s u ∧ u.core = .run ∧ u.mode = b.mode ∧
        u.msix = {} ∧ u.linkUp = false ∧ u.get F.GL_RESET_CAUSE_CODE = 2 ∧ u.get F.GL_RESET_CAUSE_LINK_ONLY = 1)) ∧
    Gives (.perstN t false) s { b with power := { b.power with perstLow := false } } ∧
    (s.core = .run →
      (∀ width speed bestWidth bestSpeed, b.power.perstLow = false →
        ∃ u, Gives (.pcieLinkTrained t width speed bestWidth bestSpeed) s u ∧ u.get F.GL_PCIE_STATUS_LINK_UP = 1 ∧
          (width < min bestWidth 16 ∨ speed < min bestSpeed 5 → (0x0E, width + 32 * speed) ∈ u.health.limps) ∧
          (¬ (width < min bestWidth 16 ∨ speed < min bestSpeed 5) → ∀ i, (0x0E, i) ∉ u.health.limps)) ∧
      (∃ u, Gives (.pcieLinkDown t) s u ∧ u.get F.GL_PCIE_STATUS_LINK_UP = 0 ∧ SameMemory b u) ∧
      (b.mode ≠ .boot → ∃ u, Gives (.hpHeartbeat t) s u ∧ u.health.beatAt = some b.now ∧
        u.get F.HEALTH_HP_HEARTBEAT = (b.get F.HEALTH_HP_HEARTBEAT + 1) % 2 ^ 32) ∧
      (∀ e q, b.boot.ready = true → b.hpRuns = true → b.health.queue = e :: q → ∃ u, Gives (.healthDrain t) s u ∧
        u.health.queue = q ∧ ∃ r ∈ u.health.log, r.index = b.health.written ∧ r.code = e.code ∧ r.inst = e.inst))

/-- An access of a bank in service that is awake: one wrong bit is corrected and counted, two are an uncorrectable
error, counted and answered as the bank demands; a partial write replaces the bytes enabled and no other. A bank at
rest begins to wake and the access waits. Banks rest when idle, wake and fill; patrol cycles begin, run through their
phases and end, and a segment whose test fails is repaired or, the second time, ends patrol of the bank. A round of
programming sets the bits that take, and the re-sense advances and records a difference. (12_pantry_and_dumbwaiter.md,
R394 to R398, 12_pantry_and_dumbwaiter.md, R400 to R406, 13_fuses.md, R440, R449 to R451) -/
def Obligations.PantryAndFuseCommandsTakeEffect : Prop :=
  ∀ (s a : State) (t : Nat), Live s t a →
    (∀ addr user w b, w = addr / 8 → b = bankOf addr → pantryAddr addr = true → a.bankOn b = true →
      (a.flag (F.BK_STATUS_WAKING b) = false → a.get (F.BK_STATUS_REST b) = 0 → a.perr.get 0 w = 0 →
        (∃ u, Gives (.pantryRead t addr user []) s u ∧ u.pmem = a.pmem ∧ u.perr.get 0 w = 0 ∧
          u.get F.PANTRY_CORR_TOTAL = a.get F.PANTRY_CORR_TOTAL ∧ u.get F.PANTRY_UNCORR_TOTAL = a.get F.PANTRY_UNCORR_TOTAL) ∧
        (∀ k, k < 72 → ∃ u, Gives (.pantryRead t addr user [k]) s u ∧ u.pmem = a.pmem ∧ u.perr.get 0 w = 0 ∧
          u.get F.PANTRY_CORR_TOTAL = min (a.get F.PANTRY_CORR_TOTAL + 1) (2 ^ F.PANTRY_CORR_TOTAL.width - 1)) ∧
        (∀ j k, j < 72 → k < 72 → j ≠ k → ∃ v : State, Gives (.pantryRead t addr user [j, k]) s (v.ownerError addr user) ∧
          v.pmem = a.pmem ∧ v.perr.get 0 w = 2 ^ j ^^^ 2 ^ k ∧
          v.get F.PANTRY_UNCORR_TOTAL = min (a.get F.PANTRY_UNCORR_TOTAL + 1) (2 ^ F.PANTRY_UNCORR_TOTAL.width - 1)) ∧
        (∀ enables data, ∃ u, Gives (.pantryPartialWrite t addr user enables data []) s u ∧ u.perr.get 0 w = 0 ∧
          (∀ k, k < 8 → byteOf u.pmem (8 * w + k) =
            if bitOf enables k then BitVec.ofNat 8 (data >>> (8 * k)) else byteOf a.pmem (8 * w + k)) ∧
          ∀ x, x / 8 ≠ w → byteOf u.pmem x = byteOf a.pmem x)) ∧
      (a.flag (F.BK_STATUS_WAKING b) = false → a.get (F.BK_STATUS_REST b) ≠ 0 → ∃ u, Gives (.pantryRead t addr user []) s u ∧
        u.flag (F.BK_STATUS_WAKING b) = true ∧ (u.bank b).queue = [{ addr := addr, user := user }] ∧
        (u.bank b).wakeAt = some (a.now + if a.get (F.BK_STATUS_REST b) = 2 then 12000 else 3)) ∧
      (a.flag (F.BK_STATUS_WAKING b) = true → ∃ u, Gives (.pantryRead t addr user []) s u ∧
        (u.bank b).queue = (a.bank b).queue ++ [{ addr := addr, user := user }])) ∧
    (∀ b, b < 22 →
      (∀ p, p = a.get (F.BK_CTRL_POWER b) → a.get (F.BK_STATUS_REST b) = 0 → a.get (F.BK_STATUS_WAKING b) = 0 →
        a.get (F.BK_STATUS_PHASE b) = 0 → a.bankOn b = true →
        (p = 1 ∧ 320 ≤ a.now - (a.bank b).lastUse ∨ p = 2 ∧ 100000 ≤ a.now - (a.bank b).lastUse) →
        ∃ u, Gives (.bankRest t b) s u ∧ u.get (F.BK_STATUS_REST b) = p ∧ u.pmem = a.pmem) ∧
      (∀ w, (a.bank b).wakeAt = some w → w ≤ a.now → ∃ v : State, v.get (F.BK_STATUS_REST b) = 0 ∧
        v.flag (F.BK_STATUS_WAKING b) = false ∧ (v.bank b).wakeAt = none ∧ (v.bank b).queue = [] ∧ v.pmem = a.pmem ∧
        Gives (.bankWakeComplete t b) s ((a.bank b).queue.foldl (fun (x : State) q => x.serveBank q) v)) ∧
      ((a.bank b).fillAt.isSome = true → ∃ u, Gives (.bankFillComplete t b) s u ∧ u.get (F.BK_STATUS_REST b) = 0 ∧
        (u.bank b).fillAt = none) ∧
      (a.patrolled b = true → a.get (F.BK_STATUS_PHASE b) = 0 → (a.bank b).cycleAt ≤ a.now →
        ∃ u, Gives (.patrolCycleStart t b) s u ∧ u.get (F.BK_STATUS_PHASE b) = 1 ∧ (u.bank b).phaseAt = a.now ∧
          u.get (F.BK_STATUS_SEGMENT b) = (a.bank b).next % 2 ^ (F.BK_STATUS_SEGMENT b).width) ∧
      (∀ fault bad suppressed, ∃ u, Gives (.patrolPhaseEnd t b fault bad suppressed) s u ∧
        (a.get (F.BK_STATUS_PHASE b) = 1 → u.get (F.BK_STATUS_PHASE b) = 2) ∧
        (a.get (F.BK_STATUS_PHASE b) = 2 → u.get (F.BK_STATUS_PHASE b) = 3 ∧ (u.bank b).phaseAt = a.now) ∧
        (a.get (F.BK_STATUS_PHASE b) = 3 → (a.bank b).phaseAt + 1600 ≤ a.now → fault = false →
          u.get (F.BK_STATUS_PHASE b) = 4) ∧
        (a.get (F.BK_STATUS_PHASE b) = 3 → (a.bank b).phaseAt + 1600 ≤ a.now → fault = true →
          (a.flag (F.BK_STATUS_REPAIR_USED b) = false → u.get (F.BK_STATUS_PHASE b) = 4 ∧ (u.bank b).fault = true) ∧
          (a.flag (F.BK_STATUS_REPAIR_USED b) = true → u.get (F.BK_STATUS_PHASE b) = 0 ∧
            u.flag (F.BK_STATUS_PATROL_USED b) = true ∧ (7, b + 32 * a.get (F.BK_STATUS_SEGMENT b)) ∈ u.health.limps)) ∧
        (a.get (F.BK_STATUS_PHASE b) = 4 → u.get (F.BK_STATUS_PHASE b) = 5) ∧
        (a.get (F.BK_STATUS_PHASE b) = 5 → u.get (F.BK_STATUS_PHASE b) = 0 ∧ ((a.bank b).fault = true →
          u.flag (F.BK_STATUS_REPAIR_USED b) = true ∧ (6, b + 32 * a.get (F.BK_STATUS_SEGMENT b)) ∈ u.health.limps)))) ∧
    (∀ x tight nominal, a.otp.prog = some x →
      (∀ v, a.otpRound x tight nominal = (none, v) → Gives (.otpProgramRound t tight nominal) s v) ∧
      (∀ r c v, a.otpRound x tight nominal = (some (r, c), v) → Gives (.otpProgramRound t tight nominal) s (v.otpEnded x r c)) ∧
      ∀ pulsed, pulsed = x.want &&& ((2 ^ 39 - 1) ^^^ (a.otpCell x.word).2) →
        (a.otpRound x tight nominal).2.otpCell x.word =
          ((a.otpCell x.word).1 ||| (pulsed &&& (nominal ||| tight)), (a.otpCell x.word).2 ||| (pulsed &&& tight))) ∧
    (∀ read w, a.otp.prog = none → w = a.get F.OTP_RESENSE_POSITION → ∃ u, Gives (.otpResense t read) s u ∧
      u.get F.OTP_RESENSE_POSITION = (w + 1) % 2048 ∧
      (∀ c, read = some (c, c) → c < 2 ^ 39 → a.otp.expected.get 0 w ≠ c → u.otp.marginal.contains w = true ∧
        u.get F.OTP_RESENSE_DIFF = min (a.get F.OTP_RESENSE_DIFF + 1) (2 ^ F.OTP_RESENSE_DIFF.width - 1)))

/-- A program starts at its first slot; a channel that is ready executes the slot at its PC: NOP goes on, moves begin
their transfer, LOOP opens its body, WAIT waits or takes a latched pulse, SIGNAL pulses its line, FENCE waits for
every response, END ends, and a slot of another form is BAD and passed over. A wait that its line has ended goes on,
and one whose time is over is BAD with TIMEOUT. STOP ends what a channel does. XFER and SH_XFER start register
transfers. Bursts are issued by priority and complete; responses that report errors, and host reads without
completion, mark their instruction BAD. (12_pantry_and_dumbwaiter.md, R407, 12_pantry_and_dumbwaiter.md, R410 to R421,
12_pantry_and_dumbwaiter.md, R427) -/
def Obligations.DumbwaiterCommandsTakeEffect : Prop :=
  ∀ (s a : State) (t m : Nat), Live s t a →
    (∀ prog base priority priv, m < 32 → a.mode ≠ .boot → a.mode ≠ .diagnose → (a.gchan m).running = false →
      (a.gchan m).cur = none → (a.gchan m).settleFrom = none → ∃ u, Gives (.dwProgramStart t m prog base priority priv) s u ∧
        (u.gchan m).running = true ∧ u.get (F.GC_STATUS_PC m) = 0 ∧ u.get (F.GC_STATUS_STATE m) = 1 ∧
        u.get (F.GC_PROG m) = prog / 16 * 16 % 2 ^ (F.GC_PROG m).width) ∧
    (∀ e b, a.slotReady m = true → a.fetchSlot m (a.get (F.GC_STATUS_PC m)) = (.error e, b) →
      Gives (.dwNop t m) s (b.skipBad m 1 e false)) ∧
    (∀ x b k, a.slotReady m = true → a.fetchSlot m (a.get (F.GC_STATUS_PC m)) = (.ok x, b) → k = x.src % 64 →
      (x.op = 0 → x.flags = 0 → Gives (.dwNop t m) s (b.advanceSlot m 1)) ∧
      (x.op = 0 ∧ x.flags ≠ 0 ∨ 11 ≤ x.op ∧ x.op ≤ 14 → Gives (.dwNop t m) s (b.skipBad m 1 .illegal false)) ∧
      (x.op = 1 → Gives (.dwMove t m) s (b.execMove m x)) ∧ (x.op = 2 → Gives (.dwMove2d t m) s (b.execMove m x)) ∧
      (x.op = 3 → Gives (.dwFill t m) s (b.execMove m x)) ∧ (x.op = 4 → Gives (.dwFill2d t m) s (b.execMove m x)) ∧
      (x.op = 5 → Gives (.dwCmp t m) s (b.execMove m x)) ∧ (x.op = 6 → Gives (.dwCmp2d t m) s (b.execMove m x)) ∧
      (∀ mv mv' c, x.op = 1 ∨ x.op = 3 ∨ x.op = 5 → (b.gchan m).moving (b.get (F.GC_STATUS_PC m)) x [] = some mv →
        b.startMove m mv (bitOf x.flags 1) = (.ok mv', c) → ((b.execMove m x).gchan m).cur = some mv') ∧
      (∀ body, x.op = 7 → x.flags = 0 → body = x.src / 2 ^ 32 + 256 * (x.dst / 2 ^ 32 % 16) → 1 ≤ body →
        b.get (F.GC_STATUS_PC m) + body ≤ 4095 → 1 ≤ x.count → (b.gchan m).loops.length < 4 →
        ∃ u, Gives (.dwLoop t m) s u ∧ u.get (F.GC_STATUS_PC m) = b.get (F.GC_STATUS_PC m) + 1 ∧
          ∃ l, (u.gchan m).loops = l :: (b.gchan m).loops ∧ l.count = x.count ∧ l.last = b.get (F.GC_STATUS_PC m) + body) ∧
      (x.op = 8 → x.flags = 1 → bitOf (b.gchan m).latches k = true → Gives (.dwWait t m) s (b.waitDone m k)) ∧
      (x.op = 8 → x.flags = 0 ∨ x.flags = 1 ∧ bitOf (b.gchan m).latches k = false → ∃ u, Gives (.dwWait t m) s u ∧
        u.get (F.GC_STATUS_STATE m) = 2 ∧ ∃ w, (u.gchan m).waiting = some w ∧ w.line = k ∧
          w.deadline = if x.count = 0 then none else some (b.now + 1000 * x.count)) ∧
      (x.op = 9 → x.flags = 0 → 32 ≤ k → Gives (.dwSignal t m) s ((b.pulse k).advanceSlot m 1)) ∧
      (x.op = 9 → x.flags = 1 → 32 ≤ k → Gives (.dwSignal t m) s (b.settleSlot m (some k))) ∧
      (x.op = 10 → x.flags = 0 → Gives (.dwFence t m) s (b.settleSlot m none)) ∧
      (x.op = 15 → x.flags = 0 → ∃ u, Gives (.dwEnd t m) s u ∧ (u.gchan m).running = false ∧
        u.get (F.GC_STATUS_STATE m) = 5)) ∧
    (∀ w, m < 32 → (a.gchan m).waiting = some w →
      (w.seen = true → Gives (.dwWaitDone t m) s (a.waitDone m w.line)) ∧
      (∀ d, w.seen = false → w.deadline = some d → d ≤ a.now → ∃ v : State, Gives (.dwWaitTimeout t m) s (v.skipBad m 1 .timeout true) ∧
        (v.gchan m).waiting = none ∧ v.get F.DW_WAIT_TIMEOUT_TOTAL =
          min (a.get F.DW_WAIT_TIMEOUT_TOTAL + 1) (2 ^ F.DW_WAIT_TIMEOUT_TOTAL.width - 1))) ∧
    (m < 32 →
      (a.firmwareDw = true → (a.gchan m).running = true → ∃ u, Gives (.dwStop t none m) s u ∧
        u.get (F.GC_STATUS_STATE m) = 4 ∧ (u.gchan m).running = false ∧ (u.gchan m).cur = none) ∧
      (∀ p, a.reaches p = true → Gives (.dwStop t (some p) m) s (a.busWriteField p (F.GC_CTRL_STOP m) 1)) ∧
      (∀ p v, a.reaches p = true →
        Gives (.dwXferGo t (.host p) m v) s (a.busWrite p (F.GC_XFER_OP m).off 4 (BitVec.ofNat 32 (putBit v 11 true)).toNat) ∧
        Gives (.dwShadowGo t (.host p) m v) s (a.busWrite p (F.GC_SH_XFER_OP m).off 4 (BitVec.ofNat 32 (putBit v 11 true)).toNat)) ∧
      (∀ base src dst v, a.firmwareDw = true → a.activeRuns m = false →
        Gives (.dwXferGo t (.cp base src dst) m v) s (((((a.cpChannel m base).set64 (F.GC_SRC_LO m) (F.GC_SRC_HI m) src).set64
          (F.GC_DST_LO m) (F.GC_DST_HI m) dst).setReg (F.GC_XFER_OP m).off (BitVec.ofNat 32 (putBit v 11 true))).startXfer m)) ∧
      (∀ base src dst v, a.firmwareDw = true → (a.gchan m).running = false → a.flag (F.GC_SH_XFER_GO m) = false →
        Gives (.dwShadowGo t (.cp base src dst) m v) s (((((a.cpChannel m base).set64 (F.GC_SH_SRC_LO m) (F.GC_SH_SRC_HI m)
          src).set64 (F.GC_SH_DST_LO m) (F.GC_SH_DST_HI m) dst).setReg (F.GC_SH_XFER_OP m).off
            (BitVec.ofNat 32 (putBit v 11 true))).shadowGo m))) ∧
    (a.flightAll < 256 → ∀ ch, a.dwNext = some ch → Gives (.dwBurstIssue t) s (a.issueBurst ch)) ∧
    (∀ ch k stall, k < a.flightOf ch →
      (ch < 128 → Gives (.dwBurstComplete t ch k stall) s ((a.bump F.PANTRY_DW_STALL stall).completeStream ch true) ∧
        Gives (.hostReadTimeout t ch k) s (a.completeStream ch false)) ∧
      (128 ≤ ch → ch < 160 → Gives (.dwBurstComplete t ch k stall) s
        ((a.bump F.PANTRY_DW_STALL stall).completeBurst (ch - 128) k))) ∧
    (∀ k b, m < 32 → (a.gchan m).flight[k]? = some b →
      (∀ l cause units, b.data = some l → (a.gchan m).retired b = true → cause ∈ [2, 3, 4, 5, 8] →
        Gives (.dwLateError t m k cause units) s ((a.land m k b l (some (DwCause.ofCode cause, units % 4096))).trySettle m)) ∧
      (b.data = none → b.srcSpace = 0 → Gives (.hostReadTimeout t (128 + m) k) s
        ((((a.burstBad m b (some (.hostRead, 0))).dropBurst m k).tryRetire m).trySettle m)))

/-- Die readings are taken, T_DIE follows the hottest sensor, and two channels that vote for it power the core off; 1
s of cooler readings starts it again. The Triangle takes each accepted level, a discrepancy, the watchdog, a stall, a
clock fault and the loss of a channel, and evaluates its votes. A marginal clock raises limp condition 0x10 and a good
one clears it; a channel that differs from the vote for more than 50 µs raises 0x0A. Head temperatures are taken,
their loss cuts the module, and a cut is cleared after 1 s below its limit. A thermistor conversion shows its code and
its state. (14_thermal_and_triangle.md, R463 to R469, 14_thermal_and_triangle.md, R470 to R477,
14_thermal_and_triangle.md, R478 to R484, 14_thermal_and_triangle.md, R487) -/
def Obligations.ThermalCommandsTakeEffect : Prop :=
  ∀ (s a : State) (t : Nat),
    (Watched s t a →
      (∀ readings : List (Nat × Int), readings.length = 32 → ∃ v : State,
        Gives (.dieSensorReading t readings) s (if twoOf v.shutVote ∧ !v.power.hot then v.thermalShutdown else v) ∧
        (∀ i, i < 32 → v.get (F.TS_VALUE_TEMP i) = ofSigned 16 (readings.getD i (0, 0)).2 % 2 ^ 16) ∧
        (∀ i, v.hottestSensor = some i → v.get F.THERM_DIE_STATUS_T_DIE = v.get (F.TS_VALUE_TEMP i)) ∧
        v.thermalShutdown.core = .off ∧ v.thermalShutdown.mode = .boot ∧ v.thermalShutdown.power.hot = true ∧
        v.thermalShutdown.get F.GL_RESET_CAUSE_CODE = 4) ∧
      (∀ ch, ch < 3 →
        (∀ input level, input < 4 → (a.tri ch).stopped = false →
          Gives (.safetyInputAccept t ch input level) s (a.acceptInput ch input level)) ∧
        ((a.tri ch).stopped = false → a.discrepant ch = true → (a.tri ch).disc = 0 →
          Gives (.estopDiscrepancy t ch) s (a.setTri ch { a.tri ch with disc := 1 }).triangle) ∧
        Gives (.channelHeartbeatLapse t ch) s (a.setTri ch { a.tri ch with stopped := true }).triangle) ∧
      (a.flag F.THERM_WD_STATUS_ARMED = true → a.mode ≠ .boot → a.therm.wdFrom + a.wdTime ≤ a.now → a.therm.wdCause ≠ 1 →
        ∃ v : State, Gives (.cpWatchdogExpiry t) s v.triangle ∧ v.therm.wdCause = 1 ∧
          ∀ k, k < 3 → (a.tri k).stopped = false → bitOf (v.tri k).latched 2 = true) ∧
      (∀ stalled, ∃ v : State, Gives (.livenessStall t stalled) s v.triangle ∧ ∀ k, k < 3 → (v.tri k).stalled = stalled) ∧
      (∀ ratio osc, ∃ v : State, Gives (.clockFault t ratio osc) s v.triangle ∧ ∀ k, k < 3 →
        (v.tri k).clockBad = (decide (1000 < ratio.natAbs) || !bitOf osc k))) ∧
    (∀ b, b = s.at t → b.power.hot = true → b.power.vinOk = true → b.therm.hotAt + 1000000000 ≤ b.now →
      Gives (.thermalRestart t) s ({ b with power := { b.power with hot := false } } : State).settleCore) ∧
    (Live s t a →
      (∀ ratio : Int, 200 < ratio.natAbs → a.limpPresent 0x10 = false →
        ∃ u, Gives (.clockMarginal t ratio) s u ∧ (0x10, ofSigned 16 ratio) ∈ u.health.limps) ∧
      (∀ ratio : Int, ratio.natAbs ≤ 100 → ∃ u, Gives (.clockMarginalClear t ratio) s u ∧ ∀ i, (0x10, i) ∉ u.health.limps) ∧
      (∀ ch x, ch < 3 → (a.tri ch).apartFrom = some x → x + 50000 < a.now → bitOf (a.get F.THERM_TRI_STATUS_DISAGREE) ch = false →
        ∃ u, Gives (.triangleDisagree t ch) s u ∧ bitOf (u.get F.THERM_TRI_STATUS_DISAGREE) ch = true ∧
          (0x0A, ch) ∈ u.health.limps) ∧
      (∀ p seq readings, p < 128 → 2 ≤ a.gen p →
        ((a.port p).therm.cut = true → a.linked p = false → Gives (.headTempRx t p seq readings) s (a.headTemps p readings)) ∧
        (a.linked p = true → Gives (.headTempRx t p seq readings) s (a.headIn p seq (fun x => x.headTemps p readings)))) ∧
      (∀ p, p < 128 → a.linked p = true → (a.port p).therm.cut = false → (a.port p).therm.hottest a.now = none →
        (a.port p).therm.validEnd + 1000000 * a.get F.THERM_HEAD_CFG_LOSS_MS ≤ a.now →
        Gives (.headTempLoss t p) s (a.headCut p 1)) ∧
      (∀ p x, p < 128 → (a.port p).therm.cut = true → ((a.port p).therm.hottest a.now).isSome = true →
        (a.port p).therm.coolFrom = some x → x + 1000000000 ≤ a.now → ∃ u, Gives (.headCutClear t p) s u ∧
          (u.port p).therm.cut = false ∧ u.arrBit F.THERM_HEAD_CUT p = false) ∧
      (∀ n code, n < 16 → code < 4096 → ∃ v : State, Gives (.thConversion t n code) s
          ((v.thPorts n).foldl (fun (x : State) p => x.headTemps p [(0, decide (v.get (F.TH_STATUS_STATE n) ≠ 1),
            thTemp ((lookupCell a.therm.tables.cells n).getD []) code)]) v) ∧
        v.get (F.TH_VALUE_CODE n) = code ∧
        v.get (F.TH_STATUS_STATE n) = (if a.get F.THERM_TH_CFG_OPEN ≤ code then 2
          else if code ≤ a.get F.THERM_TH_CFG_SHORT then 3
          else if (lookupCell a.therm.tables.cells n).isSome then 1 else 0)))

/-- However the state stands, after the Triangle evaluates: in a mode that may not fire both enables are low; the fire
enable is never high without the head supply enable; when two channels hold a latched cut both are low and the cut is
shown; when two channels that work have no cut, accept the guard closed and the head voltage good, in a mode that may
fire, both are high. (14_thermal_and_triangle.md, R479, 14_thermal_and_triangle.md, R480, 14_thermal_and_triangle.md,
R482, 01_press_and_part.md, R27) -/
def Obligations.EnablesFollowTheVote : Prop :=
  ∀ (s u : State), u = s.triangle →
    (s.mode.mayFire = false → u.flag F.THERM_TRI_STATUS_FIRE_EN = false ∧ u.flag F.THERM_TRI_STATUS_HSUP_EN = false) ∧
    (u.flag F.THERM_TRI_STATUS_FIRE_EN = true → u.flag F.THERM_TRI_STATUS_HSUP_EN = true) ∧
    (∀ i j, i < 3 → j < 3 → i ≠ j →
      ((s.tri i).latched ≠ 0 → (s.tri j).latched ≠ 0 → u.flag F.THERM_TRI_STATUS_FIRE_EN = false ∧
        u.flag F.THERM_TRI_STATUS_HSUP_EN = false ∧ u.therm.cut = true) ∧
      (s.mode.mayFire = true → (∀ k, k = i ∨ k = j → (s.tri k).stopped = false ∧ (s.tri k).latched = 0 ∧
        s.cutConditions k = 0 ∧ s.accepted k 2 = false ∧ s.accepted k 3 = true) →
        u.flag F.THERM_TRI_STATUS_FIRE_EN = true ∧ u.flag F.THERM_TRI_STATUS_HSUP_EN = true))
end

