-- ==== Sys2Proof/Laws/State.lean ====
section
/-! SUPPORT. What each update of one part of the state leaves unchanged: one lemma per field per update, true by
definition. -/

namespace Sys2Proof.Machine

variable (s : State)

@[simp] theorem State.clock_at (t : Nat) : (s.at t).clock = s.clock := rfl
@[simp] theorem State.free_at (t : Nat) : (s.at t).free = s.free := rfl
@[simp] theorem State.core_at (t : Nat) : (s.at t).core = s.core := rfl
@[simp] theorem State.regs_at (t : Nat) : (s.at t).regs = s.regs := rfl
@[simp] theorem State.mode_at (t : Nat) : (s.at t).mode = s.mode := rfl
@[simp] theorem State.committed_at (t : Nat) : (s.at t).committed = s.committed := rfl
@[simp] theorem State.haltCause_at (t : Nat) : (s.at t).haltCause = s.haltCause := rfl
@[simp] theorem State.haltDiag_at (t : Nat) : (s.at t).haltDiag = s.haltDiag := rfl
@[simp] theorem State.boot_at (t : Nat) : (s.at t).boot = s.boot := rfl
@[simp] theorem State.porches_at (t : Nat) : (s.at t).porches = s.porches := rfl
@[simp] theorem State.prepared_at (t : Nat) : (s.at t).prepared = s.prepared := rfl
@[simp] theorem State.evLostPend_at (t : Nat) : (s.at t).evLostPend = s.evLostPend := rfl
@[simp] theorem State.host_at (t : Nat) : (s.at t).host = s.host := rfl
@[simp] theorem State.pmem_at (t : Nat) : (s.at t).pmem = s.pmem := rfl
@[simp] theorem State.perr_at (t : Nat) : (s.at t).perr = s.perr := rfl
@[simp] theorem State.msix_at (t : Nat) : (s.at t).msix = s.msix := rfl
@[simp] theorem State.timeHi_at (t : Nat) : (s.at t).timeHi = s.timeHi := rfl
@[simp] theorem State.health_at (t : Nat) : (s.at t).health = s.health := rfl
@[simp] theorem State.geo_at (t : Nat) : (s.at t).geo = s.geo := rfl
@[simp] theorem State.cellar_at (t : Nat) : (s.at t).cellar = s.cellar := rfl
@[simp] theorem State.streams_at (t : Nat) : (s.at t).streams = s.streams := rfl
@[simp] theorem State.decomps_at (t : Nat) : (s.at t).decomps = s.decomps := rfl
@[simp] theorem State.lines_at (t : Nat) : (s.at t).lines = s.lines := rfl
@[simp] theorem State.encs_at (t : Nat) : (s.at t).encs = s.encs := rfl
@[simp] theorem State.tracks_at (t : Nat) : (s.at t).tracks = s.tracks := rfl
@[simp] theorem State.job_at (t : Nat) : (s.at t).job = s.job := rfl
@[simp] theorem State.gov_at (t : Nat) : (s.at t).gov = s.gov := rfl
@[simp] theorem State.waves_at (t : Nat) : (s.at t).waves = s.waves := rfl
@[simp] theorem State.waveOut_at (t : Nat) : (s.at t).waveOut = s.waveOut := rfl
@[simp] theorem State.ports_at (t : Nat) : (s.at t).ports = s.ports := rfl
@[simp] theorem State.watch_at (t : Nat) : (s.at t).watch = s.watch := rfl
@[simp] theorem State.therm_at (t : Nat) : (s.at t).therm = s.therm := rfl
@[simp] theorem State.power_at (t : Nat) : (s.at t).power = s.power := rfl
@[simp] theorem State.peal_at (t : Nat) : (s.at t).peal = s.peal := rfl
@[simp] theorem State.banks_at (t : Nat) : (s.at t).banks = s.banks := rfl
@[simp] theorem State.chans_at (t : Nat) : (s.at t).chans = s.chans := rfl
@[simp] theorem State.dwLast_at (t : Nat) : (s.at t).dwLast = s.dwLast := rfl
@[simp] theorem State.otp_at (t : Nat) : (s.at t).otp = s.otp := rfl
@[simp] theorem State.sent_at (t : Nat) : (s.at t).sent = s.sent := rfl
@[simp] theorem State.pending_at (t : Nat) : (s.at t).pending = s.pending := rfl

@[simp] theorem State.now_keepQueue (u : State) : (s.keepQueue u).now = u.now := rfl
@[simp] theorem State.clock_keepQueue (u : State) : (s.keepQueue u).clock = u.clock := rfl
@[simp] theorem State.free_keepQueue (u : State) : (s.keepQueue u).free = u.free := rfl
@[simp] theorem State.core_keepQueue (u : State) : (s.keepQueue u).core = u.core := rfl
@[simp] theorem State.regs_keepQueue (u : State) : (s.keepQueue u).regs = u.regs := rfl
@[simp] theorem State.mode_keepQueue (u : State) : (s.keepQueue u).mode = u.mode := rfl
@[simp] theorem State.committed_keepQueue (u : State) : (s.keepQueue u).committed = u.committed := rfl
@[simp] theorem State.haltCause_keepQueue (u : State) : (s.keepQueue u).haltCause = u.haltCause := rfl
@[simp] theorem State.haltDiag_keepQueue (u : State) : (s.keepQueue u).haltDiag = u.haltDiag := rfl
@[simp] theorem State.boot_keepQueue (u : State) : (s.keepQueue u).boot = u.boot := rfl
@[simp] theorem State.porches_keepQueue (u : State) : (s.keepQueue u).porches = u.porches := rfl
@[simp] theorem State.prepared_keepQueue (u : State) : (s.keepQueue u).prepared = u.prepared := rfl
@[simp] theorem State.evLostPend_keepQueue (u : State) : (s.keepQueue u).evLostPend = u.evLostPend := rfl
@[simp] theorem State.host_keepQueue (u : State) : (s.keepQueue u).host = u.host := rfl
@[simp] theorem State.pmem_keepQueue (u : State) : (s.keepQueue u).pmem = u.pmem := rfl
@[simp] theorem State.perr_keepQueue (u : State) : (s.keepQueue u).perr = u.perr := rfl
@[simp] theorem State.msix_keepQueue (u : State) : (s.keepQueue u).msix = u.msix := rfl
@[simp] theorem State.timeHi_keepQueue (u : State) : (s.keepQueue u).timeHi = u.timeHi := rfl
@[simp] theorem State.health_keepQueue (u : State) : (s.keepQueue u).health = u.health := rfl
@[simp] theorem State.geo_keepQueue (u : State) : (s.keepQueue u).geo = u.geo := rfl
@[simp] theorem State.cellar_keepQueue (u : State) : (s.keepQueue u).cellar = u.cellar := rfl
@[simp] theorem State.streams_keepQueue (u : State) : (s.keepQueue u).streams = u.streams := rfl
@[simp] theorem State.decomps_keepQueue (u : State) : (s.keepQueue u).decomps = u.decomps := rfl
@[simp] theorem State.lines_keepQueue (u : State) : (s.keepQueue u).lines = u.lines := rfl
@[simp] theorem State.encs_keepQueue (u : State) : (s.keepQueue u).encs = u.encs := rfl
@[simp] theorem State.tracks_keepQueue (u : State) : (s.keepQueue u).tracks = u.tracks := rfl
@[simp] theorem State.job_keepQueue (u : State) : (s.keepQueue u).job = u.job := rfl
@[simp] theorem State.gov_keepQueue (u : State) : (s.keepQueue u).gov = u.gov := rfl
@[simp] theorem State.waves_keepQueue (u : State) : (s.keepQueue u).waves = u.waves := rfl
@[simp] theorem State.waveOut_keepQueue (u : State) : (s.keepQueue u).waveOut = u.waveOut := rfl
@[simp] theorem State.ports_keepQueue (u : State) : (s.keepQueue u).ports = u.ports := rfl
@[simp] theorem State.watch_keepQueue (u : State) : (s.keepQueue u).watch = u.watch := rfl
@[simp] theorem State.therm_keepQueue (u : State) : (s.keepQueue u).therm = u.therm := rfl
@[simp] theorem State.power_keepQueue (u : State) : (s.keepQueue u).power = u.power := rfl
@[simp] theorem State.peal_keepQueue (u : State) : (s.keepQueue u).peal = u.peal := rfl
@[simp] theorem State.banks_keepQueue (u : State) : (s.keepQueue u).banks = u.banks := rfl
@[simp] theorem State.chans_keepQueue (u : State) : (s.keepQueue u).chans = u.chans := rfl
@[simp] theorem State.dwLast_keepQueue (u : State) : (s.keepQueue u).dwLast = u.dwLast := rfl
@[simp] theorem State.otp_keepQueue (u : State) : (s.keepQueue u).otp = u.otp := rfl
@[simp] theorem State.sent_keepQueue (u : State) : (s.keepQueue u).sent = u.sent := rfl
@[simp] theorem State.pending_keepQueue (u : State) : (s.keepQueue u).pending = s.pending := rfl
@[simp] theorem State.now_setReg (off : Nat) (w : Word) : (s.setReg off w).now = s.now := rfl
@[simp] theorem State.clock_setReg (off : Nat) (w : Word) : (s.setReg off w).clock = s.clock := rfl
@[simp] theorem State.free_setReg (off : Nat) (w : Word) : (s.setReg off w).free = s.free := rfl
@[simp] theorem State.core_setReg (off : Nat) (w : Word) : (s.setReg off w).core = s.core := rfl
@[simp] theorem State.mode_setReg (off : Nat) (w : Word) : (s.setReg off w).mode = s.mode := rfl
@[simp] theorem State.committed_setReg (off : Nat) (w : Word) : (s.setReg off w).committed = s.committed := rfl
@[simp] theorem State.haltCause_setReg (off : Nat) (w : Word) : (s.setReg off w).haltCause = s.haltCause := rfl
@[simp] theorem State.haltDiag_setReg (off : Nat) (w : Word) : (s.setReg off w).haltDiag = s.haltDiag := rfl
@[simp] theorem State.boot_setReg (off : Nat) (w : Word) : (s.setReg off w).boot = s.boot := rfl
@[simp] theorem State.porches_setReg (off : Nat) (w : Word) : (s.setReg off w).porches = s.porches := rfl
@[simp] theorem State.prepared_setReg (off : Nat) (w : Word) : (s.setReg off w).prepared = s.prepared := rfl
@[simp] theorem State.evLostPend_setReg (off : Nat) (w : Word) : (s.setReg off w).evLostPend = s.evLostPend := rfl
@[simp] theorem State.host_setReg (off : Nat) (w : Word) : (s.setReg off w).host = s.host := rfl
@[simp] theorem State.pmem_setReg (off : Nat) (w : Word) : (s.setReg off w).pmem = s.pmem := rfl
@[simp] theorem State.perr_setReg (off : Nat) (w : Word) : (s.setReg off w).perr = s.perr := rfl
@[simp] theorem State.msix_setReg (off : Nat) (w : Word) : (s.setReg off w).msix = s.msix := rfl
@[simp] theorem State.timeHi_setReg (off : Nat) (w : Word) : (s.setReg off w).timeHi = s.timeHi := rfl
@[simp] theorem State.health_setReg (off : Nat) (w : Word) : (s.setReg off w).health = s.health := rfl
@[simp] theorem State.geo_setReg (off : Nat) (w : Word) : (s.setReg off w).geo = s.geo := rfl
@[simp] theorem State.cellar_setReg (off : Nat) (w : Word) : (s.setReg off w).cellar = s.cellar := rfl
@[simp] theorem State.streams_setReg (off : Nat) (w : Word) : (s.setReg off w).streams = s.streams := rfl
@[simp] theorem State.decomps_setReg (off : Nat) (w : Word) : (s.setReg off w).decomps = s.decomps := rfl
@[simp] theorem State.lines_setReg (off : Nat) (w : Word) : (s.setReg off w).lines = s.lines := rfl
@[simp] theorem State.encs_setReg (off : Nat) (w : Word) : (s.setReg off w).encs = s.encs := rfl
@[simp] theorem State.tracks_setReg (off : Nat) (w : Word) : (s.setReg off w).tracks = s.tracks := rfl
@[simp] theorem State.job_setReg (off : Nat) (w : Word) : (s.setReg off w).job = s.job := rfl
@[simp] theorem State.gov_setReg (off : Nat) (w : Word) : (s.setReg off w).gov = s.gov := rfl
@[simp] theorem State.waves_setReg (off : Nat) (w : Word) : (s.setReg off w).waves = s.waves := rfl
@[simp] theorem State.waveOut_setReg (off : Nat) (w : Word) : (s.setReg off w).waveOut = s.waveOut := rfl
@[simp] theorem State.ports_setReg (off : Nat) (w : Word) : (s.setReg off w).ports = s.ports := rfl
@[simp] theorem State.watch_setReg (off : Nat) (w : Word) : (s.setReg off w).watch = s.watch := rfl
@[simp] theorem State.therm_setReg (off : Nat) (w : Word) : (s.setReg off w).therm = s.therm := rfl
@[simp] theorem State.power_setReg (off : Nat) (w : Word) : (s.setReg off w).power = s.power := rfl
@[simp] theorem State.peal_setReg (off : Nat) (w : Word) : (s.setReg off w).peal = s.peal := rfl
@[simp] theorem State.banks_setReg (off : Nat) (w : Word) : (s.setReg off w).banks = s.banks := rfl
@[simp] theorem State.chans_setReg (off : Nat) (w : Word) : (s.setReg off w).chans = s.chans := rfl
@[simp] theorem State.dwLast_setReg (off : Nat) (w : Word) : (s.setReg off w).dwLast = s.dwLast := rfl
@[simp] theorem State.otp_setReg (off : Nat) (w : Word) : (s.setReg off w).otp = s.otp := rfl
@[simp] theorem State.sent_setReg (off : Nat) (w : Word) : (s.setReg off w).sent = s.sent := rfl
@[simp] theorem State.pending_setReg (off : Nat) (w : Word) : (s.setReg off w).pending = s.pending := rfl

@[simp] theorem State.now_set (f : Fld) (v : Nat) : (s.set f v).now = s.now := rfl
@[simp] theorem State.clock_set (f : Fld) (v : Nat) : (s.set f v).clock = s.clock := rfl
@[simp] theorem State.free_set (f : Fld) (v : Nat) : (s.set f v).free = s.free := rfl
@[simp] theorem State.core_set (f : Fld) (v : Nat) : (s.set f v).core = s.core := rfl
@[simp] theorem State.mode_set (f : Fld) (v : Nat) : (s.set f v).mode = s.mode := rfl
@[simp] theorem State.committed_set (f : Fld) (v : Nat) : (s.set f v).committed = s.committed := rfl
@[simp] theorem State.haltCause_set (f : Fld) (v : Nat) : (s.set f v).haltCause = s.haltCause := rfl
@[simp] theorem State.haltDiag_set (f : Fld) (v : Nat) : (s.set f v).haltDiag = s.haltDiag := rfl
@[simp] theorem State.boot_set (f : Fld) (v : Nat) : (s.set f v).boot = s.boot := rfl
@[simp] theorem State.porches_set (f : Fld) (v : Nat) : (s.set f v).porches = s.porches := rfl
@[simp] theorem State.prepared_set (f : Fld) (v : Nat) : (s.set f v).prepared = s.prepared := rfl
@[simp] theorem State.evLostPend_set (f : Fld) (v : Nat) : (s.set f v).evLostPend = s.evLostPend := rfl
@[simp] theorem State.host_set (f : Fld) (v : Nat) : (s.set f v).host = s.host := rfl
@[simp] theorem State.pmem_set (f : Fld) (v : Nat) : (s.set f v).pmem = s.pmem := rfl
@[simp] theorem State.perr_set (f : Fld) (v : Nat) : (s.set f v).perr = s.perr := rfl
@[simp] theorem State.msix_set (f : Fld) (v : Nat) : (s.set f v).msix = s.msix := rfl
@[simp] theorem State.timeHi_set (f : Fld) (v : Nat) : (s.set f v).timeHi = s.timeHi := rfl
@[simp] theorem State.health_set (f : Fld) (v : Nat) : (s.set f v).health = s.health := rfl
@[simp] theorem State.geo_set (f : Fld) (v : Nat) : (s.set f v).geo = s.geo := rfl
@[simp] theorem State.cellar_set (f : Fld) (v : Nat) : (s.set f v).cellar = s.cellar := rfl
@[simp] theorem State.streams_set (f : Fld) (v : Nat) : (s.set f v).streams = s.streams := rfl
@[simp] theorem State.decomps_set (f : Fld) (v : Nat) : (s.set f v).decomps = s.decomps := rfl
@[simp] theorem State.lines_set (f : Fld) (v : Nat) : (s.set f v).lines = s.lines := rfl
@[simp] theorem State.encs_set (f : Fld) (v : Nat) : (s.set f v).encs = s.encs := rfl
@[simp] theorem State.tracks_set (f : Fld) (v : Nat) : (s.set f v).tracks = s.tracks := rfl
@[simp] theorem State.job_set (f : Fld) (v : Nat) : (s.set f v).job = s.job := rfl
@[simp] theorem State.gov_set (f : Fld) (v : Nat) : (s.set f v).gov = s.gov := rfl
@[simp] theorem State.waves_set (f : Fld) (v : Nat) : (s.set f v).waves = s.waves := rfl
@[simp] theorem State.waveOut_set (f : Fld) (v : Nat) : (s.set f v).waveOut = s.waveOut := rfl
@[simp] theorem State.ports_set (f : Fld) (v : Nat) : (s.set f v).ports = s.ports := rfl
@[simp] theorem State.watch_set (f : Fld) (v : Nat) : (s.set f v).watch = s.watch := rfl
@[simp] theorem State.therm_set (f : Fld) (v : Nat) : (s.set f v).therm = s.therm := rfl
@[simp] theorem State.power_set (f : Fld) (v : Nat) : (s.set f v).power = s.power := rfl
@[simp] theorem State.peal_set (f : Fld) (v : Nat) : (s.set f v).peal = s.peal := rfl
@[simp] theorem State.banks_set (f : Fld) (v : Nat) : (s.set f v).banks = s.banks := rfl
@[simp] theorem State.chans_set (f : Fld) (v : Nat) : (s.set f v).chans = s.chans := rfl
@[simp] theorem State.dwLast_set (f : Fld) (v : Nat) : (s.set f v).dwLast = s.dwLast := rfl
@[simp] theorem State.otp_set (f : Fld) (v : Nat) : (s.set f v).otp = s.otp := rfl
@[simp] theorem State.sent_set (f : Fld) (v : Nat) : (s.set f v).sent = s.sent := rfl
@[simp] theorem State.pending_set (f : Fld) (v : Nat) : (s.set f v).pending = s.pending := rfl

@[simp] theorem State.now_bump (f : Fld) (n : Nat) : (s.bump f n).now = s.now := rfl
@[simp] theorem State.clock_bump (f : Fld) (n : Nat) : (s.bump f n).clock = s.clock := rfl
@[simp] theorem State.free_bump (f : Fld) (n : Nat) : (s.bump f n).free = s.free := rfl
@[simp] theorem State.core_bump (f : Fld) (n : Nat) : (s.bump f n).core = s.core := rfl
@[simp] theorem State.mode_bump (f : Fld) (n : Nat) : (s.bump f n).mode = s.mode := rfl
@[simp] theorem State.committed_bump (f : Fld) (n : Nat) : (s.bump f n).committed = s.committed := rfl
@[simp] theorem State.haltCause_bump (f : Fld) (n : Nat) : (s.bump f n).haltCause = s.haltCause := rfl
@[simp] theorem State.haltDiag_bump (f : Fld) (n : Nat) : (s.bump f n).haltDiag = s.haltDiag := rfl
@[simp] theorem State.boot_bump (f : Fld) (n : Nat) : (s.bump f n).boot = s.boot := rfl
@[simp] theorem State.porches_bump (f : Fld) (n : Nat) : (s.bump f n).porches = s.porches := rfl
@[simp] theorem State.prepared_bump (f : Fld) (n : Nat) : (s.bump f n).prepared = s.prepared := rfl
@[simp] theorem State.evLostPend_bump (f : Fld) (n : Nat) : (s.bump f n).evLostPend = s.evLostPend := rfl
@[simp] theorem State.host_bump (f : Fld) (n : Nat) : (s.bump f n).host = s.host := rfl
@[simp] theorem State.pmem_bump (f : Fld) (n : Nat) : (s.bump f n).pmem = s.pmem := rfl
@[simp] theorem State.perr_bump (f : Fld) (n : Nat) : (s.bump f n).perr = s.perr := rfl
@[simp] theorem State.msix_bump (f : Fld) (n : Nat) : (s.bump f n).msix = s.msix := rfl
@[simp] theorem State.timeHi_bump (f : Fld) (n : Nat) : (s.bump f n).timeHi = s.timeHi := rfl
@[simp] theorem State.health_bump (f : Fld) (n : Nat) : (s.bump f n).health = s.health := rfl
@[simp] theorem State.geo_bump (f : Fld) (n : Nat) : (s.bump f n).geo = s.geo := rfl
@[simp] theorem State.cellar_bump (f : Fld) (n : Nat) : (s.bump f n).cellar = s.cellar := rfl
@[simp] theorem State.streams_bump (f : Fld) (n : Nat) : (s.bump f n).streams = s.streams := rfl
@[simp] theorem State.decomps_bump (f : Fld) (n : Nat) : (s.bump f n).decomps = s.decomps := rfl
@[simp] theorem State.lines_bump (f : Fld) (n : Nat) : (s.bump f n).lines = s.lines := rfl
@[simp] theorem State.encs_bump (f : Fld) (n : Nat) : (s.bump f n).encs = s.encs := rfl
@[simp] theorem State.tracks_bump (f : Fld) (n : Nat) : (s.bump f n).tracks = s.tracks := rfl
@[simp] theorem State.job_bump (f : Fld) (n : Nat) : (s.bump f n).job = s.job := rfl
@[simp] theorem State.gov_bump (f : Fld) (n : Nat) : (s.bump f n).gov = s.gov := rfl
@[simp] theorem State.waves_bump (f : Fld) (n : Nat) : (s.bump f n).waves = s.waves := rfl
@[simp] theorem State.waveOut_bump (f : Fld) (n : Nat) : (s.bump f n).waveOut = s.waveOut := rfl
@[simp] theorem State.ports_bump (f : Fld) (n : Nat) : (s.bump f n).ports = s.ports := rfl
@[simp] theorem State.watch_bump (f : Fld) (n : Nat) : (s.bump f n).watch = s.watch := rfl
@[simp] theorem State.therm_bump (f : Fld) (n : Nat) : (s.bump f n).therm = s.therm := rfl
@[simp] theorem State.power_bump (f : Fld) (n : Nat) : (s.bump f n).power = s.power := rfl
@[simp] theorem State.peal_bump (f : Fld) (n : Nat) : (s.bump f n).peal = s.peal := rfl
@[simp] theorem State.banks_bump (f : Fld) (n : Nat) : (s.bump f n).banks = s.banks := rfl
@[simp] theorem State.chans_bump (f : Fld) (n : Nat) : (s.bump f n).chans = s.chans := rfl
@[simp] theorem State.dwLast_bump (f : Fld) (n : Nat) : (s.bump f n).dwLast = s.dwLast := rfl
@[simp] theorem State.otp_bump (f : Fld) (n : Nat) : (s.bump f n).otp = s.otp := rfl
@[simp] theorem State.sent_bump (f : Fld) (n : Nat) : (s.bump f n).sent = s.sent := rfl
@[simp] theorem State.pending_bump (f : Fld) (n : Nat) : (s.bump f n).pending = s.pending := rfl

@[simp] theorem State.now_setBit (f : Fld) (k : Nat) (b : Bool) : (s.setBit f k b).now = s.now := rfl
@[simp] theorem State.clock_setBit (f : Fld) (k : Nat) (b : Bool) : (s.setBit f k b).clock = s.clock := rfl
@[simp] theorem State.free_setBit (f : Fld) (k : Nat) (b : Bool) : (s.setBit f k b).free = s.free := rfl
@[simp] theorem State.core_setBit (f : Fld) (k : Nat) (b : Bool) : (s.setBit f k b).core = s.core := rfl
@[simp] theorem State.mode_setBit (f : Fld) (k : Nat) (b : Bool) : (s.setBit f k b).mode = s.mode := rfl
@[simp] theorem State.committed_setBit (f : Fld) (k : Nat) (b : Bool) : (s.setBit f k b).committed = s.committed := rfl
@[simp] theorem State.haltCause_setBit (f : Fld) (k : Nat) (b : Bool) : (s.setBit f k b).haltCause = s.haltCause := rfl
@[simp] theorem State.haltDiag_setBit (f : Fld) (k : Nat) (b : Bool) : (s.setBit f k b).haltDiag = s.haltDiag := rfl
@[simp] theorem State.boot_setBit (f : Fld) (k : Nat) (b : Bool) : (s.setBit f k b).boot = s.boot := rfl
@[simp] theorem State.porches_setBit (f : Fld) (k : Nat) (b : Bool) : (s.setBit f k b).porches = s.porches := rfl
@[simp] theorem State.prepared_setBit (f : Fld) (k : Nat) (b : Bool) : (s.setBit f k b).prepared = s.prepared := rfl
@[simp] theorem State.evLostPend_setBit (f : Fld) (k : Nat) (b : Bool) : (s.setBit f k b).evLostPend = s.evLostPend := rfl
@[simp] theorem State.host_setBit (f : Fld) (k : Nat) (b : Bool) : (s.setBit f k b).host = s.host := rfl
@[simp] theorem State.pmem_setBit (f : Fld) (k : Nat) (b : Bool) : (s.setBit f k b).pmem = s.pmem := rfl
@[simp] theorem State.perr_setBit (f : Fld) (k : Nat) (b : Bool) : (s.setBit f k b).perr = s.perr := rfl
@[simp] theorem State.msix_setBit (f : Fld) (k : Nat) (b : Bool) : (s.setBit f k b).msix = s.msix := rfl
@[simp] theorem State.timeHi_setBit (f : Fld) (k : Nat) (b : Bool) : (s.setBit f k b).timeHi = s.timeHi := rfl
@[simp] theorem State.health_setBit (f : Fld) (k : Nat) (b : Bool) : (s.setBit f k b).health = s.health := rfl
@[simp] theorem State.geo_setBit (f : Fld) (k : Nat) (b : Bool) : (s.setBit f k b).geo = s.geo := rfl
@[simp] theorem State.cellar_setBit (f : Fld) (k : Nat) (b : Bool) : (s.setBit f k b).cellar = s.cellar := rfl
@[simp] theorem State.streams_setBit (f : Fld) (k : Nat) (b : Bool) : (s.setBit f k b).streams = s.streams := rfl
@[simp] theorem State.decomps_setBit (f : Fld) (k : Nat) (b : Bool) : (s.setBit f k b).decomps = s.decomps := rfl
@[simp] theorem State.lines_setBit (f : Fld) (k : Nat) (b : Bool) : (s.setBit f k b).lines = s.lines := rfl
@[simp] theorem State.encs_setBit (f : Fld) (k : Nat) (b : Bool) : (s.setBit f k b).encs = s.encs := rfl
@[simp] theorem State.tracks_setBit (f : Fld) (k : Nat) (b : Bool) : (s.setBit f k b).tracks = s.tracks := rfl
@[simp] theorem State.job_setBit (f : Fld) (k : Nat) (b : Bool) : (s.setBit f k b).job = s.job := rfl
@[simp] theorem State.gov_setBit (f : Fld) (k : Nat) (b : Bool) : (s.setBit f k b).gov = s.gov := rfl
@[simp] theorem State.waves_setBit (f : Fld) (k : Nat) (b : Bool) : (s.setBit f k b).waves = s.waves := rfl
@[simp] theorem State.waveOut_setBit (f : Fld) (k : Nat) (b : Bool) : (s.setBit f k b).waveOut = s.waveOut := rfl
@[simp] theorem State.ports_setBit (f : Fld) (k : Nat) (b : Bool) : (s.setBit f k b).ports = s.ports := rfl
@[simp] theorem State.watch_setBit (f : Fld) (k : Nat) (b : Bool) : (s.setBit f k b).watch = s.watch := rfl
@[simp] theorem State.therm_setBit (f : Fld) (k : Nat) (b : Bool) : (s.setBit f k b).therm = s.therm := rfl
@[simp] theorem State.power_setBit (f : Fld) (k : Nat) (b : Bool) : (s.setBit f k b).power = s.power := rfl
@[simp] theorem State.peal_setBit (f : Fld) (k : Nat) (b : Bool) : (s.setBit f k b).peal = s.peal := rfl
@[simp] theorem State.banks_setBit (f : Fld) (k : Nat) (b : Bool) : (s.setBit f k b).banks = s.banks := rfl
@[simp] theorem State.chans_setBit (f : Fld) (k : Nat) (b : Bool) : (s.setBit f k b).chans = s.chans := rfl
@[simp] theorem State.dwLast_setBit (f : Fld) (k : Nat) (b : Bool) : (s.setBit f k b).dwLast = s.dwLast := rfl
@[simp] theorem State.otp_setBit (f : Fld) (k : Nat) (b : Bool) : (s.setBit f k b).otp = s.otp := rfl
@[simp] theorem State.sent_setBit (f : Fld) (k : Nat) (b : Bool) : (s.setBit f k b).sent = s.sent := rfl
@[simp] theorem State.pending_setBit (f : Fld) (k : Nat) (b : Bool) : (s.setBit f k b).pending = s.pending := rfl

@[simp] theorem State.now_emit (o : Out) : (s.emit o).now = s.now := rfl
@[simp] theorem State.clock_emit (o : Out) : (s.emit o).clock = s.clock := rfl
@[simp] theorem State.free_emit (o : Out) : (s.emit o).free = s.free := rfl
@[simp] theorem State.core_emit (o : Out) : (s.emit o).core = s.core := rfl
@[simp] theorem State.regs_emit (o : Out) : (s.emit o).regs = s.regs := rfl
@[simp] theorem State.mode_emit (o : Out) : (s.emit o).mode = s.mode := rfl
@[simp] theorem State.committed_emit (o : Out) : (s.emit o).committed = s.committed := rfl
@[simp] theorem State.haltCause_emit (o : Out) : (s.emit o).haltCause = s.haltCause := rfl
@[simp] theorem State.haltDiag_emit (o : Out) : (s.emit o).haltDiag = s.haltDiag := rfl
@[simp] theorem State.boot_emit (o : Out) : (s.emit o).boot = s.boot := rfl
@[simp] theorem State.porches_emit (o : Out) : (s.emit o).porches = s.porches := rfl
@[simp] theorem State.prepared_emit (o : Out) : (s.emit o).prepared = s.prepared := rfl
@[simp] theorem State.evLostPend_emit (o : Out) : (s.emit o).evLostPend = s.evLostPend := rfl
@[simp] theorem State.host_emit (o : Out) : (s.emit o).host = s.host := rfl
@[simp] theorem State.pmem_emit (o : Out) : (s.emit o).pmem = s.pmem := rfl
@[simp] theorem State.perr_emit (o : Out) : (s.emit o).perr = s.perr := rfl
@[simp] theorem State.msix_emit (o : Out) : (s.emit o).msix = s.msix := rfl
@[simp] theorem State.timeHi_emit (o : Out) : (s.emit o).timeHi = s.timeHi := rfl
@[simp] theorem State.health_emit (o : Out) : (s.emit o).health = s.health := rfl
@[simp] theorem State.geo_emit (o : Out) : (s.emit o).geo = s.geo := rfl
@[simp] theorem State.cellar_emit (o : Out) : (s.emit o).cellar = s.cellar := rfl
@[simp] theorem State.streams_emit (o : Out) : (s.emit o).streams = s.streams := rfl
@[simp] theorem State.decomps_emit (o : Out) : (s.emit o).decomps = s.decomps := rfl
@[simp] theorem State.lines_emit (o : Out) : (s.emit o).lines = s.lines := rfl
@[simp] theorem State.encs_emit (o : Out) : (s.emit o).encs = s.encs := rfl
@[simp] theorem State.tracks_emit (o : Out) : (s.emit o).tracks = s.tracks := rfl
@[simp] theorem State.job_emit (o : Out) : (s.emit o).job = s.job := rfl
@[simp] theorem State.gov_emit (o : Out) : (s.emit o).gov = s.gov := rfl
@[simp] theorem State.waves_emit (o : Out) : (s.emit o).waves = s.waves := rfl
@[simp] theorem State.waveOut_emit (o : Out) : (s.emit o).waveOut = s.waveOut := rfl
@[simp] theorem State.ports_emit (o : Out) : (s.emit o).ports = s.ports := rfl
@[simp] theorem State.watch_emit (o : Out) : (s.emit o).watch = s.watch := rfl
@[simp] theorem State.therm_emit (o : Out) : (s.emit o).therm = s.therm := rfl
@[simp] theorem State.power_emit (o : Out) : (s.emit o).power = s.power := rfl
@[simp] theorem State.peal_emit (o : Out) : (s.emit o).peal = s.peal := rfl
@[simp] theorem State.banks_emit (o : Out) : (s.emit o).banks = s.banks := rfl
@[simp] theorem State.chans_emit (o : Out) : (s.emit o).chans = s.chans := rfl
@[simp] theorem State.dwLast_emit (o : Out) : (s.emit o).dwLast = s.dwLast := rfl
@[simp] theorem State.otp_emit (o : Out) : (s.emit o).otp = s.otp := rfl
@[simp] theorem State.pending_emit (o : Out) : (s.emit o).pending = s.pending := rfl

@[simp] theorem State.now_setCodeword (b : Nat) (w : Codeword) : (s.setCodeword b w).now = s.now := rfl
@[simp] theorem State.clock_setCodeword (b : Nat) (w : Codeword) : (s.setCodeword b w).clock = s.clock := rfl
@[simp] theorem State.free_setCodeword (b : Nat) (w : Codeword) : (s.setCodeword b w).free = s.free := rfl
@[simp] theorem State.core_setCodeword (b : Nat) (w : Codeword) : (s.setCodeword b w).core = s.core := rfl
@[simp] theorem State.regs_setCodeword (b : Nat) (w : Codeword) : (s.setCodeword b w).regs = s.regs := rfl
@[simp] theorem State.mode_setCodeword (b : Nat) (w : Codeword) : (s.setCodeword b w).mode = s.mode := rfl
@[simp] theorem State.committed_setCodeword (b : Nat) (w : Codeword) : (s.setCodeword b w).committed = s.committed := rfl
@[simp] theorem State.haltCause_setCodeword (b : Nat) (w : Codeword) : (s.setCodeword b w).haltCause = s.haltCause := rfl
@[simp] theorem State.haltDiag_setCodeword (b : Nat) (w : Codeword) : (s.setCodeword b w).haltDiag = s.haltDiag := rfl
@[simp] theorem State.boot_setCodeword (b : Nat) (w : Codeword) : (s.setCodeword b w).boot = s.boot := rfl
@[simp] theorem State.porches_setCodeword (b : Nat) (w : Codeword) : (s.setCodeword b w).porches = s.porches := rfl
@[simp] theorem State.prepared_setCodeword (b : Nat) (w : Codeword) : (s.setCodeword b w).prepared = s.prepared := rfl
@[simp] theorem State.evLostPend_setCodeword (b : Nat) (w : Codeword) : (s.setCodeword b w).evLostPend = s.evLostPend := rfl
@[simp] theorem State.host_setCodeword (b : Nat) (w : Codeword) : (s.setCodeword b w).host = s.host := rfl
@[simp] theorem State.pmem_setCodeword (b : Nat) (w : Codeword) : (s.setCodeword b w).pmem = s.pmem := rfl
@[simp] theorem State.perr_setCodeword (b : Nat) (w : Codeword) : (s.setCodeword b w).perr = s.perr := rfl
@[simp] theorem State.msix_setCodeword (b : Nat) (w : Codeword) : (s.setCodeword b w).msix = s.msix := rfl
@[simp] theorem State.timeHi_setCodeword (b : Nat) (w : Codeword) : (s.setCodeword b w).timeHi = s.timeHi := rfl
@[simp] theorem State.health_setCodeword (b : Nat) (w : Codeword) : (s.setCodeword b w).health = s.health := rfl
@[simp] theorem State.geo_setCodeword (b : Nat) (w : Codeword) : (s.setCodeword b w).geo = s.geo := rfl
@[simp] theorem State.streams_setCodeword (b : Nat) (w : Codeword) : (s.setCodeword b w).streams = s.streams := rfl
@[simp] theorem State.decomps_setCodeword (b : Nat) (w : Codeword) : (s.setCodeword b w).decomps = s.decomps := rfl
@[simp] theorem State.lines_setCodeword (b : Nat) (w : Codeword) : (s.setCodeword b w).lines = s.lines := rfl
@[simp] theorem State.encs_setCodeword (b : Nat) (w : Codeword) : (s.setCodeword b w).encs = s.encs := rfl
@[simp] theorem State.tracks_setCodeword (b : Nat) (w : Codeword) : (s.setCodeword b w).tracks = s.tracks := rfl
@[simp] theorem State.job_setCodeword (b : Nat) (w : Codeword) : (s.setCodeword b w).job = s.job := rfl
@[simp] theorem State.gov_setCodeword (b : Nat) (w : Codeword) : (s.setCodeword b w).gov = s.gov := rfl
@[simp] theorem State.waves_setCodeword (b : Nat) (w : Codeword) : (s.setCodeword b w).waves = s.waves := rfl
@[simp] theorem State.waveOut_setCodeword (b : Nat) (w : Codeword) : (s.setCodeword b w).waveOut = s.waveOut := rfl
@[simp] theorem State.ports_setCodeword (b : Nat) (w : Codeword) : (s.setCodeword b w).ports = s.ports := rfl
@[simp] theorem State.watch_setCodeword (b : Nat) (w : Codeword) : (s.setCodeword b w).watch = s.watch := rfl
@[simp] theorem State.therm_setCodeword (b : Nat) (w : Codeword) : (s.setCodeword b w).therm = s.therm := rfl
@[simp] theorem State.power_setCodeword (b : Nat) (w : Codeword) : (s.setCodeword b w).power = s.power := rfl
@[simp] theorem State.peal_setCodeword (b : Nat) (w : Codeword) : (s.setCodeword b w).peal = s.peal := rfl
@[simp] theorem State.banks_setCodeword (b : Nat) (w : Codeword) : (s.setCodeword b w).banks = s.banks := rfl
@[simp] theorem State.chans_setCodeword (b : Nat) (w : Codeword) : (s.setCodeword b w).chans = s.chans := rfl
@[simp] theorem State.dwLast_setCodeword (b : Nat) (w : Codeword) : (s.setCodeword b w).dwLast = s.dwLast := rfl
@[simp] theorem State.otp_setCodeword (b : Nat) (w : Codeword) : (s.setCodeword b w).otp = s.otp := rfl
@[simp] theorem State.sent_setCodeword (b : Nat) (w : Codeword) : (s.setCodeword b w).sent = s.sent := rfl
@[simp] theorem State.pending_setCodeword (b : Nat) (w : Codeword) : (s.setCodeword b w).pending = s.pending := rfl

@[simp] theorem State.now_setChan (c : Nat) (x : Chan) : (s.setChan c x).now = s.now := rfl
@[simp] theorem State.clock_setChan (c : Nat) (x : Chan) : (s.setChan c x).clock = s.clock := rfl
@[simp] theorem State.free_setChan (c : Nat) (x : Chan) : (s.setChan c x).free = s.free := rfl
@[simp] theorem State.core_setChan (c : Nat) (x : Chan) : (s.setChan c x).core = s.core := rfl
@[simp] theorem State.regs_setChan (c : Nat) (x : Chan) : (s.setChan c x).regs = s.regs := rfl
@[simp] theorem State.mode_setChan (c : Nat) (x : Chan) : (s.setChan c x).mode = s.mode := rfl
@[simp] theorem State.committed_setChan (c : Nat) (x : Chan) : (s.setChan c x).committed = s.committed := rfl
@[simp] theorem State.haltCause_setChan (c : Nat) (x : Chan) : (s.setChan c x).haltCause = s.haltCause := rfl
@[simp] theorem State.haltDiag_setChan (c : Nat) (x : Chan) : (s.setChan c x).haltDiag = s.haltDiag := rfl
@[simp] theorem State.boot_setChan (c : Nat) (x : Chan) : (s.setChan c x).boot = s.boot := rfl
@[simp] theorem State.porches_setChan (c : Nat) (x : Chan) : (s.setChan c x).porches = s.porches := rfl
@[simp] theorem State.prepared_setChan (c : Nat) (x : Chan) : (s.setChan c x).prepared = s.prepared := rfl
@[simp] theorem State.evLostPend_setChan (c : Nat) (x : Chan) : (s.setChan c x).evLostPend = s.evLostPend := rfl
@[simp] theorem State.host_setChan (c : Nat) (x : Chan) : (s.setChan c x).host = s.host := rfl
@[simp] theorem State.pmem_setChan (c : Nat) (x : Chan) : (s.setChan c x).pmem = s.pmem := rfl
@[simp] theorem State.perr_setChan (c : Nat) (x : Chan) : (s.setChan c x).perr = s.perr := rfl
@[simp] theorem State.msix_setChan (c : Nat) (x : Chan) : (s.setChan c x).msix = s.msix := rfl
@[simp] theorem State.timeHi_setChan (c : Nat) (x : Chan) : (s.setChan c x).timeHi = s.timeHi := rfl
@[simp] theorem State.health_setChan (c : Nat) (x : Chan) : (s.setChan c x).health = s.health := rfl
@[simp] theorem State.geo_setChan (c : Nat) (x : Chan) : (s.setChan c x).geo = s.geo := rfl
@[simp] theorem State.streams_setChan (c : Nat) (x : Chan) : (s.setChan c x).streams = s.streams := rfl
@[simp] theorem State.decomps_setChan (c : Nat) (x : Chan) : (s.setChan c x).decomps = s.decomps := rfl
@[simp] theorem State.lines_setChan (c : Nat) (x : Chan) : (s.setChan c x).lines = s.lines := rfl
@[simp] theorem State.encs_setChan (c : Nat) (x : Chan) : (s.setChan c x).encs = s.encs := rfl
@[simp] theorem State.tracks_setChan (c : Nat) (x : Chan) : (s.setChan c x).tracks = s.tracks := rfl
@[simp] theorem State.job_setChan (c : Nat) (x : Chan) : (s.setChan c x).job = s.job := rfl
@[simp] theorem State.gov_setChan (c : Nat) (x : Chan) : (s.setChan c x).gov = s.gov := rfl
@[simp] theorem State.waves_setChan (c : Nat) (x : Chan) : (s.setChan c x).waves = s.waves := rfl
@[simp] theorem State.waveOut_setChan (c : Nat) (x : Chan) : (s.setChan c x).waveOut = s.waveOut := rfl
@[simp] theorem State.ports_setChan (c : Nat) (x : Chan) : (s.setChan c x).ports = s.ports := rfl
@[simp] theorem State.watch_setChan (c : Nat) (x : Chan) : (s.setChan c x).watch = s.watch := rfl
@[simp] theorem State.therm_setChan (c : Nat) (x : Chan) : (s.setChan c x).therm = s.therm := rfl
@[simp] theorem State.power_setChan (c : Nat) (x : Chan) : (s.setChan c x).power = s.power := rfl
@[simp] theorem State.peal_setChan (c : Nat) (x : Chan) : (s.setChan c x).peal = s.peal := rfl
@[simp] theorem State.banks_setChan (c : Nat) (x : Chan) : (s.setChan c x).banks = s.banks := rfl
@[simp] theorem State.chans_setChan (c : Nat) (x : Chan) : (s.setChan c x).chans = s.chans := rfl
@[simp] theorem State.dwLast_setChan (c : Nat) (x : Chan) : (s.setChan c x).dwLast = s.dwLast := rfl
@[simp] theorem State.otp_setChan (c : Nat) (x : Chan) : (s.setChan c x).otp = s.otp := rfl
@[simp] theorem State.sent_setChan (c : Nat) (x : Chan) : (s.setChan c x).sent = s.sent := rfl
@[simp] theorem State.pending_setChan (c : Nat) (x : Chan) : (s.setChan c x).pending = s.pending := rfl

@[simp] theorem State.now_setGeo (g : Geo) : (s.setGeo g).now = s.now := rfl
@[simp] theorem State.clock_setGeo (g : Geo) : (s.setGeo g).clock = s.clock := rfl
@[simp] theorem State.free_setGeo (g : Geo) : (s.setGeo g).free = s.free := rfl
@[simp] theorem State.core_setGeo (g : Geo) : (s.setGeo g).core = s.core := rfl
@[simp] theorem State.regs_setGeo (g : Geo) : (s.setGeo g).regs = s.regs := rfl
@[simp] theorem State.mode_setGeo (g : Geo) : (s.setGeo g).mode = s.mode := rfl
@[simp] theorem State.committed_setGeo (g : Geo) : (s.setGeo g).committed = s.committed := rfl
@[simp] theorem State.haltCause_setGeo (g : Geo) : (s.setGeo g).haltCause = s.haltCause := rfl
@[simp] theorem State.haltDiag_setGeo (g : Geo) : (s.setGeo g).haltDiag = s.haltDiag := rfl
@[simp] theorem State.boot_setGeo (g : Geo) : (s.setGeo g).boot = s.boot := rfl
@[simp] theorem State.porches_setGeo (g : Geo) : (s.setGeo g).porches = s.porches := rfl
@[simp] theorem State.prepared_setGeo (g : Geo) : (s.setGeo g).prepared = s.prepared := rfl
@[simp] theorem State.evLostPend_setGeo (g : Geo) : (s.setGeo g).evLostPend = s.evLostPend := rfl
@[simp] theorem State.host_setGeo (g : Geo) : (s.setGeo g).host = s.host := rfl
@[simp] theorem State.pmem_setGeo (g : Geo) : (s.setGeo g).pmem = s.pmem := rfl
@[simp] theorem State.perr_setGeo (g : Geo) : (s.setGeo g).perr = s.perr := rfl
@[simp] theorem State.msix_setGeo (g : Geo) : (s.setGeo g).msix = s.msix := rfl
@[simp] theorem State.timeHi_setGeo (g : Geo) : (s.setGeo g).timeHi = s.timeHi := rfl
@[simp] theorem State.health_setGeo (g : Geo) : (s.setGeo g).health = s.health := rfl
@[simp] theorem State.cellar_setGeo (g : Geo) : (s.setGeo g).cellar = s.cellar := rfl
@[simp] theorem State.streams_setGeo (g : Geo) : (s.setGeo g).streams = s.streams := rfl
@[simp] theorem State.decomps_setGeo (g : Geo) : (s.setGeo g).decomps = s.decomps := rfl
@[simp] theorem State.lines_setGeo (g : Geo) : (s.setGeo g).lines = s.lines := rfl
@[simp] theorem State.encs_setGeo (g : Geo) : (s.setGeo g).encs = s.encs := rfl
@[simp] theorem State.tracks_setGeo (g : Geo) : (s.setGeo g).tracks = s.tracks := rfl
@[simp] theorem State.job_setGeo (g : Geo) : (s.setGeo g).job = s.job := rfl
@[simp] theorem State.gov_setGeo (g : Geo) : (s.setGeo g).gov = s.gov := rfl
@[simp] theorem State.waves_setGeo (g : Geo) : (s.setGeo g).waves = s.waves := rfl
@[simp] theorem State.waveOut_setGeo (g : Geo) : (s.setGeo g).waveOut = s.waveOut := rfl
@[simp] theorem State.ports_setGeo (g : Geo) : (s.setGeo g).ports = s.ports := rfl
@[simp] theorem State.watch_setGeo (g : Geo) : (s.setGeo g).watch = s.watch := rfl
@[simp] theorem State.therm_setGeo (g : Geo) : (s.setGeo g).therm = s.therm := rfl
@[simp] theorem State.power_setGeo (g : Geo) : (s.setGeo g).power = s.power := rfl
@[simp] theorem State.peal_setGeo (g : Geo) : (s.setGeo g).peal = s.peal := rfl
@[simp] theorem State.banks_setGeo (g : Geo) : (s.setGeo g).banks = s.banks := rfl
@[simp] theorem State.chans_setGeo (g : Geo) : (s.setGeo g).chans = s.chans := rfl
@[simp] theorem State.dwLast_setGeo (g : Geo) : (s.setGeo g).dwLast = s.dwLast := rfl
@[simp] theorem State.otp_setGeo (g : Geo) : (s.setGeo g).otp = s.otp := rfl
@[simp] theorem State.sent_setGeo (g : Geo) : (s.setGeo g).sent = s.sent := rfl
@[simp] theorem State.pending_setGeo (g : Geo) : (s.setGeo g).pending = s.pending := rfl

@[simp] theorem State.now_setStream (n : Nat) (x : Stream) : (s.setStream n x).now = s.now := rfl
@[simp] theorem State.clock_setStream (n : Nat) (x : Stream) : (s.setStream n x).clock = s.clock := rfl
@[simp] theorem State.free_setStream (n : Nat) (x : Stream) : (s.setStream n x).free = s.free := rfl
@[simp] theorem State.core_setStream (n : Nat) (x : Stream) : (s.setStream n x).core = s.core := rfl
@[simp] theorem State.regs_setStream (n : Nat) (x : Stream) : (s.setStream n x).regs = s.regs := rfl
@[simp] theorem State.mode_setStream (n : Nat) (x : Stream) : (s.setStream n x).mode = s.mode := rfl
@[simp] theorem State.committed_setStream (n : Nat) (x : Stream) : (s.setStream n x).committed = s.committed := rfl
@[simp] theorem State.haltCause_setStream (n : Nat) (x : Stream) : (s.setStream n x).haltCause = s.haltCause := rfl
@[simp] theorem State.haltDiag_setStream (n : Nat) (x : Stream) : (s.setStream n x).haltDiag = s.haltDiag := rfl
@[simp] theorem State.boot_setStream (n : Nat) (x : Stream) : (s.setStream n x).boot = s.boot := rfl
@[simp] theorem State.porches_setStream (n : Nat) (x : Stream) : (s.setStream n x).porches = s.porches := rfl
@[simp] theorem State.prepared_setStream (n : Nat) (x : Stream) : (s.setStream n x).prepared = s.prepared := rfl
@[simp] theorem State.evLostPend_setStream (n : Nat) (x : Stream) : (s.setStream n x).evLostPend = s.evLostPend := rfl
@[simp] theorem State.host_setStream (n : Nat) (x : Stream) : (s.setStream n x).host = s.host := rfl
@[simp] theorem State.pmem_setStream (n : Nat) (x : Stream) : (s.setStream n x).pmem = s.pmem := rfl
@[simp] theorem State.perr_setStream (n : Nat) (x : Stream) : (s.setStream n x).perr = s.perr := rfl
@[simp] theorem State.msix_setStream (n : Nat) (x : Stream) : (s.setStream n x).msix = s.msix := rfl
@[simp] theorem State.timeHi_setStream (n : Nat) (x : Stream) : (s.setStream n x).timeHi = s.timeHi := rfl
@[simp] theorem State.health_setStream (n : Nat) (x : Stream) : (s.setStream n x).health = s.health := rfl
@[simp] theorem State.geo_setStream (n : Nat) (x : Stream) : (s.setStream n x).geo = s.geo := rfl
@[simp] theorem State.cellar_setStream (n : Nat) (x : Stream) : (s.setStream n x).cellar = s.cellar := rfl
@[simp] theorem State.decomps_setStream (n : Nat) (x : Stream) : (s.setStream n x).decomps = s.decomps := rfl
@[simp] theorem State.lines_setStream (n : Nat) (x : Stream) : (s.setStream n x).lines = s.lines := rfl
@[simp] theorem State.encs_setStream (n : Nat) (x : Stream) : (s.setStream n x).encs = s.encs := rfl
@[simp] theorem State.tracks_setStream (n : Nat) (x : Stream) : (s.setStream n x).tracks = s.tracks := rfl
@[simp] theorem State.job_setStream (n : Nat) (x : Stream) : (s.setStream n x).job = s.job := rfl
@[simp] theorem State.gov_setStream (n : Nat) (x : Stream) : (s.setStream n x).gov = s.gov := rfl
@[simp] theorem State.waves_setStream (n : Nat) (x : Stream) : (s.setStream n x).waves = s.waves := rfl
@[simp] theorem State.waveOut_setStream (n : Nat) (x : Stream) : (s.setStream n x).waveOut = s.waveOut := rfl
@[simp] theorem State.ports_setStream (n : Nat) (x : Stream) : (s.setStream n x).ports = s.ports := rfl
@[simp] theorem State.watch_setStream (n : Nat) (x : Stream) : (s.setStream n x).watch = s.watch := rfl
@[simp] theorem State.therm_setStream (n : Nat) (x : Stream) : (s.setStream n x).therm = s.therm := rfl
@[simp] theorem State.power_setStream (n : Nat) (x : Stream) : (s.setStream n x).power = s.power := rfl
@[simp] theorem State.peal_setStream (n : Nat) (x : Stream) : (s.setStream n x).peal = s.peal := rfl
@[simp] theorem State.banks_setStream (n : Nat) (x : Stream) : (s.setStream n x).banks = s.banks := rfl
@[simp] theorem State.chans_setStream (n : Nat) (x : Stream) : (s.setStream n x).chans = s.chans := rfl
@[simp] theorem State.dwLast_setStream (n : Nat) (x : Stream) : (s.setStream n x).dwLast = s.dwLast := rfl
@[simp] theorem State.otp_setStream (n : Nat) (x : Stream) : (s.setStream n x).otp = s.otp := rfl
@[simp] theorem State.sent_setStream (n : Nat) (x : Stream) : (s.setStream n x).sent = s.sent := rfl
@[simp] theorem State.pending_setStream (n : Nat) (x : Stream) : (s.setStream n x).pending = s.pending := rfl

@[simp] theorem State.now_setPlane (n p : Nat) (x : PlaneSt) : (s.setPlane n p x).now = s.now := rfl
@[simp] theorem State.clock_setPlane (n p : Nat) (x : PlaneSt) : (s.setPlane n p x).clock = s.clock := rfl
@[simp] theorem State.free_setPlane (n p : Nat) (x : PlaneSt) : (s.setPlane n p x).free = s.free := rfl
@[simp] theorem State.core_setPlane (n p : Nat) (x : PlaneSt) : (s.setPlane n p x).core = s.core := rfl
@[simp] theorem State.regs_setPlane (n p : Nat) (x : PlaneSt) : (s.setPlane n p x).regs = s.regs := rfl
@[simp] theorem State.mode_setPlane (n p : Nat) (x : PlaneSt) : (s.setPlane n p x).mode = s.mode := rfl
@[simp] theorem State.committed_setPlane (n p : Nat) (x : PlaneSt) : (s.setPlane n p x).committed = s.committed := rfl
@[simp] theorem State.haltCause_setPlane (n p : Nat) (x : PlaneSt) : (s.setPlane n p x).haltCause = s.haltCause := rfl
@[simp] theorem State.haltDiag_setPlane (n p : Nat) (x : PlaneSt) : (s.setPlane n p x).haltDiag = s.haltDiag := rfl
@[simp] theorem State.boot_setPlane (n p : Nat) (x : PlaneSt) : (s.setPlane n p x).boot = s.boot := rfl
@[simp] theorem State.porches_setPlane (n p : Nat) (x : PlaneSt) : (s.setPlane n p x).porches = s.porches := rfl
@[simp] theorem State.prepared_setPlane (n p : Nat) (x : PlaneSt) : (s.setPlane n p x).prepared = s.prepared := rfl
@[simp] theorem State.evLostPend_setPlane (n p : Nat) (x : PlaneSt) : (s.setPlane n p x).evLostPend = s.evLostPend := rfl
@[simp] theorem State.host_setPlane (n p : Nat) (x : PlaneSt) : (s.setPlane n p x).host = s.host := rfl
@[simp] theorem State.pmem_setPlane (n p : Nat) (x : PlaneSt) : (s.setPlane n p x).pmem = s.pmem := rfl
@[simp] theorem State.perr_setPlane (n p : Nat) (x : PlaneSt) : (s.setPlane n p x).perr = s.perr := rfl
@[simp] theorem State.msix_setPlane (n p : Nat) (x : PlaneSt) : (s.setPlane n p x).msix = s.msix := rfl
@[simp] theorem State.timeHi_setPlane (n p : Nat) (x : PlaneSt) : (s.setPlane n p x).timeHi = s.timeHi := rfl
@[simp] theorem State.health_setPlane (n p : Nat) (x : PlaneSt) : (s.setPlane n p x).health = s.health := rfl
@[simp] theorem State.geo_setPlane (n p : Nat) (x : PlaneSt) : (s.setPlane n p x).geo = s.geo := rfl
@[simp] theorem State.cellar_setPlane (n p : Nat) (x : PlaneSt) : (s.setPlane n p x).cellar = s.cellar := rfl
@[simp] theorem State.decomps_setPlane (n p : Nat) (x : PlaneSt) : (s.setPlane n p x).decomps = s.decomps := rfl
@[simp] theorem State.lines_setPlane (n p : Nat) (x : PlaneSt) : (s.setPlane n p x).lines = s.lines := rfl
@[simp] theorem State.encs_setPlane (n p : Nat) (x : PlaneSt) : (s.setPlane n p x).encs = s.encs := rfl
@[simp] theorem State.tracks_setPlane (n p : Nat) (x : PlaneSt) : (s.setPlane n p x).tracks = s.tracks := rfl
@[simp] theorem State.job_setPlane (n p : Nat) (x : PlaneSt) : (s.setPlane n p x).job = s.job := rfl
@[simp] theorem State.gov_setPlane (n p : Nat) (x : PlaneSt) : (s.setPlane n p x).gov = s.gov := rfl
@[simp] theorem State.waves_setPlane (n p : Nat) (x : PlaneSt) : (s.setPlane n p x).waves = s.waves := rfl
@[simp] theorem State.waveOut_setPlane (n p : Nat) (x : PlaneSt) : (s.setPlane n p x).waveOut = s.waveOut := rfl
@[simp] theorem State.ports_setPlane (n p : Nat) (x : PlaneSt) : (s.setPlane n p x).ports = s.ports := rfl
@[simp] theorem State.watch_setPlane (n p : Nat) (x : PlaneSt) : (s.setPlane n p x).watch = s.watch := rfl
@[simp] theorem State.therm_setPlane (n p : Nat) (x : PlaneSt) : (s.setPlane n p x).therm = s.therm := rfl
@[simp] theorem State.power_setPlane (n p : Nat) (x : PlaneSt) : (s.setPlane n p x).power = s.power := rfl
@[simp] theorem State.peal_setPlane (n p : Nat) (x : PlaneSt) : (s.setPlane n p x).peal = s.peal := rfl
@[simp] theorem State.banks_setPlane (n p : Nat) (x : PlaneSt) : (s.setPlane n p x).banks = s.banks := rfl
@[simp] theorem State.chans_setPlane (n p : Nat) (x : PlaneSt) : (s.setPlane n p x).chans = s.chans := rfl
@[simp] theorem State.dwLast_setPlane (n p : Nat) (x : PlaneSt) : (s.setPlane n p x).dwLast = s.dwLast := rfl
@[simp] theorem State.otp_setPlane (n p : Nat) (x : PlaneSt) : (s.setPlane n p x).otp = s.otp := rfl
@[simp] theorem State.sent_setPlane (n p : Nat) (x : PlaneSt) : (s.setPlane n p x).sent = s.sent := rfl
@[simp] theorem State.pending_setPlane (n p : Nat) (x : PlaneSt) : (s.setPlane n p x).pending = s.pending := rfl

@[simp] theorem State.now_setLinePlane (p : Nat) (x : LinePlane) : (s.setLinePlane p x).now = s.now := rfl
@[simp] theorem State.clock_setLinePlane (p : Nat) (x : LinePlane) : (s.setLinePlane p x).clock = s.clock := rfl
@[simp] theorem State.free_setLinePlane (p : Nat) (x : LinePlane) : (s.setLinePlane p x).free = s.free := rfl
@[simp] theorem State.core_setLinePlane (p : Nat) (x : LinePlane) : (s.setLinePlane p x).core = s.core := rfl
@[simp] theorem State.regs_setLinePlane (p : Nat) (x : LinePlane) : (s.setLinePlane p x).regs = s.regs := rfl
@[simp] theorem State.mode_setLinePlane (p : Nat) (x : LinePlane) : (s.setLinePlane p x).mode = s.mode := rfl
@[simp] theorem State.committed_setLinePlane (p : Nat) (x : LinePlane) : (s.setLinePlane p x).committed = s.committed := rfl
@[simp] theorem State.haltCause_setLinePlane (p : Nat) (x : LinePlane) : (s.setLinePlane p x).haltCause = s.haltCause := rfl
@[simp] theorem State.haltDiag_setLinePlane (p : Nat) (x : LinePlane) : (s.setLinePlane p x).haltDiag = s.haltDiag := rfl
@[simp] theorem State.boot_setLinePlane (p : Nat) (x : LinePlane) : (s.setLinePlane p x).boot = s.boot := rfl
@[simp] theorem State.porches_setLinePlane (p : Nat) (x : LinePlane) : (s.setLinePlane p x).porches = s.porches := rfl
@[simp] theorem State.prepared_setLinePlane (p : Nat) (x : LinePlane) : (s.setLinePlane p x).prepared = s.prepared := rfl
@[simp] theorem State.evLostPend_setLinePlane (p : Nat) (x : LinePlane) : (s.setLinePlane p x).evLostPend = s.evLostPend := rfl
@[simp] theorem State.host_setLinePlane (p : Nat) (x : LinePlane) : (s.setLinePlane p x).host = s.host := rfl
@[simp] theorem State.pmem_setLinePlane (p : Nat) (x : LinePlane) : (s.setLinePlane p x).pmem = s.pmem := rfl
@[simp] theorem State.perr_setLinePlane (p : Nat) (x : LinePlane) : (s.setLinePlane p x).perr = s.perr := rfl
@[simp] theorem State.msix_setLinePlane (p : Nat) (x : LinePlane) : (s.setLinePlane p x).msix = s.msix := rfl
@[simp] theorem State.timeHi_setLinePlane (p : Nat) (x : LinePlane) : (s.setLinePlane p x).timeHi = s.timeHi := rfl
@[simp] theorem State.health_setLinePlane (p : Nat) (x : LinePlane) : (s.setLinePlane p x).health = s.health := rfl
@[simp] theorem State.geo_setLinePlane (p : Nat) (x : LinePlane) : (s.setLinePlane p x).geo = s.geo := rfl
@[simp] theorem State.cellar_setLinePlane (p : Nat) (x : LinePlane) : (s.setLinePlane p x).cellar = s.cellar := rfl
@[simp] theorem State.streams_setLinePlane (p : Nat) (x : LinePlane) : (s.setLinePlane p x).streams = s.streams := rfl
@[simp] theorem State.decomps_setLinePlane (p : Nat) (x : LinePlane) : (s.setLinePlane p x).decomps = s.decomps := rfl
@[simp] theorem State.encs_setLinePlane (p : Nat) (x : LinePlane) : (s.setLinePlane p x).encs = s.encs := rfl
@[simp] theorem State.tracks_setLinePlane (p : Nat) (x : LinePlane) : (s.setLinePlane p x).tracks = s.tracks := rfl
@[simp] theorem State.job_setLinePlane (p : Nat) (x : LinePlane) : (s.setLinePlane p x).job = s.job := rfl
@[simp] theorem State.gov_setLinePlane (p : Nat) (x : LinePlane) : (s.setLinePlane p x).gov = s.gov := rfl
@[simp] theorem State.waves_setLinePlane (p : Nat) (x : LinePlane) : (s.setLinePlane p x).waves = s.waves := rfl
@[simp] theorem State.waveOut_setLinePlane (p : Nat) (x : LinePlane) : (s.setLinePlane p x).waveOut = s.waveOut := rfl
@[simp] theorem State.ports_setLinePlane (p : Nat) (x : LinePlane) : (s.setLinePlane p x).ports = s.ports := rfl
@[simp] theorem State.watch_setLinePlane (p : Nat) (x : LinePlane) : (s.setLinePlane p x).watch = s.watch := rfl
@[simp] theorem State.therm_setLinePlane (p : Nat) (x : LinePlane) : (s.setLinePlane p x).therm = s.therm := rfl
@[simp] theorem State.power_setLinePlane (p : Nat) (x : LinePlane) : (s.setLinePlane p x).power = s.power := rfl
@[simp] theorem State.peal_setLinePlane (p : Nat) (x : LinePlane) : (s.setLinePlane p x).peal = s.peal := rfl
@[simp] theorem State.banks_setLinePlane (p : Nat) (x : LinePlane) : (s.setLinePlane p x).banks = s.banks := rfl
@[simp] theorem State.chans_setLinePlane (p : Nat) (x : LinePlane) : (s.setLinePlane p x).chans = s.chans := rfl
@[simp] theorem State.dwLast_setLinePlane (p : Nat) (x : LinePlane) : (s.setLinePlane p x).dwLast = s.dwLast := rfl
@[simp] theorem State.otp_setLinePlane (p : Nat) (x : LinePlane) : (s.setLinePlane p x).otp = s.otp := rfl
@[simp] theorem State.sent_setLinePlane (p : Nat) (x : LinePlane) : (s.setLinePlane p x).sent = s.sent := rfl
@[simp] theorem State.pending_setLinePlane (p : Nat) (x : LinePlane) : (s.setLinePlane p x).pending = s.pending := rfl

@[simp] theorem State.now_setEnc (e : Nat) (x : Enc) : (s.setEnc e x).now = s.now := by simp [State.setEnc, State.set64]
@[simp] theorem State.clock_setEnc (e : Nat) (x : Enc) : (s.setEnc e x).clock = s.clock := by simp [State.setEnc, State.set64]
@[simp] theorem State.free_setEnc (e : Nat) (x : Enc) : (s.setEnc e x).free = s.free := by simp [State.setEnc, State.set64]
@[simp] theorem State.core_setEnc (e : Nat) (x : Enc) : (s.setEnc e x).core = s.core := by simp [State.setEnc, State.set64]
@[simp] theorem State.mode_setEnc (e : Nat) (x : Enc) : (s.setEnc e x).mode = s.mode := by simp [State.setEnc, State.set64]
@[simp] theorem State.committed_setEnc (e : Nat) (x : Enc) : (s.setEnc e x).committed = s.committed := by simp [State.setEnc, State.set64]
@[simp] theorem State.haltCause_setEnc (e : Nat) (x : Enc) : (s.setEnc e x).haltCause = s.haltCause := by simp [State.setEnc, State.set64]
@[simp] theorem State.haltDiag_setEnc (e : Nat) (x : Enc) : (s.setEnc e x).haltDiag = s.haltDiag := by simp [State.setEnc, State.set64]
@[simp] theorem State.boot_setEnc (e : Nat) (x : Enc) : (s.setEnc e x).boot = s.boot := by simp [State.setEnc, State.set64]
@[simp] theorem State.porches_setEnc (e : Nat) (x : Enc) : (s.setEnc e x).porches = s.porches := by simp [State.setEnc, State.set64]
@[simp] theorem State.prepared_setEnc (e : Nat) (x : Enc) : (s.setEnc e x).prepared = s.prepared := by simp [State.setEnc, State.set64]
@[simp] theorem State.evLostPend_setEnc (e : Nat) (x : Enc) : (s.setEnc e x).evLostPend = s.evLostPend := by simp [State.setEnc, State.set64]
@[simp] theorem State.host_setEnc (e : Nat) (x : Enc) : (s.setEnc e x).host = s.host := by simp [State.setEnc, State.set64]
@[simp] theorem State.pmem_setEnc (e : Nat) (x : Enc) : (s.setEnc e x).pmem = s.pmem := by simp [State.setEnc, State.set64]
@[simp] theorem State.perr_setEnc (e : Nat) (x : Enc) : (s.setEnc e x).perr = s.perr := by simp [State.setEnc, State.set64]
@[simp] theorem State.msix_setEnc (e : Nat) (x : Enc) : (s.setEnc e x).msix = s.msix := by simp [State.setEnc, State.set64]
@[simp] theorem State.timeHi_setEnc (e : Nat) (x : Enc) : (s.setEnc e x).timeHi = s.timeHi := by simp [State.setEnc, State.set64]
@[simp] theorem State.health_setEnc (e : Nat) (x : Enc) : (s.setEnc e x).health = s.health := by simp [State.setEnc, State.set64]
@[simp] theorem State.geo_setEnc (e : Nat) (x : Enc) : (s.setEnc e x).geo = s.geo := by simp [State.setEnc, State.set64]
@[simp] theorem State.cellar_setEnc (e : Nat) (x : Enc) : (s.setEnc e x).cellar = s.cellar := by simp [State.setEnc, State.set64]
@[simp] theorem State.streams_setEnc (e : Nat) (x : Enc) : (s.setEnc e x).streams = s.streams := by simp [State.setEnc, State.set64]
@[simp] theorem State.decomps_setEnc (e : Nat) (x : Enc) : (s.setEnc e x).decomps = s.decomps := by simp [State.setEnc, State.set64]
@[simp] theorem State.lines_setEnc (e : Nat) (x : Enc) : (s.setEnc e x).lines = s.lines := by simp [State.setEnc, State.set64]
@[simp] theorem State.tracks_setEnc (e : Nat) (x : Enc) : (s.setEnc e x).tracks = s.tracks := by simp [State.setEnc, State.set64]
@[simp] theorem State.job_setEnc (e : Nat) (x : Enc) : (s.setEnc e x).job = s.job := by simp [State.setEnc, State.set64]
@[simp] theorem State.gov_setEnc (e : Nat) (x : Enc) : (s.setEnc e x).gov = s.gov := by simp [State.setEnc, State.set64]
@[simp] theorem State.waves_setEnc (e : Nat) (x : Enc) : (s.setEnc e x).waves = s.waves := by simp [State.setEnc, State.set64]
@[simp] theorem State.waveOut_setEnc (e : Nat) (x : Enc) : (s.setEnc e x).waveOut = s.waveOut := by simp [State.setEnc, State.set64]
@[simp] theorem State.ports_setEnc (e : Nat) (x : Enc) : (s.setEnc e x).ports = s.ports := by simp [State.setEnc, State.set64]
@[simp] theorem State.watch_setEnc (e : Nat) (x : Enc) : (s.setEnc e x).watch = s.watch := by simp [State.setEnc, State.set64]
@[simp] theorem State.therm_setEnc (e : Nat) (x : Enc) : (s.setEnc e x).therm = s.therm := by simp [State.setEnc, State.set64]
@[simp] theorem State.power_setEnc (e : Nat) (x : Enc) : (s.setEnc e x).power = s.power := by simp [State.setEnc, State.set64]
@[simp] theorem State.peal_setEnc (e : Nat) (x : Enc) : (s.setEnc e x).peal = s.peal := by simp [State.setEnc, State.set64]
@[simp] theorem State.banks_setEnc (e : Nat) (x : Enc) : (s.setEnc e x).banks = s.banks := by simp [State.setEnc, State.set64]
@[simp] theorem State.chans_setEnc (e : Nat) (x : Enc) : (s.setEnc e x).chans = s.chans := by simp [State.setEnc, State.set64]
@[simp] theorem State.dwLast_setEnc (e : Nat) (x : Enc) : (s.setEnc e x).dwLast = s.dwLast := by simp [State.setEnc, State.set64]
@[simp] theorem State.otp_setEnc (e : Nat) (x : Enc) : (s.setEnc e x).otp = s.otp := by simp [State.setEnc, State.set64]
@[simp] theorem State.sent_setEnc (e : Nat) (x : Enc) : (s.setEnc e x).sent = s.sent := by simp [State.setEnc, State.set64]
@[simp] theorem State.pending_setEnc (e : Nat) (x : Enc) : (s.setEnc e x).pending = s.pending := by simp [State.setEnc, State.set64]

@[simp] theorem State.now_setTrack (t : Nat) (x : Track) : (s.setTrack t x).now = s.now := rfl
@[simp] theorem State.clock_setTrack (t : Nat) (x : Track) : (s.setTrack t x).clock = s.clock := rfl
@[simp] theorem State.free_setTrack (t : Nat) (x : Track) : (s.setTrack t x).free = s.free := rfl
@[simp] theorem State.core_setTrack (t : Nat) (x : Track) : (s.setTrack t x).core = s.core := rfl
@[simp] theorem State.mode_setTrack (t : Nat) (x : Track) : (s.setTrack t x).mode = s.mode := rfl
@[simp] theorem State.committed_setTrack (t : Nat) (x : Track) : (s.setTrack t x).committed = s.committed := rfl
@[simp] theorem State.haltCause_setTrack (t : Nat) (x : Track) : (s.setTrack t x).haltCause = s.haltCause := rfl
@[simp] theorem State.haltDiag_setTrack (t : Nat) (x : Track) : (s.setTrack t x).haltDiag = s.haltDiag := rfl
@[simp] theorem State.boot_setTrack (t : Nat) (x : Track) : (s.setTrack t x).boot = s.boot := rfl
@[simp] theorem State.porches_setTrack (t : Nat) (x : Track) : (s.setTrack t x).porches = s.porches := rfl
@[simp] theorem State.prepared_setTrack (t : Nat) (x : Track) : (s.setTrack t x).prepared = s.prepared := rfl
@[simp] theorem State.evLostPend_setTrack (t : Nat) (x : Track) : (s.setTrack t x).evLostPend = s.evLostPend := rfl
@[simp] theorem State.host_setTrack (t : Nat) (x : Track) : (s.setTrack t x).host = s.host := rfl
@[simp] theorem State.pmem_setTrack (t : Nat) (x : Track) : (s.setTrack t x).pmem = s.pmem := rfl
@[simp] theorem State.perr_setTrack (t : Nat) (x : Track) : (s.setTrack t x).perr = s.perr := rfl
@[simp] theorem State.msix_setTrack (t : Nat) (x : Track) : (s.setTrack t x).msix = s.msix := rfl
@[simp] theorem State.timeHi_setTrack (t : Nat) (x : Track) : (s.setTrack t x).timeHi = s.timeHi := rfl
@[simp] theorem State.health_setTrack (t : Nat) (x : Track) : (s.setTrack t x).health = s.health := rfl
@[simp] theorem State.geo_setTrack (t : Nat) (x : Track) : (s.setTrack t x).geo = s.geo := rfl
@[simp] theorem State.cellar_setTrack (t : Nat) (x : Track) : (s.setTrack t x).cellar = s.cellar := rfl
@[simp] theorem State.streams_setTrack (t : Nat) (x : Track) : (s.setTrack t x).streams = s.streams := rfl
@[simp] theorem State.decomps_setTrack (t : Nat) (x : Track) : (s.setTrack t x).decomps = s.decomps := rfl
@[simp] theorem State.lines_setTrack (t : Nat) (x : Track) : (s.setTrack t x).lines = s.lines := rfl
@[simp] theorem State.encs_setTrack (t : Nat) (x : Track) : (s.setTrack t x).encs = s.encs := rfl
@[simp] theorem State.job_setTrack (t : Nat) (x : Track) : (s.setTrack t x).job = s.job := rfl
@[simp] theorem State.gov_setTrack (t : Nat) (x : Track) : (s.setTrack t x).gov = s.gov := rfl
@[simp] theorem State.waves_setTrack (t : Nat) (x : Track) : (s.setTrack t x).waves = s.waves := rfl
@[simp] theorem State.waveOut_setTrack (t : Nat) (x : Track) : (s.setTrack t x).waveOut = s.waveOut := rfl
@[simp] theorem State.ports_setTrack (t : Nat) (x : Track) : (s.setTrack t x).ports = s.ports := rfl
@[simp] theorem State.watch_setTrack (t : Nat) (x : Track) : (s.setTrack t x).watch = s.watch := rfl
@[simp] theorem State.therm_setTrack (t : Nat) (x : Track) : (s.setTrack t x).therm = s.therm := rfl
@[simp] theorem State.power_setTrack (t : Nat) (x : Track) : (s.setTrack t x).power = s.power := rfl
@[simp] theorem State.peal_setTrack (t : Nat) (x : Track) : (s.setTrack t x).peal = s.peal := rfl
@[simp] theorem State.banks_setTrack (t : Nat) (x : Track) : (s.setTrack t x).banks = s.banks := rfl
@[simp] theorem State.chans_setTrack (t : Nat) (x : Track) : (s.setTrack t x).chans = s.chans := rfl
@[simp] theorem State.dwLast_setTrack (t : Nat) (x : Track) : (s.setTrack t x).dwLast = s.dwLast := rfl
@[simp] theorem State.otp_setTrack (t : Nat) (x : Track) : (s.setTrack t x).otp = s.otp := rfl
@[simp] theorem State.sent_setTrack (t : Nat) (x : Track) : (s.setTrack t x).sent = s.sent := rfl
@[simp] theorem State.pending_setTrack (t : Nat) (x : Track) : (s.setTrack t x).pending = s.pending := rfl

@[simp] theorem State.now_setPort (p : Nat) (x : Port) : (s.setPort p x).now = s.now := rfl
@[simp] theorem State.clock_setPort (p : Nat) (x : Port) : (s.setPort p x).clock = s.clock := rfl
@[simp] theorem State.free_setPort (p : Nat) (x : Port) : (s.setPort p x).free = s.free := rfl
@[simp] theorem State.core_setPort (p : Nat) (x : Port) : (s.setPort p x).core = s.core := rfl
@[simp] theorem State.regs_setPort (p : Nat) (x : Port) : (s.setPort p x).regs = s.regs := rfl
@[simp] theorem State.mode_setPort (p : Nat) (x : Port) : (s.setPort p x).mode = s.mode := rfl
@[simp] theorem State.committed_setPort (p : Nat) (x : Port) : (s.setPort p x).committed = s.committed := rfl
@[simp] theorem State.haltCause_setPort (p : Nat) (x : Port) : (s.setPort p x).haltCause = s.haltCause := rfl
@[simp] theorem State.haltDiag_setPort (p : Nat) (x : Port) : (s.setPort p x).haltDiag = s.haltDiag := rfl
@[simp] theorem State.boot_setPort (p : Nat) (x : Port) : (s.setPort p x).boot = s.boot := rfl
@[simp] theorem State.porches_setPort (p : Nat) (x : Port) : (s.setPort p x).porches = s.porches := rfl
@[simp] theorem State.prepared_setPort (p : Nat) (x : Port) : (s.setPort p x).prepared = s.prepared := rfl
@[simp] theorem State.evLostPend_setPort (p : Nat) (x : Port) : (s.setPort p x).evLostPend = s.evLostPend := rfl
@[simp] theorem State.host_setPort (p : Nat) (x : Port) : (s.setPort p x).host = s.host := rfl
@[simp] theorem State.pmem_setPort (p : Nat) (x : Port) : (s.setPort p x).pmem = s.pmem := rfl
@[simp] theorem State.perr_setPort (p : Nat) (x : Port) : (s.setPort p x).perr = s.perr := rfl
@[simp] theorem State.msix_setPort (p : Nat) (x : Port) : (s.setPort p x).msix = s.msix := rfl
@[simp] theorem State.timeHi_setPort (p : Nat) (x : Port) : (s.setPort p x).timeHi = s.timeHi := rfl
@[simp] theorem State.health_setPort (p : Nat) (x : Port) : (s.setPort p x).health = s.health := rfl
@[simp] theorem State.geo_setPort (p : Nat) (x : Port) : (s.setPort p x).geo = s.geo := rfl
@[simp] theorem State.cellar_setPort (p : Nat) (x : Port) : (s.setPort p x).cellar = s.cellar := rfl
@[simp] theorem State.streams_setPort (p : Nat) (x : Port) : (s.setPort p x).streams = s.streams := rfl
@[simp] theorem State.decomps_setPort (p : Nat) (x : Port) : (s.setPort p x).decomps = s.decomps := rfl
@[simp] theorem State.lines_setPort (p : Nat) (x : Port) : (s.setPort p x).lines = s.lines := rfl
@[simp] theorem State.encs_setPort (p : Nat) (x : Port) : (s.setPort p x).encs = s.encs := rfl
@[simp] theorem State.tracks_setPort (p : Nat) (x : Port) : (s.setPort p x).tracks = s.tracks := rfl
@[simp] theorem State.job_setPort (p : Nat) (x : Port) : (s.setPort p x).job = s.job := rfl
@[simp] theorem State.gov_setPort (p : Nat) (x : Port) : (s.setPort p x).gov = s.gov := rfl
@[simp] theorem State.waves_setPort (p : Nat) (x : Port) : (s.setPort p x).waves = s.waves := rfl
@[simp] theorem State.waveOut_setPort (p : Nat) (x : Port) : (s.setPort p x).waveOut = s.waveOut := rfl
@[simp] theorem State.watch_setPort (p : Nat) (x : Port) : (s.setPort p x).watch = s.watch := rfl
@[simp] theorem State.therm_setPort (p : Nat) (x : Port) : (s.setPort p x).therm = s.therm := rfl
@[simp] theorem State.power_setPort (p : Nat) (x : Port) : (s.setPort p x).power = s.power := rfl
@[simp] theorem State.peal_setPort (p : Nat) (x : Port) : (s.setPort p x).peal = s.peal := rfl
@[simp] theorem State.banks_setPort (p : Nat) (x : Port) : (s.setPort p x).banks = s.banks := rfl
@[simp] theorem State.chans_setPort (p : Nat) (x : Port) : (s.setPort p x).chans = s.chans := rfl
@[simp] theorem State.dwLast_setPort (p : Nat) (x : Port) : (s.setPort p x).dwLast = s.dwLast := rfl
@[simp] theorem State.otp_setPort (p : Nat) (x : Port) : (s.setPort p x).otp = s.otp := rfl
@[simp] theorem State.sent_setPort (p : Nat) (x : Port) : (s.setPort p x).sent = s.sent := rfl
@[simp] theorem State.pending_setPort (p : Nat) (x : Port) : (s.setPort p x).pending = s.pending := rfl

@[simp] theorem State.now_setWp (p : Nat) (x : WavePort) : (s.setWp p x).now = s.now := rfl
@[simp] theorem State.clock_setWp (p : Nat) (x : WavePort) : (s.setWp p x).clock = s.clock := rfl
@[simp] theorem State.free_setWp (p : Nat) (x : WavePort) : (s.setWp p x).free = s.free := rfl
@[simp] theorem State.core_setWp (p : Nat) (x : WavePort) : (s.setWp p x).core = s.core := rfl
@[simp] theorem State.regs_setWp (p : Nat) (x : WavePort) : (s.setWp p x).regs = s.regs := rfl
@[simp] theorem State.mode_setWp (p : Nat) (x : WavePort) : (s.setWp p x).mode = s.mode := rfl
@[simp] theorem State.committed_setWp (p : Nat) (x : WavePort) : (s.setWp p x).committed = s.committed := rfl
@[simp] theorem State.haltCause_setWp (p : Nat) (x : WavePort) : (s.setWp p x).haltCause = s.haltCause := rfl
@[simp] theorem State.haltDiag_setWp (p : Nat) (x : WavePort) : (s.setWp p x).haltDiag = s.haltDiag := rfl
@[simp] theorem State.boot_setWp (p : Nat) (x : WavePort) : (s.setWp p x).boot = s.boot := rfl
@[simp] theorem State.porches_setWp (p : Nat) (x : WavePort) : (s.setWp p x).porches = s.porches := rfl
@[simp] theorem State.prepared_setWp (p : Nat) (x : WavePort) : (s.setWp p x).prepared = s.prepared := rfl
@[simp] theorem State.evLostPend_setWp (p : Nat) (x : WavePort) : (s.setWp p x).evLostPend = s.evLostPend := rfl
@[simp] theorem State.host_setWp (p : Nat) (x : WavePort) : (s.setWp p x).host = s.host := rfl
@[simp] theorem State.pmem_setWp (p : Nat) (x : WavePort) : (s.setWp p x).pmem = s.pmem := rfl
@[simp] theorem State.perr_setWp (p : Nat) (x : WavePort) : (s.setWp p x).perr = s.perr := rfl
@[simp] theorem State.msix_setWp (p : Nat) (x : WavePort) : (s.setWp p x).msix = s.msix := rfl
@[simp] theorem State.timeHi_setWp (p : Nat) (x : WavePort) : (s.setWp p x).timeHi = s.timeHi := rfl
@[simp] theorem State.health_setWp (p : Nat) (x : WavePort) : (s.setWp p x).health = s.health := rfl
@[simp] theorem State.geo_setWp (p : Nat) (x : WavePort) : (s.setWp p x).geo = s.geo := rfl
@[simp] theorem State.cellar_setWp (p : Nat) (x : WavePort) : (s.setWp p x).cellar = s.cellar := rfl
@[simp] theorem State.streams_setWp (p : Nat) (x : WavePort) : (s.setWp p x).streams = s.streams := rfl
@[simp] theorem State.decomps_setWp (p : Nat) (x : WavePort) : (s.setWp p x).decomps = s.decomps := rfl
@[simp] theorem State.lines_setWp (p : Nat) (x : WavePort) : (s.setWp p x).lines = s.lines := rfl
@[simp] theorem State.encs_setWp (p : Nat) (x : WavePort) : (s.setWp p x).encs = s.encs := rfl
@[simp] theorem State.tracks_setWp (p : Nat) (x : WavePort) : (s.setWp p x).tracks = s.tracks := rfl
@[simp] theorem State.job_setWp (p : Nat) (x : WavePort) : (s.setWp p x).job = s.job := rfl
@[simp] theorem State.gov_setWp (p : Nat) (x : WavePort) : (s.setWp p x).gov = s.gov := rfl
@[simp] theorem State.waveOut_setWp (p : Nat) (x : WavePort) : (s.setWp p x).waveOut = s.waveOut := rfl
@[simp] theorem State.ports_setWp (p : Nat) (x : WavePort) : (s.setWp p x).ports = s.ports := rfl
@[simp] theorem State.watch_setWp (p : Nat) (x : WavePort) : (s.setWp p x).watch = s.watch := rfl
@[simp] theorem State.therm_setWp (p : Nat) (x : WavePort) : (s.setWp p x).therm = s.therm := rfl
@[simp] theorem State.power_setWp (p : Nat) (x : WavePort) : (s.setWp p x).power = s.power := rfl
@[simp] theorem State.peal_setWp (p : Nat) (x : WavePort) : (s.setWp p x).peal = s.peal := rfl
@[simp] theorem State.banks_setWp (p : Nat) (x : WavePort) : (s.setWp p x).banks = s.banks := rfl
@[simp] theorem State.chans_setWp (p : Nat) (x : WavePort) : (s.setWp p x).chans = s.chans := rfl
@[simp] theorem State.dwLast_setWp (p : Nat) (x : WavePort) : (s.setWp p x).dwLast = s.dwLast := rfl
@[simp] theorem State.otp_setWp (p : Nat) (x : WavePort) : (s.setWp p x).otp = s.otp := rfl
@[simp] theorem State.sent_setWp (p : Nat) (x : WavePort) : (s.setWp p x).sent = s.sent := rfl
@[simp] theorem State.pending_setWp (p : Nat) (x : WavePort) : (s.setWp p x).pending = s.pending := rfl

@[simp] theorem State.now_setWatch (w : Watch) : (s.setWatch w).now = s.now := rfl
@[simp] theorem State.clock_setWatch (w : Watch) : (s.setWatch w).clock = s.clock := rfl
@[simp] theorem State.free_setWatch (w : Watch) : (s.setWatch w).free = s.free := rfl
@[simp] theorem State.core_setWatch (w : Watch) : (s.setWatch w).core = s.core := rfl
@[simp] theorem State.regs_setWatch (w : Watch) : (s.setWatch w).regs = s.regs := rfl
@[simp] theorem State.mode_setWatch (w : Watch) : (s.setWatch w).mode = s.mode := rfl
@[simp] theorem State.committed_setWatch (w : Watch) : (s.setWatch w).committed = s.committed := rfl
@[simp] theorem State.haltCause_setWatch (w : Watch) : (s.setWatch w).haltCause = s.haltCause := rfl
@[simp] theorem State.haltDiag_setWatch (w : Watch) : (s.setWatch w).haltDiag = s.haltDiag := rfl
@[simp] theorem State.boot_setWatch (w : Watch) : (s.setWatch w).boot = s.boot := rfl
@[simp] theorem State.porches_setWatch (w : Watch) : (s.setWatch w).porches = s.porches := rfl
@[simp] theorem State.prepared_setWatch (w : Watch) : (s.setWatch w).prepared = s.prepared := rfl
@[simp] theorem State.evLostPend_setWatch (w : Watch) : (s.setWatch w).evLostPend = s.evLostPend := rfl
@[simp] theorem State.host_setWatch (w : Watch) : (s.setWatch w).host = s.host := rfl
@[simp] theorem State.pmem_setWatch (w : Watch) : (s.setWatch w).pmem = s.pmem := rfl
@[simp] theorem State.perr_setWatch (w : Watch) : (s.setWatch w).perr = s.perr := rfl
@[simp] theorem State.msix_setWatch (w : Watch) : (s.setWatch w).msix = s.msix := rfl
@[simp] theorem State.timeHi_setWatch (w : Watch) : (s.setWatch w).timeHi = s.timeHi := rfl
@[simp] theorem State.health_setWatch (w : Watch) : (s.setWatch w).health = s.health := rfl
@[simp] theorem State.geo_setWatch (w : Watch) : (s.setWatch w).geo = s.geo := rfl
@[simp] theorem State.cellar_setWatch (w : Watch) : (s.setWatch w).cellar = s.cellar := rfl
@[simp] theorem State.streams_setWatch (w : Watch) : (s.setWatch w).streams = s.streams := rfl
@[simp] theorem State.decomps_setWatch (w : Watch) : (s.setWatch w).decomps = s.decomps := rfl
@[simp] theorem State.lines_setWatch (w : Watch) : (s.setWatch w).lines = s.lines := rfl
@[simp] theorem State.encs_setWatch (w : Watch) : (s.setWatch w).encs = s.encs := rfl
@[simp] theorem State.tracks_setWatch (w : Watch) : (s.setWatch w).tracks = s.tracks := rfl
@[simp] theorem State.job_setWatch (w : Watch) : (s.setWatch w).job = s.job := rfl
@[simp] theorem State.gov_setWatch (w : Watch) : (s.setWatch w).gov = s.gov := rfl
@[simp] theorem State.waves_setWatch (w : Watch) : (s.setWatch w).waves = s.waves := rfl
@[simp] theorem State.waveOut_setWatch (w : Watch) : (s.setWatch w).waveOut = s.waveOut := rfl
@[simp] theorem State.ports_setWatch (w : Watch) : (s.setWatch w).ports = s.ports := rfl
@[simp] theorem State.therm_setWatch (w : Watch) : (s.setWatch w).therm = s.therm := rfl
@[simp] theorem State.power_setWatch (w : Watch) : (s.setWatch w).power = s.power := rfl
@[simp] theorem State.peal_setWatch (w : Watch) : (s.setWatch w).peal = s.peal := rfl
@[simp] theorem State.banks_setWatch (w : Watch) : (s.setWatch w).banks = s.banks := rfl
@[simp] theorem State.chans_setWatch (w : Watch) : (s.setWatch w).chans = s.chans := rfl
@[simp] theorem State.dwLast_setWatch (w : Watch) : (s.setWatch w).dwLast = s.dwLast := rfl
@[simp] theorem State.otp_setWatch (w : Watch) : (s.setWatch w).otp = s.otp := rfl
@[simp] theorem State.sent_setWatch (w : Watch) : (s.setWatch w).sent = s.sent := rfl
@[simp] theorem State.pending_setWatch (w : Watch) : (s.setWatch w).pending = s.pending := rfl

@[simp] theorem State.now_setPeal1 (k : Nat) (x : PealPort) : (s.setPeal1 k x).now = s.now := rfl
@[simp] theorem State.clock_setPeal1 (k : Nat) (x : PealPort) : (s.setPeal1 k x).clock = s.clock := rfl
@[simp] theorem State.free_setPeal1 (k : Nat) (x : PealPort) : (s.setPeal1 k x).free = s.free := rfl
@[simp] theorem State.core_setPeal1 (k : Nat) (x : PealPort) : (s.setPeal1 k x).core = s.core := rfl
@[simp] theorem State.regs_setPeal1 (k : Nat) (x : PealPort) : (s.setPeal1 k x).regs = s.regs := rfl
@[simp] theorem State.mode_setPeal1 (k : Nat) (x : PealPort) : (s.setPeal1 k x).mode = s.mode := rfl
@[simp] theorem State.committed_setPeal1 (k : Nat) (x : PealPort) : (s.setPeal1 k x).committed = s.committed := rfl
@[simp] theorem State.haltCause_setPeal1 (k : Nat) (x : PealPort) : (s.setPeal1 k x).haltCause = s.haltCause := rfl
@[simp] theorem State.haltDiag_setPeal1 (k : Nat) (x : PealPort) : (s.setPeal1 k x).haltDiag = s.haltDiag := rfl
@[simp] theorem State.boot_setPeal1 (k : Nat) (x : PealPort) : (s.setPeal1 k x).boot = s.boot := rfl
@[simp] theorem State.porches_setPeal1 (k : Nat) (x : PealPort) : (s.setPeal1 k x).porches = s.porches := rfl
@[simp] theorem State.prepared_setPeal1 (k : Nat) (x : PealPort) : (s.setPeal1 k x).prepared = s.prepared := rfl
@[simp] theorem State.evLostPend_setPeal1 (k : Nat) (x : PealPort) : (s.setPeal1 k x).evLostPend = s.evLostPend := rfl
@[simp] theorem State.host_setPeal1 (k : Nat) (x : PealPort) : (s.setPeal1 k x).host = s.host := rfl
@[simp] theorem State.pmem_setPeal1 (k : Nat) (x : PealPort) : (s.setPeal1 k x).pmem = s.pmem := rfl
@[simp] theorem State.perr_setPeal1 (k : Nat) (x : PealPort) : (s.setPeal1 k x).perr = s.perr := rfl
@[simp] theorem State.msix_setPeal1 (k : Nat) (x : PealPort) : (s.setPeal1 k x).msix = s.msix := rfl
@[simp] theorem State.timeHi_setPeal1 (k : Nat) (x : PealPort) : (s.setPeal1 k x).timeHi = s.timeHi := rfl
@[simp] theorem State.health_setPeal1 (k : Nat) (x : PealPort) : (s.setPeal1 k x).health = s.health := rfl
@[simp] theorem State.geo_setPeal1 (k : Nat) (x : PealPort) : (s.setPeal1 k x).geo = s.geo := rfl
@[simp] theorem State.cellar_setPeal1 (k : Nat) (x : PealPort) : (s.setPeal1 k x).cellar = s.cellar := rfl
@[simp] theorem State.streams_setPeal1 (k : Nat) (x : PealPort) : (s.setPeal1 k x).streams = s.streams := rfl
@[simp] theorem State.decomps_setPeal1 (k : Nat) (x : PealPort) : (s.setPeal1 k x).decomps = s.decomps := rfl
@[simp] theorem State.lines_setPeal1 (k : Nat) (x : PealPort) : (s.setPeal1 k x).lines = s.lines := rfl
@[simp] theorem State.encs_setPeal1 (k : Nat) (x : PealPort) : (s.setPeal1 k x).encs = s.encs := rfl
@[simp] theorem State.tracks_setPeal1 (k : Nat) (x : PealPort) : (s.setPeal1 k x).tracks = s.tracks := rfl
@[simp] theorem State.job_setPeal1 (k : Nat) (x : PealPort) : (s.setPeal1 k x).job = s.job := rfl
@[simp] theorem State.gov_setPeal1 (k : Nat) (x : PealPort) : (s.setPeal1 k x).gov = s.gov := rfl
@[simp] theorem State.waves_setPeal1 (k : Nat) (x : PealPort) : (s.setPeal1 k x).waves = s.waves := rfl
@[simp] theorem State.waveOut_setPeal1 (k : Nat) (x : PealPort) : (s.setPeal1 k x).waveOut = s.waveOut := rfl
@[simp] theorem State.ports_setPeal1 (k : Nat) (x : PealPort) : (s.setPeal1 k x).ports = s.ports := rfl
@[simp] theorem State.watch_setPeal1 (k : Nat) (x : PealPort) : (s.setPeal1 k x).watch = s.watch := rfl
@[simp] theorem State.therm_setPeal1 (k : Nat) (x : PealPort) : (s.setPeal1 k x).therm = s.therm := rfl
@[simp] theorem State.power_setPeal1 (k : Nat) (x : PealPort) : (s.setPeal1 k x).power = s.power := rfl
@[simp] theorem State.banks_setPeal1 (k : Nat) (x : PealPort) : (s.setPeal1 k x).banks = s.banks := rfl
@[simp] theorem State.chans_setPeal1 (k : Nat) (x : PealPort) : (s.setPeal1 k x).chans = s.chans := rfl
@[simp] theorem State.dwLast_setPeal1 (k : Nat) (x : PealPort) : (s.setPeal1 k x).dwLast = s.dwLast := rfl
@[simp] theorem State.otp_setPeal1 (k : Nat) (x : PealPort) : (s.setPeal1 k x).otp = s.otp := rfl
@[simp] theorem State.sent_setPeal1 (k : Nat) (x : PealPort) : (s.setPeal1 k x).sent = s.sent := rfl
@[simp] theorem State.pending_setPeal1 (k : Nat) (x : PealPort) : (s.setPeal1 k x).pending = s.pending := rfl

@[simp] theorem State.now_setTri (k : Nat) (c : TriChan) : (s.setTri k c).now = s.now := rfl
@[simp] theorem State.clock_setTri (k : Nat) (c : TriChan) : (s.setTri k c).clock = s.clock := rfl
@[simp] theorem State.free_setTri (k : Nat) (c : TriChan) : (s.setTri k c).free = s.free := rfl
@[simp] theorem State.core_setTri (k : Nat) (c : TriChan) : (s.setTri k c).core = s.core := rfl
@[simp] theorem State.regs_setTri (k : Nat) (c : TriChan) : (s.setTri k c).regs = s.regs := rfl
@[simp] theorem State.mode_setTri (k : Nat) (c : TriChan) : (s.setTri k c).mode = s.mode := rfl
@[simp] theorem State.committed_setTri (k : Nat) (c : TriChan) : (s.setTri k c).committed = s.committed := rfl
@[simp] theorem State.haltCause_setTri (k : Nat) (c : TriChan) : (s.setTri k c).haltCause = s.haltCause := rfl
@[simp] theorem State.haltDiag_setTri (k : Nat) (c : TriChan) : (s.setTri k c).haltDiag = s.haltDiag := rfl
@[simp] theorem State.boot_setTri (k : Nat) (c : TriChan) : (s.setTri k c).boot = s.boot := rfl
@[simp] theorem State.porches_setTri (k : Nat) (c : TriChan) : (s.setTri k c).porches = s.porches := rfl
@[simp] theorem State.prepared_setTri (k : Nat) (c : TriChan) : (s.setTri k c).prepared = s.prepared := rfl
@[simp] theorem State.evLostPend_setTri (k : Nat) (c : TriChan) : (s.setTri k c).evLostPend = s.evLostPend := rfl
@[simp] theorem State.host_setTri (k : Nat) (c : TriChan) : (s.setTri k c).host = s.host := rfl
@[simp] theorem State.pmem_setTri (k : Nat) (c : TriChan) : (s.setTri k c).pmem = s.pmem := rfl
@[simp] theorem State.perr_setTri (k : Nat) (c : TriChan) : (s.setTri k c).perr = s.perr := rfl
@[simp] theorem State.msix_setTri (k : Nat) (c : TriChan) : (s.setTri k c).msix = s.msix := rfl
@[simp] theorem State.timeHi_setTri (k : Nat) (c : TriChan) : (s.setTri k c).timeHi = s.timeHi := rfl
@[simp] theorem State.health_setTri (k : Nat) (c : TriChan) : (s.setTri k c).health = s.health := rfl
@[simp] theorem State.geo_setTri (k : Nat) (c : TriChan) : (s.setTri k c).geo = s.geo := rfl
@[simp] theorem State.cellar_setTri (k : Nat) (c : TriChan) : (s.setTri k c).cellar = s.cellar := rfl
@[simp] theorem State.streams_setTri (k : Nat) (c : TriChan) : (s.setTri k c).streams = s.streams := rfl
@[simp] theorem State.decomps_setTri (k : Nat) (c : TriChan) : (s.setTri k c).decomps = s.decomps := rfl
@[simp] theorem State.lines_setTri (k : Nat) (c : TriChan) : (s.setTri k c).lines = s.lines := rfl
@[simp] theorem State.encs_setTri (k : Nat) (c : TriChan) : (s.setTri k c).encs = s.encs := rfl
@[simp] theorem State.tracks_setTri (k : Nat) (c : TriChan) : (s.setTri k c).tracks = s.tracks := rfl
@[simp] theorem State.job_setTri (k : Nat) (c : TriChan) : (s.setTri k c).job = s.job := rfl
@[simp] theorem State.gov_setTri (k : Nat) (c : TriChan) : (s.setTri k c).gov = s.gov := rfl
@[simp] theorem State.waves_setTri (k : Nat) (c : TriChan) : (s.setTri k c).waves = s.waves := rfl
@[simp] theorem State.waveOut_setTri (k : Nat) (c : TriChan) : (s.setTri k c).waveOut = s.waveOut := rfl
@[simp] theorem State.ports_setTri (k : Nat) (c : TriChan) : (s.setTri k c).ports = s.ports := rfl
@[simp] theorem State.watch_setTri (k : Nat) (c : TriChan) : (s.setTri k c).watch = s.watch := rfl
@[simp] theorem State.power_setTri (k : Nat) (c : TriChan) : (s.setTri k c).power = s.power := rfl
@[simp] theorem State.peal_setTri (k : Nat) (c : TriChan) : (s.setTri k c).peal = s.peal := rfl
@[simp] theorem State.banks_setTri (k : Nat) (c : TriChan) : (s.setTri k c).banks = s.banks := rfl
@[simp] theorem State.chans_setTri (k : Nat) (c : TriChan) : (s.setTri k c).chans = s.chans := rfl
@[simp] theorem State.dwLast_setTri (k : Nat) (c : TriChan) : (s.setTri k c).dwLast = s.dwLast := rfl
@[simp] theorem State.otp_setTri (k : Nat) (c : TriChan) : (s.setTri k c).otp = s.otp := rfl
@[simp] theorem State.sent_setTri (k : Nat) (c : TriChan) : (s.setTri k c).sent = s.sent := rfl
@[simp] theorem State.pending_setTri (k : Nat) (c : TriChan) : (s.setTri k c).pending = s.pending := rfl

@[simp] theorem State.now_setBank (b : Nat) (x : Bank) : (s.setBank b x).now = s.now := rfl
@[simp] theorem State.clock_setBank (b : Nat) (x : Bank) : (s.setBank b x).clock = s.clock := rfl
@[simp] theorem State.free_setBank (b : Nat) (x : Bank) : (s.setBank b x).free = s.free := rfl
@[simp] theorem State.core_setBank (b : Nat) (x : Bank) : (s.setBank b x).core = s.core := rfl
@[simp] theorem State.regs_setBank (b : Nat) (x : Bank) : (s.setBank b x).regs = s.regs := rfl
@[simp] theorem State.mode_setBank (b : Nat) (x : Bank) : (s.setBank b x).mode = s.mode := rfl
@[simp] theorem State.committed_setBank (b : Nat) (x : Bank) : (s.setBank b x).committed = s.committed := rfl
@[simp] theorem State.haltCause_setBank (b : Nat) (x : Bank) : (s.setBank b x).haltCause = s.haltCause := rfl
@[simp] theorem State.haltDiag_setBank (b : Nat) (x : Bank) : (s.setBank b x).haltDiag = s.haltDiag := rfl
@[simp] theorem State.boot_setBank (b : Nat) (x : Bank) : (s.setBank b x).boot = s.boot := rfl
@[simp] theorem State.porches_setBank (b : Nat) (x : Bank) : (s.setBank b x).porches = s.porches := rfl
@[simp] theorem State.prepared_setBank (b : Nat) (x : Bank) : (s.setBank b x).prepared = s.prepared := rfl
@[simp] theorem State.evLostPend_setBank (b : Nat) (x : Bank) : (s.setBank b x).evLostPend = s.evLostPend := rfl
@[simp] theorem State.host_setBank (b : Nat) (x : Bank) : (s.setBank b x).host = s.host := rfl
@[simp] theorem State.pmem_setBank (b : Nat) (x : Bank) : (s.setBank b x).pmem = s.pmem := rfl
@[simp] theorem State.perr_setBank (b : Nat) (x : Bank) : (s.setBank b x).perr = s.perr := rfl
@[simp] theorem State.msix_setBank (b : Nat) (x : Bank) : (s.setBank b x).msix = s.msix := rfl
@[simp] theorem State.timeHi_setBank (b : Nat) (x : Bank) : (s.setBank b x).timeHi = s.timeHi := rfl
@[simp] theorem State.health_setBank (b : Nat) (x : Bank) : (s.setBank b x).health = s.health := rfl
@[simp] theorem State.geo_setBank (b : Nat) (x : Bank) : (s.setBank b x).geo = s.geo := rfl
@[simp] theorem State.cellar_setBank (b : Nat) (x : Bank) : (s.setBank b x).cellar = s.cellar := rfl
@[simp] theorem State.streams_setBank (b : Nat) (x : Bank) : (s.setBank b x).streams = s.streams := rfl
@[simp] theorem State.decomps_setBank (b : Nat) (x : Bank) : (s.setBank b x).decomps = s.decomps := rfl
@[simp] theorem State.lines_setBank (b : Nat) (x : Bank) : (s.setBank b x).lines = s.lines := rfl
@[simp] theorem State.encs_setBank (b : Nat) (x : Bank) : (s.setBank b x).encs = s.encs := rfl
@[simp] theorem State.tracks_setBank (b : Nat) (x : Bank) : (s.setBank b x).tracks = s.tracks := rfl
@[simp] theorem State.job_setBank (b : Nat) (x : Bank) : (s.setBank b x).job = s.job := rfl
@[simp] theorem State.gov_setBank (b : Nat) (x : Bank) : (s.setBank b x).gov = s.gov := rfl
@[simp] theorem State.waves_setBank (b : Nat) (x : Bank) : (s.setBank b x).waves = s.waves := rfl
@[simp] theorem State.waveOut_setBank (b : Nat) (x : Bank) : (s.setBank b x).waveOut = s.waveOut := rfl
@[simp] theorem State.ports_setBank (b : Nat) (x : Bank) : (s.setBank b x).ports = s.ports := rfl
@[simp] theorem State.watch_setBank (b : Nat) (x : Bank) : (s.setBank b x).watch = s.watch := rfl
@[simp] theorem State.therm_setBank (b : Nat) (x : Bank) : (s.setBank b x).therm = s.therm := rfl
@[simp] theorem State.power_setBank (b : Nat) (x : Bank) : (s.setBank b x).power = s.power := rfl
@[simp] theorem State.peal_setBank (b : Nat) (x : Bank) : (s.setBank b x).peal = s.peal := rfl
@[simp] theorem State.chans_setBank (b : Nat) (x : Bank) : (s.setBank b x).chans = s.chans := rfl
@[simp] theorem State.dwLast_setBank (b : Nat) (x : Bank) : (s.setBank b x).dwLast = s.dwLast := rfl
@[simp] theorem State.otp_setBank (b : Nat) (x : Bank) : (s.setBank b x).otp = s.otp := rfl
@[simp] theorem State.sent_setBank (b : Nat) (x : Bank) : (s.setBank b x).sent = s.sent := rfl
@[simp] theorem State.pending_setBank (b : Nat) (x : Bank) : (s.setBank b x).pending = s.pending := rfl

@[simp] theorem State.now_setGchan (m : Nat) (c : GenChan) : (s.setGchan m c).now = s.now := rfl
@[simp] theorem State.clock_setGchan (m : Nat) (c : GenChan) : (s.setGchan m c).clock = s.clock := rfl
@[simp] theorem State.free_setGchan (m : Nat) (c : GenChan) : (s.setGchan m c).free = s.free := rfl
@[simp] theorem State.core_setGchan (m : Nat) (c : GenChan) : (s.setGchan m c).core = s.core := rfl
@[simp] theorem State.regs_setGchan (m : Nat) (c : GenChan) : (s.setGchan m c).regs = s.regs := rfl
@[simp] theorem State.mode_setGchan (m : Nat) (c : GenChan) : (s.setGchan m c).mode = s.mode := rfl
@[simp] theorem State.committed_setGchan (m : Nat) (c : GenChan) : (s.setGchan m c).committed = s.committed := rfl
@[simp] theorem State.haltCause_setGchan (m : Nat) (c : GenChan) : (s.setGchan m c).haltCause = s.haltCause := rfl
@[simp] theorem State.haltDiag_setGchan (m : Nat) (c : GenChan) : (s.setGchan m c).haltDiag = s.haltDiag := rfl
@[simp] theorem State.boot_setGchan (m : Nat) (c : GenChan) : (s.setGchan m c).boot = s.boot := rfl
@[simp] theorem State.porches_setGchan (m : Nat) (c : GenChan) : (s.setGchan m c).porches = s.porches := rfl
@[simp] theorem State.prepared_setGchan (m : Nat) (c : GenChan) : (s.setGchan m c).prepared = s.prepared := rfl
@[simp] theorem State.evLostPend_setGchan (m : Nat) (c : GenChan) : (s.setGchan m c).evLostPend = s.evLostPend := rfl
@[simp] theorem State.host_setGchan (m : Nat) (c : GenChan) : (s.setGchan m c).host = s.host := rfl
@[simp] theorem State.pmem_setGchan (m : Nat) (c : GenChan) : (s.setGchan m c).pmem = s.pmem := rfl
@[simp] theorem State.perr_setGchan (m : Nat) (c : GenChan) : (s.setGchan m c).perr = s.perr := rfl
@[simp] theorem State.msix_setGchan (m : Nat) (c : GenChan) : (s.setGchan m c).msix = s.msix := rfl
@[simp] theorem State.timeHi_setGchan (m : Nat) (c : GenChan) : (s.setGchan m c).timeHi = s.timeHi := rfl
@[simp] theorem State.health_setGchan (m : Nat) (c : GenChan) : (s.setGchan m c).health = s.health := rfl
@[simp] theorem State.geo_setGchan (m : Nat) (c : GenChan) : (s.setGchan m c).geo = s.geo := rfl
@[simp] theorem State.cellar_setGchan (m : Nat) (c : GenChan) : (s.setGchan m c).cellar = s.cellar := rfl
@[simp] theorem State.streams_setGchan (m : Nat) (c : GenChan) : (s.setGchan m c).streams = s.streams := rfl
@[simp] theorem State.decomps_setGchan (m : Nat) (c : GenChan) : (s.setGchan m c).decomps = s.decomps := rfl
@[simp] theorem State.lines_setGchan (m : Nat) (c : GenChan) : (s.setGchan m c).lines = s.lines := rfl
@[simp] theorem State.encs_setGchan (m : Nat) (c : GenChan) : (s.setGchan m c).encs = s.encs := rfl
@[simp] theorem State.tracks_setGchan (m : Nat) (c : GenChan) : (s.setGchan m c).tracks = s.tracks := rfl
@[simp] theorem State.job_setGchan (m : Nat) (c : GenChan) : (s.setGchan m c).job = s.job := rfl
@[simp] theorem State.gov_setGchan (m : Nat) (c : GenChan) : (s.setGchan m c).gov = s.gov := rfl
@[simp] theorem State.waves_setGchan (m : Nat) (c : GenChan) : (s.setGchan m c).waves = s.waves := rfl
@[simp] theorem State.waveOut_setGchan (m : Nat) (c : GenChan) : (s.setGchan m c).waveOut = s.waveOut := rfl
@[simp] theorem State.ports_setGchan (m : Nat) (c : GenChan) : (s.setGchan m c).ports = s.ports := rfl
@[simp] theorem State.watch_setGchan (m : Nat) (c : GenChan) : (s.setGchan m c).watch = s.watch := rfl
@[simp] theorem State.therm_setGchan (m : Nat) (c : GenChan) : (s.setGchan m c).therm = s.therm := rfl
@[simp] theorem State.power_setGchan (m : Nat) (c : GenChan) : (s.setGchan m c).power = s.power := rfl
@[simp] theorem State.peal_setGchan (m : Nat) (c : GenChan) : (s.setGchan m c).peal = s.peal := rfl
@[simp] theorem State.banks_setGchan (m : Nat) (c : GenChan) : (s.setGchan m c).banks = s.banks := rfl
@[simp] theorem State.dwLast_setGchan (m : Nat) (c : GenChan) : (s.setGchan m c).dwLast = s.dwLast := rfl
@[simp] theorem State.otp_setGchan (m : Nat) (c : GenChan) : (s.setGchan m c).otp = s.otp := rfl
@[simp] theorem State.sent_setGchan (m : Nat) (c : GenChan) : (s.setGchan m c).sent = s.sent := rfl
@[simp] theorem State.pending_setGchan (m : Nat) (c : GenChan) : (s.setGchan m c).pending = s.pending := rfl

@[simp] theorem State.now_setPorch (n : Nat) (x : PorchSt) : (s.setPorch n x).now = s.now := rfl
@[simp] theorem State.clock_setPorch (n : Nat) (x : PorchSt) : (s.setPorch n x).clock = s.clock := rfl
@[simp] theorem State.free_setPorch (n : Nat) (x : PorchSt) : (s.setPorch n x).free = s.free := rfl
@[simp] theorem State.core_setPorch (n : Nat) (x : PorchSt) : (s.setPorch n x).core = s.core := rfl
@[simp] theorem State.regs_setPorch (n : Nat) (x : PorchSt) : (s.setPorch n x).regs = s.regs := rfl
@[simp] theorem State.mode_setPorch (n : Nat) (x : PorchSt) : (s.setPorch n x).mode = s.mode := rfl
@[simp] theorem State.committed_setPorch (n : Nat) (x : PorchSt) : (s.setPorch n x).committed = s.committed := rfl
@[simp] theorem State.haltCause_setPorch (n : Nat) (x : PorchSt) : (s.setPorch n x).haltCause = s.haltCause := rfl
@[simp] theorem State.haltDiag_setPorch (n : Nat) (x : PorchSt) : (s.setPorch n x).haltDiag = s.haltDiag := rfl
@[simp] theorem State.boot_setPorch (n : Nat) (x : PorchSt) : (s.setPorch n x).boot = s.boot := rfl
@[simp] theorem State.prepared_setPorch (n : Nat) (x : PorchSt) : (s.setPorch n x).prepared = s.prepared := rfl
@[simp] theorem State.evLostPend_setPorch (n : Nat) (x : PorchSt) : (s.setPorch n x).evLostPend = s.evLostPend := rfl
@[simp] theorem State.host_setPorch (n : Nat) (x : PorchSt) : (s.setPorch n x).host = s.host := rfl
@[simp] theorem State.pmem_setPorch (n : Nat) (x : PorchSt) : (s.setPorch n x).pmem = s.pmem := rfl
@[simp] theorem State.perr_setPorch (n : Nat) (x : PorchSt) : (s.setPorch n x).perr = s.perr := rfl
@[simp] theorem State.msix_setPorch (n : Nat) (x : PorchSt) : (s.setPorch n x).msix = s.msix := rfl
@[simp] theorem State.timeHi_setPorch (n : Nat) (x : PorchSt) : (s.setPorch n x).timeHi = s.timeHi := rfl
@[simp] theorem State.health_setPorch (n : Nat) (x : PorchSt) : (s.setPorch n x).health = s.health := rfl
@[simp] theorem State.geo_setPorch (n : Nat) (x : PorchSt) : (s.setPorch n x).geo = s.geo := rfl
@[simp] theorem State.cellar_setPorch (n : Nat) (x : PorchSt) : (s.setPorch n x).cellar = s.cellar := rfl
@[simp] theorem State.streams_setPorch (n : Nat) (x : PorchSt) : (s.setPorch n x).streams = s.streams := rfl
@[simp] theorem State.decomps_setPorch (n : Nat) (x : PorchSt) : (s.setPorch n x).decomps = s.decomps := rfl
@[simp] theorem State.lines_setPorch (n : Nat) (x : PorchSt) : (s.setPorch n x).lines = s.lines := rfl
@[simp] theorem State.encs_setPorch (n : Nat) (x : PorchSt) : (s.setPorch n x).encs = s.encs := rfl
@[simp] theorem State.tracks_setPorch (n : Nat) (x : PorchSt) : (s.setPorch n x).tracks = s.tracks := rfl
@[simp] theorem State.job_setPorch (n : Nat) (x : PorchSt) : (s.setPorch n x).job = s.job := rfl
@[simp] theorem State.gov_setPorch (n : Nat) (x : PorchSt) : (s.setPorch n x).gov = s.gov := rfl
@[simp] theorem State.waves_setPorch (n : Nat) (x : PorchSt) : (s.setPorch n x).waves = s.waves := rfl
@[simp] theorem State.waveOut_setPorch (n : Nat) (x : PorchSt) : (s.setPorch n x).waveOut = s.waveOut := rfl
@[simp] theorem State.ports_setPorch (n : Nat) (x : PorchSt) : (s.setPorch n x).ports = s.ports := rfl
@[simp] theorem State.watch_setPorch (n : Nat) (x : PorchSt) : (s.setPorch n x).watch = s.watch := rfl
@[simp] theorem State.therm_setPorch (n : Nat) (x : PorchSt) : (s.setPorch n x).therm = s.therm := rfl
@[simp] theorem State.power_setPorch (n : Nat) (x : PorchSt) : (s.setPorch n x).power = s.power := rfl
@[simp] theorem State.peal_setPorch (n : Nat) (x : PorchSt) : (s.setPorch n x).peal = s.peal := rfl
@[simp] theorem State.banks_setPorch (n : Nat) (x : PorchSt) : (s.setPorch n x).banks = s.banks := rfl
@[simp] theorem State.chans_setPorch (n : Nat) (x : PorchSt) : (s.setPorch n x).chans = s.chans := rfl
@[simp] theorem State.dwLast_setPorch (n : Nat) (x : PorchSt) : (s.setPorch n x).dwLast = s.dwLast := rfl
@[simp] theorem State.otp_setPorch (n : Nat) (x : PorchSt) : (s.setPorch n x).otp = s.otp := rfl
@[simp] theorem State.sent_setPorch (n : Nat) (x : PorchSt) : (s.setPorch n x).sent = s.sent := rfl
@[simp] theorem State.pending_setPorch (n : Nat) (x : PorchSt) : (s.setPorch n x).pending = s.pending := rfl

@[simp] theorem State.now_at (t : Nat) : (s.at t).now = max s.now t := rfl
@[simp] theorem State.sent_emit (o : Out) : (s.emit o).sent = o :: s.sent := rfl
@[simp] theorem State.regs_setReg (off : Nat) (w : Word) : (s.setReg off w).regs = s.regs.set (regReset off) off w := rfl
@[simp] theorem State.geo_setGeo (g : Geo) : (s.setGeo g).geo = g := rfl
@[simp] theorem State.watch_setWatch (w : Watch) : (s.setWatch w).watch = w := rfl
@[simp] theorem State.encs_setEnc (e : Nat) (x : Enc) : (s.setEnc e x).encs = s.encs.set {} e x := by simp [State.setEnc, State.set64]
@[simp] theorem State.tracks_setTrack (t : Nat) (x : Track) : (s.setTrack t x).tracks = s.tracks.set {} t x := rfl
@[simp] theorem State.ports_setPort (p : Nat) (x : Port) : (s.setPort p x).ports = s.ports.set {} p x := rfl
@[simp] theorem State.waves_setWp (p : Nat) (x : WavePort) : (s.setWp p x).waves = s.waves.set {} p x := rfl
@[simp] theorem State.banks_setBank (b : Nat) (x : Bank) : (s.setBank b x).banks = s.banks.set {} b x := rfl
@[simp] theorem State.chans_setGchan (m : Nat) (c : GenChan) : (s.setGchan m c).chans = s.chans.set {} m c := rfl
@[simp] theorem State.porches_setPorch (n : Nat) (x : PorchSt) : (s.setPorch n x).porches = s.porches.set {} n x := rfl
@[simp] theorem State.streams_setStream (n : Nat) (x : Stream) : (s.setStream n x).streams = s.streams.set {} n x := rfl

end Sys2Proof.Machine
end

