-- ==== Sys2Proof/Laws/Tbl.lean ====
section
/-! SUPPORT. Sparse tables: a read after a write, and the canonical form that every operation keeps. -/

namespace Sys2Proof.Machine

variable {α : Type}

/-- Every key of a list of entries is above `b`. -/
theorem risingAbove_some_mono {l : List (Nat × α)} {a b : Nat} (hab : a ≤ b) (h : risingAbove (some b) l = true) :
    risingAbove (some a) l = true := by
  cases l with
  | nil => rfl
  | cons c r =>
    obtain ⟨k, v⟩ := c
    simp only [risingAbove, Bool.and_eq_true, decide_eq_true_eq] at h ⊢
    exact ⟨by omega, h.2⟩

theorem lookupCell_insertCell_same (l : List (Nat × α)) (a : Nat) (x : α) :
    lookupCell (insertCell l a x) a = some x := by
  induction l with
  | nil => simp [insertCell, lookupCell]
  | cons c r ih =>
    obtain ⟨k, v⟩ := c
    simp only [insertCell]
    split
    · simp [lookupCell]
    · split
      · simp [lookupCell]
      · rename_i h1 h2
        simp [lookupCell, h2, ih]

theorem lookupCell_insertCell_other (l : List (Nat × α)) {a b : Nat} (x : α) (h : b ≠ a) :
    lookupCell (insertCell l a x) b = lookupCell l b := by
  induction l with
  | nil => simp [insertCell, lookupCell, h]
  | cons c r ih =>
    obtain ⟨k, v⟩ := c
    simp only [insertCell]
    split
    · simp [lookupCell, h]
    · split
      · rename_i h1 h2
        subst h2
        simp [lookupCell, h]
      · simp only [lookupCell, ih]

theorem lookupCell_eraseCell_other (l : List (Nat × α)) {a b : Nat} (h : b ≠ a) :
    lookupCell (eraseCell l a) b = lookupCell l b := by
  unfold eraseCell
  induction l with
  | nil => rfl
  | cons c r ih =>
    obtain ⟨k, v⟩ := c
    by_cases hk : k = a
    · subst hk
      rw [List.filter_cons_of_neg (by simp), ih]
      simp [lookupCell, h]
    · rw [List.filter_cons_of_pos (by simpa using hk)]
      simp only [lookupCell, ih]

theorem lookupCell_eraseCell_same (l : List (Nat × α)) (a : Nat) : lookupCell (eraseCell l a) a = none := by
  unfold eraseCell
  induction l with
  | nil => rfl
  | cons c r ih =>
    obtain ⟨k, v⟩ := c
    by_cases hk : k = a
    · subst hk
      rw [List.filter_cons_of_neg (by simp), ih]
    · rw [List.filter_cons_of_pos (by simpa using hk)]
      simp only [lookupCell, ih, if_neg (fun h => hk (Eq.symm h))]

theorem risingAbove_insertCell {l : List (Nat × α)} {o : Option Nat} (a : Nat) (x : α) (h : risingAbove o l = true)
    (ho : ∀ b, o = some b → b < a) : risingAbove o (insertCell l a x) = true := by
  induction l generalizing o with
  | nil => cases o with
    | none => rfl
    | some b => simp [insertCell, risingAbove, ho b rfl]
  | cons c r ih =>
    obtain ⟨k, v⟩ := c
    simp only [risingAbove, Bool.and_eq_true] at h
    simp only [insertCell]
    split
    · rename_i h1
      cases o with
      | none => simp [risingAbove, h1, h.2]
      | some b => simp [risingAbove, h1, h.2, ho b rfl]
    · split
      · rename_i h1 h2
        subst h2
        cases o with
        | none => simpa [risingAbove] using h.2
        | some b => simpa [risingAbove, ho b rfl] using h.2
      · rename_i h1 h2
        have hk : ∀ b, some k = some b → b < a := by
          intro b hb
          cases hb
          omega
        have := ih h.2 hk
        cases o with
        | none => simpa [risingAbove] using this
        | some b =>
          have h3 : b < k := by simpa using h.1
          simp [risingAbove, h3, this]

theorem risingAbove_filter {l : List (Nat × α)} (p : Nat × α → Bool) {o : Option Nat} (h : risingAbove o l = true) :
    risingAbove o (l.filter p) = true := by
  induction l generalizing o with
  | nil => exact h
  | cons c r ih =>
    obtain ⟨k, v⟩ := c
    simp only [risingAbove, Bool.and_eq_true] at h
    by_cases hp : p (k, v) = true
    · rw [List.filter_cons_of_pos hp]
      simp only [risingAbove, Bool.and_eq_true]
      exact ⟨h.1, ih h.2⟩
    · rw [List.filter_cons_of_neg hp]
      cases o with
      | none =>
        have := ih (o := some k) h.2
        revert this
        cases r.filter p with
        | nil => intro _; rfl
        | cons d q =>
          obtain ⟨m, w⟩ := d
          intro this
          simp only [risingAbove, Bool.and_eq_true] at this ⊢
          exact ⟨trivial, this.2⟩
      | some b =>
        have h3 : b < k := by simpa using h.1
        exact risingAbove_some_mono (by omega) (ih h.2)

theorem risingAbove_eraseCell {l : List (Nat × α)} {o : Option Nat} (a : Nat) (h : risingAbove o l = true) :
    risingAbove o (eraseCell l a) = true := risingAbove_filter _ h

theorem all_insertCell {p : Nat × α → Bool} {l : List (Nat × α)} {a : Nat} {x : α} (h : l.all p = true) (hx : p (a, x) = true) :
    (insertCell l a x).all p = true := by
  induction l with
  | nil => simp [insertCell, hx]
  | cons c r ih =>
    obtain ⟨k, v⟩ := c
    simp only [List.all_cons, Bool.and_eq_true] at h
    simp only [insertCell]
    split
    · simp only [List.all_cons, Bool.and_eq_true]; exact ⟨hx, h⟩
    · split
      · simp only [List.all_cons, Bool.and_eq_true]; exact ⟨hx, h.2⟩
      · simp only [List.all_cons, Bool.and_eq_true]; exact ⟨h.1, ih h.2⟩

theorem all_eraseCell {p : Nat × α → Bool} {l : List (Nat × α)} {a : Nat} (h : l.all p = true) :
    (eraseCell l a).all p = true := by
  simp only [eraseCell, List.all_eq_true] at h ⊢
  exact fun x hx => h x (List.mem_of_mem_filter hx)

variable [DecidableEq α]

/-- A read after a write of the same key. -/
@[simp] theorem Tbl.get_set_same (t : Tbl α) (d : α) (k : Nat) (v : α) : (t.set d k v).get d k = v := by
  unfold Tbl.set Tbl.get
  split
  · rename_i hv
    simp [lookupCell_eraseCell_same, hv]
  · simp [lookupCell_insertCell_same]

/-- A read after a write of another key. -/
theorem Tbl.get_set_other (t : Tbl α) (d e : α) {k j : Nat} (v : α) (hj : j ≠ k) : (t.set d k v).get e j = t.get e j := by
  unfold Tbl.set Tbl.get
  split
  · simp [lookupCell_eraseCell_other _ hj]
  · simp [lookupCell_insertCell_other _ _ hj]

/-- The keys of a table in canonical form rise. -/
theorem Tbl.rising_of_wfBy {t : Tbl α} {d : Nat → α} (h : t.wfBy d = true) : risingAbove none t.cells = true := by
  simp only [Tbl.wfBy, Bool.and_eq_true] at h
  exact h.1

/-- A write keeps the canonical form. -/
theorem Tbl.set_wfBy (t : Tbl α) (d : Nat → α) (k : Nat) (v : α) (h : t.wfBy d = true) :
    (t.set (d k) k v).wfBy d = true := by
  simp only [Tbl.wfBy, Bool.and_eq_true] at h
  unfold Tbl.set
  split
  · simp only [Tbl.wfBy, Bool.and_eq_true]
    exact ⟨risingAbove_eraseCell k h.1, all_eraseCell h.2⟩
  · rename_i hv
    simp only [Tbl.wfBy, Bool.and_eq_true]
    exact ⟨risingAbove_insertCell k v h.1 (by intro b hb; cases hb), all_insertCell h.2 (by simpa using hv)⟩

/-- A write keeps the canonical form. -/
theorem Tbl.set_wf (t : Tbl α) (d : α) (k : Nat) (v : α) (h : t.wf d = true) : (t.set d k v).wf d = true :=
  Tbl.set_wfBy t (fun _ => d) k v h

/-- Leaving entries out keeps the canonical form. -/
theorem Tbl.filter_wfBy (t : Tbl α) (d : Nat → α) (p : Nat × α → Bool) (h : t.wfBy d = true) :
    (Tbl.mk (t.cells.filter p)).wfBy d = true := by
  simp only [Tbl.wfBy, Bool.and_eq_true, List.all_eq_true] at h ⊢
  refine ⟨risingAbove_filter _ h.1, ?_⟩
  intro x hx
  exact h.2 x (List.mem_of_mem_filter hx)

/-- Dropping a range of keys keeps the canonical form. -/
theorem Tbl.drop_wf (t : Tbl α) (d : α) (lo hi : Nat) (h : t.wf d = true) : (t.drop lo hi).wf d = true :=
  Tbl.filter_wfBy t (fun _ => d) _ h

/-- An empty table is in canonical form. -/
theorem Tbl.empty_wf (d : α) : (({} : Tbl α)).wf d = true := rfl

end Sys2Proof.Machine
end

