-- ==== Sys2Proof/Laws/Ops.lean ====
section
/-! SUPPORT. Registers, fields and byte memories: a read after a write, and the canonical form that every operation on
memory keeps; and what each kind of row answers. -/

namespace Sys2Proof.Machine

/-! ### Fields of a word -/

/-- A number split at two places. -/
theorem split_bits (x lo w : Nat) : x = x % 2 ^ lo + 2 ^ lo * (bitsOf x lo w + 2 ^ w * (x / 2 ^ (lo + w))) := by
  have h1 : x = x % 2 ^ lo + 2 ^ lo * (x / 2 ^ lo) := (Nat.mod_add_div x (2 ^ lo)).symm
  have h2 : x / 2 ^ lo = (x / 2 ^ lo) % 2 ^ w + 2 ^ w * (x / 2 ^ lo / 2 ^ w) := (Nat.mod_add_div _ (2 ^ w)).symm
  have h3 : x / 2 ^ lo / 2 ^ w = x / 2 ^ (lo + w) := by rw [Nat.div_div_eq_div_mul, ← Nat.pow_add]
  unfold bitsOf
  rw [Nat.shiftRight_eq_div_pow]
  rw [← h3, ← h2, ← h1]

/-- The word with a field replaced, as a sum of its three parts. -/
theorem putBits_toNat (x : Word) {lo w : Nat} (v : Nat) (h : lo + w ≤ 32) :
    (putBits x lo w v).toNat = x.toNat % 2 ^ lo + 2 ^ lo * (v % 2 ^ w + 2 ^ w * (x.toNat / 2 ^ (lo + w))) := by
  have hs := split_bits x.toNat lo w
  have hm : v % 2 ^ w < 2 ^ w := Nat.mod_lt _ (Nat.two_pow_pos w)
  have hl : x.toNat % 2 ^ lo < 2 ^ lo := Nat.mod_lt _ (Nat.two_pow_pos lo)
  have hlt : x.toNat < 2 ^ 32 := x.isLt
  have hhi : x.toNat / 2 ^ (lo + w) < 2 ^ (32 - (lo + w)) := by
    rw [Nat.div_lt_iff_lt_mul (Nat.two_pow_pos _), ← Nat.pow_add]
    have : 32 - (lo + w) + (lo + w) = 32 := by omega
    rw [this]; exact hlt
  generalize hA : x.toNat / 2 ^ (lo + w) = A at *
  generalize hB : x.toNat % 2 ^ lo = B at *
  generalize hC : v % 2 ^ w = C at *
  have bound : B + 2 ^ lo * (C + 2 ^ w * A) < 2 ^ 32 := by
    have e : (2 : Nat) ^ 32 = 2 ^ lo * (2 ^ w * 2 ^ (32 - (lo + w))) := by
      rw [← Nat.pow_add, ← Nat.pow_add]; congr 1; omega
    rw [e]
    have h1 : C + 2 ^ w * A + 1 ≤ 2 ^ w * 2 ^ (32 - (lo + w)) := by
      have : 2 ^ w * (A + 1) ≤ 2 ^ w * 2 ^ (32 - (lo + w)) := Nat.mul_le_mul_left _ hhi
      rw [Nat.mul_add] at this
      omega
    have h2 : 2 ^ lo * (C + 2 ^ w * A + 1) ≤ 2 ^ lo * (2 ^ w * 2 ^ (32 - (lo + w))) := Nat.mul_le_mul_left _ h1
    rw [Nat.mul_add] at h2
    omega
  have inner : x.toNat - bitsOf x.toNat lo w <<< lo + C <<< lo = B + 2 ^ lo * (C + 2 ^ w * A) := by
    rw [Nat.shiftLeft_eq, Nat.shiftLeft_eq]
    generalize bitsOf x.toNat lo w = M at *
    have e1 : 2 ^ lo * (M + 2 ^ w * A) = M * 2 ^ lo + 2 ^ lo * (2 ^ w * A) := by rw [Nat.mul_add, Nat.mul_comm]
    have e2 : 2 ^ lo * (C + 2 ^ w * A) = C * 2 ^ lo + 2 ^ lo * (2 ^ w * A) := by rw [Nat.mul_add, Nat.mul_comm]
    omega
  unfold putBits
  rw [BitVec.toNat_ofNat, hC, inner, Nat.mod_eq_of_lt bound]

/-- The field that was replaced holds the new value. -/
theorem bitsOf_putBits_same (x : Word) {lo w : Nat} (v : Nat) (h : lo + w ≤ 32) :
    bitsOf (putBits x lo w v).toNat lo w = v % 2 ^ w := by
  rw [putBits_toNat x v h]
  unfold bitsOf
  rw [Nat.shiftRight_eq_div_pow, Nat.add_mul_div_left _ _ (Nat.two_pow_pos lo),
    Nat.div_eq_of_lt (Nat.mod_lt _ (Nat.two_pow_pos lo)), Nat.zero_add, Nat.add_mul_mod_self_left]
  exact Nat.mod_mod _ _

/-- A field below the one that was replaced is unchanged. -/
theorem bitsOf_putBits_below (x : Word) {lo w lo' w' : Nat} (v : Nat) (h : lo + w ≤ 32) (hd : lo' + w' ≤ lo) :
    bitsOf (putBits x lo w v).toNat lo' w' = bitsOf x.toNat lo' w' := by
  have key : ∀ y z : Nat, y % 2 ^ lo = z % 2 ^ lo → bitsOf y lo' w' = bitsOf z lo' w' := by
    have red : ∀ y : Nat, bitsOf y lo' w' = bitsOf (y % 2 ^ lo) lo' w' := by
      intro y
      unfold bitsOf
      rw [Nat.shiftRight_eq_div_pow, Nat.shiftRight_eq_div_pow]
      have e : lo = lo' + (lo - lo') := by omega
      rw [e, Nat.pow_add, Nat.mod_mul_right_div_self]
      exact (Nat.mod_mod_of_dvd _ (Nat.pow_dvd_pow 2 (by omega))).symm
    intro y z hyz
    rw [red y, red z, hyz]
  apply key
  rw [putBits_toNat x v h, Nat.add_mul_mod_self_left, Nat.mod_mod]

/-- A field above the one that was replaced is unchanged. -/
theorem bitsOf_putBits_above (x : Word) {lo w lo' w' : Nat} (v : Nat) (h : lo + w ≤ 32) (hd : lo + w ≤ lo') :
    bitsOf (putBits x lo w v).toNat lo' w' = bitsOf x.toNat lo' w' := by
  have top : (putBits x lo w v).toNat / 2 ^ (lo + w) = x.toNat / 2 ^ (lo + w) := by
    rw [putBits_toNat x v h, Nat.pow_add, ← Nat.div_div_eq_div_mul, Nat.add_mul_div_left _ _ (Nat.two_pow_pos lo),
      Nat.div_eq_of_lt (Nat.mod_lt _ (Nat.two_pow_pos lo)), Nat.zero_add, Nat.add_mul_div_left _ _ (Nat.two_pow_pos w),
      Nat.div_eq_of_lt (Nat.mod_lt _ (Nat.two_pow_pos w)), Nat.zero_add]
  have red : ∀ y : Nat, bitsOf y lo' w' = bitsOf (y / 2 ^ (lo + w)) (lo' - (lo + w)) w' := by
    intro y
    unfold bitsOf
    rw [Nat.shiftRight_eq_div_pow, Nat.shiftRight_eq_div_pow, Nat.div_div_eq_div_mul, ← Nat.pow_add]
    congr 3
    omega
  rw [red, red x.toNat, top]

/-! ### Registers -/

@[simp] theorem State.reg_setReg_same (s : State) (off : Nat) (w : Word) : (s.setReg off w).reg off = w :=
  Tbl.get_set_same _ _ _ _

theorem State.reg_setReg_other (s : State) {off off' : Nat} (w : Word) (hne : off' ≠ off) :
    (s.setReg off w).reg off' = s.reg off' :=
  Tbl.get_set_other _ _ _ _ hne

theorem State.setReg_regsWf (s : State) (off : Nat) (w : Word) (h : s.regsWf = true) : (s.setReg off w).regsWf = true :=
  Tbl.set_wfBy s.regs regReset off w h

theorem State.set_regsWf (s : State) (f : Fld) (v : Nat) (h : s.regsWf = true) : (s.set f v).regsWf = true :=
  s.setReg_regsWf _ _ h

theorem State.bump_regsWf (s : State) (f : Fld) (n : Nat) (h : s.regsWf = true) : (s.bump f n).regsWf = true :=
  s.set_regsWf _ _ h

/-- A field that was set reads back, cut to its width. -/
theorem State.get_set_same (s : State) (f : Fld) (v : Nat) (hf : f.lo + f.width ≤ 32) :
    (s.set f v).get f = v % 2 ^ f.width := by
  unfold State.get State.set
  rw [State.reg_setReg_same]
  exact bitsOf_putBits_same _ _ hf

/-- Two fields do not share a bit. -/
def Fld.apart (f g : Fld) : Prop := f.off ≠ g.off ∨ f.lo + f.width ≤ g.lo ∨ g.lo + g.width ≤ f.lo

/-- Setting a field leaves the others. -/
theorem State.get_set_apart (s : State) {f g : Fld} (v : Nat) (hf : f.lo + f.width ≤ 32) (hg : f.apart g) :
    (s.set f v).get g = s.get g := by
  unfold State.get State.set
  by_cases ho : g.off = f.off
  · rw [ho, State.reg_setReg_same]
    rcases hg with h1 | h1 | h1
    · exact absurd ho.symm h1
    · exact bitsOf_putBits_above _ _ hf h1
    · exact bitsOf_putBits_below _ _ hf h1
  · rw [State.reg_setReg_other _ _ ho]

/-- Setting a field leaves every register at another offset. -/
theorem State.reg_set_other (s : State) {f : Fld} {off : Nat} (v : Nat) (hne : off ≠ f.off) :
    (s.set f v).reg off = s.reg off := s.reg_setReg_other _ hne

/-! ### Byte memories -/

theorem writeBytes_wf (l : List Byte) : ∀ (m : Tbl Byte) (a : Nat), m.wf 0 = true → (writeBytes m a l).wf 0 = true := by
  induction l with
  | nil => intro m a h; exact h
  | cons b r ih => intro m a h; exact ih _ _ (Tbl.set_wf m 0 a b h)

/-- A byte outside the bytes written is unchanged. -/
theorem byteOf_writeBytes_outside (l : List Byte) : ∀ (m : Tbl Byte) (a x : Nat), (x < a ∨ a + l.length ≤ x) →
    byteOf (writeBytes m a l) x = byteOf m x := by
  induction l with
  | nil => intro m a x _; rfl
  | cons b r ih =>
    intro m a x hx
    simp only [List.length_cons] at hx
    simp only [writeBytes]
    rw [ih _ _ _ (by omega)]
    exact Tbl.get_set_other _ _ _ _ (by omega)

/-- The bytes written read back. -/
theorem readBytes_writeBytes (l : List Byte) : ∀ (m : Tbl Byte) (a : Nat), readBytes (writeBytes m a l) a l.length = l := by
  induction l with
  | nil => intro m a; rfl
  | cons b r ih =>
    intro m a
    simp only [writeBytes, List.length_cons, readBytes]
    rw [ih, byteOf_writeBytes_outside r _ _ _ (by omega)]
    congr 1
    exact Tbl.get_set_same _ _ _ _

/-! ### The canonical form of memory -/

theorem Memory.wf_iff (s : State) : Memory.wf s = true ↔ s.host.mem.wf 0 = true ∧ s.pmem.wf 0 = true ∧ s.perr.wf 0 = true ∧
    s.cellar.words.wfBy (fun b => encodeBlock b zeroBlock) = true ∧ s.msix.table.wfBy msixReset = true ∧ s.regsWf = true := by
  simp only [Memory.wf, Bool.and_eq_true]
  constructor
  · rintro ⟨⟨⟨⟨⟨a, b⟩, c⟩, d⟩, e⟩, f⟩; exact ⟨a, b, c, d, e, f⟩
  · rintro ⟨a, b, c, d, e, f⟩; exact ⟨⟨⟨⟨⟨a, b⟩, c⟩, d⟩, e⟩, f⟩

theorem Memory.wf_reset : Memory.wf State.reset = true := by
  rw [Memory.wf_iff]
  refine ⟨rfl, rfl, rfl, rfl, rfl, ?_⟩
  decide

theorem Memory.wf_at (s : State) (t : Nat) (h : Memory.wf s = true) : Memory.wf (s.at t) = true := h

theorem Memory.wf_keepQueue (s u : State) (h : Memory.wf u = true) : Memory.wf (s.keepQueue u) = true := h

theorem Memory.wf_emit (s : State) (o : Out) (h : Memory.wf s = true) : Memory.wf (s.emit o) = true := h

theorem Memory.wf_setReg (s : State) (off : Nat) (w : Word) (h : Memory.wf s = true) : Memory.wf (s.setReg off w) = true := by
  rw [Memory.wf_iff] at h ⊢
  exact ⟨h.1, h.2.1, h.2.2.1, h.2.2.2.1, h.2.2.2.2.1, s.setReg_regsWf off w h.2.2.2.2.2⟩

theorem Memory.wf_set (s : State) (f : Fld) (v : Nat) (h : Memory.wf s = true) : Memory.wf (s.set f v) = true :=
  Memory.wf_setReg s _ _ h

theorem Memory.wf_bump (s : State) (f : Fld) (n : Nat) (h : Memory.wf s = true) : Memory.wf (s.bump f n) = true :=
  Memory.wf_set s _ _ h

theorem Memory.wf_setCodeword (s : State) (b : Nat) (w : Codeword) (h : Memory.wf s = true) :
    Memory.wf (s.setCodeword b w) = true := by
  rw [Memory.wf_iff] at h ⊢
  exact ⟨h.1, h.2.1, h.2.2.1, Tbl.set_wfBy _ (fun b => encodeBlock b zeroBlock) b w h.2.2.2.1, h.2.2.2.2.1, h.2.2.2.2.2⟩

theorem Memory.wf_hostWrite (s : State) (a : Nat) (l : List Byte) (h : Memory.wf s = true) :
    Memory.wf (s.hostWrite a l).2 = true := by
  unfold State.hostWrite
  split
  · apply Memory.wf_emit
    rw [Memory.wf_iff] at h ⊢
    exact ⟨writeBytes_wf l _ a h.1, h.2⟩
  · exact h

/-! ### What each kind of row answers -/

/-- A row of the core while the core runs. -/
theorem coreStep_run {t : Nat} {f : State → State} {s : State} (h : s.core = .run) :
    coreStep t f s = .next (s.keepQueue (f (s.advance t))) := by simp [coreStep, h]

/-- A row of the core while the core does not run: time passes and nothing else. -/
theorem coreStep_idle {t : Nat} {f : State → State} {s : State} (h : s.core ≠ .run) :
    coreStep t f s = .next (s.keepQueue (s.at t)) := by simp [coreStep, h]

/-- A row of the core always answers a next state, and leaves the queue. -/
theorem coreStep_next (t : Nat) (f : State → State) (s : State) :
    ∃ u, coreStep t f s = .next u ∧ u.pending = s.pending := ⟨_, rfl, rfl⟩

/-- A row of the Triangle while the supervisor has power. -/
theorem triStep_on {t : Nat} {f : State → State} {s : State} (h : s.power.vinOk = true) :
    triStep t f s = .next (s.keepQueue (f (s.advance t))) := by simp [triStep, h]

theorem triStep_next (t : Nat) (f : State → State) (s : State) :
    ∃ u, triStep t f s = .next u ∧ u.pending = s.pending := ⟨_, rfl, rfl⟩

theorem supervisorStep_next (t : Nat) (f : State → State) (s : State) :
    ∃ u, supervisorStep t f s = .next u ∧ u.pending = s.pending := ⟨_, rfl, rfl⟩

/-- Settling the lines of the ports: a port that has none in flight is left as it is. -/
theorem State.advance_of_no_lines (s : State) (t : Nat)
    (h : (s.ports.keys.filter (fun p => decide ((s.ports.get {} p).lines ≠ []))) = []) : s.advance t = s.at t := by
  unfold State.advance
  have : (s.at t).ports = s.ports := rfl
  simp only [this, h, List.foldl_nil]

end Sys2Proof.Machine
end

