-- ==== Sys2Proof/Laws/Exec.lean ====
section
/-! SUPPORT. What `exec` is on each command: its meaning. -/

namespace Sys2Proof.Machine

@[simp] theorem exec_sysNop (t : Nat) (rq : Req) (s : State) :
    exec (.sysNop t rq) s = execSysNop t rq s := rfl
@[simp] theorem exec_sysQuery (t : Nat) (rq : Req) (s : State) :
    exec (.sysQuery t rq) s = execSysQuery t rq s := rfl
@[simp] theorem exec_sysCommit (t : Nat) (rq : Req) (s : State) :
    exec (.sysCommit t rq) s = execSysCommit t rq s := rfl
@[simp] theorem exec_sysUncommit (t : Nat) (rq : Req) (s : State) :
    exec (.sysUncommit t rq) s = execSysUncommit t rq s := rfl
@[simp] theorem exec_jobStart (t : Nat) (rq : Req) (s : State) :
    exec (.jobStart t rq) s = execJobStart t rq s := rfl
@[simp] theorem exec_jobEnd (t : Nat) (rq : Req) (s : State) :
    exec (.jobEnd t rq) s = execJobEnd t rq s := rfl
@[simp] theorem exec_sysMaintain (t : Nat) (rq : Req) (s : State) :
    exec (.sysMaintain t rq) s = execSysMaintain t rq s := rfl
@[simp] theorem exec_sysClearHalt (t : Nat) (rq : Req) (s : State) :
    exec (.sysClearHalt t rq) s = execSysClearHalt t rq s := rfl
@[simp] theorem exec_sysReset (t : Nat) (rq : Req) (s : State) :
    exec (.sysReset t rq) s = execSysReset t rq s := rfl
@[simp] theorem exec_geoClear (t : Nat) (rq : Req) (s : State) :
    exec (.geoClear t rq) s = execGeoClear t rq s := rfl
@[simp] theorem exec_geoPlane (t : Nat) (rq : Req) (s : State) :
    exec (.geoPlane t rq) s = execGeoPlane t rq s := rfl
@[simp] theorem exec_geoRows (t : Nat) (rq : Req) (s : State) :
    exec (.geoRows t rq) s = execGeoRows t rq s := rfl
@[simp] theorem exec_geoRowsets (t : Nat) (rq : Req) (s : State) :
    exec (.geoRowsets t rq) s = execGeoRowsets t rq s := rfl
@[simp] theorem exec_geoQuery (t : Nat) (rq : Req) (s : State) :
    exec (.geoQuery t rq) s = execGeoQuery t rq s := rfl
@[simp] theorem exec_geoReadRow (t : Nat) (rq : Req) (s : State) :
    exec (.geoReadRow t rq) s = execGeoReadRow t rq s := rfl
@[simp] theorem exec_geoScrub (t : Nat) (rq : Req) (s : State) :
    exec (.geoScrub t rq) s = execGeoScrub t rq s := rfl
@[simp] theorem exec_streamOpen (t : Nat) (rq : Req) (s : State) :
    exec (.streamOpen t rq) s = execStreamOpen t rq s := rfl
@[simp] theorem exec_streamClose (t : Nat) (rq : Req) (s : State) :
    exec (.streamClose t rq) s = execStreamClose t rq s := rfl
@[simp] theorem exec_streamReset (t : Nat) (rq : Req) (s : State) :
    exec (.streamReset t rq) s = execStreamReset t rq s := rfl
@[simp] theorem exec_streamWater (t : Nat) (rq : Req) (s : State) :
    exec (.streamWater t rq) s = execStreamWater t rq s := rfl
@[simp] theorem exec_streamQuery (t : Nat) (rq : Req) (s : State) :
    exec (.streamQuery t rq) s = execStreamQuery t rq s := rfl
@[simp] theorem exec_streamFaults (t : Nat) (rq : Req) (s : State) :
    exec (.streamFaults t rq) s = execStreamFaults t rq s := rfl
@[simp] theorem exec_lineRemap (t : Nat) (rq : Req) (s : State) :
    exec (.lineRemap t rq) s = execLineRemap t rq s := rfl
@[simp] theorem exec_lineBoost (t : Nat) (rq : Req) (s : State) :
    exec (.lineBoost t rq) s = execLineBoost t rq s := rfl
@[simp] theorem exec_lineMaskLoad (t : Nat) (rq : Req) (s : State) :
    exec (.lineMaskLoad t rq) s = execLineMaskLoad t rq s := rfl
@[simp] theorem exec_lineMaskGen (t : Nat) (rq : Req) (s : State) :
    exec (.lineMaskGen t rq) s = execLineMaskGen t rq s := rfl
@[simp] theorem exec_lineMaskClear (t : Nat) (rq : Req) (s : State) :
    exec (.lineMaskClear t rq) s = execLineMaskClear t rq s := rfl
@[simp] theorem exec_lineFlags (t : Nat) (rq : Req) (s : State) :
    exec (.lineFlags t rq) s = execLineFlags t rq s := rfl
@[simp] theorem exec_lineQuery (t : Nat) (rq : Req) (s : State) :
    exec (.lineQuery t rq) s = execLineQuery t rq s := rfl
@[simp] theorem exec_timingEncoder (t : Nat) (rq : Req) (s : State) :
    exec (.timingEncoder t rq) s = execTimingEncoder t rq s := rfl
@[simp] theorem exec_timingTrack (t : Nat) (rq : Req) (s : State) :
    exec (.timingTrack t rq) s = execTimingTrack t rq s := rfl
@[simp] theorem exec_timingLive (t : Nat) (rq : Req) (s : State) :
    exec (.timingLive t rq) s = execTimingLive t rq s := rfl
@[simp] theorem exec_timingGovernor (t : Nat) (rq : Req) (s : State) :
    exec (.timingGovernor t rq) s = execTimingGovernor t rq s := rfl
@[simp] theorem exec_timingLtrig (t : Nat) (rq : Req) (s : State) :
    exec (.timingLtrig t rq) s = execTimingLtrig t rq s := rfl
@[simp] theorem exec_timingNozzleTrim (t : Nat) (rq : Req) (s : State) :
    exec (.timingNozzleTrim t rq) s = execTimingNozzleTrim t rq s := rfl
@[simp] theorem exec_timingQuery (t : Nat) (rq : Req) (s : State) :
    exec (.timingQuery t rq) s = execTimingQuery t rq s := rfl
@[simp] theorem exec_waveModule (t : Nat) (rq : Req) (s : State) :
    exec (.waveModule t rq) s = execWaveModule t rq s := rfl
@[simp] theorem exec_waveLoad (t : Nat) (rq : Req) (s : State) :
    exec (.waveLoad t rq) s = execWaveLoad t rq s := rfl
@[simp] theorem exec_waveTemp (t : Nat) (rq : Req) (s : State) :
    exec (.waveTemp t rq) s = execWaveTemp t rq s := rfl
@[simp] theorem exec_waveMap (t : Nat) (rq : Req) (s : State) :
    exec (.waveMap t rq) s = execWaveMap t rq s := rfl
@[simp] theorem exec_waveAmpTrim (t : Nat) (rq : Req) (s : State) :
    exec (.waveAmpTrim t rq) s = execWaveAmpTrim t rq s := rfl
@[simp] theorem exec_wavePort (t : Nat) (rq : Req) (s : State) :
    exec (.wavePort t rq) s = execWavePort t rq s := rfl
@[simp] theorem exec_waveDeadband (t : Nat) (rq : Req) (s : State) :
    exec (.waveDeadband t rq) s = execWaveDeadband t rq s := rfl
@[simp] theorem exec_waveQuery (t : Nat) (rq : Req) (s : State) :
    exec (.waveQuery t rq) s = execWaveQuery t rq s := rfl
@[simp] theorem exec_headConfig (t : Nat) (rq : Req) (s : State) :
    exec (.headConfig t rq) s = execHeadConfig t rq s := rfl
@[simp] theorem exec_headLink (t : Nat) (rq : Req) (s : State) :
    exec (.headLink t rq) s = execHeadLink t rq s := rfl
@[simp] theorem exec_headSpit (t : Nat) (rq : Req) (s : State) :
    exec (.headSpit t rq) s = execHeadSpit t rq s := rfl
@[simp] theorem exec_headUsage (t : Nat) (rq : Req) (s : State) :
    exec (.headUsage t rq) s = execHeadUsage t rq s := rfl
@[simp] theorem exec_headQuery (t : Nat) (rq : Req) (s : State) :
    exec (.headQuery t rq) s = execHeadQuery t rq s := rfl
@[simp] theorem exec_headPurge (t : Nat) (rq : Req) (s : State) :
    exec (.headPurge t rq) s = execHeadPurge t rq s := rfl
@[simp] theorem exec_headPattern (t : Nat) (rq : Req) (s : State) :
    exec (.headPattern t rq) s = execHeadPattern t rq s := rfl
@[simp] theorem exec_watchConfig (t : Nat) (rq : Req) (s : State) :
    exec (.watchConfig t rq) s = execWatchConfig t rq s := rfl
@[simp] theorem exec_watchLearn (t : Nat) (rq : Req) (s : State) :
    exec (.watchLearn t rq) s = execWatchLearn t rq s := rfl
@[simp] theorem exec_watchSet (t : Nat) (rq : Req) (s : State) :
    exec (.watchSet t rq) s = execWatchSet t rq s := rfl
@[simp] theorem exec_watchRead (t : Nat) (rq : Req) (s : State) :
    exec (.watchRead t rq) s = execWatchRead t rq s := rfl
@[simp] theorem exec_watchRefSave (t : Nat) (rq : Req) (s : State) :
    exec (.watchRefSave t rq) s = execWatchRefSave t rq s := rfl
@[simp] theorem exec_watchRefLoad (t : Nat) (rq : Req) (s : State) :
    exec (.watchRefLoad t rq) s = execWatchRefLoad t rq s := rfl
@[simp] theorem exec_watchLog (t : Nat) (rq : Req) (s : State) :
    exec (.watchLog t rq) s = execWatchLog t rq s := rfl
@[simp] theorem exec_watchQuery (t : Nat) (rq : Req) (s : State) :
    exec (.watchQuery t rq) s = execWatchQuery t rq s := rfl
@[simp] theorem exec_ringConfig (t : Nat) (rq : Req) (s : State) :
    exec (.ringConfig t rq) s = execRingConfig t rq s := rfl
@[simp] theorem exec_ringDiscover (t : Nat) (rq : Req) (s : State) :
    exec (.ringDiscover t rq) s = execRingDiscover t rq s := rfl
@[simp] theorem exec_ringRole (t : Nat) (rq : Req) (s : State) :
    exec (.ringRole t rq) s = execRingRole t rq s := rfl
@[simp] theorem exec_ringQuery (t : Nat) (rq : Req) (s : State) :
    exec (.ringQuery t rq) s = execRingQuery t rq s := rfl
@[simp] theorem exec_ringTable (t : Nat) (rq : Req) (s : State) :
    exec (.ringTable t rq) s = execRingTable t rq s := rfl
@[simp] theorem exec_memBankPower (t : Nat) (rq : Req) (s : State) :
    exec (.memBankPower t rq) s = execMemBankPower t rq s := rfl
@[simp] theorem exec_memPatrol (t : Nat) (rq : Req) (s : State) :
    exec (.memPatrol t rq) s = execMemPatrol t rq s := rfl
@[simp] theorem exec_memCopy (t : Nat) (rq : Req) (s : State) :
    exec (.memCopy t rq) s = execMemCopy t rq s := rfl
@[simp] theorem exec_memQuery (t : Nat) (rq : Req) (s : State) :
    exec (.memQuery t rq) s = execMemQuery t rq s := rfl
@[simp] theorem exec_otpRead (t : Nat) (rq : Req) (s : State) :
    exec (.otpRead t rq) s = execOtpRead t rq s := rfl
@[simp] theorem exec_otpProgram (t : Nat) (rq : Req) (s : State) :
    exec (.otpProgram t rq) s = execOtpProgram t rq s := rfl
@[simp] theorem exec_otpSeal (t : Nat) (rq : Req) (s : State) :
    exec (.otpSeal t rq) s = execOtpSeal t rq s := rfl
@[simp] theorem exec_otpLock (t : Nat) (rq : Req) (s : State) :
    exec (.otpLock t rq) s = execOtpLock t rq s := rfl
@[simp] theorem exec_otpSticky (t : Nat) (rq : Req) (s : State) :
    exec (.otpSticky t rq) s = execOtpSticky t rq s := rfl
@[simp] theorem exec_otpQuery (t : Nat) (rq : Req) (s : State) :
    exec (.otpQuery t rq) s = execOtpQuery t rq s := rfl
@[simp] theorem exec_thermDie (t : Nat) (rq : Req) (s : State) :
    exec (.thermDie t rq) s = execThermDie t rq s := rfl
@[simp] theorem exec_thermHeadLimits (t : Nat) (rq : Req) (s : State) :
    exec (.thermHeadLimits t rq) s = execThermHeadLimits t rq s := rfl
@[simp] theorem exec_thermThTable (t : Nat) (rq : Req) (s : State) :
    exec (.thermThTable t rq) s = execThermThTable t rq s := rfl
@[simp] theorem exec_thermTriangle (t : Nat) (rq : Req) (s : State) :
    exec (.thermTriangle t rq) s = execThermTriangle t rq s := rfl
@[simp] theorem exec_thermQuery (t : Nat) (rq : Req) (s : State) :
    exec (.thermQuery t rq) s = execThermQuery t rq s := rfl
@[simp] theorem exec_healthReport (t : Nat) (rq : Req) (s : State) :
    exec (.healthReport t rq) s = execHealthReport t rq s := rfl
@[simp] theorem exec_healthLog (t : Nat) (rq : Req) (s : State) :
    exec (.healthLog t rq) s = execHealthLog t rq s := rfl
@[simp] theorem exec_healthConfig (t : Nat) (rq : Req) (s : State) :
    exec (.healthConfig t rq) s = execHealthConfig t rq s := rfl
@[simp] theorem exec_healthClear (t : Nat) (rq : Req) (s : State) :
    exec (.healthClear t rq) s = execHealthClear t rq s := rfl
@[simp] theorem exec_diagEnter (t : Nat) (rq : Req) (s : State) :
    exec (.diagEnter t rq) s = execDiagEnter t rq s := rfl
@[simp] theorem exec_diagLeave (t : Nat) (rq : Req) (s : State) :
    exec (.diagLeave t rq) s = execDiagLeave t rq s := rfl
@[simp] theorem exec_diagQuery (t : Nat) (rq : Req) (s : State) :
    exec (.diagQuery t rq) s = execDiagQuery t rq s := rfl
@[simp] theorem exec_prepare (t : Nat) (op : Nat) (rq : Req) (s : State) :
    exec (.prepare t op rq) s = execPrepare t op rq s := rfl
@[simp] theorem exec_commit (t : Nat) (op : Nat) (rq : Req) (s : State) :
    exec (.commit t op rq) s = execCommit t op rq s := rfl
@[simp] theorem exec_abort (t : Nat) (op : Nat) (rq : Req) (s : State) :
    exec (.abort t op rq) s = execAbort t op rq s := rfl
@[simp] theorem exec_prepareLapsed (t : Nat) (origin porch : Nat) (s : State) :
    exec (.prepareLapsed t origin porch) s = execPrepareLapsed t origin porch s := rfl
@[simp] theorem exec_bootQuery (t : Nat) (rq : Req) (s : State) :
    exec (.bootQuery t rq) s = execBootQuery t rq s := rfl
@[simp] theorem exec_bootWrite (t : Nat) (rq : Req) (s : State) :
    exec (.bootWrite t rq) s = execBootWrite t rq s := rfl
@[simp] theorem exec_bootFetch (t : Nat) (rq : Req) (s : State) :
    exec (.bootFetch t rq) s = execBootFetch t rq s := rfl
@[simp] theorem exec_bootRun (t : Nat) (rq : Req) (fails : Nat) (s : State) :
    exec (.bootRun t rq fails) s = execBootRun t rq fails s := rfl
@[simp] theorem exec_bootClear (t : Nat) (rq : Req) (s : State) :
    exec (.bootClear t rq) s = execBootClear t rq s := rfl
@[simp] theorem exec_readyForHost (t : Nat) (trained temps : Nat) (s : State) :
    exec (.readyForHost t trained temps) s = execReadyForHost t trained temps s := rfl
@[simp] theorem exec_doorbell (t : Nat) (path : Path) (n seq : Nat) (s : State) :
    exec (.doorbell t path n seq) s = execDoorbell t path n seq s := rfl
@[simp] theorem exec_commandApply (t : Nat) (slot : Nat) (s : State) :
    exec (.commandApply t slot) s = execCommandApply t slot s := rfl
@[simp] theorem exec_commandDeadline (t : Nat) (slot : Nat) (s : State) :
    exec (.commandDeadline t slot) s = execCommandDeadline t slot s := rfl
@[simp] theorem exec_evReadWrite (t : Nat) (path : Path) (v : Nat) (s : State) :
    exec (.evReadWrite t path v) s = execEvReadWrite t path v s := rfl
@[simp] theorem exec_featureAcceptWrite (t : Nat) (path : Path) (k v : Nat) (s : State) :
    exec (.featureAcceptWrite t path k v) s = execFeatureAcceptWrite t path k v s := rfl
@[simp] theorem exec_tailWrite (t : Nat) (path : Path) (n v : Nat) (s : State) :
    exec (.tailWrite t path n v) s = execTailWrite t path n v s := rfl
@[simp] theorem exec_porchRamAccess (t : Nat) (path : Path) (off n : Nat) (write : Option (List (Option Byte))) (cp : List Nat) (s : State) :
    exec (.porchRamAccess t path off n write cp) s = execPorchRamAccess t path off n write cp s := rfl
@[simp] theorem exec_bootWindowAccess (t : Nat) (path : Path) (off n : Nat) (write : Option (List (Option Byte))) (s : State) :
    exec (.bootWindowAccess t path off n write) s = execBootWindowAccess t path off n write s := rfl
@[simp] theorem exec_rcFieldRead (t : Nat) (path : Path) (off width : Nat) (s : State) :
    exec (.rcFieldRead t path off width) s = execRcFieldRead t path off width s := rfl
@[simp] theorem exec_timeLoRead (t : Nat) (path : Path) (s : State) :
    exec (.timeLoRead t path) s = execTimeLoRead t path s := rfl
@[simp] theorem exec_registerWrite (t : Nat) (path : Path) (off width v : Nat) (s : State) :
    exec (.registerWrite t path off width v) s = execRegisterWrite t path off width v s := rfl
@[simp] theorem exec_msixUnmask (t : Nat) (w : MaskWrite) (s : State) :
    exec (.msixUnmask t w) s = execMsixUnmask t w s := rfl
@[simp] theorem exec_wdKick (t : Nat) (host : Option Path) (writes : List (Nat × Nat)) (s : State) :
    exec (.wdKick t host writes) s = execWdKick t host writes s := rfl
@[simp] theorem exec_cellarForceOffline (t : Nat) (path : Path) (c : Nat) (s : State) :
    exec (.cellarForceOffline t path c) s = execCellarForceOffline t path c s := rfl
@[simp] theorem exec_decompForceOffline (t : Nat) (path : Path) (k : Nat) (s : State) :
    exec (.decompForceOffline t path k) s = execDecompForceOffline t path k s := rfl
@[simp] theorem exec_lineEngineForceOffline (t : Nat) (path : Path) (e : Nat) (s : State) :
    exec (.lineEngineForceOffline t path e) s = execLineEngineForceOffline t path e s := rfl
@[simp] theorem exec_waveEngineForceOffline (t : Nat) (path : Path) (w : Nat) (s : State) :
    exec (.waveEngineForceOffline t path w) s = execWaveEngineForceOffline t path w s := rfl
@[simp] theorem exec_otpProgKeyWrite (t : Nat) (path : Path) (v : Nat) (s : State) :
    exec (.otpProgKeyWrite t path v) s = execOtpProgKeyWrite t path v s := rfl
@[simp] theorem exec_otpProgGo (t : Nat) (path : Path) (s : State) :
    exec (.otpProgGo t path) s = execOtpProgGo t path s := rfl
@[simp] theorem exec_otpReadAddrWrite (t : Nat) (path : Path) (w : Nat) (s : State) :
    exec (.otpReadAddrWrite t path w) s = execOtpReadAddrWrite t path w s := rfl
@[simp] theorem exec_dwProgramStart (t : Nat) (m prog base priority : Nat) (priv : Bool) (s : State) :
    exec (.dwProgramStart t m prog base priority priv) s = execDwProgramStart t m prog base priority priv s := rfl
@[simp] theorem exec_dwStop (t : Nat) (host : Option Path) (m : Nat) (s : State) :
    exec (.dwStop t host m) s = execDwStop t host m s := rfl
@[simp] theorem exec_dwXferGo (t : Nat) (who : XferBy) (m v : Nat) (s : State) :
    exec (.dwXferGo t who m v) s = execDwXferGo t who m v s := rfl
@[simp] theorem exec_dwShadowGo (t : Nat) (who : XferBy) (m v : Nat) (s : State) :
    exec (.dwShadowGo t who m v) s = execDwShadowGo t who m v s := rfl
@[simp] theorem exec_spiReadFrame (t : Nat) (cmd off n : Nat) (s : State) :
    exec (.spiReadFrame t cmd off n) s = execSpiReadFrame t cmd off n s := rfl
@[simp] theorem exec_spiWriteFrame (t : Nat) (off : Nat) (words : List Nat) (cut : Bool) (s : State) :
    exec (.spiWriteFrame t off words cut) s = execSpiWriteFrame t off words cut s := rfl
@[simp] theorem exec_spiAbort (t : Nat) (frame : Option SpiFrame) (s : State) :
    exec (.spiAbort t frame) s = execSpiAbort t frame s := rfl
@[simp] theorem exec_powerOn (t : Nat) (vin : Nat) (unpowered clock : Bool) (s : State) :
    exec (.powerOn t vin unpowered clock) s = execPowerOn t vin unpowered clock s := rfl
@[simp] theorem exec_resetN (t : Nat) (low : Bool) (ns : Nat) (s : State) :
    exec (.resetN t low ns) s = execResetN t low ns s := rfl
@[simp] theorem exec_perstN (t : Nat) (low : Bool) (s : State) :
    exec (.perstN t low) s = execPerstN t low s := rfl
@[simp] theorem exec_sysclkValid (t : Nat) (ns : Nat) (s : State) :
    exec (.sysclkValid t ns) s = execSysclkValid t ns s := rfl
@[simp] theorem exec_pcieLinkTrained (t : Nat) (width speed bestWidth bestSpeed : Nat) (s : State) :
    exec (.pcieLinkTrained t width speed bestWidth bestSpeed) s = execPcieLinkTrained t width speed bestWidth bestSpeed s := rfl
@[simp] theorem exec_vinUndervoltage (t : Nat) (vin ns : Nat) (s : State) :
    exec (.vinUndervoltage t vin ns) s = execVinUndervoltage t vin ns s := rfl
@[simp] theorem exec_vinOvervoltage (t : Nat) (vin ns : Nat) (s : State) :
    exec (.vinOvervoltage t vin ns) s = execVinOvervoltage t vin ns s := rfl
@[simp] theorem exec_vinOvervoltageRestart (t : Nat) (vin ns : Nat) (s : State) :
    exec (.vinOvervoltageRestart t vin ns) s = execVinOvervoltageRestart t vin ns s := rfl
@[simp] theorem exec_vinMarginal (t : Nat) (vin ns : Nat) (s : State) :
    exec (.vinMarginal t vin ns) s = execVinMarginal t vin ns s := rfl
@[simp] theorem exec_vinMarginalClear (t : Nat) (vin ns : Nat) (s : State) :
    exec (.vinMarginalClear t vin ns) s = execVinMarginalClear t vin ns s := rfl
@[simp] theorem exec_dieSensorReading (t : Nat) (readings : List (Nat × Int)) (s : State) :
    exec (.dieSensorReading t readings) s = execDieSensorReading t readings s := rfl
@[simp] theorem exec_thermalRestart (t : Nat) (s : State) :
    exec (.thermalRestart t) s = execThermalRestart t s := rfl
@[simp] theorem exec_thConversion (t : Nat) (n code : Nat) (s : State) :
    exec (.thConversion t n code) s = execThConversion t n code s := rfl
@[simp] theorem exec_safetyInputAccept (t : Nat) (ch input : Nat) (level : Bool) (s : State) :
    exec (.safetyInputAccept t ch input level) s = execSafetyInputAccept t ch input level s := rfl
@[simp] theorem exec_estopDiscrepancy (t : Nat) (ch : Nat) (s : State) :
    exec (.estopDiscrepancy t ch) s = execEstopDiscrepancy t ch s := rfl
@[simp] theorem exec_cpWatchdogExpiry (t : Nat) (s : State) :
    exec (.cpWatchdogExpiry t) s = execCpWatchdogExpiry t s := rfl
@[simp] theorem exec_livenessStall (t : Nat) (stalled : Bool) (s : State) :
    exec (.livenessStall t stalled) s = execLivenessStall t stalled s := rfl
@[simp] theorem exec_clockFault (t : Nat) (ratio : Int) (osc : Nat) (s : State) :
    exec (.clockFault t ratio osc) s = execClockFault t ratio osc s := rfl
@[simp] theorem exec_clockMarginal (t : Nat) (ratio : Int) (s : State) :
    exec (.clockMarginal t ratio) s = execClockMarginal t ratio s := rfl
@[simp] theorem exec_clockMarginalClear (t : Nat) (ratio : Int) (s : State) :
    exec (.clockMarginalClear t ratio) s = execClockMarginalClear t ratio s := rfl
@[simp] theorem exec_triangleDisagree (t : Nat) (ch : Nat) (s : State) :
    exec (.triangleDisagree t ch) s = execTriangleDisagree t ch s := rfl
@[simp] theorem exec_haltEntry (t : Nat) (cause : Nat) (s : State) :
    exec (.haltEntry t cause) s = execHaltEntry t cause s := rfl
@[simp] theorem exec_hpHeartbeat (t : Nat) (s : State) :
    exec (.hpHeartbeat t) s = execHpHeartbeat t s := rfl
@[simp] theorem exec_hpStall (t : Nat) (s : State) :
    exec (.hpStall t) s = execHpStall t s := rfl
@[simp] theorem exec_healthDrain (t : Nat) (s : State) :
    exec (.healthDrain t) s = execHealthDrain t s := rfl
@[simp] theorem exec_encoderSample (t : Nat) (e : Nat) (a b z half : Bool) (s : State) :
    exec (.encoderSample t e a b z half) s = execEncoderSample t e a b z half s := rfl
@[simp] theorem exec_ssiRead (t : Nat) (e clk : Nat) (high : Bool) (value : Nat) (s : State) :
    exec (.ssiRead t e clk high value) s = execSsiRead t e clk high value s := rfl
@[simp] theorem exec_bissRead (t : Nat) (e clk : Nat) (frame : Option (Nat × Bool × Bool × Nat)) (s : State) :
    exec (.bissRead t e clk frame) s = execBissRead t e clk frame s := rfl
@[simp] theorem exec_zIndex (t : Nat) (e : Nat) (s : State) :
    exec (.zIndex t e) s = execZIndex t e s := rfl
@[simp] theorem exec_encInputFault (t : Nat) (e : Nat) (s : State) :
    exec (.encInputFault t e) s = execEncInputFault t e s := rfl
@[simp] theorem exec_encInputRecover (t : Nat) (e : Nat) (s : State) :
    exec (.encInputRecover t e) s = execEncInputRecover t e s := rfl
@[simp] theorem exec_encStall (t : Nat) (e : Nat) (s : State) :
    exec (.encStall t e) s = execEncStall t e s := rfl
@[simp] theorem exec_schedulerEval (t : Nat) (tr : Nat) (s : State) :
    exec (.schedulerEval t tr) s = execSchedulerEval t tr s := rfl
@[simp] theorem exec_clockLineCommit (t : Nat) (tr : Nat) (s : State) :
    exec (.clockLineCommit t tr) s = execClockLineCommit t tr s := rfl
@[simp] theorem exec_lineInstant (t : Nat) (tr : Nat) (s : State) :
    exec (.lineInstant t tr) s = execLineInstant t tr s := rfl
@[simp] theorem exec_ltrigPulse (t : Nat) (n : Nat) (s : State) :
    exec (.ltrigPulse t n) s = execLtrigPulse t n s := rfl
@[simp] theorem exec_portFetch (t : Nat) (p : Nat) (s : State) :
    exec (.portFetch t p) s = execPortFetch t p s := rfl
@[simp] theorem exec_trackStopped (t : Nat) (tr : Nat) (s : State) :
    exec (.trackStopped t tr) s = execTrackStopped t tr s := rfl
@[simp] theorem exec_governorEval (t : Nat) (s : State) :
    exec (.governorEval t) s = execGovernorEval t s := rfl
@[simp] theorem exec_hl1ShiftStart (t : Nat) (p : Nat) (s : State) :
    exec (.hl1ShiftStart t p) s = execHl1ShiftStart t p s := rfl
@[simp] theorem exec_hl1Latch (t : Nat) (p : Nat) (s : State) :
    exec (.hl1Latch t p) s = execHl1Latch t p s := rfl
@[simp] theorem exec_hl2FireStrobe (t : Nat) (p : Nat) (s : State) :
    exec (.hl2FireStrobe t p) s = execHl2FireStrobe t p s := rfl
@[simp] theorem exec_frameTransmit (t : Nat) (p : Nat) (s : State) :
    exec (.frameTransmit t p) s = execFrameTransmit t p s := rfl
@[simp] theorem exec_fireAtUnacked (t : Nat) (p : Nat) (s : State) :
    exec (.fireAtUnacked t p) s = execFireAtUnacked t p s := rfl
@[simp] theorem exec_headAckRx (t : Nat) (p seq : Nat) (s : State) :
    exec (.headAckRx t p seq) s = execHeadAckRx t p seq s := rfl
@[simp] theorem exec_headNakRx (t : Nat) (p seq : Nat) (s : State) :
    exec (.headNakRx t p seq) s = execHeadNakRx t p seq s := rfl
@[simp] theorem exec_headAckTimeout (t : Nat) (p : Nat) (s : State) :
    exec (.headAckTimeout t p) s = execHeadAckTimeout t p s := rfl
@[simp] theorem exec_headFrameDiscard (t : Nat) (p : Nat) (seq : Option Nat) (s : State) :
    exec (.headFrameDiscard t p seq) s = execHeadFrameDiscard t p seq s := rfl
@[simp] theorem exec_headStatusRx (t : Nat) (p seq lanes answer result : Nat) (s : State) :
    exec (.headStatusRx t p seq lanes answer result) s = execHeadStatusRx t p seq lanes answer result s := rfl
@[simp] theorem exec_headTempRx (t : Nat) (p seq : Nat) (readings : List (Nat × Bool × Int)) (s : State) :
    exec (.headTempRx t p seq readings) s = execHeadTempRx t p seq readings s := rfl
@[simp] theorem exec_headTempLoss (t : Nat) (p : Nat) (s : State) :
    exec (.headTempLoss t p) s = execHeadTempLoss t p s := rfl
@[simp] theorem exec_headCutClear (t : Nat) (p : Nat) (s : State) :
    exec (.headCutClear t p) s = execHeadCutClear t p s := rfl
@[simp] theorem exec_headSenseRx (t : Nat) (p seq line : Nat) (entries : List SenseEntry) (s : State) :
    exec (.headSenseRx t p seq line entries) s = execHeadSenseRx t p seq line entries s := rfl
@[simp] theorem exec_headTimeSyncRx (t : Nat) (p seq t1 t2 t3 t4 : Nat) (s : State) :
    exec (.headTimeSyncRx t p seq t1 t2 t3 t4) s = execHeadTimeSyncRx t p seq t1 t2 t3 t4 s := rfl
@[simp] theorem exec_headTimeSyncPeriodic (t : Nat) (p : Nat) (s : State) :
    exec (.headTimeSyncPeriodic t p) s = execHeadTimeSyncPeriodic t p s := rfl
@[simp] theorem exec_headIdReadRx (t : Nat) (p seq : Nat) (bytes : List Byte) (s : State) :
    exec (.headIdReadRx t p seq bytes) s = execHeadIdReadRx t p seq bytes s := rfl
@[simp] theorem exec_headAuthRespRx (t : Nat) (p seq serial count : Nat) (mac : List Byte) (s : State) :
    exec (.headAuthRespRx t p seq serial count mac) s = execHeadAuthRespRx t p seq serial count mac s := rfl
@[simp] theorem exec_headUsageReadRx (t : Nat) (p seq nonce serial count : Nat) (mac : List Byte) (s : State) :
    exec (.headUsageReadRx t p seq nonce serial count mac) s = execHeadUsageReadRx t p seq nonce serial count mac s := rfl
@[simp] theorem exec_headUsagePeriodic (t : Nat) (p : Nat) (s : State) :
    exec (.headUsagePeriodic t p) s = execHeadUsagePeriodic t p s := rfl
@[simp] theorem exec_headCfgReadRx (t : Nat) (p seq space : Nat) (data : List Byte) (s : State) :
    exec (.headCfgReadRx t p seq space data) s = execHeadCfgReadRx t p seq space data s := rfl
@[simp] theorem exec_headTrainingLock (t : Nat) (p lanes : Nat) (s : State) :
    exec (.headTrainingLock t p lanes) s = execHeadTrainingLock t p lanes s := rfl
@[simp] theorem exec_headTrainingTimeout (t : Nat) (p : Nat) (s : State) :
    exec (.headTrainingTimeout t p) s = execHeadTrainingTimeout t p s := rfl
@[simp] theorem exec_headAuxLockLoss (t : Nat) (p lostFor : Nat) (s : State) :
    exec (.headAuxLockLoss t p lostFor) s = execHeadAuxLockLoss t p lostFor s := rfl
@[simp] theorem exec_headAuxSilence (t : Nat) (p : Nat) (s : State) :
    exec (.headAuxSilence t p) s = execHeadAuxSilence t p s := rfl
@[simp] theorem exec_headAutoRelink (t : Nat) (p : Nat) (s : State) :
    exec (.headAutoRelink t p) s = execHeadAutoRelink t p s := rfl
@[simp] theorem exec_maintFiring (t : Nat) (p : Nat) (s : State) :
    exec (.maintFiring t p) s = execMaintFiring t p s := rfl
@[simp] theorem exec_watchPublish (t : Nat) (s : State) :
    exec (.watchPublish t) s = execWatchPublish t s := rfl
@[simp] theorem exec_waveTempUpdate (t : Nat) (p ns : Nat) (s : State) :
    exec (.waveTempUpdate t p ns) s = execWaveTempUpdate t p ns s := rfl
@[simp] theorem exec_waveEngineOverrun (t : Nat) (w : Nat) (s : State) :
    exec (.waveEngineOverrun t w) s = execWaveEngineOverrun t w s := rfl
@[simp] theorem exec_powerStepEval (t : Nat) (w : Nat) (s : State) :
    exec (.powerStepEval t w) s = execPowerStepEval t w s := rfl
@[simp] theorem exec_cellarRead (t : Nat) (b : Nat) (errors : List (Nat × Nat)) (s : State) :
    exec (.cellarRead t b errors) s = execCellarRead t b errors s := rfl
@[simp] theorem exec_cellarPartialWrite (t : Nat) (b off : Nat) (bytes : List Byte) (s : State) :
    exec (.cellarPartialWrite t b off bytes) s = execCellarPartialWrite t b off bytes s := rfl
@[simp] theorem exec_cellarProbe (t : Nat) (c : Nat) (temp : Option Nat) (s : State) :
    exec (.cellarProbe t c temp) s = execCellarProbe t c temp s := rfl
@[simp] theorem exec_scrubStep (t : Nat) (c : Nat) (s : State) :
    exec (.scrubStep t c) s = execScrubStep t c s := rfl
@[simp] theorem exec_descriptorRead (t : Nat) (n : Nat) (s : State) :
    exec (.descriptorRead t n) s = execDescriptorRead t n s := rfl
@[simp] theorem exec_descriptorRetry (t : Nat) (n : Nat) (s : State) :
    exec (.descriptorRetry t n) s = execDescriptorRetry t n s := rfl
@[simp] theorem exec_writeBack (t : Nat) (n : Nat) (s : State) :
    exec (.writeBack t n) s = execWriteBack t n s := rfl
@[simp] theorem exec_sdsPacket (t : Nat) (k : Nat) (parityFails : Bool) (s : State) :
    exec (.sdsPacket t k parityFails) s = execSdsPacket t k parityFails s := rfl
@[simp] theorem exec_decompPacketTimeout (t : Nat) (k : Nat) (s : State) :
    exec (.decompPacketTimeout t k) s = execDecompPacketTimeout t k s := rfl
@[simp] theorem exec_lineEngineLine (t : Nat) (n p : Nat) (parity : Option Nat) (s : State) :
    exec (.lineEngineLine t n p parity) s = execLineEngineLine t n p parity s := rfl
@[simp] theorem exec_sliceTimeout (t : Nat) (e : Nat) (s : State) :
    exec (.sliceTimeout t e) s = execSliceTimeout t e s := rfl
@[simp] theorem exec_lineStored (t : Nat) (n p : Nat) (sliceNs : List Nat) (s : State) :
    exec (.lineStored t n p sliceNs) s = execLineStored t n p sliceNs s := rfl
@[simp] theorem exec_pantryRead (t : Nat) (addr user : Nat) (flips : List Nat) (s : State) :
    exec (.pantryRead t addr user flips) s = execPantryRead t addr user flips s := rfl
@[simp] theorem exec_pantryPartialWrite (t : Nat) (addr user enables data : Nat) (flips : List Nat) (s : State) :
    exec (.pantryPartialWrite t addr user enables data flips) s = execPantryPartialWrite t addr user enables data flips s := rfl
@[simp] theorem exec_bankRest (t : Nat) (b : Nat) (s : State) :
    exec (.bankRest t b) s = execBankRest t b s := rfl
@[simp] theorem exec_bankWakeComplete (t : Nat) (b : Nat) (s : State) :
    exec (.bankWakeComplete t b) s = execBankWakeComplete t b s := rfl
@[simp] theorem exec_bankFillComplete (t : Nat) (b : Nat) (s : State) :
    exec (.bankFillComplete t b) s = execBankFillComplete t b s := rfl
@[simp] theorem exec_patrolCycleStart (t : Nat) (b : Nat) (s : State) :
    exec (.patrolCycleStart t b) s = execPatrolCycleStart t b s := rfl
@[simp] theorem exec_patrolPhaseEnd (t : Nat) (b : Nat) (fault : Bool) (bad : List (Nat × List Nat)) (suppressed : Nat) (s : State) :
    exec (.patrolPhaseEnd t b fault bad suppressed) s = execPatrolPhaseEnd t b fault bad suppressed s := rfl
@[simp] theorem exec_dwBurstIssue (t : Nat) (s : State) :
    exec (.dwBurstIssue t) s = execDwBurstIssue t s := rfl
@[simp] theorem exec_dwBurstComplete (t : Nat) (ch k stall : Nat) (s : State) :
    exec (.dwBurstComplete t ch k stall) s = execDwBurstComplete t ch k stall s := rfl
@[simp] theorem exec_dwLateError (t : Nat) (m k cause units : Nat) (s : State) :
    exec (.dwLateError t m k cause units) s = execDwLateError t m k cause units s := rfl
@[simp] theorem exec_dwNop (t : Nat) (m : Nat) (s : State) :
    exec (.dwNop t m) s = execDwNop t m s := rfl
@[simp] theorem exec_dwMove (t : Nat) (m : Nat) (s : State) :
    exec (.dwMove t m) s = execDwMove t m s := rfl
@[simp] theorem exec_dwMove2d (t : Nat) (m : Nat) (s : State) :
    exec (.dwMove2d t m) s = execDwMove2d t m s := rfl
@[simp] theorem exec_dwFill (t : Nat) (m : Nat) (s : State) :
    exec (.dwFill t m) s = execDwFill t m s := rfl
@[simp] theorem exec_dwFill2d (t : Nat) (m : Nat) (s : State) :
    exec (.dwFill2d t m) s = execDwFill2d t m s := rfl
@[simp] theorem exec_dwCmp (t : Nat) (m : Nat) (s : State) :
    exec (.dwCmp t m) s = execDwCmp t m s := rfl
@[simp] theorem exec_dwCmp2d (t : Nat) (m : Nat) (s : State) :
    exec (.dwCmp2d t m) s = execDwCmp2d t m s := rfl
@[simp] theorem exec_dwLoop (t : Nat) (m : Nat) (s : State) :
    exec (.dwLoop t m) s = execDwLoop t m s := rfl
@[simp] theorem exec_dwWait (t : Nat) (m : Nat) (s : State) :
    exec (.dwWait t m) s = execDwWait t m s := rfl
@[simp] theorem exec_dwWaitDone (t : Nat) (m : Nat) (s : State) :
    exec (.dwWaitDone t m) s = execDwWaitDone t m s := rfl
@[simp] theorem exec_dwWaitTimeout (t : Nat) (m : Nat) (s : State) :
    exec (.dwWaitTimeout t m) s = execDwWaitTimeout t m s := rfl
@[simp] theorem exec_dwSignal (t : Nat) (m : Nat) (s : State) :
    exec (.dwSignal t m) s = execDwSignal t m s := rfl
@[simp] theorem exec_dwFence (t : Nat) (m : Nat) (s : State) :
    exec (.dwFence t m) s = execDwFence t m s := rfl
@[simp] theorem exec_dwEnd (t : Nat) (m : Nat) (s : State) :
    exec (.dwEnd t m) s = execDwEnd t m s := rfl
@[simp] theorem exec_otpProgramRound (t : Nat) (tight nominal : Nat) (s : State) :
    exec (.otpProgramRound t tight nominal) s = execOtpProgramRound t tight nominal s := rfl
@[simp] theorem exec_otpResense (t : Nat) (read : Option (Nat × Nat)) (s : State) :
    exec (.otpResense t read) s = execOtpResense t read s := rfl
@[simp] theorem exec_pealPortUp (t : Nat) (k nport lockFor : Nat) (s : State) :
    exec (.pealPortUp t k nport lockFor) s = execPealPortUp t k nport lockFor s := rfl
@[simp] theorem exec_pealPortDown (t : Nat) (k cause lostFor : Nat) (s : State) :
    exec (.pealPortDown t k cause lostFor) s = execPealPortDown t k cause lostFor s := rfl
@[simp] theorem exec_holdoverTimeout (t : Nat) (s : State) :
    exec (.holdoverTimeout t) s = execHoldoverTimeout t s := rfl
@[simp] theorem exec_pealFrameDiscard (t : Nat) (k err src : Nat) (f : Option PealFrame) (s : State) :
    exec (.pealFrameDiscard t k err src f) s = execPealFrameDiscard t k err src f s := rfl
@[simp] theorem exec_tollRx (t : Nat) (k : Nat) (f : PealFrame) (s : State) :
    exec (.tollRx t k f) s = execTollRx t k f s := rfl
@[simp] theorem exec_tollLoss (t : Nat) (tr : Nat) (s : State) :
    exec (.tollLoss t tr) s = execTollLoss t tr s := rfl
@[simp] theorem exec_chimeRx (t : Nat) (k : Nat) (f : PealFrame) (s : State) :
    exec (.chimeRx t k f) s = execChimeRx t k f s := rfl
@[simp] theorem exec_chimeSend (t : Nat) (alive : Bool) (s : State) :
    exec (.chimeSend t alive) s = execChimeSend t alive s := rfl
@[simp] theorem exec_deputyTakeover (t : Nat) (s : State) :
    exec (.deputyTakeover t) s = execDeputyTakeover t s := rfl
@[simp] theorem exec_pairLinkLost (t : Nat) (s : State) :
    exec (.pairLinkLost t) s = execPairLinkLost t s := rfl
@[simp] theorem exec_clapperAccept (t : Nat) (level : Bool) (s : State) :
    exec (.clapperAccept t level) s = execClapperAccept t level s := rfl
@[simp] theorem exec_clapperClaim (t : Nat) (s : State) :
    exec (.clapperClaim t) s = execClapperClaim t s := rfl
@[simp] theorem exec_clapperConflict (t : Nat) (s : State) :
    exec (.clapperConflict t) s = execClapperConflict t s := rfl
@[simp] theorem exec_syncExchange (t : Nat) (k : Nat) (s : State) :
    exec (.syncExchange t k) s = execSyncExchange t k s := rfl
@[simp] theorem exec_syncRx (t : Nat) (k : Nat) (f : PealFrame) (s : State) :
    exec (.syncRx t k f) s = execSyncRx t k f s := rfl
@[simp] theorem exec_paceReportRx (t : Nat) (k : Nat) (f : PealFrame) (s : State) :
    exec (.paceReportRx t k f) s = execPaceReportRx t k f s := rfl
@[simp] theorem exec_paceReportTimeout (t : Nat) (eval : Nat) (s : State) :
    exec (.paceReportTimeout t eval) s = execPaceReportTimeout t eval s := rfl
@[simp] theorem exec_paceRingRx (t : Nat) (k : Nat) (f : PealFrame) (s : State) :
    exec (.paceRingRx t k f) s = execPaceRingRx t k f s := rfl
@[simp] theorem exec_ringValueStale (t : Nat) (s : State) :
    exec (.ringValueStale t) s = execRingValueStale t s := rfl
@[simp] theorem exec_tunnelRx (t : Nat) (k : Nat) (f : PealFrame) (s : State) :
    exec (.tunnelRx t k f) s = execTunnelRx t k f s := rfl
@[simp] theorem exec_tunnelResponseRx (t : Nat) (k : Nat) (f : PealFrame) (s : State) :
    exec (.tunnelResponseRx t k f) s = execTunnelResponseRx t k f s := rfl
@[simp] theorem exec_discoverAssignRx (t : Nat) (k : Nat) (f : PealFrame) (s : State) :
    exec (.discoverAssignRx t k f) s = execDiscoverAssignRx t k f s := rfl
@[simp] theorem exec_discoverEndRx (t : Nat) (k : Nat) (f : PealFrame) (s : State) :
    exec (.discoverEndRx t k f) s = execDiscoverEndRx t k f s := rfl
@[simp] theorem exec_discoverDoneRx (t : Nat) (k : Nat) (f : PealFrame) (s : State) :
    exec (.discoverDoneRx t k f) s = execDiscoverDoneRx t k f s := rfl
@[simp] theorem exec_discoverBusyRx (t : Nat) (k : Nat) (f : PealFrame) (s : State) :
    exec (.discoverBusyRx t k f) s = execDiscoverBusyRx t k f s := rfl
@[simp] theorem exec_discoveryTimeout (t : Nat) (s : State) :
    exec (.discoveryTimeout t) s = execDiscoveryTimeout t s := rfl
@[simp] theorem exec_statusSend (t : Nat) (s : State) :
    exec (.statusSend t) s = execStatusSend t s := rfl
@[simp] theorem exec_statusRx (t : Nat) (k : Nat) (f : PealFrame) (s : State) :
    exec (.statusRx t k f) s = execStatusRx t k f s := rfl
@[simp] theorem exec_presenceExpire (t : Nat) (devId : Nat) (s : State) :
    exec (.presenceExpire t devId) s = execPresenceExpire t devId s := rfl
@[simp] theorem exec_deputyLost (t : Nat) (s : State) :
    exec (.deputyLost t) s = execDeputyLost t s := rfl
@[simp] theorem exec_pcieLinkDown (t : Nat) (s : State) :
    exec (.pcieLinkDown t) s = execPcieLinkDown t s := rfl
@[simp] theorem exec_hostReadTimeout (t : Nat) (ch k : Nat) (s : State) :
    exec (.hostReadTimeout t ch k) s = execHostReadTimeout t ch k s := rfl
@[simp] theorem exec_testN (t : Nat) (low : Bool) (ns : Nat) (s : State) :
    exec (.testN t low ns) s = execTestN t low ns s := rfl
@[simp] theorem exec_jtagInstruction (t : Nat) (instr : Jtag) (s : State) :
    exec (.jtagInstruction t instr) s = execJtagInstruction t instr s := rfl
@[simp] theorem exec_channelHeartbeatLapse (t : Nat) (ch : Nat) (s : State) :
    exec (.channelHeartbeatLapse t ch) s = execChannelHeartbeatLapse t ch s := rfl

/-- A command that is not the supervisor's or the Triangle's is a row of the core. -/
theorem exec_core (c : Instr) (h : c.supervised = false) : ∃ t f, ∀ s, exec c s = coreStep t f s := by
  cases c with
  | sysNop _ _ => exact ⟨_, _, fun s => by rw [exec_sysNop, execSysNop, runRow]⟩
  | sysQuery _ _ => exact ⟨_, _, fun s => by rw [exec_sysQuery, execSysQuery, runRow]⟩
  | sysCommit _ _ => exact ⟨_, _, fun s => by rw [exec_sysCommit, execSysCommit, runRow]⟩
  | sysUncommit _ _ => exact ⟨_, _, fun s => by rw [exec_sysUncommit, execSysUncommit, runRow]⟩
  | jobStart _ _ => exact ⟨_, _, fun s => by rw [exec_jobStart, execJobStart, runRow]⟩
  | jobEnd _ _ => exact ⟨_, _, fun s => by rw [exec_jobEnd, execJobEnd, runRow]⟩
  | sysMaintain _ _ => exact ⟨_, _, fun s => by rw [exec_sysMaintain, execSysMaintain, runRow]⟩
  | sysClearHalt _ _ => exact ⟨_, _, fun s => by rw [exec_sysClearHalt, execSysClearHalt, runRow]⟩
  | sysReset _ _ => exact ⟨_, _, fun s => by rw [exec_sysReset, execSysReset, runRow]⟩
  | geoClear _ _ => exact ⟨_, _, fun s => by rw [exec_geoClear, execGeoClear, runRow]⟩
  | geoPlane _ _ => exact ⟨_, _, fun s => by rw [exec_geoPlane, execGeoPlane, runRow]⟩
  | geoRows _ _ => exact ⟨_, _, fun s => by rw [exec_geoRows, execGeoRows, runRow]⟩
  | geoRowsets _ _ => exact ⟨_, _, fun s => by rw [exec_geoRowsets, execGeoRowsets, runRow]⟩
  | geoQuery _ _ => exact ⟨_, _, fun s => by rw [exec_geoQuery, execGeoQuery, runRow]⟩
  | geoReadRow _ _ => exact ⟨_, _, fun s => by rw [exec_geoReadRow, execGeoReadRow, runRow]⟩
  | geoScrub _ _ => exact ⟨_, _, fun s => by rw [exec_geoScrub, execGeoScrub, runRow]⟩
  | streamOpen _ _ => exact ⟨_, _, fun s => by rw [exec_streamOpen, execStreamOpen, runRow]⟩
  | streamClose _ _ => exact ⟨_, _, fun s => by rw [exec_streamClose, execStreamClose, runRow]⟩
  | streamReset _ _ => exact ⟨_, _, fun s => by rw [exec_streamReset, execStreamReset, runRow]⟩
  | streamWater _ _ => exact ⟨_, _, fun s => by rw [exec_streamWater, execStreamWater, runRow]⟩
  | streamQuery _ _ => exact ⟨_, _, fun s => by rw [exec_streamQuery, execStreamQuery, runRow]⟩
  | streamFaults _ _ => exact ⟨_, _, fun s => by rw [exec_streamFaults, execStreamFaults, runRow]⟩
  | lineRemap _ _ => exact ⟨_, _, fun s => by rw [exec_lineRemap, execLineRemap, runRow]⟩
  | lineBoost _ _ => exact ⟨_, _, fun s => by rw [exec_lineBoost, execLineBoost, runRow]⟩
  | lineMaskLoad _ _ => exact ⟨_, _, fun s => by rw [exec_lineMaskLoad, execLineMaskLoad, runRow]⟩
  | lineMaskGen _ _ => exact ⟨_, _, fun s => by rw [exec_lineMaskGen, execLineMaskGen, runRow]⟩
  | lineMaskClear _ _ => exact ⟨_, _, fun s => by rw [exec_lineMaskClear, execLineMaskClear, runRow]⟩
  | lineFlags _ _ => exact ⟨_, _, fun s => by rw [exec_lineFlags, execLineFlags, runRow]⟩
  | lineQuery _ _ => exact ⟨_, _, fun s => by rw [exec_lineQuery, execLineQuery, runRow]⟩
  | timingEncoder _ _ => exact ⟨_, _, fun s => by rw [exec_timingEncoder, execTimingEncoder, runRow]⟩
  | timingTrack _ _ => exact ⟨_, _, fun s => by rw [exec_timingTrack, execTimingTrack, runRow]⟩
  | timingLive _ _ => exact ⟨_, _, fun s => by rw [exec_timingLive, execTimingLive, runRow]⟩
  | timingGovernor _ _ => exact ⟨_, _, fun s => by rw [exec_timingGovernor, execTimingGovernor, runRow]⟩
  | timingLtrig _ _ => exact ⟨_, _, fun s => by rw [exec_timingLtrig, execTimingLtrig, runRow]⟩
  | timingNozzleTrim _ _ => exact ⟨_, _, fun s => by rw [exec_timingNozzleTrim, execTimingNozzleTrim, runRow]⟩
  | timingQuery _ _ => exact ⟨_, _, fun s => by rw [exec_timingQuery, execTimingQuery, runRow]⟩
  | waveModule _ _ => exact ⟨_, _, fun s => by rw [exec_waveModule, execWaveModule, runRow]⟩
  | waveLoad _ _ => exact ⟨_, _, fun s => by rw [exec_waveLoad, execWaveLoad, runRow]⟩
  | waveTemp _ _ => exact ⟨_, _, fun s => by rw [exec_waveTemp, execWaveTemp, runRow]⟩
  | waveMap _ _ => exact ⟨_, _, fun s => by rw [exec_waveMap, execWaveMap, runRow]⟩
  | waveAmpTrim _ _ => exact ⟨_, _, fun s => by rw [exec_waveAmpTrim, execWaveAmpTrim, runRow]⟩
  | wavePort _ _ => exact ⟨_, _, fun s => by rw [exec_wavePort, execWavePort, runRow]⟩
  | waveDeadband _ _ => exact ⟨_, _, fun s => by rw [exec_waveDeadband, execWaveDeadband, runRow]⟩
  | waveQuery _ _ => exact ⟨_, _, fun s => by rw [exec_waveQuery, execWaveQuery, runRow]⟩
  | headConfig _ _ => exact ⟨_, _, fun s => by rw [exec_headConfig, execHeadConfig, runRow]⟩
  | headLink _ _ => exact ⟨_, _, fun s => by rw [exec_headLink, execHeadLink, runRow]⟩
  | headSpit _ _ => exact ⟨_, _, fun s => by rw [exec_headSpit, execHeadSpit, runRow]⟩
  | headUsage _ _ => exact ⟨_, _, fun s => by rw [exec_headUsage, execHeadUsage, runRow]⟩
  | headQuery _ _ => exact ⟨_, _, fun s => by rw [exec_headQuery, execHeadQuery, runRow]⟩
  | headPurge _ _ => exact ⟨_, _, fun s => by rw [exec_headPurge, execHeadPurge, runRow]⟩
  | headPattern _ _ => exact ⟨_, _, fun s => by rw [exec_headPattern, execHeadPattern, runRow]⟩
  | watchConfig _ _ => exact ⟨_, _, fun s => by rw [exec_watchConfig, execWatchConfig, runRow]⟩
  | watchLearn _ _ => exact ⟨_, _, fun s => by rw [exec_watchLearn, execWatchLearn, runRow]⟩
  | watchSet _ _ => exact ⟨_, _, fun s => by rw [exec_watchSet, execWatchSet, runRow]⟩
  | watchRead _ _ => exact ⟨_, _, fun s => by rw [exec_watchRead, execWatchRead, runRow]⟩
  | watchRefSave _ _ => exact ⟨_, _, fun s => by rw [exec_watchRefSave, execWatchRefSave, runRow]⟩
  | watchRefLoad _ _ => exact ⟨_, _, fun s => by rw [exec_watchRefLoad, execWatchRefLoad, runRow]⟩
  | watchLog _ _ => exact ⟨_, _, fun s => by rw [exec_watchLog, execWatchLog, runRow]⟩
  | watchQuery _ _ => exact ⟨_, _, fun s => by rw [exec_watchQuery, execWatchQuery, runRow]⟩
  | ringConfig _ _ => exact ⟨_, _, fun s => by rw [exec_ringConfig, execRingConfig, runRow]⟩
  | ringDiscover _ _ => exact ⟨_, _, fun s => by rw [exec_ringDiscover, execRingDiscover, runRow]⟩
  | ringRole _ _ => exact ⟨_, _, fun s => by rw [exec_ringRole, execRingRole, runRow]⟩
  | ringQuery _ _ => exact ⟨_, _, fun s => by rw [exec_ringQuery, execRingQuery, runRow]⟩
  | ringTable _ _ => exact ⟨_, _, fun s => by rw [exec_ringTable, execRingTable, runRow]⟩
  | memBankPower _ _ => exact ⟨_, _, fun s => by rw [exec_memBankPower, execMemBankPower, runRow]⟩
  | memPatrol _ _ => exact ⟨_, _, fun s => by rw [exec_memPatrol, execMemPatrol, runRow]⟩
  | memCopy _ _ => exact ⟨_, _, fun s => by rw [exec_memCopy, execMemCopy, runRow]⟩
  | memQuery _ _ => exact ⟨_, _, fun s => by rw [exec_memQuery, execMemQuery, runRow]⟩
  | otpRead _ _ => exact ⟨_, _, fun s => by rw [exec_otpRead, execOtpRead, runRow]⟩
  | otpProgram _ _ => exact ⟨_, _, fun s => by rw [exec_otpProgram, execOtpProgram, runRow]⟩
  | otpSeal _ _ => exact ⟨_, _, fun s => by rw [exec_otpSeal, execOtpSeal, runRow]⟩
  | otpLock _ _ => exact ⟨_, _, fun s => by rw [exec_otpLock, execOtpLock, runRow]⟩
  | otpSticky _ _ => exact ⟨_, _, fun s => by rw [exec_otpSticky, execOtpSticky, runRow]⟩
  | otpQuery _ _ => exact ⟨_, _, fun s => by rw [exec_otpQuery, execOtpQuery, runRow]⟩
  | thermDie _ _ => exact ⟨_, _, fun s => by rw [exec_thermDie, execThermDie, runRow]⟩
  | thermHeadLimits _ _ => exact ⟨_, _, fun s => by rw [exec_thermHeadLimits, execThermHeadLimits, runRow]⟩
  | thermThTable _ _ => exact ⟨_, _, fun s => by rw [exec_thermThTable, execThermThTable, runRow]⟩
  | thermTriangle _ _ => exact ⟨_, _, fun s => by rw [exec_thermTriangle, execThermTriangle, runRow]⟩
  | thermQuery _ _ => exact ⟨_, _, fun s => by rw [exec_thermQuery, execThermQuery, runRow]⟩
  | healthReport _ _ => exact ⟨_, _, fun s => by rw [exec_healthReport, execHealthReport, runRow]⟩
  | healthLog _ _ => exact ⟨_, _, fun s => by rw [exec_healthLog, execHealthLog, runRow]⟩
  | healthConfig _ _ => exact ⟨_, _, fun s => by rw [exec_healthConfig, execHealthConfig, runRow]⟩
  | healthClear _ _ => exact ⟨_, _, fun s => by rw [exec_healthClear, execHealthClear, runRow]⟩
  | diagEnter _ _ => exact ⟨_, _, fun s => by rw [exec_diagEnter, execDiagEnter, runRow]⟩
  | diagLeave _ _ => exact ⟨_, _, fun s => by rw [exec_diagLeave, execDiagLeave, runRow]⟩
  | diagQuery _ _ => exact ⟨_, _, fun s => by rw [exec_diagQuery, execDiagQuery, runRow]⟩
  | prepare _ _ _ => exact ⟨_, _, fun s => by rw [exec_prepare, execPrepare]⟩
  | commit _ _ _ => exact ⟨_, _, fun s => by rw [exec_commit, execCommit]⟩
  | abort _ _ _ => exact ⟨_, _, fun s => by rw [exec_abort, execAbort]⟩
  | prepareLapsed _ _ _ => exact ⟨_, _, fun s => by rw [exec_prepareLapsed, execPrepareLapsed]⟩
  | bootQuery _ _ => exact ⟨_, _, fun s => by rw [exec_bootQuery, execBootQuery, romRow]⟩
  | bootWrite _ _ => exact ⟨_, _, fun s => by rw [exec_bootWrite, execBootWrite, romRow]⟩
  | bootFetch _ _ => exact ⟨_, _, fun s => by rw [exec_bootFetch, execBootFetch, romRow]⟩
  | bootRun _ _ _ => exact ⟨_, _, fun s => by rw [exec_bootRun, execBootRun, romRow]⟩
  | bootClear _ _ => exact ⟨_, _, fun s => by rw [exec_bootClear, execBootClear, romRow]⟩
  | readyForHost _ _ _ => exact ⟨_, _, fun s => by rw [exec_readyForHost, execReadyForHost]⟩
  | doorbell _ _ _ _ => exact ⟨_, _, fun s => by rw [exec_doorbell, execDoorbell]⟩
  | commandApply _ _ => exact ⟨_, _, fun s => by rw [exec_commandApply, execCommandApply]⟩
  | commandDeadline _ _ => exact ⟨_, _, fun s => by rw [exec_commandDeadline, execCommandDeadline]⟩
  | evReadWrite _ _ _ => exact ⟨_, _, fun s => by rw [exec_evReadWrite, execEvReadWrite]⟩
  | featureAcceptWrite _ _ _ _ => exact ⟨_, _, fun s => by rw [exec_featureAcceptWrite, execFeatureAcceptWrite]⟩
  | tailWrite _ _ _ _ => exact ⟨_, _, fun s => by rw [exec_tailWrite, execTailWrite]⟩
  | porchRamAccess _ _ _ _ _ _ => exact ⟨_, _, fun s => by rw [exec_porchRamAccess, execPorchRamAccess]⟩
  | bootWindowAccess _ _ _ _ _ => exact ⟨_, _, fun s => by rw [exec_bootWindowAccess, execBootWindowAccess]⟩
  | rcFieldRead _ _ _ _ => exact ⟨_, _, fun s => by rw [exec_rcFieldRead, execRcFieldRead]⟩
  | timeLoRead _ _ => exact ⟨_, _, fun s => by rw [exec_timeLoRead, execTimeLoRead]⟩
  | registerWrite _ _ _ _ _ => exact ⟨_, _, fun s => by rw [exec_registerWrite, execRegisterWrite]⟩
  | msixUnmask _ _ => exact ⟨_, _, fun s => by rw [exec_msixUnmask, execMsixUnmask]⟩
  | wdKick _ _ _ => exact ⟨_, _, fun s => by rw [exec_wdKick, execWdKick]⟩
  | cellarForceOffline _ _ _ => exact ⟨_, _, fun s => by rw [exec_cellarForceOffline, execCellarForceOffline]⟩
  | decompForceOffline _ _ _ => exact ⟨_, _, fun s => by rw [exec_decompForceOffline, execDecompForceOffline]⟩
  | lineEngineForceOffline _ _ _ => exact ⟨_, _, fun s => by rw [exec_lineEngineForceOffline, execLineEngineForceOffline]⟩
  | waveEngineForceOffline _ _ _ => exact ⟨_, _, fun s => by rw [exec_waveEngineForceOffline, execWaveEngineForceOffline]⟩
  | otpProgKeyWrite _ _ _ => exact ⟨_, _, fun s => by rw [exec_otpProgKeyWrite, execOtpProgKeyWrite]⟩
  | otpProgGo _ _ => exact ⟨_, _, fun s => by rw [exec_otpProgGo, execOtpProgGo]⟩
  | otpReadAddrWrite _ _ _ => exact ⟨_, _, fun s => by rw [exec_otpReadAddrWrite, execOtpReadAddrWrite]⟩
  | dwProgramStart _ _ _ _ _ _ => exact ⟨_, _, fun s => by rw [exec_dwProgramStart, execDwProgramStart]⟩
  | dwStop _ _ _ => exact ⟨_, _, fun s => by rw [exec_dwStop, execDwStop]⟩
  | dwXferGo _ _ _ _ => exact ⟨_, _, fun s => by rw [exec_dwXferGo, execDwXferGo]⟩
  | dwShadowGo _ _ _ _ => exact ⟨_, _, fun s => by rw [exec_dwShadowGo, execDwShadowGo]⟩
  | spiReadFrame _ _ _ _ => exact ⟨_, _, fun s => by rw [exec_spiReadFrame, execSpiReadFrame]⟩
  | spiWriteFrame _ _ _ _ => exact ⟨_, _, fun s => by rw [exec_spiWriteFrame, execSpiWriteFrame]⟩
  | spiAbort _ _ => exact ⟨_, _, fun s => by rw [exec_spiAbort, execSpiAbort]⟩
  | powerOn _ _ _ _ => cases h
  | resetN _ _ _ => cases h
  | perstN _ _ => cases h
  | sysclkValid _ _ => cases h
  | pcieLinkTrained _ _ _ _ _ => exact ⟨_, _, fun s => by rw [exec_pcieLinkTrained, execPcieLinkTrained]⟩
  | vinUndervoltage _ _ _ => cases h
  | vinOvervoltage _ _ _ => cases h
  | vinOvervoltageRestart _ _ _ => cases h
  | vinMarginal _ _ _ => cases h
  | vinMarginalClear _ _ _ => cases h
  | dieSensorReading _ _ => cases h
  | thermalRestart _ => cases h
  | thConversion _ _ _ => exact ⟨_, _, fun s => by rw [exec_thConversion, execThConversion]⟩
  | safetyInputAccept _ _ _ _ => cases h
  | estopDiscrepancy _ _ => cases h
  | cpWatchdogExpiry _ => cases h
  | livenessStall _ _ => cases h
  | clockFault _ _ _ => cases h
  | clockMarginal _ _ => exact ⟨_, _, fun s => by rw [exec_clockMarginal, execClockMarginal]⟩
  | clockMarginalClear _ _ => exact ⟨_, _, fun s => by rw [exec_clockMarginalClear, execClockMarginalClear]⟩
  | triangleDisagree _ _ => exact ⟨_, _, fun s => by rw [exec_triangleDisagree, execTriangleDisagree]⟩
  | haltEntry _ _ => exact ⟨_, _, fun s => by rw [exec_haltEntry, execHaltEntry]⟩
  | hpHeartbeat _ => exact ⟨_, _, fun s => by rw [exec_hpHeartbeat, execHpHeartbeat]⟩
  | hpStall _ => exact ⟨_, _, fun s => by rw [exec_hpStall, execHpStall]⟩
  | healthDrain _ => exact ⟨_, _, fun s => by rw [exec_healthDrain, execHealthDrain]⟩
  | encoderSample _ _ _ _ _ _ => exact ⟨_, _, fun s => by rw [exec_encoderSample, execEncoderSample]⟩
  | ssiRead _ _ _ _ _ => exact ⟨_, _, fun s => by rw [exec_ssiRead, execSsiRead]⟩
  | bissRead _ _ _ _ => exact ⟨_, _, fun s => by rw [exec_bissRead, execBissRead]⟩
  | zIndex _ _ => exact ⟨_, _, fun s => by rw [exec_zIndex, execZIndex]⟩
  | encInputFault _ _ => exact ⟨_, _, fun s => by rw [exec_encInputFault, execEncInputFault]⟩
  | encInputRecover _ _ => exact ⟨_, _, fun s => by rw [exec_encInputRecover, execEncInputRecover]⟩
  | encStall _ _ => exact ⟨_, _, fun s => by rw [exec_encStall, execEncStall]⟩
  | schedulerEval _ _ => exact ⟨_, _, fun s => by rw [exec_schedulerEval, execSchedulerEval]⟩
  | clockLineCommit _ _ => exact ⟨_, _, fun s => by rw [exec_clockLineCommit, execClockLineCommit]⟩
  | lineInstant _ _ => exact ⟨_, _, fun s => by rw [exec_lineInstant, execLineInstant]⟩
  | ltrigPulse _ _ => exact ⟨_, _, fun s => by rw [exec_ltrigPulse, execLtrigPulse]⟩
  | portFetch _ _ => exact ⟨_, _, fun s => by rw [exec_portFetch, execPortFetch]⟩
  | trackStopped _ _ => exact ⟨_, _, fun s => by rw [exec_trackStopped, execTrackStopped]⟩
  | governorEval _ => exact ⟨_, _, fun s => by rw [exec_governorEval, execGovernorEval]⟩
  | hl1ShiftStart _ _ => exact ⟨_, _, fun s => by rw [exec_hl1ShiftStart, execHl1ShiftStart]⟩
  | hl1Latch _ _ => exact ⟨_, _, fun s => by rw [exec_hl1Latch, execHl1Latch]⟩
  | hl2FireStrobe _ _ => exact ⟨_, _, fun s => by rw [exec_hl2FireStrobe, execHl2FireStrobe]⟩
  | frameTransmit _ _ => exact ⟨_, _, fun s => by rw [exec_frameTransmit, execFrameTransmit]⟩
  | fireAtUnacked _ _ => exact ⟨_, _, fun s => by rw [exec_fireAtUnacked, execFireAtUnacked]⟩
  | headAckRx _ _ _ => exact ⟨_, _, fun s => by rw [exec_headAckRx, execHeadAckRx]⟩
  | headNakRx _ _ _ => exact ⟨_, _, fun s => by rw [exec_headNakRx, execHeadNakRx]⟩
  | headAckTimeout _ _ => exact ⟨_, _, fun s => by rw [exec_headAckTimeout, execHeadAckTimeout]⟩
  | headFrameDiscard _ _ _ => exact ⟨_, _, fun s => by rw [exec_headFrameDiscard, execHeadFrameDiscard]⟩
  | headStatusRx _ _ _ _ _ _ => exact ⟨_, _, fun s => by rw [exec_headStatusRx, execHeadStatusRx]⟩
  | headTempRx _ _ _ _ => exact ⟨_, _, fun s => by rw [exec_headTempRx, execHeadTempRx]⟩
  | headTempLoss _ _ => exact ⟨_, _, fun s => by rw [exec_headTempLoss, execHeadTempLoss]⟩
  | headCutClear _ _ => exact ⟨_, _, fun s => by rw [exec_headCutClear, execHeadCutClear]⟩
  | headSenseRx _ _ _ _ _ => exact ⟨_, _, fun s => by rw [exec_headSenseRx, execHeadSenseRx]⟩
  | headTimeSyncRx _ _ _ _ _ _ _ => exact ⟨_, _, fun s => by rw [exec_headTimeSyncRx, execHeadTimeSyncRx]⟩
  | headTimeSyncPeriodic _ _ => exact ⟨_, _, fun s => by rw [exec_headTimeSyncPeriodic, execHeadTimeSyncPeriodic]⟩
  | headIdReadRx _ _ _ _ => exact ⟨_, _, fun s => by rw [exec_headIdReadRx, execHeadIdReadRx]⟩
  | headAuthRespRx _ _ _ _ _ _ => exact ⟨_, _, fun s => by rw [exec_headAuthRespRx, execHeadAuthRespRx]⟩
  | headUsageReadRx _ _ _ _ _ _ _ => exact ⟨_, _, fun s => by rw [exec_headUsageReadRx, execHeadUsageReadRx]⟩
  | headUsagePeriodic _ _ => exact ⟨_, _, fun s => by rw [exec_headUsagePeriodic, execHeadUsagePeriodic]⟩
  | headCfgReadRx _ _ _ _ _ => exact ⟨_, _, fun s => by rw [exec_headCfgReadRx, execHeadCfgReadRx]⟩
  | headTrainingLock _ _ _ => exact ⟨_, _, fun s => by rw [exec_headTrainingLock, execHeadTrainingLock]⟩
  | headTrainingTimeout _ _ => exact ⟨_, _, fun s => by rw [exec_headTrainingTimeout, execHeadTrainingTimeout]⟩
  | headAuxLockLoss _ _ _ => exact ⟨_, _, fun s => by rw [exec_headAuxLockLoss, execHeadAuxLockLoss]⟩
  | headAuxSilence _ _ => exact ⟨_, _, fun s => by rw [exec_headAuxSilence, execHeadAuxSilence]⟩
  | headAutoRelink _ _ => exact ⟨_, _, fun s => by rw [exec_headAutoRelink, execHeadAutoRelink]⟩
  | maintFiring _ _ => exact ⟨_, _, fun s => by rw [exec_maintFiring, execMaintFiring]⟩
  | watchPublish _ => exact ⟨_, _, fun s => by rw [exec_watchPublish, execWatchPublish]⟩
  | waveTempUpdate _ _ _ => exact ⟨_, _, fun s => by rw [exec_waveTempUpdate, execWaveTempUpdate]⟩
  | waveEngineOverrun _ _ => exact ⟨_, _, fun s => by rw [exec_waveEngineOverrun, execWaveEngineOverrun]⟩
  | powerStepEval _ _ => exact ⟨_, _, fun s => by rw [exec_powerStepEval, execPowerStepEval]⟩
  | cellarRead _ _ _ => exact ⟨_, _, fun s => by rw [exec_cellarRead, execCellarRead]⟩
  | cellarPartialWrite _ _ _ _ => exact ⟨_, _, fun s => by rw [exec_cellarPartialWrite, execCellarPartialWrite]⟩
  | cellarProbe _ _ _ => exact ⟨_, _, fun s => by rw [exec_cellarProbe, execCellarProbe]⟩
  | scrubStep _ _ => exact ⟨_, _, fun s => by rw [exec_scrubStep, execScrubStep]⟩
  | descriptorRead _ _ => exact ⟨_, _, fun s => by rw [exec_descriptorRead, execDescriptorRead]⟩
  | descriptorRetry _ _ => exact ⟨_, _, fun s => by rw [exec_descriptorRetry, execDescriptorRetry]⟩
  | writeBack _ _ => exact ⟨_, _, fun s => by rw [exec_writeBack, execWriteBack]⟩
  | sdsPacket _ _ _ => exact ⟨_, _, fun s => by rw [exec_sdsPacket, execSdsPacket]⟩
  | decompPacketTimeout _ _ => exact ⟨_, _, fun s => by rw [exec_decompPacketTimeout, execDecompPacketTimeout]⟩
  | lineEngineLine _ _ _ _ => exact ⟨_, _, fun s => by rw [exec_lineEngineLine, execLineEngineLine]⟩
  | sliceTimeout _ _ => exact ⟨_, _, fun s => by rw [exec_sliceTimeout, execSliceTimeout]⟩
  | lineStored _ _ _ _ => exact ⟨_, _, fun s => by rw [exec_lineStored, execLineStored]⟩
  | pantryRead _ _ _ _ => exact ⟨_, _, fun s => by rw [exec_pantryRead, execPantryRead]⟩
  | pantryPartialWrite _ _ _ _ _ _ => exact ⟨_, _, fun s => by rw [exec_pantryPartialWrite, execPantryPartialWrite]⟩
  | bankRest _ _ => exact ⟨_, _, fun s => by rw [exec_bankRest, execBankRest]⟩
  | bankWakeComplete _ _ => exact ⟨_, _, fun s => by rw [exec_bankWakeComplete, execBankWakeComplete]⟩
  | bankFillComplete _ _ => exact ⟨_, _, fun s => by rw [exec_bankFillComplete, execBankFillComplete]⟩
  | patrolCycleStart _ _ => exact ⟨_, _, fun s => by rw [exec_patrolCycleStart, execPatrolCycleStart]⟩
  | patrolPhaseEnd _ _ _ _ _ => exact ⟨_, _, fun s => by rw [exec_patrolPhaseEnd, execPatrolPhaseEnd]⟩
  | dwBurstIssue _ => exact ⟨_, _, fun s => by rw [exec_dwBurstIssue, execDwBurstIssue]⟩
  | dwBurstComplete _ _ _ _ => exact ⟨_, _, fun s => by rw [exec_dwBurstComplete, execDwBurstComplete]⟩
  | dwLateError _ _ _ _ _ => exact ⟨_, _, fun s => by rw [exec_dwLateError, execDwLateError]⟩
  | dwNop _ _ => exact ⟨_, _, fun s => by rw [exec_dwNop, execDwNop]⟩
  | dwMove _ _ => exact ⟨_, _, fun s => by rw [exec_dwMove, execDwMove]⟩
  | dwMove2d _ _ => exact ⟨_, _, fun s => by rw [exec_dwMove2d, execDwMove2d]⟩
  | dwFill _ _ => exact ⟨_, _, fun s => by rw [exec_dwFill, execDwFill]⟩
  | dwFill2d _ _ => exact ⟨_, _, fun s => by rw [exec_dwFill2d, execDwFill2d]⟩
  | dwCmp _ _ => exact ⟨_, _, fun s => by rw [exec_dwCmp, execDwCmp]⟩
  | dwCmp2d _ _ => exact ⟨_, _, fun s => by rw [exec_dwCmp2d, execDwCmp2d]⟩
  | dwLoop _ _ => exact ⟨_, _, fun s => by rw [exec_dwLoop, execDwLoop]⟩
  | dwWait _ _ => exact ⟨_, _, fun s => by rw [exec_dwWait, execDwWait]⟩
  | dwWaitDone _ _ => exact ⟨_, _, fun s => by rw [exec_dwWaitDone, execDwWaitDone]⟩
  | dwWaitTimeout _ _ => exact ⟨_, _, fun s => by rw [exec_dwWaitTimeout, execDwWaitTimeout]⟩
  | dwSignal _ _ => exact ⟨_, _, fun s => by rw [exec_dwSignal, execDwSignal]⟩
  | dwFence _ _ => exact ⟨_, _, fun s => by rw [exec_dwFence, execDwFence]⟩
  | dwEnd _ _ => exact ⟨_, _, fun s => by rw [exec_dwEnd, execDwEnd]⟩
  | otpProgramRound _ _ _ => exact ⟨_, _, fun s => by rw [exec_otpProgramRound, execOtpProgramRound]⟩
  | otpResense _ _ => exact ⟨_, _, fun s => by rw [exec_otpResense, execOtpResense]⟩
  | pealPortUp _ _ _ _ => exact ⟨_, _, fun s => by rw [exec_pealPortUp, execPealPortUp]⟩
  | pealPortDown _ _ _ _ => exact ⟨_, _, fun s => by rw [exec_pealPortDown, execPealPortDown]⟩
  | holdoverTimeout _ => exact ⟨_, _, fun s => by rw [exec_holdoverTimeout, execHoldoverTimeout]⟩
  | pealFrameDiscard _ _ _ _ _ => exact ⟨_, _, fun s => by rw [exec_pealFrameDiscard, execPealFrameDiscard]⟩
  | tollRx _ _ _ => exact ⟨_, _, fun s => by rw [exec_tollRx, execTollRx]⟩
  | tollLoss _ _ => exact ⟨_, _, fun s => by rw [exec_tollLoss, execTollLoss]⟩
  | chimeRx _ _ _ => exact ⟨_, _, fun s => by rw [exec_chimeRx, execChimeRx]⟩
  | chimeSend _ _ => exact ⟨_, _, fun s => by rw [exec_chimeSend, execChimeSend]⟩
  | deputyTakeover _ => exact ⟨_, _, fun s => by rw [exec_deputyTakeover, execDeputyTakeover]⟩
  | pairLinkLost _ => exact ⟨_, _, fun s => by rw [exec_pairLinkLost, execPairLinkLost]⟩
  | clapperAccept _ _ => exact ⟨_, _, fun s => by rw [exec_clapperAccept, execClapperAccept]⟩
  | clapperClaim _ => exact ⟨_, _, fun s => by rw [exec_clapperClaim, execClapperClaim]⟩
  | clapperConflict _ => exact ⟨_, _, fun s => by rw [exec_clapperConflict, execClapperConflict]⟩
  | syncExchange _ _ => exact ⟨_, _, fun s => by rw [exec_syncExchange, execSyncExchange]⟩
  | syncRx _ _ _ => exact ⟨_, _, fun s => by rw [exec_syncRx, execSyncRx]⟩
  | paceReportRx _ _ _ => exact ⟨_, _, fun s => by rw [exec_paceReportRx, execPaceReportRx]⟩
  | paceReportTimeout _ _ => exact ⟨_, _, fun s => by rw [exec_paceReportTimeout, execPaceReportTimeout]⟩
  | paceRingRx _ _ _ => exact ⟨_, _, fun s => by rw [exec_paceRingRx, execPaceRingRx]⟩
  | ringValueStale _ => exact ⟨_, _, fun s => by rw [exec_ringValueStale, execRingValueStale]⟩
  | tunnelRx _ _ _ => exact ⟨_, _, fun s => by rw [exec_tunnelRx, execTunnelRx]⟩
  | tunnelResponseRx _ _ _ => exact ⟨_, _, fun s => by rw [exec_tunnelResponseRx, execTunnelResponseRx]⟩
  | discoverAssignRx _ _ _ => exact ⟨_, _, fun s => by rw [exec_discoverAssignRx, execDiscoverAssignRx]⟩
  | discoverEndRx _ _ _ => exact ⟨_, _, fun s => by rw [exec_discoverEndRx, execDiscoverEndRx]⟩
  | discoverDoneRx _ _ _ => exact ⟨_, _, fun s => by rw [exec_discoverDoneRx, execDiscoverDoneRx]⟩
  | discoverBusyRx _ _ _ => exact ⟨_, _, fun s => by rw [exec_discoverBusyRx, execDiscoverBusyRx]⟩
  | discoveryTimeout _ => exact ⟨_, _, fun s => by rw [exec_discoveryTimeout, execDiscoveryTimeout]⟩
  | statusSend _ => exact ⟨_, _, fun s => by rw [exec_statusSend, execStatusSend]⟩
  | statusRx _ _ _ => exact ⟨_, _, fun s => by rw [exec_statusRx, execStatusRx]⟩
  | presenceExpire _ _ => exact ⟨_, _, fun s => by rw [exec_presenceExpire, execPresenceExpire]⟩
  | deputyLost _ => exact ⟨_, _, fun s => by rw [exec_deputyLost, execDeputyLost]⟩
  | pcieLinkDown _ => exact ⟨_, _, fun s => by rw [exec_pcieLinkDown, execPcieLinkDown]⟩
  | hostReadTimeout _ _ _ => exact ⟨_, _, fun s => by rw [exec_hostReadTimeout, execHostReadTimeout]⟩
  | testN _ _ _ => cases h
  | jtagInstruction _ _ => cases h
  | channelHeartbeatLapse _ _ => cases h

end Sys2Proof.Machine
end

