-- ==== Sys2Proof/Laws/Memory.lean ====
section
/-! SUPPORT. Every operation on memory keeps its canonical form. -/

namespace Sys2Proof.Machine

theorem Memory.wf_sendMsi (s : State) (v : Nat) (h : Memory.wf s = true) : Memory.wf (s.sendMsi v) = true := by
  unfold State.sendMsi
  split
  · exact h
  · exact Memory.wf_emit _ _ h

/-- A fold whose steps keep a property keeps it. -/
theorem foldl_keeps {α β : Type} (P : α → Prop) (f : α → β → α) (hf : ∀ a b, P a → P (f a b)) (l : List β) :
    ∀ a, P a → P (l.foldl f a) := by
  induction l with
  | nil => intro a h; exact h
  | cons b r ih => intro a h; exact ih _ (hf a b h)

theorem Memory.wf_sendNewMsi (old s : State) (h : Memory.wf s = true) : Memory.wf (sendNewMsi old s) = true := by
  unfold sendNewMsi
  apply foldl_keeps (fun a => Memory.wf a = true) _ _ _ s h
  intro a v ha
  split
  · exact Memory.wf_sendMsi _ _ ha
  · exact ha

theorem Memory.wf_cause (s : State) (f : Fld) (v : Nat) (h : Memory.wf s = true) : Memory.wf (s.cause f v) = true :=
  Memory.wf_sendNewMsi _ _ (Memory.wf_set _ _ _ h)

theorem Memory.wf_summary (s : State) (k n : Nat) (h : Memory.wf s = true) : Memory.wf (s.summary k n) = true := by
  unfold State.summary
  split
  · exact h
  · exact Memory.wf_bump _ _ _ h

theorem Memory.wf_setErr (s : State) (w m : Nat) (h : Memory.wf s = true) :
    Memory.wf { s with perr := s.perr.set 0 w m } = true := by
  rw [Memory.wf_iff] at h ⊢
  exact ⟨h.1, h.2.1, Tbl.set_wf _ _ _ _ h.2.2.1, h.2.2.2⟩

theorem Memory.wf_setPmem (s : State) (a : Nat) (l : List Byte) (h : Memory.wf s = true) :
    Memory.wf { s with pmem := writeBytes s.pmem a l } = true := by
  rw [Memory.wf_iff] at h ⊢
  exact ⟨h.1, writeBytes_wf _ _ _ h.2.1, h.2.2⟩

theorem Memory.wf_touchBank (s : State) (b : Nat) (h : Memory.wf s = true) : Memory.wf (s.touchBank b) = true := by
  unfold State.touchBank
  split
  · exact h
  · have h1 : Memory.wf { s with banks := s.banks.set {} b { s.banks.get {} b with lastUse := s.now } } = true := h
    dsimp only
    split
    · exact h1
    · exact Memory.wf_bump _ _ _ (Memory.wf_set _ _ _ h1)

theorem Memory.wf_checkWord (s : State) (w : Nat) (p : Bool) (h : Memory.wf s = true) :
    Memory.wf (s.checkWord w p).2 = true := by
  unfold State.checkWord
  dsimp only
  split
  · exact h
  · split
    · exact Memory.wf_summary _ _ _ (Memory.wf_cause _ _ _ (Memory.wf_bump _ _ _ (Memory.wf_bump _ _ _ (Memory.wf_setErr _ _ _ h))))
    · exact Memory.wf_summary _ _ _ (Memory.wf_cause _ _ _ (Memory.wf_set _ _ _ (Memory.wf_set _ _ _ (Memory.wf_set _ _ _
        (Memory.wf_set _ _ _ (Memory.wf_bump _ _ _ (Memory.wf_bump _ _ _ h)))))))

/-- Operations on words one after another, of which it is kept whether any reported an error. -/
theorem Memory.wf_foldWords (g : State → Nat → Bool × State) (hg : ∀ s w, Memory.wf s = true → Memory.wf (g s w).2 = true)
    (l : List Nat) : ∀ r : Bool × State, Memory.wf r.2 = true →
      Memory.wf (l.foldl (fun (r : Bool × State) w => ((g r.2 w).1 || r.1, (g r.2 w).2)) r).2 = true := by
  induction l with
  | nil => intro r h; exact h
  | cons b t ih => intro r h; exact ih _ (hg _ _ h)

theorem Memory.wf_pread (s : State) (a n : Nat) (h : Memory.wf s = true) : Memory.wf (s.pread a n).2.2 = true := by
  have h2 := Memory.wf_foldWords (fun s w => s.checkWord w) (fun s w hs => Memory.wf_checkWord s w _ hs) (s.badWords a n)
    (false, s.touchBank (bankOf a)) (Memory.wf_touchBank _ _ h)
  unfold State.pread
  dsimp only at h2 ⊢
  revert h2
  generalize List.foldl _ _ _ = r
  intro h2
  exact h2

theorem Memory.wf_mergeWord (s : State) (w : Nat) (h : Memory.wf s = true) : Memory.wf (s.mergeWord w).2 = true := by
  unfold State.mergeWord
  have h1 := Memory.wf_checkWord s w false h
  dsimp only
  split
  · exact Memory.wf_setPmem _ _ _ h1
  · exact h1

theorem Memory.wf_pwriteCheck (s : State) (a : Nat) (l : List Byte) (h : Memory.wf s = true) :
    Memory.wf (s.pwriteCheck a l).2 = true := by
  have h2 := Memory.wf_foldWords (fun s w => s.mergeWord w) (fun s w hs => Memory.wf_mergeWord s w hs)
    ((s.badWords a l.length).filter (fun w => decide (8 * w < a ∨ a + l.length < 8 * w + 8)))
    (false, s.touchBank (bankOf a)) (Memory.wf_touchBank _ _ h)
  unfold State.pwriteCheck
  split
  · exact h
  · dsimp only at h2 ⊢
    revert h2
    generalize List.foldl _ _ _ = r
    intro h1
    rw [Memory.wf_iff] at h1 ⊢
    exact ⟨h1.1, writeBytes_wf _ _ _ h1.2.1, Tbl.drop_wf _ _ _ _ h1.2.2.1, h1.2.2.2⟩

theorem Memory.wf_pwrite (s : State) (a : Nat) (l : List Byte) (h : Memory.wf s = true) : Memory.wf (s.pwrite a l) = true :=
  Memory.wf_pwriteCheck s a l h

theorem Memory.wf_upset (s : State) (a : Nat) (flips : List Nat) (h : Memory.wf s = true) : Memory.wf (s.upset a flips) = true := by
  unfold State.upset
  split
  · exact Memory.wf_setErr _ _ _ h
  · exact h

theorem Memory.wf_sendUnmasked (old s : State) (h : Memory.wf s = true) : Memory.wf (sendUnmasked old s) = true := by
  unfold sendUnmasked
  apply foldl_keeps (fun a => Memory.wf a = true) _ _ _ s h
  intro a v ha
  split
  · exact Memory.wf_sendMsi _ _ ha
  · exact ha

theorem Memory.wf_writeMsix (s : State) (k : Nat) (v : Word) (h : Memory.wf s = true) : Memory.wf (s.writeMsix k v) = true := by
  unfold State.writeMsix
  apply Memory.wf_sendUnmasked
  rw [Memory.wf_iff] at h ⊢
  exact ⟨h.1, h.2.1, h.2.2.1, h.2.2.2.1, Tbl.set_wfBy _ msixReset _ _ h.2.2.2.2.1, h.2.2.2.2.2⟩

theorem Memory.wf_clearImage (s : State) (h : Memory.wf s = true) : Memory.wf s.clearImage = true := by
  have h1 := Memory.wf_touchBank s 15 h
  unfold State.clearImage
  rw [Memory.wf_iff] at h1 ⊢
  exact ⟨h1.1, Tbl.drop_wf _ _ _ _ h1.2.1, Tbl.drop_wf _ _ _ _ h1.2.2.1, h1.2.2.2⟩

/-- What a read of the Pantry finds after a write of the same bytes, where no word that the write covers in part is in
error. -/
theorem State.pmem_pwrite (s : State) (a : Nat) (l : List Byte)
    (hb : (s.badWords a l.length).filter (fun w => decide (8 * w < a ∨ a + l.length < 8 * w + 8)) = []) :
    readBytes (s.pwrite a l).pmem a l.length = l := by
  unfold State.pwrite State.pwriteCheck
  by_cases hl : l = []
  · subst hl; rfl
  · rw [if_neg hl]
    dsimp only
    rw [hb, List.foldl_nil]
    exact readBytes_writeBytes l _ a

end Sys2Proof.Machine
end

