-- ==== Sys2Proof/Tests/Slice0.lean ====
section
/-! SUPPORT. Tests: what well-formedness refuses, single steps with results taken from the manual, and for each statement
with hypotheses a state and operands that meet them. -/

set_option Elab.async false

namespace Sys2Proof.Tests

open Sys2Proof.Machine

/-- The state after a command; the state itself where it answers no next state. -/
def after (s : State) (c : Instr) : State :=
  match exec c s with
  | .next u => u
  | _ => s

/-- A device in a mode, its firmware ready. -/
def inMode (m : Mode) : State := { State.reset with mode := m, boot := { ready := true } }

/-- A time at which a millisecond of 100 µs ticks has passed. -/
def later (s : State) (t : Nat) : State := { s with now := t }

/-- A register word of fields set. -/
def with_ (s : State) (l : List (Fld × Nat)) : State := l.foldl (fun a x => a.set x.1 x.2) s

/-! ### Well-formedness -/

/-- Every porch command refuses a header out of its range. -/
theorem test_wf_refuses_headers : (([
    .sysNop, .sysQuery, .sysCommit, .sysUncommit, .jobStart, .jobEnd, .sysMaintain, .sysClearHalt, .sysReset, .geoClear,
    .geoPlane, .geoRows, .geoRowsets, .geoQuery, .geoReadRow, .geoScrub, .streamOpen, .streamClose, .streamReset,
    .streamWater, .streamQuery, .streamFaults, .lineRemap, .lineBoost, .lineMaskLoad, .lineMaskGen, .lineMaskClear,
    .lineFlags, .lineQuery, .timingEncoder, .timingTrack, .timingLive, .timingGovernor, .timingLtrig, .timingNozzleTrim,
    .timingQuery, .waveModule, .waveLoad, .waveTemp, .waveMap, .waveAmpTrim, .wavePort, .waveDeadband, .waveQuery,
    .headConfig, .headLink, .headSpit, .headUsage, .headQuery, .headPurge, .headPattern, .watchConfig, .watchLearn,
    .watchSet, .watchRead, .watchRefSave, .watchRefLoad, .watchLog, .watchQuery, .ringConfig, .ringDiscover, .ringRole,
    .ringQuery, .ringTable, .memBankPower, .memPatrol, .memCopy, .memQuery, .otpRead, .otpProgram, .otpSeal, .otpLock,
    .otpSticky, .otpQuery, .thermDie, .thermHeadLimits, .thermThTable, .thermTriangle, .thermQuery, .healthReport,
    .healthLog, .healthConfig, .healthClear, .diagEnter, .diagLeave, .diagQuery, .bootQuery, .bootWrite, .bootFetch,
    .bootClear, .sysNop] : List (Nat → Req → Instr)).map (fun c => c 0 { porch := 16 })).all
    (fun c => !c.wf) = true := by decide +kernel

/-! One ill-formed term for each other check of each command. -/

theorem test_wf_refuses_1 : ([
    .prepare 0 0 { porch := 16 }, .prepare 0 65536 {}, .commit 0 0 { porch := 16 }, .commit 0 65536 {},
    .abort 0 0 { porch := 16 }, .abort 0 65536 {}, .prepareLapsed 0 65536 0, .prepareLapsed 0 0 14,
    .bootRun 0 { porch := 16 } 0, .bootRun 0 {} 4294967296, .readyForHost 0 4096 0, .readyForHost 0 0 68719476736,
    .doorbell 0 .spi 16 0, .doorbell 0 .spi 0 4294967296, .commandApply 0 15, .commandApply 0 20, .commandDeadline 0 15,
    .commandDeadline 0 20, .evReadWrite 0 .spi 4294967296, .featureAcceptWrite 0 .spi 8 0,
    .featureAcceptWrite 0 .spi 0 4294967296, .tailWrite 0 .spi 128 0, .tailWrite 0 .spi 0 4294967296,
    .porchRamAccess 0 .spi 0 0 none [], .porchRamAccess 0 .spi 0x10000 1 none [], .porchRamAccess 0 .spi 0 1 (some []) [],
    .porchRamAccess 0 .spi 0xFFFF 1 (some [none, some 0]) [], .porchRamAccess 0 .spi 0 1 none [8192],
    .bootWindowAccess 0 .spi 0 0 none, .bootWindowAccess 0 .spi 0x200000 1 none, .bootWindowAccess 0 .spi 0 1 (some []),
    .bootWindowAccess 0 .spi 0x1FFFFF 1 (some [none, some 0]), .rcFieldRead 0 .spi 4194304 4, .rcFieldRead 0 .spi 0 3,
    .registerWrite 0 .spi 4194304 4 0, .registerWrite 0 .spi 0 3 0, .registerWrite 0 .spi 0 1 256,
    .msixUnmask 0 (.vector .spi 32 0), .msixUnmask 0 (.vector .spi 0 4294967296), .wdKick 0 none [(0, 4294967296)],
    .cellarForceOffline 0 .spi 12, .decompForceOffline 0 .spi 8, .lineEngineForceOffline 0 .spi 12,
    .waveEngineForceOffline 0 .spi 2, .otpProgKeyWrite 0 .spi 4294967296, .otpReadAddrWrite 0 .spi 4294967296,
    .dwProgramStart 0 32 0 0 0 false, .dwProgramStart 0 0 4294967296 0 0 false,
    .dwProgramStart 0 0 0 18446744073709551616 0 false, .dwProgramStart 0 0 0 0 4 false, .dwStop 0 none 32,
    .dwXferGo 0 (.cp 18446744073709551616 0 0) 0 0, .dwXferGo 0 (.cp 0 18446744073709551616 0) 0 0,
    .dwXferGo 0 (.cp 0 0 18446744073709551616) 0 0, .dwXferGo 0 (.host .spi) 32 0, .dwXferGo 0 (.host .spi) 0 4294967296,
    .dwShadowGo 0 (.cp 18446744073709551616 0 0) 0 0, .dwShadowGo 0 (.cp 0 18446744073709551616 0) 0 0,
    .dwShadowGo 0 (.cp 0 0 18446744073709551616) 0 0, .dwShadowGo 0 (.host .spi) 32 0,
    .dwShadowGo 0 (.host .spi) 0 4294967296, .spiReadFrame 0 256 0 0, .spiReadFrame 0 0 16777216 0,
    .spiWriteFrame 0 16777216 [] false, .spiWriteFrame 0 0 [4294967296] false, .spiAbort 0 (some (.read 16777216 1)),
    .spiAbort 0 (some (.write 16777216 [] false)), .spiAbort 0 (some (.write 0 [4294967296] false)),
    .powerOn 0 1024 false false, .pcieLinkTrained 1 3 1 1 1, .pcieLinkTrained 1 1 0 1 1, .pcieLinkTrained 1 1 6 1 1,
    .pcieLinkTrained 1 1 1 32 1, .pcieLinkTrained 1 1 1 1 0, .pcieLinkTrained 1 1 1 1 6, .vinUndervoltage 0 1024 0,
    .vinOvervoltage 0 1024 0, .vinOvervoltageRestart 0 1024 0, .vinMarginal 0 1024 0, .vinMarginalClear 0 1024 0,
    .dieSensorReading 0 [], .dieSensorReading 0 (List.replicate 32 (65536, 0)),
    .dieSensorReading 0 (List.replicate 32 (0, 32768)), .dieSensorReading 0 (List.replicate 32 (0, -32769)),
    .thConversion 0 16 0, .thConversion 0 0 4096, .safetyInputAccept 0 3 0 false, .safetyInputAccept 0 0 4 false,
    .estopDiscrepancy 0 3, .clockFault 0 32768 0, .clockFault 0 (-32769) 0, .clockFault 0 0 8, .clockMarginal 0 32768,
    .clockMarginal 0 (-32769), .clockMarginalClear 0 32768, .clockMarginalClear 0 (-32769), .triangleDisagree 0 3,
    .haltEntry 0 2, .encoderSample 0 4 false false false false, .ssiRead 0 4 0 false 0] : List Instr).all (fun c => !c.wf) = true := by decide +kernel

theorem test_wf_refuses_2 : ([
    .ssiRead 0 0 0 false 4294967296, .bissRead 0 4 0 none, .bissRead 0 0 0 (some (4294967296, false, false, 0)),
    .bissRead 0 0 0 (some (0, false, false, 64)), .zIndex 0 4, .encInputFault 0 4, .encInputRecover 0 4, .encStall 0 4,
    .schedulerEval 0 16, .clockLineCommit 0 16, .lineInstant 0 16, .ltrigPulse 0 4, .portFetch 0 128, .trackStopped 0 16,
    .hl1ShiftStart 0 128, .hl1Latch 0 128, .hl2FireStrobe 0 128, .frameTransmit 0 128, .fireAtUnacked 0 128,
    .headAckRx 0 128 0, .headAckRx 0 0 65536, .headNakRx 0 128 0, .headNakRx 0 0 65536, .headAckTimeout 0 128,
    .headFrameDiscard 0 128 none, .headFrameDiscard 0 0 (some 65536), .headStatusRx 0 128 0 0 0 0,
    .headStatusRx 0 0 65536 0 0 0, .headStatusRx 0 0 0 256 0 0, .headStatusRx 0 0 0 0 65536 0, .headStatusRx 0 0 0 0 0 4,
    .headTempRx 0 128 0 [(0, false, 0)], .headTempRx 0 0 65536 [(0, false, 0)], .headTempRx 0 0 0 [],
    .headTempRx 0 0 0 (List.replicate 17 (0, false, 0)), .headTempRx 0 0 0 [(256, false, 0)],
    .headTempRx 0 0 0 [(0, false, 32768)], .headTempLoss 0 128, .headCutClear 0 128, .headSenseRx 0 128 0 0 [{}],
    .headSenseRx 0 0 65536 0 [{}], .headSenseRx 0 0 0 18446744073709551616 [{}], .headSenseRx 0 0 0 0 [],
    .headSenseRx 0 0 0 0 (List.replicate 65 {}), .headSenseRx 0 0 0 0 [{ row := 256 }],
    .headSenseRx 0 0 0 0 [{ nozzle := 65536 }], .headSenseRx 0 0 0 0 [{ amp := 256 }],
    .headSenseRx 0 0 0 0 [{ freq := 256 }], .headSenseRx 0 0 0 0 [{ decay := 256 }],
    .headSenseRx 0 0 0 0 [{ phase := 256 }], .headTimeSyncRx 0 128 0 0 0 0 0, .headTimeSyncRx 0 0 65536 0 0 0 0,
    .headTimeSyncRx 0 0 0 18446744073709551616 0 0 0, .headTimeSyncRx 0 0 0 0 18446744073709551616 0 0,
    .headTimeSyncRx 0 0 0 0 0 18446744073709551616 0, .headTimeSyncRx 0 0 0 0 0 0 18446744073709551616,
    .headTimeSyncPeriodic 0 128, .headIdReadRx 0 128 0 (List.replicate 64 0), .headIdReadRx 0 0 65536 (List.replicate 64 0),
    .headIdReadRx 0 0 0 [], .headAuthRespRx 0 128 0 0 0 (List.replicate 16 0),
    .headAuthRespRx 0 0 65536 0 0 (List.replicate 16 0), .headAuthRespRx 0 0 0 18446744073709551616 0 (List.replicate 16 0),
    .headAuthRespRx 0 0 0 0 18446744073709551616 (List.replicate 16 0), .headAuthRespRx 0 0 0 0 0 [],
    .headUsageReadRx 0 128 0 0 0 0 (List.replicate 16 0), .headUsageReadRx 0 0 65536 0 0 0 (List.replicate 16 0),
    .headUsageReadRx 0 0 0 0 18446744073709551616 0 (List.replicate 16 0),
    .headUsageReadRx 0 0 0 0 0 18446744073709551616 (List.replicate 16 0), .headUsageReadRx 0 0 0 0 0 0 [],
    .headUsageReadRx 0 0 0 340282366920938463463374607431768211456 0 0 (List.replicate 16 0), .headUsagePeriodic 0 128,
    .headCfgReadRx 0 128 0 0 [], .headCfgReadRx 0 0 65536 0 [], .headCfgReadRx 0 0 0 256 [],
    .headCfgReadRx 0 0 0 0 (List.replicate 4081 0), .headTrainingLock 0 128 0, .headTrainingLock 0 0 4,
    .headTrainingTimeout 0 128, .headAuxLockLoss 0 128 0, .headAuxSilence 0 128, .headAutoRelink 0 128, .maintFiring 0 128,
    .waveTempUpdate 0 128 0, .waveEngineOverrun 0 2, .powerStepEval 0 2, .cellarRead 0 201326592 [],
    .cellarRead 0 0 [(36, 1)], .cellarRead 0 0 [(0, 65536)], .cellarPartialWrite 0 201326592 0 [0],
    .cellarPartialWrite 0 0 0 [], .cellarPartialWrite 0 0 64 [0], .cellarProbe 0 12 none, .cellarProbe 0 0 (some 8),
    .scrubStep 0 12, .descriptorRead 0 128, .descriptorRetry 0 128, .writeBack 0 128, .sdsPacket 0 8 false,
    .decompPacketTimeout 0 8] : List Instr).all (fun c => !c.wf) = true := by decide +kernel

theorem test_wf_refuses_3 : ([
    .lineEngineLine 0 128 0 none, .lineEngineLine 0 0 16 none, .lineEngineLine 0 0 0 (some 12), .sliceTimeout 0 12,
    .lineStored 0 128 0 [], .lineStored 0 0 16 [], .lineStored 0 0 0 (List.replicate 13 0), .pantryRead 0 4 0 [],
    .pantryRead 0 4294967296 0 [], .pantryRead 0 0 0 [72], .pantryPartialWrite 0 4 0 0 0 [],
    .pantryPartialWrite 0 4294967296 0 0 0 [], .pantryPartialWrite 0 0 0 0 0 [72], .pantryPartialWrite 0 0 0 256 0 [],
    .pantryPartialWrite 0 0 0 0 18446744073709551616 [], .bankRest 0 22, .bankWakeComplete 0 22, .bankFillComplete 0 22,
    .patrolCycleStart 0 22, .patrolPhaseEnd 0 22 false [] 0, .patrolPhaseEnd 0 0 false [(0, [72])] 0,
    .dwBurstComplete 0 160 0 0, .dwLateError 0 32 0 0 0, .dwLateError 0 0 0 16 0, .dwLateError 0 0 0 0 4096, .dwNop 0 32,
    .dwMove 0 32, .dwMove2d 0 32, .dwFill 0 32, .dwFill2d 0 32, .dwCmp 0 32, .dwCmp2d 0 32, .dwLoop 0 32, .dwWait 0 32,
    .dwWaitDone 0 32, .dwWaitTimeout 0 32, .dwSignal 0 32, .dwFence 0 32, .dwEnd 0 32, .otpProgramRound 0 549755813888 0,
    .otpProgramRound 0 0 549755813888, .otpResense 0 (some (549755813888, 0)), .otpResense 0 (some (0, 549755813888)),
    .pealPortUp 0 2 0 0, .pealPortUp 0 0 2 0, .pealPortDown 0 2 0 0, .pealPortDown 0 0 3 0,
    .pealFrameDiscard 0 0 0 0 (some { kind := 256 }), .pealFrameDiscard 0 2 0 0 none, .pealFrameDiscard 0 0 5 0 none,
    .pealFrameDiscard 0 0 0 65536 none, .tollRx 0 0 { kind := 256 }, .tollRx 0 2 {}, .tollLoss 0 16,
    .chimeRx 0 0 { kind := 256 }, .chimeRx 0 2 {}, .syncExchange 0 2, .syncRx 0 0 { kind := 256 }, .syncRx 0 2 {},
    .paceReportRx 0 0 { kind := 256 }, .paceReportRx 0 2 {}, .paceRingRx 0 0 { kind := 256 }, .paceRingRx 0 2 {},
    .tunnelRx 0 0 { kind := 256 }, .tunnelRx 0 2 {}, .tunnelResponseRx 0 0 { kind := 256 }, .tunnelResponseRx 0 2 {},
    .discoverAssignRx 0 0 { kind := 256 }, .discoverAssignRx 0 2 {}, .discoverEndRx 0 0 { kind := 256 },
    .discoverEndRx 0 2 {}, .discoverDoneRx 0 0 { kind := 256 }, .discoverDoneRx 0 2 {}, .discoverBusyRx 0 0 { kind := 256 },
    .discoverBusyRx 0 2 {}, .statusRx 0 0 { kind := 256 }, .statusRx 0 2 {}, .presenceExpire 0 65536,
    .hostReadTimeout 0 160 0, .channelHeartbeatLapse 0 3, .sysNop 0 { origin := 65536 }, .sysNop 0 { seq := 4294967296 },
    .sysNop 0 { flags := 256 }, .sysNop 0 { deadline := 65536 }, .sysNop 0 { tag := 4294967296 },
    .sysNop 0 { payload := List.replicate 2017 0 }, .tollRx 0 0 { kind := 256 }, .tollRx 0 0 { flags := 256 },
    .tollRx 0 0 { src := 65536 }, .tollRx 0 0 { dst := 65536 }, .tollRx 0 0 { seq := 65536 }, .tollRx 0 0 { hops := 65536 },
    .tollRx 0 0 { payload := List.replicate 2065 0 }] : List Instr).all (fun c => !c.wf) = true := by decide +kernel

/-! ### Results that the manual gives -/

/-- The check value that the CRC-32C of R84 has for the digits 1 to 9. -/
theorem test_crc32c : crc32c [0x31, 0x32, 0x33, 0x34, 0x35, 0x36, 0x37, 0x38, 0x39] = 0xE3069283 := by decide +kernel

/-- The codeword of the manual's example: address 0, byte 62 alone being 1 (R49). -/
theorem test_check_symbols :
    (List.range 36).map (cwSymbol (encodeBlock 0 (List.replicate 62 0 ++ [1, 0]))) =
      List.replicate 31 0 ++ [1, 0x000F, 0x0036, 0x0078, 0x0040] := by decide +kernel

/-- The packet of the manual's example (R83): image line 12,345 of stream 4, plane 4. -/
def packetHead : List Byte :=
  [0x5A, 0x5D, 0x01, 0x00, 0x04, 0x04, 0x01, 0x00, 0x00, 0x00, 0x80, 0xE7, 0x01, 0x00, 0x00, 0x00] ++
    [0x39, 0x30, 0x00, 0x00, 0x00, 0x00, 0x00, 0x00, 0x08, 0x00, 0x00, 0x00, 0x00, 0x00, 0x00, 0x00]

theorem test_packet_header : parseHeader packetHead =
    { magic := 0x5D5A, version := 1, flags := 0, stream := 4, plane := 4, bits := 1, res7 := 0, first := 0, count := 7800, colRes := 0,
      line := 12345, marker := 0, payload := 8, res28 := 0 } := by decide +kernel

/-- Its payload: 100 empty units, one whose first 8 columns print, then a repetition of the line above. -/
theorem test_packet_payload :
    (decodeTokens 1 488 (some (List.replicate 7808 1)) 8 [0x7F, 0x63, 0x00, 0xFF, 0x00, 0xE1, 0x82, 0x01] {}).map
        (fun d => (d.n, d.repeated, (d.units.reverse.drop 99).take 3)) =
      some (488, true, [List.replicate 16 0, List.replicate 8 1 ++ List.replicate 8 0, List.replicate 16 1]) := by decide +kernel

/-- The serial frame of the manual's example (R177, R178): P 12, RUNWAY, COUNTER 0x0123. -/
theorem test_serial_frame : serialFrame 12 1 0x0123 = 0x8123002C := by decide

/-- The scale of the manual's example on E2 (R202): 38.5 °C between 35 and 45. -/
theorem test_scale : scaleIn [(400, 32768), (560, 30147), (720, 28180)] 616 = 29459 := by decide +kernel

/-- Its main pulse's level (R198). -/
theorem test_scaled_level : scaledLevel 2048 12000 29459 0 = 10995 := by decide +kernel

/-- The three copies of the manual's critical word (R437), read at the tight reference. -/
theorem test_critical_vote : majority 0x7D19 0x7D18 0x7D19 = 0x7D19 := by decide

/-- The deadline of the manual's example (R18): a result that is ready in the tick of the deadline is in time. -/
theorem test_deadline_tick : dueAt 4000000 0 = 14000000 ∧ expired 14000000 14030000 = false ∧ expired 14000000 14100000 = true := by
  decide

/-- The distances of the manual's example on E1 (R124): on an even line the source below wins at equal distance. -/
theorem test_nearest_source : winner true [(102, some 103), (104, some 103)] 103 = some 102 := by decide +kernel

/-! ### Witnesses: the queue, the core, the register space -/

theorem witness_EveryStepTakesOneCommand :
    ({ State.reset with pending := [.dwNop 0 1, .hpHeartbeat 5] } : State).queueWf = true := by decide +kernel

theorem witness_NothingHappensWhileTheCoreIsHeld :
    (Instr.dwNop 0 1).supervised = false ∧ ({ State.reset with core := .held } : State).core ≠ .run := by decide +kernel

theorem witness_SpiAndPcieReadsClearAlike :
    0x50008 ≠ F.GL_TIME_HI.off ∧ ((regRow 0x50008).map (fun r => (r.mask (fun c => decide (c = .rc))).testBit 31)) = some true ∧
      msixOffset 0x50008 = false := by decide +kernel

theorem witness_ReservedOffsetsReadZeroAndCountWrites :
    State.reset.core = .run ∧ State.reset.reaches .spi = true ∧ 0xEFFFC % 4 = 0 ∧ regRow 0xEFFFC = none ∧
      msixOffset 0xEFFFC = false ∧ ¬ (0x100000 ≤ 0xEFFFC ∧ 0xEFFFC < 0x110000) ∧ ¬ (0x200000 ≤ 0xEFFFC ∧ 0xEFFFC < 0x400000) := by
  decide +kernel

/-- Each kind of discarded write: an RWF field outside DIAGNOSE, a register that BOOT does not store, FEATURE_ACCEPT after
negotiation has closed. -/
theorem witness_WritesDiscardedByMode :
    (regRow (F.DW_CTRL_ENABLE).off).map (fun r => r.writable && r.hasAcc (fun c => decide (c = .rwf))) = some true ∧
    (inMode .configure).mode ≠ .diagnose ∧
    (regRow (F.HEALTH_ALERT_ENABLE).off).map (fun r => r.writable && !r.hasAcc (fun c => decide (c = .rwf)) &&
      !bootWrites (F.HEALTH_ALERT_ENABLE).off r) = some true ∧ State.reset.mode = .boot ∧
    (regRow (F.GL_FEATURE_ACCEPT 7).off).map (fun r => r.writable && !r.hasAcc (fun c => decide (c = .rwf))) = some true ∧
    (with_ (inMode .configure) [(F.GL_FEATURE_STATUS_CLOSED, 1)]).flag F.GL_FEATURE_STATUS_CLOSED = true := by decide +kernel

theorem witness_TimeReadLatchesItsHighWord :
    Live State.reset 7 (State.reset.advance 7) ∧ (State.reset.advance 7).reaches .spi = true := ⟨⟨rfl, rfl⟩, rfl⟩

theorem witness_RegisterSpaceCommandsTakeEffect :
    Live State.reset 7 (State.reset.advance 7) ∧ (State.reset.advance 7).reaches .spi = true ∧ State.reset.mode = .boot ∧
      (inMode .ready).mode.normal = true ∧ (with_ State.reset [(F.GL_PCIE_STATUS_LINK_UP, 1)]).linkUp = true :=
  ⟨⟨rfl, rfl⟩, rfl, by decide +kernel⟩

/-! ### Witnesses: the Cellar and the geometry -/

/-- A block of 64 bytes. -/
def block : List Byte := List.replicate 64 0x5A

theorem witness_CodewordsSatisfyTheGenerator : block.length = 64 ∧ 3 < 4 := by decide

theorem witness_StoredBlocksReadBack : block.length = 64 ∧ ∀ k, some 35 = some k → k < 36 := ⟨by decide, by simp⟩

theorem witness_OneSymbolErrorIsCorrected : block.length = 64 ∧ 35 < 36 ∧ 0 < 65535 ∧ 65535 < 65536 := by decide

theorem witness_TwoSymbolErrorsAreCorrected :
    block.length = 64 ∧ 34 < 35 ∧ 35 < 36 ∧ 0 < 1 ∧ 1 < 65536 ∧ 0 < 65535 ∧ 65535 < 65536 := by decide

theorem witness_WrongAddressIsAnAddressError :
    block.length = 64 ∧ 0 < 2 ^ 32 ∧ 2 ^ 32 - 1 < 2 ^ 32 ∧ 0 ≠ 2 ^ 32 - 1 ∧ ∀ k, some 0 = some k → k < 36 :=
  ⟨by decide, by decide, by decide, by decide, by simp⟩

theorem witness_ErasedLaneIsFilledInUncounted :
    block.length = 64 ∧ 0 < 36 ∧ 0 < 65536 ∧ 35 < 36 ∧ 35 ≠ 0 ∧ 0 < 1 ∧ 1 < 65536 := by decide

/-- Twelve channels online in the layout. -/
def cellarUp : State :=
  let s := (List.range 12).foldl (fun (a : State) c => (a.set (F.CH_STATUS_STATE c) 2).set (F.CH_CTRL_SCRUB_EN c) 1) (inMode .ready)
  { s with cellar := { s.cellar with layout := List.range 12 } }

theorem witness_PartialWriteReadsMergesAndWrites :
    63 + [(1 : Byte)].length ≤ 64 ∧ 63 < 64 ∧ (cellarUp.advance 9).blockChannel 11 = some 11 ∧
      (cellarUp.advance 9).chanOnline 11 = true ∧ ((cellarUp.advance 9).cellarRead 11).1 = some zeroBlock ∧
      ((cellarUp.advance 9).cellarRead 11).2.chanOnline 11 = true := by decide +kernel

theorem witness_LostChannelsDeliverNothing :
    (with_ cellarUp [(F.CH_STATUS_STATE 0, 4)]).blockChannel 0 = some 0 ∧
      (with_ cellarUp [(F.CH_STATUS_STATE 0, 4)]).chanOnline 0 = false := by decide +kernel

theorem witness_CellarCommandsTakeEffect :
    cellarUp.chanOnline 11 = true ∧ (cellarUp.chan 11).probeFails = 0 ∧
      1 ≤ ((cellarUp.setChan 11 { probeFails := 1 }).chan 11).probeFails ∧
      cellarUp.flag (F.CH_CTRL_SCRUB_EN 11) = true ∧ cellarUp.cellar.layout.contains 11 = true ∧
      (cellarUp.chan 11).scrub = none ∧ ((cellarUp.setChan 11 { scrub := some (11, 0) }).chan 11).scrub = some (11, 0) := by
  decide +kernel

theorem witness_NewerDataOvertakeTheScrub :
    cellarUp.blockChannel 11 = some 11 ∧ cellarUp.chanOnline 11 = true ∧
      ((cellarUp.setChan 11 { scrub := some (11, 0) }).chan 11).scrub = some (11, 0) := by decide +kernel

/-- Plane 0 has one row of 16 nozzles on port 3, printed by stream 5 for track 2. -/
def pressGeo : Geo :=
  { planes := ⟨[(0, { bits := 1, headroom := 64, columns := 16 })]⟩
    rows := [{ port := 3, row := 0, plane := 0, n := 16 }]
    rings := [{ port := 3, row := 0, base := 0, depth := 64, slot := 1 }] }

/-- The binding of stream 5. -/
def pressBinding : Binding := { track := 2, bits := 1, planeMask := 1, columnCount := 16, ringSize := 4, ringAddr := 0x1000, wbAddr := 0x2000 }

/-- A device that prints: the stream is open, the head port is up, the track runs. -/
def press : State :=
  { cellarUp with
    mode := .track
    now := 500000
    committed := true
    geo := pressGeo
    streams := ⟨[(5, { st := 1, bind := pressBinding, tail := 2, gate := true })]⟩
    tracks := ⟨[(2, { st := 1, lines := [{ line := 7, tl := 600000, interval := 6553600000 }],
                      last := some { line := 7, tl := 600000, interval := 6553600000 }, nextLine := 8 })]⟩
    ports := ⟨[(3, { st := 5 })]⟩ }

theorem witness_RingsLieContiguouslyFromBlockZero :
    pressGeo.wanted[0]? = some { port := 3, row := 0, base := 0, depth := 64, slot := 1 } ∧
      (0 : Nat) < 64 ∧ 3 % 64 ≠ 68 % 64 := by decide +kernel

/-- One good entry, and one whose port is out of range. -/
def rowTable : List Byte := rowBytes { port := 3, row := 0, plane := 0, n := 16 } ++ rowBytes { port := 200, row := 0, plane := 0, n := 16 }

theorem witness_GeometryTablesApplyWhole :
    1 < (entries 32 2 rowTable).length ∧ ((entries 32 2 rowTable)[1]?.bind parseRow) = none ∧
      ((entries 32 2 rowTable)[0]?.bind parseRow).isSome = true := by decide +kernel

/-! ### Witnesses: streams and line engines -/

theorem witness_LinesDecodeToExactlyTheirUnits :
    1 ≤ 1 ∧ 1 ≤ 4 ∧ 1 ≤ 20 ∧ decodeLine 1 20 none [0x41] = some (List.replicate 20 0, false) := by decide +kernel

/-- A header of line 3 of plane 0 of stream 5. -/
def header : SdsHeader :=
  { magic := 0x5D5A, version := 1, flags := 0, stream := 5, plane := 0, bits := 1, res7 := 0, first := 0, count := 16, colRes := 0,
    line := 3, marker := 0, payload := 1, res28 := 0 }

/-- Stream 5 with its last line handled, and an underrun declared since or not. -/
def handled (last : Nat) (under : Bool) : State :=
  press.setStream 5 { press.stream 5 with planes := ⟨[(0, { last := some last, underSince := under })]⟩ }

theorem witness_OldPacketsAreDiscardedAndClassified :
    ((handled 3 true).plane 5 0).eoj = false ∧ 3 < ((handled 3 true).plane 5 0).expect ∧
      ((handled 3 true).plane 5 0).underSince = true ∧ ((handled 3 false).plane 5 0).underSince = false ∧
      header.line + 1 = ((handled 3 false).plane 5 0).expect ∧ header.line + 1 ≠ ((handled 9 false).plane 5 0).expect ∧
      3 < ((handled 9 false).plane 5 0).expect := by decide +kernel

/-- Streams take descriptors. -/
def ingress : State := with_ press [(F.STREAM_CTRL_INGRESS_EN, 1), (F.SC_CTRL_ENABLE 5, 1), (F.DW_CTRL_ENABLE, 1), (F.DW_CTRL_STREAM_EN, 1)]

/-- The same with the host's memory in reach. -/
def linked : State := with_ ingress [(F.GL_PCIE_STATUS_LINK_UP, 1), (F.GL_PCIE_STATUS_BUS_MASTER, 1)]

theorem witness_DescriptorReadsConsumeInOrder :
    (linked.advance 0).mayReadDescriptor 5 = true ∧ ((linked.advance 0).stream 5).retryAt = none ∧
      (linked.advance 0).hostRead 0x1000 16 = some (List.replicate 16 0) ∧
      (ingress.advance 0).mayReadDescriptor 5 = true ∧ (ingress.advance 0).hostRead 0x1000 16 = none := by decide +kernel

/-- A request with bytes in its payload. -/
def asks (l : List Byte) : Req := { payload := l }

theorem witness_StreamOpenAndCloseStartAfresh :
    bitOf ((asks [5, 2, 0, 1, 1, 0]).u 4 2) 0 = true ∧ (asks [5, 1]).u 1 1 = 1 := by decide +kernel

theorem witness_StreamResetConsumesWhatIsOutstanding :
    (asks [9]).u 0 1 < 128 ∧ (press.stream 9).st = 0 ∧ (asks [255]).u 0 1 = 0xFF ∧ (press.stream 5).st ≠ 0 ∧ (asks [5]).u 0 1 = 5 ∧
      (press.stream 5).head < (press.stream 5).bind.ringSize ∧ (press.stream 5).tail < (press.stream 5).bind.ringSize ∧
      bitOf (press.stream 5).bind.planeMask 0 = true := by decide +kernel

theorem witness_StreamCommandsTakeEffect :
    press.reaches .spi = true ∧ press.mode.normal = true ∧ (press.stream 5).st ≠ 0 ∧ 3 % 65536 < (press.stream 5).bind.ringSize ∧
      (press.stream 9).st = 0 ∧
      (let x := ingress.setStream 5 { ingress.stream 5 with retryAt := some 500000 }
       x.mayReadDescriptor 5 = true ∧ (x.stream 5).retryAt = some 500000 ∧ 500000 ≤ x.now) ∧
      (let x := linked.setStream 5 { linked.stream 5 with wb := [{ head := 1 }] }
       (x.stream 5).wb = [{ head := 1 }] ∧ x.busMaster = true ∧ touches x.host.badWrite (x.stream 5).bind.wbAddr 8 = false) ∧
      press.get (F.DECOMP_DC_STATUS_STATE 7) ≠ 3 ∧
      (let x : State := { press with decomps := ⟨[(7, { busy := some (5, 0) })]⟩, now := 2000001 }
       x.get (F.DECOMP_DC_STATUS_STATE 7) ≠ 3 ∧ (x.decomps.get {} 7).busy = some (5, 0) ∧ 0 + 2000000 < x.now) := by
  decide +kernel

theorem witness_EveryColumnHasOneOwningSlice : [3, 7] ≠ [] ∧ 8 < 9 := by decide

theorem witness_NearestSourceWinsTheTarget :
    winner true [(1, some 2), (3, some 2)] 2 = some 1 ∧ winner false [(1, some 2), (3, some 2)] 2 = some 3 ∧ [3, 7].Nodup := by
  decide +kernel

/-- The line engines work, and line 3 of plane 0 has been handed. -/
def engines : State :=
  let s := with_ press [(F.LE_STATUS_STATE 3, 1), (F.LE_STATUS_STATE 7, 2)]
  { s with lines := { s.lines with handed := [{ stream := 5, plane := 0, line := 3 }] } }

/-- A line in flight. -/
def flying (engines : List Nat) : InFlight := { stream := 5, plane := 0, line := 3, engines := engines }

theorem witness_LineEngineCommandsTakeEffect :
    (engines.firstHanded 5 0 = some { stream := 5, plane := 0, line := 3 } ∧ engines.onlineEngines ≠ [] ∧
      engines.lineFree 5 0 3 = true ∧ (engines.plane 5 0).storedEnd ≤ 3) ∧
    (engines.engineOn 7 = true ∧ engines.firstHanded 5 1 = none) ∧
    (let x : State := { engines with lines := { engines.lines with inFlight := [flying [3, 7]] }, now := 1500000 }
     x.lines.inFlight.find? (fun g => decide (g.stream = 5 ∧ g.plane = 0)) = some (flying [3, 7]) ∧ x.engineOn 7 = true ∧
      flying [3, 7] ∈ x.lines.inFlight ∧ (flying [3, 7]).engines.contains 7 = true ∧
      (flying [3, 7]).lost.contains 7 = false ∧ (flying [3, 7]).since + 1000000 < x.now) := by decide +kernel

/-! ### Witnesses: encoders, tracks and the governor -/

/-- An encoder of a kind, and what it holds. -/
def encoder (kind : Nat) (x : Enc) : State :=
  { with_ press [(F.ENC_EN_CTRL_KIND 3, kind), (F.TRACK_TR_CTRL_SOURCE 2, 1), (F.TRACK_TR_CTRL_ENC 2, 3),
      (F.TRACK_TR_CTRL_ENC_VALID 2, 1)] with encs := ⟨[(3, x)]⟩ }

theorem witness_EncoderCommandsTakeEffect :
    ((encoder 1 {}).encKind 3 = 1 ∧ ((encoder 1 {}).enc 3).inputFault = false ∧ true ≠ ((encoder 1 {}).enc 3).a ∧
      false = ((encoder 1 {}).enc 3).b ∧ false = ((encoder 1 {}).enc 3).a ∧ true ≠ ((encoder 1 {}).enc 3).b ∧
      ((encoder 1 {}).enc 3).z = false) ∧
    (encoder 2 {}).readDue 3 2 0 = true ∧ (encoder 3 {}).readDue 3 3 0 = true ∧
    ((0 : Nat) < 2 ^ (encoder 3 {}).get (F.ENC_EN_CTRL_BITS 3) ∧
      63 - crc6 (4 * 0 + 2 + b2n true) ((encoder 3 {}).get (F.ENC_EN_CTRL_BITS 3) + 2) 0 < 64) ∧
    ((encoder 1 {}).encKind 3 ≠ 0 ∧ 2 ∈ (encoder 1 {}).pacedBy 3) ∧ ((encoder 1 { inputFault := true }).enc 3).inputFault = true ∧
    (let x := encoder 1 { est := .locked, v := 1 }
     x.encArmed 3 = true ∧ (x.enc 3).wdLate = false ∧ (x.enc 3).wdFrom + 1000 * x.get (F.ENC_WD_TIME 3) ≤ (later x 1000000000).now) := by
  decide +kernel

/-- Track 2 takes its lines from the clock, its first being due. -/
def clocked : State := with_ press [(F.TRACK_TR_CTRL_SOURCE 2, 2), (F.TRACK_LEADS_LEAD_US 2, 1000)]

/-- Track 2 has been stopped after line 7, and everything of it has passed. -/
def stopping : State :=
  { press with
    tracks := ⟨[(2, { st := 2, cause := 1, stopLine := some 7 })]⟩
    ports := ⟨[(3, { st := 5, fetched := some 7 })]⟩, job := 4 }

theorem witness_TrackCommandsTakeEffect :
    ((encoder 1 {}).track 2).st = 1 ∧ (encoder 1 {}).byEncoder 2 = true ∧ (encoder 1 {}).trackEnc 2 = some 3 ∧
    ((clocked.track 2).st = 1 ∧ clocked.byClock 2 = true ∧
      roundHalfUp (clocked.nextClocked 2) - clocked.devTime ≤ clocked.leadNs 2) ∧
    (press.trackActive 2 = true ∧ (later press 600000).dueLine 2 = some { line := 7, tl := 600000, interval := 6553600000 }) ∧
    (let x : State := { press with gov := { press.gov with ltrig := ⟨[(3, { pulses := [(1, 5)] })]⟩ } }
     (x.gov.ltrig.get {} 3).pulses.find? (fun q => decide (q.2 ≤ (x.devTime : Int))) = some (1, 5)) ∧
    ((stopping.track 2).st = 2 ∧ stopping.stopLinePassed 2 = true ∧ stopping.mode = .track ∧
      ∀ k, k < 16 → k ≠ 2 → stopping.trackActive k = false) ∧
    (press.devTime % 100000 = 0 ∧ press.devTime ≠ press.gov.lastEval) ∧ (later (inMode .maintain) 500000).devTime % 100000 = 0 := by
  decide +kernel

theorem witness_TracksStopAtTheirStopLine :
    (press.track 2).st = 1 ∧ (press.track 9).st ≠ 1 ∧ 3 ∈ press.trackPorts 2 ∧ 9 ≠ 2 := by decide +kernel

/-- The speed factor stands at a value, and the limits let it rise to 16. -/
def governed (p : Nat) : State :=
  let s := with_ (inMode .clock) [(F.TIMING_GOV_CTRL_HOST_CAP, 16), (F.THERM_TRI_STATUS_FIRE_EN, 1)]
  { s with gov := { s.gov with p := p } }

/-- The same in a ring, on a device that is not its master. -/
def follower : State := with_ (governed 3) [(F.PEAL_RING_STATUS_STATE, 3), (F.PEAL_RING_STATUS_ROLE, 1)]

theorem witness_GovernorFollowsTheLeastLimit :
    (governed 3).inRing = false ∧ (governed 3).limits.least = 16 ∧ (governed 3).gov.p < 16 ∧
      (governed 3).gov.lastChange + 1000000 * (governed 3).get F.TIMING_HYST ≤ (later (governed 3) 50000000).now ∧
      (governed 3).now < (governed 3).gov.lastChange + 1000000 * (governed 3).get F.TIMING_HYST ∧
      (with_ (governed 3) [(F.TIMING_GOV_CTRL_HOST_CAP, 2)]).limits.least = 2 ∧ 16 = (governed 16).gov.p ∧
      follower.inRing = true ∧ follower.isMaster = false ∧
      timingGovernor.range (asks [3, 16, 4, 0, 64, 0, 10, 0, 200, 200, 0, 0, 0, 0, 0, 0]) (governed 3) = none := by decide +kernel

theorem witness_PaceIsHighForItsShareOfThePeriod :
    (governed 16).core = .run ∧ (with_ (governed 16) [(F.TIMING_GOV_CTRL_PWM_EN, 1)]).flag F.TIMING_GOV_CTRL_PWM_EN = true ∧
      (with_ (governed 16) [(F.TIMING_GOV_CTRL_PWM_EN, 1)]).govern.gov.p = 16 ∧ (inMode .configure).govern.gov.p = 0 ∧
      (later press 500001).devTime % 100000 ≠ 0 := by decide +kernel

theorem witness_EveryNozzleKeepsTheMinimumPeriod :
    let s := press.setPort 3 { press.port 3 with fPrev := some 5, coefMin := -3, coefMax := 3 }
    (s.port 3).fPrev = some 5 ∧ (s.port 3).coefMin ≤ -3 ∧ 3 ≤ (s.port 3).coefMax := by decide +kernel

/-! ### Witnesses: waveforms -/

/-- A temperature table of two points. -/
def points : List (Int × Nat) := [(160, 40000), (480, 30000)]

/-- Head 0 of port 3 has read 20 °C, and waveform 1 has a table. -/
def warm : State :=
  let s := with_ press [(F.HP_CTRL_GEN 3, 3)]
  { s with
    ports := ⟨[(3, { st := 5, therm := { readings := ⟨[(0, { temp := 320, at_ := some 500000 })]⟩ } })]⟩
    waves := ⟨[(3, { waves := ⟨[(1, { startLevel := 0 })]⟩, temps := ⟨[(1, points)]⟩, powerMax := 10 })]⟩ }

/-- The same module on HL-1: before its link-up, and with a conversion since. -/
def warm1 (st : Nat) : State := with_ { warm with ports := ⟨[(3, { warm.port 3 with st := st })]⟩ } [(F.HP_CTRL_GEN 3, 1)]

theorem witness_ScalesFollowTheTemperatureTable_hl1 :
    (warm1 0).gen 3 = 1 ∧ (warm1 0).scalesLive 3 = false ∧ ((warm1 0).port 3).therm.mean (warm1 0).now ≠ none ∧
      (warm1 5).linked 3 = true ∧ ((warm1 5).port 3).therm.readSince (warm1 5).now ((warm1 5).port 3).since = true := by
  decide +kernel

theorem witness_ScalesFollowTheTemperatureTable :
    risingTemps points = true ∧ points.head? = some (160, 40000) ∧ (160 : Int) ≤ 160 ∧ points.getLast? = some (480, 30000) ∧
      points[0]? = some (160, 40000) ∧ points[1]? = some (480, 30000) ∧ (479 : Int) < 480 ∧
      (warm.port 3).therm.mean warm.now = some 320 ∧ ((warm.wp 3).temps.cells.map (·.1)).Nodup ∧
      (1, points) ∈ (warm.wp 3).temps.cells ∧ ((warm.wp 3).wave 1).isSome = true ∧
      ((later warm 900000000).port 3).therm.mean (later warm 900000000).now = none ∧ warm.gen 3 ≠ 0 ∧ warm.gen 3 ≠ 1 := by
  decide +kernel

theorem witness_PowerStepIsTheLeastWithinTheLimit :
    (0 : Rat) ≤ 3 ∧ (0 : Rat) < 3 ∧ leastStep 3 2 ≤ 5 ∧ leastStep 3 2 < 8 ∧ 8 ≤ 8 ∧ press.firedLines 3 1000000 = [] := by decide +kernel

/-- Both waveform engines work, or only the second, and port 3 has fired a line. -/
def waving (first : Nat) (now : Nat) : State :=
  let s := with_ warm [(F.WE_STATUS_STATE 0, first), (F.WE_STATUS_STATE 1, 1), (F.THERM_TRI_STATUS_FIRE_EN, 1)]
  { s with now := now, ports := ⟨[(3, { st := 5, lines := [{ track := 2, line := 6, f := now, started := true }] })]⟩ }

theorem witness_WaveEngineCommandsTakeEffect :
    ((waving 1 468750).waveServer 3 = some 0 ∧
      (waving 1 468750).devTime % ((waving 1 468750).updateGrid 0 3).1 = ((waving 1 468750).updateGrid 0 3).2) ∧
    ((waving 1 0).waveOn 0 = true ∧ (waving 1 0).waveOn 1 = true) ∧
    ((waving 3 0).waveOn 1 = true ∧ (waving 3 0).get (F.WE_STATUS_STATE (1 - 1)) = 3 ∧ (waving 3 0).gen 3 ≠ 0) ∧
    ((waving 1 1000000).devTime % (if (waving 1 1000000).waveSole 0 then 2000000 else 1000000) = 0 ∧
      ((waving 1 1000000).wp 3).powerMax ≠ 0 ∧ (waving 1 1000000).portTrack 3 = some 2 ∧
      (waving 1 1000000).firedLines 3 1000000 ≠ []) ∧
    ((waving 3 2000000).waveSole 1 = true ∧ (waving 3 2000000).waveServer 3 = some 1 ∧
      (waving 3 2000000).devTime % 2000000 = 0 ∧ (waving 3 2000000).firedLines 3 2000000 ≠ []) := by decide +kernel

/-! ### Witnesses: head links -/

/-- Head port 3 of a generation, and what it holds. -/
def headPort (gen : Nat) (x : Port) : State :=
  { with_ press [(F.HP_CTRL_GEN 3, gen), (F.HEADPORT_HEADS_CTRL_LINK_EN, 1), (F.HP_CTRL_AUTO_RELINK 3, 1)] with
    now := 100000000000, ports := ⟨[(3, x)]⟩ }

/-- The first 60 bytes of the descriptor of an HL-3 head: rates 0 to 2. -/
def descBytes : List Byte :=
  [1, 0, 1, 0, 3, 1, 16, 0, 0x40, 0x1F, 0, 0, 1, 8, 1, 0] ++ [7, 0, 0, 0, 0, 0, 0, 0] ++ [0, 0, 7, 0] ++ List.replicate 32 0

/-- The descriptor with its CRC. -/
def descRaw : List Byte := descBytes ++ leBytes 4 (crc32c descBytes)

theorem witness_HeadLinkCommandsTakeEffect :
    (((headPort 3 { st := 1 }).port 3).st = 1 ∧ 3 % 4 ≠ 0 ∧ (headPort 3 { st := 1 }).flag F.HEADPORT_HEADS_CTRL_LINK_EN = true ∧
      ((headPort 3 { st := 1 }).port 3).since + 10000000 ≤ (headPort 3 { st := 1 }).now) ∧
    ((headPort 3 { st := 7 }).flag (F.HP_CTRL_AUTO_RELINK 3) = true ∧ (headPort 3 { st := 7 }).mayLink 3 = true ∧
      ((headPort 3 { st := 7 }).port 3).since + 100000000 ≤ (headPort 3 { st := 7 }).now) ∧
    ((headPort 3 { st := 2 }).auxRx 3 = true ∧
      ((headPort 3 { st := 2 }).port 3).lastRx + 5000000 ≤ (headPort 3 { st := 2 }).now) ∧
    ((parseDescriptor descRaw).sound = true ∧ (parseDescriptor []).sound = false ∧ (parseDescriptor descRaw).gen = (headPort 3 {}).gen 3 ∧
      (parseDescriptor descRaw).gen ≠ (headPort 2 {}).gen 3 ∧
      bitOf (parseDescriptor descRaw).rates ((headPort 3 {}).get (F.HP_CTRL_RATE 3)) = true ∧
      bitOf (parseDescriptor descRaw).rates ((with_ (headPort 3 {}) [(F.HP_CTRL_RATE 3, 3)]).get (F.HP_CTRL_RATE 3)) = false ∧
      ({ headPort 3 {} with committed := false }).judged = false ∧ bitOf (parseDescriptor descRaw).flags 1 = false) ∧
    ((headPort 3 { st := 3, authStage := 1, usage := { refuse := true, asked := [none] } }).auxRx 3 = true ∧
      (headPort 3 { st := 3 }).headSerial 3 ≠ 5) ∧
    ((headPort 3 { st := 5, usage := { auth := 1 } }).linked 3 = true ∧
      ((headPort 3 { st := 5, usage := { auth := 1 } }).port 3).usage.readAt + 60000000000 ≤ (headPort 3 { st := 5 }).now ∧
      ((headPort 3 { st := 5 }).port 3).syncAt ≤ (headPort 3 { st := 5 }).now ∧ (headPort 3 { st := 5 }).auxRx 3 = true ∧
      ((headPort 3 { st := 5 }).port 3).inSeq < 65536) ∧
    ((headPort 2 { st := 4, waits := [(9, 1)] }).auxRx 3 = true ∧ 9 ≠ 0xFFFF ∧
      ((headPort 2 { st := 4, waits := [(9, 1)] }).port 3).waits.find? (fun w => w.1 = 9) = some (9, 1)) := by decide +kernel

/-- A MAC that verifies: the head's own serial number and the MAC that its key gives. -/
theorem witness_verifies (s : State) (p nonce count : Nat) :
    s.verifies p nonce (s.headSerial p) count (s.usageMac (s.port p).usage.slot nonce (s.headSerial p) count) = true := by
  simp [State.verifies]

/-- A frame of line 7. -/
def lineFrame : OutFrame := { seq := 4, msg := .line 7 0 0 16 [] , sentAt := some 0 }

theorem witness_HeadFrameCommandsTakeEffect :
    (let s := headPort 3 { st := 5, owed := [.ack 9] }
     2 ≤ (s.port 3).st ∧ (s.port 3).st ≤ 6 ∧ s.gen 3 = 3 ∧ s.flag F.HEADPORT_HEADS_CTRL_LINK_EN = true ∧
      (s.port 3).busyUntil ≤ (s.now : Int) ∧ (s.port 3).owed = [.ack 9]) ∧
    (let s := with_ (headPort 3 { st := 5, lineQ := [lineFrame] }) [(F.THERM_TRI_STATUS_FIRE_EN, 1)]
     (s.port 3).owed = [] ∧ (s.port 3).ghosts = [] ∧ (s.port 3).replay.find? (·.resend) = none ∧ s.replayFull 3 = false ∧
      s.lineReady 3 = true ∧ (s.port 3).lineQ = [lineFrame]) ∧
    (let s := headPort 3 { st := 5, replay := [lineFrame], failures := 7 }
     s.auxRx 3 = true ∧ (s.port 3).replay.any (fun f => ackCovers 4 f.seq) = true ∧ 7 ≤ (s.port 3).failures ∧
      s.expiredFrame 3 = some lineFrame) ∧
    (let s := headPort 3 { st := 5, replay := [lineFrame], failures := 6 }
     (s.port 3).failures < 7 ∧ (∀ f ∈ (s.port 3).replay, f.retries < 4) ∧
      (s.port 3).replay.any (fun f => decide (f.seq = 4)) = true) := by decide +kernel

/-- A line of port 3 that fires now. -/
def firing : PortLine := { track := 2, line := 7, first := 100000000000, last := 100000000000, rows := [(0, 100000000000, [1])] }

theorem witness_HeadFiringCommandsTakeEffect :
    ((headPort 3 { st := 7 }).portTrack 3 = some 2 ∧ (headPort 3 { st := 7 }).trackActive 2 = true ∧
      (headPort 3 { st := 7 }).nextFetch 3 2 = some { line := 7, tl := 600000, interval := 6553600000 } ∧
      (headPort 3 { st := 7 }).linked 3 = false ∧ ((headPort 3 { st := 7 }).port 3).usage.refuseDue = false) ∧
    (let s := headPort 3 { st := 5, lines := [firing], lineQ := [{ msg := .fireAt 7 0 0 [] }] }
     s.gen 3 = 3 ∧ (s.port 3).lines.any (PortLine.unheard (s.devTime + 1) (s.port 3).unacked) = true) ∧
    (let s := headPort 1 { st := 5, lines := [firing] }
     (s.port 3).lines.find? (fun l => !l.shifted && decide (l.outcome < 4)) = some firing ∧ s.gen 3 = 1 ∧ s.linked 3 = true ∧
      max (firing.first - s.shiftNs 3 - 40) ((s.port 3).latchEnd + 20) ≤ (s.devTime : Int)) ∧
    (let l : PortLine := { firing with shifted := true }
     let s := headPort 1 { st := 5, lines := [l] }
     (s.port 3).lines.find? (fun l => l.shifted && !l.latched && decide (l.outcome < 4)) = some l ∧ l.first ≤ (s.devTime : Int) ∧
      s.flag F.THERM_TRI_STATUS_FIRE_EN = false ∧
      (with_ s [(F.THERM_TRI_STATUS_FIRE_EN, 1)]).flag F.THERM_TRI_STATUS_FIRE_EN = true) ∧
    (let s := headPort 2 { st := 5, lines := [firing] }
     s.nextStrobe 3 = some (firing, 100000000000) ∧ s.gen 3 = 2 ∧ (s.port 3).desc = none ∧
      100000000000 - (s.port 3).delta - (0 : Nat) ≤ (s.devTime : Int)) ∧
    (let s := headPort 2 { st := 5, maint := some { fired := 3, total := 3 } }
     (s.port 3).maint = some { fired := 3, total := 3 } ∧ (s.port 3).fPrev = none) ∧
    (let s := headPort 2 { st := 5, maint := some { fired := 2, total := 3 } }
     s.linked 3 = true ∧
      (0 : Int) + roundHalfUp (((2 : Nat) * 1000000000 : Nat) / (max 1 1 : Rat)) - 200000 ≤ (s.devTime : Int)) := by decide +kernel

theorem witness_SequencedFramesAreTakenInOrder :
    let s := headPort 3 { st := 5, inSeq := 2 }
    s.auxRx 3 = true ∧ 2 = (s.port 3).inSeq ∧ ((s.port 3).inSeq + 65536 - 32770) % 65536 ≤ 32768 ∧
      32768 < ((s.port 3).inSeq + 65536 - 32769) % 65536 := by decide +kernel

theorem witness_FetchDecidesTheOutcomeOfALine :
    let c : CLine := { line := 7, tl := 600000, interval := 6553600000 }
    let d : CLine := { line := 7, tl := 100000, tc := 99990000000, interval := 6553600 }
    let s := headPort 3 { st := 5 }
    let f := s.earliest 3 d.interval (max d.tl ((d.tc : Int) + s.fetchNs 2))
    let g := s.earliest 3 c.interval (max c.tl ((c.tc : Int) + s.fetchNs 2))
    (s.get (F.TRACK_SLACK_TOL_SLACK 2) * d.interval : Int) < (f - d.tl) * 256 * 65536 ∧
      (g - c.tl) * 256 * 65536 ≤ (s.get (F.TRACK_SLACK_TOL_SLACK 2) * c.interval : Int) := by decide +kernel

/-! ### Witnesses: the nozzle watch -/

/-- Port 3 carries an HL-3 head that senses, and the watch takes its frames. -/
def watching (l : PortLine) : State :=
  let s := with_ (headPort 3 { st := 5, desc := some { flags := 1 }, lines := [l] })
    [(F.WATCH_SENSE_EN 0, 8), (F.WATCH_CTRL_ENABLE, 1), (F.WATCH_WINDOW_SENSE_WINDOW_US, 100)]
  { s with watch := { s.watch with states := ⟨[(nozzleId 3 2, 3)]⟩ } }

/-- A batch of one change. -/
def changed : Watch := { batch := [{ nozzle := nozzleId 3 2, new := 2 }] }

theorem witness_WatchCommandsTakeEffect :
    (let s := watching { firing with tl := 99999900000 }
     s.auxRx 3 = true ∧ (s.port 3).inSeq < 65536 ∧ s.senseTaken 3 = true ∧ (headPort 3 { st := 5 }).senseTaken 3 = false ∧
      (s.port 3).maint = none ∧ s.portLine 3 7 = some { firing with tl := 99999900000 } ∧
      (s.devTime : Int) = 99999900000 + 1000 * s.get F.WATCH_WINDOW_SENSE_WINDOW_US ∧ s.geo.row 3 5 = none ∧
      s.geo.row 3 0 = some { port := 3, row := 0, plane := 0, n := 16 } ∧
      ({ port := 3, row := 0, plane := 0, n := 16 } : RowEntry).local (7 % 16) = 7 ∧
      ({ s with watch := { s.watch with states := ⟨[(nozzleId 3 7, 3)]⟩ } } : State).watchState (nozzleId 3 7) = 3) ∧
    (let s := watching { firing with tl := 99999899999 }
     s.portLine 3 7 = some { firing with tl := 99999899999 } ∧
      (99999899999 : Int) + 1000 * s.get F.WATCH_WINDOW_SENSE_WINDOW_US < s.devTime) ∧
    press.watch.batch = [] ∧ (changed.batch.map (·.nozzle)).Nodup := by decide +kernel

theorem witness_QuickCoverMovesEachDotOnce :
    ([1, 0, 0, 2] : List Nat).length = 4 ∧ ([0, 3] : List Nat).Pairwise (· < ·) ∧ (∀ k ∈ [0, 3], k < 4 ∧ [1, 0, 0, 2].getD k 0 ≠ 0) ∧
      [0, 3].foldl (coverStep 4 (fun _ => true) true [1, 0, 0, 2]) ([1, 0, 0, 2], [], 0, 0) = ([0, 1, 2, 0], [2, 1], 2, 0) ∧
      ({} : WatchHist).run = 0 ∧ 7 ≤ ({ run := 7 } : WatchHist).run := by decide +kernel

/-! ### Witnesses: the Peal ring -/

/-- A device in an open ring of two with a role, PA up towards device 9, its clock past every timer. -/
def ring (role master : Nat) : State :=
  let s := with_ press [(F.PP_CTRL_EN 0, 1), (F.PP_CTRL_EN 1, 1), (F.PP_STATUS_STATE 0, 2), (F.PEAL_RING_STATUS_ROLE, role),
    (F.PEAL_RING_STATUS_STATE, 3), (F.PEAL_DEVICE_ID_ID, 5), (F.PEAL_DEVICE_ID_MASTER, master), (F.PEAL_RING_SIZE_COUNT, 2),
    (F.TRACK_TR_CTRL_SOURCE 2, 3), (F.PP_NEIGHBOUR_VALID 0, 1), (F.PP_NEIGHBOUR_ID 0, 9), (F.PP_STATUS_TO_MASTER 0, 1)]
  { s with now := 200000000 }

/-- The same with a Peal engine of one's own. -/
def ringWith (role master : Nat) (p : Peal) : State := { ring role master with peal := p }

/-- A frame of device 9. -/
def ringFrame (kind flags dst : Nat) (payload : List Byte) : PealFrame :=
  { kind := kind, flags := flags, src := 9, dst := dst, seq := 65535, payload := payload }

/-- A STATUS payload of a deputy, a chime payload of a master, a toll of line 8 of track 2. -/
def statusBytes : List Byte := [2, 0, 0, 0, 0, 0, 0, 0]
def chimeBytes : List Byte := 3 :: List.replicate 15 0
def tollBytes (flags : Nat) : List Byte := tollPayload 2 flags 0 8 700000 6553600000

theorem witness_PealFramesAreHandledInOrder :
    (inMode .configure).pealOn 1 = false ∧ (ring 1 9).pealOn 1 = true ∧ (ring 1 9).pealUp 1 = false ∧ (ring 1 9).pealOn 0 = true ∧
      (ring 1 9).pealUp 0 = true ∧ frameOk (ringFrame 7 0 9 []) = false ∧ frameOk (ringFrame 4 1 0 (List.replicate 32 0)) = true ∧
      frameOk { ringFrame 7 0 9 statusBytes with src := 5 } = true ∧ (ring 1 9).deviceId = 5 ∧
      (ringWith 1 9 { seqIn := ⟨[(9 * 8 + 7, some 65535)]⟩ }).pealDup (ringFrame 7 0 5 statusBytes) = true ∧
      Arrives (ring 1 9) 0 (ringFrame 7 0 5 statusBytes) ∧ Meant (ring 1 9) (ringFrame 7 0 5 statusBytes) ∧
      ¬ Meant (ring 1 9) (ringFrame 7 0 6 statusBytes) := by
  unfold Arrives Meant
  decide +kernel

/-- A committed line of the ring, its time near. -/
def ringLine : CLine := { line := 7, tl := 100000000, interval := 6553600 }

theorem witness_PealRingCommandsTakeEffect :
    (let s := with_ (ringWith 1 9 { ports := ⟨[(0, { sync := List.replicate 8 (0, 0) })]⟩ }) [(F.PP_STATUS_STATE 0, 1)]
     s.pealOn 0 = true ∧ s.pealUp 0 = false ∧ (s.peal1 0).sync.length = 8) ∧
    (let s := ringWith 1 9 { ports := ⟨[(0, { lastRx := 199950000, crcAt := List.replicate 16 199000000, formed := true })]⟩ }
     s.pealOn 0 = true ∧ s.pealUp 0 = true ∧ (s.peal1 0).lastRx + 50000 ≤ s.now ∧ 16 ≤ (s.recentCrc 0).length ∧
      (s.peal1 0).formed = true) ∧
    (let s := ringWith 1 9 { holdFrom := some 190000000, roundAt := some 100000000 }
     (190000000 + 10000000 ≤ s.now ∧ s.peal.holdFrom = some 190000000) ∧ s.peal.roundAt = some 100000000 ∧
      100000000 + 100000000 ≤ s.now) ∧
    ((ring 1 9).inRing = true ∧ (ring 1 9).isMaster = false ∧ (ring 1 9).masterId ≠ (ring 1 9).deviceId) ∧
    (let s := ringWith 3 5 { table := [{ id := 9, seen := some 170000000 }] }
     ({ id := 9, seen := some 170000000 } : RingDev) ∈ s.peal.table ∧ 170000000 + 30000000 ≤ s.now) ∧
    (let s : State := { ring 1 9 with tracks := ⟨[(2, { st := 1, last := some ringLine })]⟩ }
     s.source 2 = 3 ∧ (s.track 2).st = 1 ∧ (s.track 2).continued = false ∧ (s.track 2).last = some ringLine ∧
      ringLine.tl * 65536 + (ringLine.interval : Int) ≤ ((s.devTime : Int) + s.fetchNs 2) * 65536) ∧
    ((ring 3 5).shownRole = 3 ∧ (ring 3 5).devTime % 10000 = 0 ∧ (ring 3 5).peal.held = false ∧
      (ringWith 3 5 { held := true }).peal.held = true ∧ (ringWith 3 5 { held := true }).shownRole = 3 ∧
      (ring 1 9).shownRole = 1) ∧
    ((with_ (ring 3 5) [(F.PEAL_RING_CTRL_CLAPPER_WIRED, 1)]).flag F.PEAL_RING_CTRL_CLAPPER_WIRED = true ∧
      true ≠ (ring 3 5).peal.released) ∧
    (let s := ringWith 3 5 { released := true, claimFrom := some 0 }
     s.isMaster = true ∧ s.peal.claimFrom.isSome = true ∧ s.releasedFor 20000 = true ∧ twoOf s.permits = true) ∧
    (let s := ringWith 3 5 { claimFrom := some 190000000 }
     s.peal.claimFrom = some 190000000 ∧ s.isMaster = true ∧ s.peal.released = false ∧
      max 190000000 s.peal.clapperSince + 10000000 ≤ s.now) ∧
    (let s := ring 2 9
     s.inRing = true ∧ s.ringRole = 2 ∧ s.peal.pairLost = false ∧ s.peal.released = false ∧ s.chimesLost = true) ∧
    (let s := with_ (ringWith 3 5 { ports := ⟨[(0, { deputyChime := some 0 })]⟩ }) [(F.PEAL_DEPUTY_STATUS_DEPUTY, 9)]
     s.isMaster = true ∧ s.get F.PEAL_DEPUTY_STATUS_DEPUTY ≠ 0 ∧ s.peal.deputyLost = false ∧
      [0, 1].filterMap (fun k => (s.peal1 k).deputyChime) = [0] ∧ 0 + s.lossNs ≤ s.now) ∧
    (let s : State := { with_ (ringWith 2 9 { released := true, ports := ⟨[(0, { masterChime := some 199900000 })]⟩ })
        [(F.PEAL_RING_CTRL_CLAPPER_WIRED, 1)] with tracks := {} }
     s.deputyReady = true ∧ s.chimesLost = true ∧ s.releasedFor 20000 = true) ∧
    (let s := ringWith 1 9 { unsent := [190000], locals := [{ eval := 190000 }] }
     s.inRing = true ∧ s.isMaster = false ∧ s.peal.unsent.contains 190000 = true ∧ 190000 + 10000 ≤ s.devTime ∧
      s.peal.locals.find? (fun x => decide (x.eval = 190000)) = some { eval := 190000 } ∧ s.ringFresh = false) := by
  decide +kernel

/-- A round offered to this device, and the payload of a DISCOVER frame of it. -/
def offered : Offer := { round := 4, id := 5, master := 9, port := 0, path := 100, hops := 1 }
def roundBytes (kind : Nat) (master : Nat) : List Byte := discoverPayload kind 4 6 1 master 100 0 0 0

theorem witness_PealFrameCommandsTakeEffect :
    (let s := ringWith 1 9 { ports := ⟨[(0, { t1 := some 77 })]⟩ }
     LocalFrame s 0 (ringFrame 4 1 0 (syncPayload 1 77 88 99)) ∧ uAt (syncPayload 0 77 88 99) 0 1 = 0 ∧
      uAt (syncPayload 1 77 88 99) 0 1 = 1 ∧ (s.peal1 0).t1 = some (uAt (syncPayload 1 77 88 99) 8 8)) ∧
    (LocalFrame (ring 1 9) 0 (ringFrame 6 1 0 (roundBytes 3 9)) ∧ [0, 1, 2, 3].map (fun k => uAt (roundBytes k 9) 0 1) = [0, 1, 2, 3]) ∧
    (LocalFrame { ring 1 9 with mode := .ready } 0 (ringFrame 6 1 0 (roundBytes 0 9)) ∧ (ring 1 9).ringRole ≠ 3 ∧
      (Mode.ready).printing = false ∧ (ring 1 9).peal.offer = none ∧
      (ringWith 1 9 { offer := some offered }).offerOf (roundBytes 1 9) = some offered ∧ 1 ≠ offered.port ∧
      (let s := ringWith 3 9 { offer := some offered, roundAt := some 0 }
       s.ringRole = 3 ∧ s.offerOf (roundBytes 3 9) = some offered ∧ s.peal.roundAt.isSome = true)) ∧
    (let s := ringWith 3 5 { table := [{ id := 9 }] }
     Arrives s 0 (ringFrame 7 0 5 statusBytes) ∧ Meant s (ringFrame 7 0 5 statusBytes) ∧ s.isMaster = true ∧
      ({ id := 9 } : RingDev) ∈ s.peal.table) ∧
    (let s := ring 1 9
     Arrives s 0 (ringFrame 1 0 0xFFFF (tollBytes 0)) ∧ Arrives s 0 (ringFrame 1 0 0xFFFF (tollBytes 2)) ∧
      Meant s (ringFrame 1 0 0xFFFF (tollBytes 2)) ∧ uAt (tollBytes 2) 0 1 = 2 ∧ s.source 2 = 3 ∧ (s.track 2).st = 1 ∧
      (s.track 2).continued = false ∧ 9 = s.masterId ∧ bitOf (uAt (tollBytes 0) 1 1) 1 = false ∧
      bitOf (uAt (tollBytes 2) 1 1) 1 = true ∧ 9 ≠ (ring 1 8).masterId ∧ 9 ≠ (ring 1 8).get F.PEAL_DEPUTY_STATUS_DEPUTY ∧
      Arrives s 0 (ringFrame 2 0 0xFFFF chimeBytes) ∧ uAt chimeBytes 0 1 = 3) ∧
    (let s := ring 3 5
     Arrives s 0 (ringFrame 3 0 5 (pacePayload 0 {})) ∧ s.childOn 0 = some 9) ∧
    (let s := ring 1 9
     Arrives s 0 (ringFrame 3 0 0xFFFF (pacePayload 1 {})) ∧ uAt (pacePayload 1 {}) 0 1 = 1 ∧ s.inRing = true ∧
      s.isMaster = false) ∧
    (let s : State := ring 1 9
     Arrives s 0 (ringFrame 5 0 5 (List.replicate 16 0)) ∧ Meant s (ringFrame 5 0 5 (List.replicate 16 0)) ∧ s.mode ≠ .boot ∧
      s.boot.ready = true ∧ s.haltMonitor = false ∧ s.flag F.PEAL_RING_CTRL_TUNNEL_ACCEPT = false) ∧
    (let l : List Byte := [1, 13, 0, 0, 6, 0, 0, 0] ++ List.replicate 40 0
     let m : Remote := { rq := { seq := 6 }, entries := [(9, none), (11, none)] }
     let s := (ring 3 5).setPorch 13 { remote := some m }
     Arrives s 0 (ringFrame 5 0 5 l) ∧ uAt l 0 1 = 1 ∧ uAt l 1 1 = 13 ∧ (s.porch 13).remote = some m ∧ m.rq.seq = uAt l 4 4 ∧
      m.aborting = none ∧ (11, none) ∈ m.entries) := by
  unfold Arrives Meant LocalFrame
  refine ⟨?_, ?_, ?_, ?_, ?_, ?_, ?_, ?_, ?_⟩ <;> decide +kernel

/-! ### Witnesses: the porches -/

/-- A device in READY that serves its porches, with host memory in reach. Head port 3 has a head of 16 nozzles, in a
state of its link. -/
def porchUp (st : Nat) : State :=
  with_ { headPort 3 { st := st, desc := some { nozzles := 16 } } with mode := .ready }
    [(F.PORCH_CTRL_ENABLE, 0x3FFF), (F.GL_PCIE_STATUS_LINK_UP, 1), (F.GL_PCIE_STATUS_BUS_MASTER, 1)]

/-- A WAVE_AMP_TRIM command for four nozzles of a port, the trims being 0 and their CRC being given. -/
def trimReq (port flags crc : Nat) : Req :=
  { porch := 13, seq := 2 ^ 32 - 1, flags := flags,
    payload := [BitVec.ofNat 8 port, 0] ++ leBytes 2 4 ++ leBytes 12 0 ++ leBytes 4 crc ++ leBytes 4 0 }

/-- The CRC of four zero bytes. -/
def zerosCrc : Nat := crc32c [0, 0, 0, 0]

/-- What becomes of a command that its own porch takes. -/
def stagedOn (a : State) (op : Nat) (rq : Req) : Staged := { op := op, rq := rq, rungAt := a.now, due := dueAt a.now rq.deadline }
def takenOn (a : State) (op : Nat) (rq : Req) : State :=
  let x := ((((a.ring rq.porch rq.seq).closeNegotiation op).set (F.PR_EXPECT_SEQ rq.porch) ((rq.seq + 1) % 2 ^ 32)).set
    (F.PR_STATE_EXPECT_VALID rq.porch) 1)
  x.setPorch rq.porch { x.porch rq.porch with staged := some (stagedOn a op rq) }

/-- What becomes of one that a free slot of tunnelled commands takes. -/
def tunnelledOn (a : State) (n op : Nat) (rq : Req) : State :=
  let y := (a.closeNegotiation op).bump F.PEAL_TUNNEL_IN
  let x := y.setPorch n { y.porch n with rungAt := y.now }
  x.setPorch n { x.porch n with staged := some (stagedOn a op rq) }

theorem taken_own :
    Taken (porchUp 5) 0x504 (trimReq 3 0 zerosCrc) 13 (stagedOn (porchUp 5) 0x504 (trimReq 3 0 zerosCrc))
      (takenOn (porchUp 5) 0x504 (trimReq 3 0 zerosCrc)) :=
  ⟨rfl, _, rfl, by decide +kernel, .inl ⟨rfl, rfl, by decide +kernel, by decide +kernel, rfl⟩⟩

theorem taken_tunnelled :
    Taken (porchUp 5) 0x504 { trimReq 3 0 zerosCrc with origin := 9 } 16 (stagedOn (porchUp 5) 0x504 { trimReq 3 0 zerosCrc with origin := 9 })
      (tunnelledOn (porchUp 5) 16 0x504 { trimReq 3 0 zerosCrc with origin := 9 }) :=
  ⟨rfl, _, rfl, by decide +kernel, .inr ⟨by decide +kernel, by decide +kernel, by decide +kernel, by decide +kernel, _, rfl, rfl⟩⟩

/-- What the table of a staged command is found to be: 0 not fetched, 1 turned away, 2 applied at once, 3 sent to a head. -/
def fetched (b : State) (g : Staged) : Nat :=
  match b.fetchBulk waveAmpTrim g with
  | (.error _, _) => 0
  | (.ok l, b1) =>
    if (waveAmpTrim.stage l g.rq b1).isSome then 1 else if (waveAmpTrim.head l g.rq b1).isEmpty then 2 else 3

theorem witness_PorchCommandsTakeEffect :
    (let rq := trimReq 3 0 zerosCrc
     let b := takenOn (porchUp 5) 0x504 rq
     (.waveAmpTrim, waveAmpTrim) ∈ waveOperations ∧ waveAmpTrim.op = 0x504 ∧ rq.flags % 8 = 0 ∧
      Ready b 13 (stagedOn (porchUp 5) 0x504 rq) ∧ fetched b (stagedOn (porchUp 5) 0x504 rq) = 3) ∧
    (let rq := trimReq 3 0 1
     Ready (takenOn (porchUp 5) 0x504 rq) 13 (stagedOn (porchUp 5) 0x504 rq) ∧
      fetched (takenOn (porchUp 5) 0x504 rq) (stagedOn (porchUp 5) 0x504 rq) = 0) ∧
    (let rq := trimReq 3 0 zerosCrc
     fetched (takenOn (porchUp 1) 0x504 rq) (stagedOn (porchUp 1) 0x504 rq) = 2 ∧
      (let a : State := { porchUp 5 with host := { (porchUp 5).host with mem := ⟨[(0, 64)]⟩ } }
       let rq := trimReq 3 0 (crc32c [64, 0, 0, 0])
       fetched (takenOn a 0x504 rq) (stagedOn a 0x504 rq) = 1)) ∧
    ((takenOn (porchUp 5) 0x504 (trimReq 9 0 0)).checkCmd 0x504 (trimReq 9 0 0)).isSome = true := by
  refine ⟨⟨by simp [waveOperations], ?_⟩, ?_⟩
  all_goals unfold Ready; decide +kernel

/-- The state once the command has been taken, a change being prepared. -/
def preparing (flags : Nat) : State :=
  { takenOn (porchUp 1) 0x504 { trimReq 3 flags zerosCrc with payload := [] } with
    prepared := [{ origin := 0, porch := 13, op := 0x504, rq := trimReq 3 1 zerosCrc, since := 0 }] }

/-- A porch with a command staged that is ready, or whose deadline has passed, or that waits for others. -/
def stagedPorch (g : Staged) : State := (porchUp 1).setPorch 13 { staged := some g }

theorem witness_PorchEventsTakeEffect :
    (let rq := trimReq 3 1 zerosCrc
     let b := takenOn (porchUp 1) 0x504 rq
     waveAmpTrim.prep = true ∧ Ready b 13 (stagedOn (porchUp 1) 0x504 rq) ∧ fetched b (stagedOn (porchUp 1) 0x504 rq) = 2) ∧
    ([2, 4].all (fun f =>
      (preparing f).prepared.any (fun y => y.byKey 0 13 && decide (y.op = 0x504)) &&
      !(takenOn (porchUp 1) 0x504 { trimReq 3 f zerosCrc with payload := [] }).prepared.any (fun y => y.byKey 0 13)) = true) ∧
    (∀ f, f = 2 ∨ f = 4 → Ready (preparing f) 13 (stagedOn (porchUp 1) 0x504 { trimReq 3 f zerosCrc with payload := [] })) ∧
    (let g := stagedOn (porchUp 1) 0x504 (trimReq 3 0 zerosCrc)
     13 ∈ stagedSlots ∧ g.applied = false ∧ Ready (stagedPorch g) 13 g ∧ (cmdOf 0x504).isSome = true ∧ isBare g.rq = false ∧
      isPrepare g.rq = false ∧ fetched (stagedPorch g) g = 2) ∧
    (let g : Staged := { stagedOn (porchUp 1) 0x504 (trimReq 3 0 zerosCrc) with rungAt := 7 }
     let a := (stagedPorch g).setPorch 2 { staged := some { g with rungAt := 6 } }
     a.tickPast g.due = false ∧ a.heldUp 13 g.op g.rungAt g.rq = true ∧ a.checkCmd g.op g.rq = none) ∧
    (let g : Staged := { op := 0x504, due := 1 }
     (stagedPorch g).tickPast g.due = true ∧ ((stagedPorch g).porch 13).remote = none ∧ g.sent = false) ∧
    (let a := (porchUp 1).setPorch 13 { remote := some { due := 1 } }
     (a.porch 13).staged = none ∧ (a.porch 13).remote = some { due := 1 } ∧ a.tickPast 1 = true) ∧
    ((porchUp 1).reaches .spi = true ∧ (porchUp 1).served 13 = true ∧ (porchUp 1).porchFree 13 = true ∧
      (with_ (porchUp 1) [(F.PR_STATE_STATE 13, 2)]).porchFree 13 = false ∧ State.reset.romServes = true) ∧
    ((0 + 2 ^ 32 - (porchUp 1).get F.PORCH_EV_READ) % 2 ^ 32 ≤ (porchUp 1).evHeld ∧
      (porchUp 1).evHeld < (1 + 2 ^ 32 - (porchUp 1).get F.PORCH_EV_READ) % 2 ^ 32) := by
  refine ⟨?_, by decide +kernel, ?_, ?_, by decide +kernel, by decide +kernel, by decide +kernel, by decide +kernel, by decide +kernel⟩
  · unfold Ready; decide +kernel
  · rintro f (rfl | rfl) <;> (unfold Ready; decide +kernel)
  · unfold Ready; decide +kernel

theorem witness_AResponseStandsInItsPorch :
    let a := stagedPorch (stagedOn (porchUp 1) 0x504 (trimReq 3 0 zerosCrc))
    13 < 14 ∧ (0x504 : Nat) < 65536 ∧ (trimReq 3 0 zerosCrc).origin = 0 ∧ (trimReq 3 0 zerosCrc).seq < 2 ^ 32 ∧
      (a.porch 13).remote = none ∧ ((a.porch 13).staged.all (fun g => !g.sent)) = true := by decide +kernel

/-! ### Witnesses: starting up, resets and the supply -/

/-- SHA-256 of 256 zero bytes (FIPS 180-4). -/
def zerosHash : List Byte :=
  [0x53, 0x41, 0xE6, 0xB2, 0x64, 0x69, 0x79, 0xA7, 0x0E, 0x57, 0x65, 0x30, 0x07, 0xA1, 0xF3, 0x10] ++
    [0x16, 0x94, 0x21, 0xEC, 0x9B, 0xDD, 0x9F, 0x1A, 0x56, 0x48, 0xF7, 0x5A, 0xDE, 0x00, 0x5A, 0xF1]

/-- A section of 64 bytes of an image (R363). -/
def section64 (kind off : Nat) : List Byte := leBytes 4 kind ++ leBytes 4 off ++ leBytes 4 64 ++ leBytes 4 0

/-- The smallest development image: every section and the keys are zeros (R363, R366). -/
def image : List Byte :=
  leBytes 4 0x57465A4B ++ leBytes 2 1 ++ [1, 0] ++ leBytes 4 7 ++ leBytes 4 512 ++ leBytes 2 0 ++ leBytes 14 0 ++ zerosHash ++
    section64 1 256 ++ section64 2 320 ++ section64 3 384 ++ section64 4 448 ++ List.replicate 384 0

/-- The device after reset with the image in its buffer. -/
def loaded : State :=
  { State.reset with pmem := ⟨((List.range 128).zip image).filterMap (fun x => if x.2 = 0 then none else some (imageBase + x.1, x.2))⟩ }

/-- The image passes every check: its hash is the one that the standard gives. -/
theorem test_image_passes : loaded.imageResult image 512 = 0 := by decide +kernel

theorem test_image_in_buffer : (loaded.pread imageBase 512).1 = image := by decide +kernel

theorem image_sections : imageSections image =
    [{ kind := 1, offset := 256, length := 64 }, { kind := 2, offset := 320, length := 64 },
      { kind := 3, offset := 384, length := 64 }, { kind := 4, offset := 448, length := 64 }] := by decide +kernel

/-- The first two copies, to the CP and the HP bank, succeed. -/
theorem firmware_copied :
    let r := loaded.copySection { kind := 1, offset := 256, length := 64 } 0 false
    r.1 = false ∧ (r.2.copySection { kind := 2, offset := 320, length := 64 } 1 false).1 = false := by decide +kernel

/-- One copy of the distribution. -/
def copyStep (fails : Nat) (r : Nat × State) (c : Section × Nat × Nat) : Nat × State :=
  let (bad, s1) := r.2.copySection c.1 c.2.1 (bitOf fails c.2.2)
  (if bad then r.1 ||| 2 ^ c.2.2 else r.1, s1)

/-- Copies to engine banks leave the bits of the CP and the HP bank as they are. -/
theorem engine_copies (fails : Nat) : ∀ (l : List (Section × Nat × Nat)) (r : Nat × State), (∀ c ∈ l, 2 ≤ c.2.2) →
    (l.foldl (copyStep fails) r).1 % 4 = r.1 % 4
  | [], _, _ => rfl
  | c :: l, r, h => by
    rw [List.foldl_cons, engine_copies fails l _ (fun x hx => h x (List.mem_cons_of_mem _ hx))]
    obtain ⟨k, hk⟩ := Nat.exists_eq_add_of_le (h c List.mem_cons_self)
    have h4 : (r.1 ||| 2 ^ (2 + k)) % 4 = r.1 % 4 := by
      rw [show (4 : Nat) = 2 ^ 2 from rfl, Nat.or_mod_two_pow, Nat.pow_add, Nat.mul_mod_right, Nat.or_zero]
    simp only [copyStep, hk]
    split <;> simp [h4]

/-- The copies of the image, in order. -/
def copies : List (Section × Nat × Nat) :=
  ({ kind := 1, offset := 256, length := 64 }, 0, 0) :: ({ kind := 2, offset := 320, length := 64 }, 1, 1) ::
    ((List.range 12).map (fun e => (({ kind := 3, offset := 384, length := 64 } : Section), 3 + e, 2 + e)) ++
      [(({ kind := 4, offset := 448, length := 64 } : Section), 19, 14), ({ kind := 4, offset := 448, length := 64 }, 20, 15)])

theorem image_copies :
    ((imageSections image).map (fun x => (sectionBanks x.kind).map (fun b => (x, b)))).flatten = copies := by
  rw [image_sections]; decide

theorem image_distributed : (loaded.distribute (imageSections image) 0).1 % 4 = 0 := by
  obtain ⟨h1, h2⟩ := firmware_copied
  have e : ∀ s : State, s.distribute (imageSections image) 0 = copies.foldl (copyStep 0) (0, s) := by
    intro s; unfold State.distribute; rw [image_copies]; rfl
  rw [e, copies, List.foldl_cons, List.foldl_cons, engine_copies _ _ _ (by decide)]
  have b0 : bitOf 0 0 = false := by decide
  have b1 : bitOf 0 1 = false := by decide
  simp only [copyStep, b0, b1]
  rw [h1]
  simp only [Bool.false_eq_true, if_false]
  rw [h2]
  simp

theorem witness_BootCommandsTakeEffect :
    State.reset.romServes = true ∧ loaded.romServes = true ∧ loaded.imageResult image 512 = 0 ∧
      State.reset.imageResult (List.replicate 256 0) 256 ≠ 0 ∧ 2008 + 3143720 ≤ imageSize ∧ 3143720 % 8 = 0 ∧
      (with_ { inMode .configure with boot := {} } []).haltMonitor = false ∧
      ({ inMode .clock with therm := { cut := true } } : State).therm.cut = true ∧
      ((later (inMode .configure) 100000000).health.beatAt.getD 0) + 100000000 ≤ (later (inMode .configure) 100000000).now := by
  refine ⟨by decide +kernel, by decide +kernel, test_image_passes, ?_⟩
  decide +kernel

theorem witness_HaltEndsTheJob :
    State.reset.mode = .boot ∧ (inMode .halt).mode = .halt ∧ press.mode ≠ .boot ∧ press.mode ≠ .halt := by decide +kernel

theorem witness_AResetKeepsOnlyTheAlwaysOnDomain :
    7 < 8 ∧ 7 ≠ 0 ∧ F.DW_CTRL_ENABLE.off ∉ keptRegs ∧ (∀ i, i < 32 → F.DW_CTRL_ENABLE.off ≠ (F.TS_STATUS_VALID i).off) ∧
      (∃ off ∈ keptRegs, off ≠ F.GL_RESET_CAUSE_CODE.off) := by
  refine ⟨by decide, by decide, by decide +kernel, by decide +kernel, ?_⟩
  exact ⟨(F.TS_VALUE 31).off, by decide +kernel, by decide +kernel⟩

/-- A device whose supply, clock and pins stand as given. -/
def powered (x : Power) : State := { inMode .configure with power := x }

theorem witness_PowerAndHealthCommandsTakeEffect :
    (powered { vinOk := false }).power.vinOk = false ∧ ((powered {}).power.vinOk = true ∧ (powered {}).power.overV = false) ∧
      (powered { overV := true }).power.overV = true ∧ (powered {}).core = .run ∧
      (powered { noClock := true }).power.noClock = true ∧ (powered {}).power.resetLow = false ∧
      (powered { resetLow := true }).power.resetLow = true ∧ (powered {}).power.testLow = false ∧
      (powered { testLow := true }).power.testLow = true ∧ (powered {}).power.jtag = false ∧
      (powered { jtag := true }).power.jtag = true ∧ (powered {}).power.perstLow = false ∧
      (powered {}).flag F.GL_RESET_CTRL_PERST_FULL = true ∧
      (with_ (powered {}) [(F.GL_RESET_CTRL_PERST_FULL, 0)]).flag F.GL_RESET_CTRL_PERST_FULL = false ∧
      (15 < min 16 16 ∨ 5 < min 5 5) ∧ ¬ (16 < min 16 16 ∨ 5 < min 5 5) ∧ (powered {}).mode ≠ .boot ∧
      (powered {}).boot.ready = true ∧ (powered {}).hpRuns = true ∧
      ({ powered {} with health := { queue := [{ code := 0x0F }] } } : State).health.queue = [{ code := 0x0F }] := by
  decide +kernel

/-! ### Witnesses: the Pantry, the fuses and the Dumbwaiter -/

/-- Bank 14 as given, its power setting and its phase of patrol. -/
def bankWith (power phase : Nat) (x : Bank) : State :=
  { with_ (inMode .configure) [(F.BK_CTRL_POWER 14, power), (F.BK_STATUS_PHASE 14, phase), (F.PANTRY_CTRL_PATROL_EN, 1),
      (F.PANTRY_PATROL_MASK, 2 ^ 14)] with now := 100000, banks := ⟨[(14, x)]⟩ }

theorem witness_PantryAndFuseCommandsTakeEffect :
    (let a := bankWith 0 0 {}
     pantryAddr 0xE3FFFF8 = true ∧ bankOf 0xE3FFFF8 = 14 ∧ a.bankOn 14 = true ∧ a.flag (F.BK_STATUS_WAKING 14) = false ∧
      a.get (F.BK_STATUS_REST 14) = 0 ∧ a.perr.get 0 (0xE3FFFF8 / 8) = 0 ∧
      (with_ a [(F.BK_STATUS_REST 14, 2)]).get (F.BK_STATUS_REST 14) ≠ 0 ∧
      (with_ a [(F.BK_STATUS_WAKING 14, 1)]).flag (F.BK_STATUS_WAKING 14) = true) ∧
    (let a := bankWith 1 0 { lastUse := 99680 }
     a.get (F.BK_CTRL_POWER 14) = 1 ∧ 320 ≤ a.now - (a.bank 14).lastUse ∧ a.get (F.BK_STATUS_PHASE 14) = 0 ∧ a.bankOn 14 = true) ∧
    (let a := bankWith 2 0 {}
     a.get (F.BK_CTRL_POWER 14) = 2 ∧ 100000 ≤ a.now - (a.bank 14).lastUse ∧ a.get (F.BK_STATUS_REST 14) = 0) ∧
    ((bankWith 1 0 { wakeAt := some 100000 }).bank 14).wakeAt = some 100000 ∧
    ((bankWith 1 0 { fillAt := some 5 }).bank 14).fillAt.isSome = true ∧
    ((bankWith 0 0 { cycleAt := 100000 }).patrolled 14 = true ∧ ((bankWith 0 0 { cycleAt := 100000 }).bank 14).cycleAt ≤ 100000) ∧
    ([1, 2, 3, 4, 5].all (fun k => (bankWith 0 k {}).get (F.BK_STATUS_PHASE 14) == k) = true ∧
      ((bankWith 0 3 { phaseAt := 98400 }).bank 14).phaseAt + 1600 ≤ (bankWith 0 3 { phaseAt := 98400 }).now ∧
      (bankWith 0 3 {}).flag (F.BK_STATUS_REPAIR_USED 14) = false ∧
      (with_ (bankWith 0 3 {}) [(F.BK_STATUS_REPAIR_USED 14, 1)]).flag (F.BK_STATUS_REPAIR_USED 14) = true ∧
      ((bankWith 0 5 { fault := true }).bank 14).fault = true) ∧
    (let x : OtpProg := { word := 600, want := 3 }
     let a : State := { with_ (inMode .configure) ((F.THERM_VIN_STATUS_VIN, 120) :: (List.range 32).map (fun k => (F.TS_STATUS_VALID k, 1)))
       with otp := { State.reset.otp with prog := some x } }
     a.otp.prog = some x ∧ (a.otpRound x 1 1).1.isNone = true ∧ (a.otpRound x 3 3).1.isSome = true) ∧
    ((inMode .configure).otp.prog = none ∧ (2 ^ 39 - 1 : Nat) < 2 ^ 39 ∧
      (inMode .configure).otp.expected.get 0 ((inMode .configure).get F.OTP_RESENSE_POSITION) ≠ 2 ^ 39 - 1) := by
  decide +kernel

/-- A slot of a program (R410). -/
def slotBytes (op flags count src dst : Nat) : List Byte :=
  leBytes 1 (op + 16 * flags) ++ leBytes 1 0 ++ leBytes 4 count ++ leBytes 5 src ++ leBytes 5 dst

/-- General channel 31 in service as given, a slot at the start of its program. -/
def channel (x : GenChan) (slot : List Byte) : State :=
  { with_ (inMode .configure) [(F.DW_CTRL_ENABLE, 1), (F.DW_CTRL_GENERAL_EN, 1), (F.GC_CTRL_ENABLE 31, 1),
      (F.GC_PROG 31, 0x3000000)] with now := 5000, chans := ⟨[(31, x)]⟩, pmem := writeBytes {} 0x3000000 slot }

/-- The slot that the channel reads at its PC. -/
def slotRead (s : State) : Option Slot :=
  match s.fetchSlot 31 0 with
  | (.ok x, _) => some x
  | (.error _, _) => none

/-- The slot is a move that passes its checks. -/
def moves (s : State) : Bool :=
  match slotRead s with
  | some x => match (s.gchan 31).moving 0 x [] with
    | some mv => match (s.startMove 31 mv (bitOf x.flags 1)).1 with
      | .ok _ => true
      | .error _ => false
    | none => false
  | none => false

/-- A channel that runs a program. -/
def runs (op flags count src dst : Nat) : State := channel { running := true } (slotBytes op flags count src dst)

theorem witness_DumbwaiterCommandsTakeEffect :
    ((channel {} []).mode ≠ .boot ∧ (channel {} []).mode ≠ .diagnose ∧ ((channel {} []).gchan 31).running = false ∧
      ((channel {} []).gchan 31).cur = none ∧ ((channel {} []).gchan 31).settleFrom = none) ∧
    ((List.range 16).all (fun op => (runs op 0 1 0 0).slotReady 31 && decide ((slotRead (runs op 0 1 0 0)).map (·.op) = some op)) = true ∧
      slotRead (with_ (runs 0 0 0 0 0) [(F.GC_PROG 31, 0xFFFFF0)]) = none ∧
      (slotRead (runs 0 15 0 0 0)).map (·.flags) = some 15) ∧
    ([1, 3, 5].all (fun op => moves (runs op 0 8 (2 ^ 37 + 0x4000000) (2 ^ 37 + 0x4001000))) = true) ∧
    (let s := channel { running := true, loops := [{}, {}, {}] } (slotBytes 7 0 1 (2 ^ 32) 0)
     (slotRead s).map (fun x => (x.flags, x.src / 2 ^ 32 + 256 * (x.dst / 2 ^ 32 % 16), x.count)) = some (0, 1, 1) ∧
      s.get (F.GC_STATUS_PC 31) + 1 ≤ 4095 ∧ (s.gchan 31).loops.length < 4) ∧
    (bitOf ((channel { running := true, latches := 2 ^ 63 } (slotBytes 8 1 0 63 0)).gchan 31).latches 63 = true ∧
      bitOf ((runs 8 1 0 63 0).gchan 31).latches 63 = false ∧ (slotRead (runs 9 1 0 63 0)).map (fun x => (x.flags, x.src % 64)) = some (1, 63)) ∧
    (((channel { waiting := some { line := 63, seen := true } } []).gchan 31).waiting = some { line := 63, seen := true } ∧
      ((channel { waiting := some { line := 63, deadline := some 5000 } } []).gchan 31).waiting = some { line := 63, deadline := some 5000 }) ∧
    ((channel {} []).firmwareDw = true ∧ (channel {} []).reaches .spi = true ∧ (channel {} []).activeRuns 31 = false ∧
      (channel {} []).flag (F.GC_SH_XFER_GO 31) = false) ∧
    (let s := channel { running := true, cur := some { total := 8 } } []
     s.flightAll < 256 ∧ s.dwNext = some (128 + 31)) ∧
    (let b : Burst := { data := some [1] }
     let s := channel { flight := [b, ({} : Burst)] } []
     0 < s.flightOf (128 + 31) ∧ (s.gchan 31).flight[0]? = some b ∧ (s.gchan 31).retired b = true ∧ 8 ∈ [2, 3, 4, 5, 8] ∧
      (s.gchan 31).flight[1]? = some ({} : Burst)) ∧
    (let s := linked.setStream 127 { fetch := some { flight := [64] } }
     0 < s.flightOf 127) := by
  refine ⟨?_, ?_, ?_, ?_, ?_, ?_, ?_, ?_, ?_, ?_⟩ <;> decide +kernel

/-! ### Witnesses: temperatures and the Triangle -/

/-- Channel 2 of the Triangle as given, and what its registers hold. -/
def triangleWith (x : TriChan) (l : List (Fld × Nat)) (th : Therm) : State :=
  { with_ press l with now := 2000000000, therm := { th with tri := ⟨[(2, x)]⟩ } }

/-- Head port 3, its readings as given. -/
def cooled (x : HeadTherm) (st : Nat) : State := headPort 3 { st := st, therm := x }

theorem witness_ThermalCommandsTakeEffect :
    ((List.replicate 32 ((0, 400) : Nat × Int)).length = 32 ∧ press.power.vinOk = true ∧ ((triangleWith {} [] {}).tri 2).stopped = false ∧
      (triangleWith { discFrom := some 0 } [(F.THERM_TRI_WD_CFG_DISCREPANCY, 10)] {}).discrepant 2 = true ∧
      ((triangleWith { discFrom := some 0 } [] {}).tri 2).disc = 0) ∧
    (let s := triangleWith {} [(F.THERM_WD_STATUS_ARMED, 1), (F.THERM_TRI_WD_CFG_WD_TIME, 100)] {}
     s.flag F.THERM_WD_STATUS_ARMED = true ∧ s.mode ≠ .boot ∧ s.therm.wdFrom + s.wdTime ≤ s.now ∧ s.therm.wdCause ≠ 1) ∧
    (let s : State := { later press 1000000000 with power := { hot := true } }
     s.power.hot = true ∧ s.power.vinOk = true ∧ s.therm.hotAt + 1000000000 ≤ s.now) ∧
    (press.limpPresent 0x10 = false ∧ 200 < (-201 : Int).natAbs ∧ (100 : Int).natAbs ≤ 100) ∧
    (let s := triangleWith { apartFrom := some 1999949999 } [] {}
     (s.tri 2).apartFrom = some 1999949999 ∧ 1999949999 + 50000 < s.now ∧ bitOf (s.get F.THERM_TRI_STATUS_DISAGREE) 2 = false) ∧
    (2 ≤ (cooled {} 5).gen 3 ∧ (cooled {} 5).linked 3 = true ∧ ((cooled { cut := true } 7).port 3).therm.cut = true ∧
      (cooled { cut := true } 7).linked 3 = false) ∧
    (let s := cooled { validEnd := 0 } 5
     (s.port 3).therm.cut = false ∧ (s.port 3).therm.hottest s.now = none ∧
      (s.port 3).therm.validEnd + 1000000 * s.get F.THERM_HEAD_CFG_LOSS_MS ≤ s.now) ∧
    (let x : HeadTherm := { cut := true, coolFrom := some 99000000000, readings := ⟨[(0, { temp := 320, at_ := some 100000000000 })]⟩ }
     let s := cooled x 5
     (s.port 3).therm.cut = true ∧ ((s.port 3).therm.hottest s.now).isSome = true ∧ (s.port 3).therm.coolFrom = some 99000000000 ∧
      99000000000 + 1000000000 ≤ s.now) ∧
    (15 < 16 ∧ 4095 < 4096) := by
  refine ⟨?_, ?_, ?_, ?_, ?_, ?_, ?_, ?_, ?_⟩ <;> decide +kernel

theorem witness_EnablesFollowTheVote :
    State.reset.mode.mayFire = false ∧
    (let s : State := { press with therm := { tri := ⟨[(0, { latched := 1 }), (2, { latched := 16 })]⟩ } }
     (s.tri 0).latched ≠ 0 ∧ (s.tri 2).latched ≠ 0) ∧
    (let s := with_ press [(F.THERM_TRI_INPUTS_ACCEPTED, 0xBB)]
     s.mode.mayFire = true ∧ ∀ k, k < 2 → (s.tri k).stopped = false ∧ (s.tri k).latched = 0 ∧ s.cutConditions k = 0 ∧
      s.accepted k 2 = false ∧ s.accepted k 3 = true) := by decide +kernel

/-! ### Single steps -/

/-- One step of a state with one command in its queue. -/
def stepped (s : State) (c : Instr) : State :=
  match step { s with pending := [c] } with
  | .next u => u
  | _ => s

/-- The doorbell of a porch takes the command that stands in its area (R319, R324, R329). -/
theorem test_doorbell_stages :
    let a := porchUp 1
    let s : State := { a with pmem := writeBytes a.pmem (porchAddr 13 0) (commandBytes 7 0 0 0 0 [0xAA, 0xBB]) }
    let u := stepped s (.doorbell a.now .spi 13 7)
    (u.porch 13).staged.map (fun g => (g.op, g.rq.payload, g.due)) = some (0, [0xAA, 0xBB], a.now + 10000000) ∧
      u.get (F.PR_STATE_STATE 13) = 2 ∧ u.pending = [] := by decide +kernel

/-- SYS_NOP echoes its payload (R353). -/
theorem test_nop_echoes :
    let u := stepped (porchUp 1) (.sysNop (porchUp 1).now { porch := 13, seq := 7, payload := [0xAA, 0xBB] })
    readBytes u.pmem (porchAddr 13 0x820) 2 = [0xAA, 0xBB] ∧ u.get (F.PR_DONE_SEQ 13) = 7 ∧ u.get (F.PR_STATE_STATE 13) = 3 ∧
      u.get (F.PR_STATE_LAST_STATUS 13) = 0 := by decide +kernel

/-- A command whose CRC is wrong is answered CRC_ERROR (R324). -/
theorem test_doorbell_crc :
    let a := porchUp 1
    let s : State := { a with pmem := writeBytes a.pmem (porchAddr 13 0) (commandBytes 7 0 0 0 0 [] ++ [1]) }
    (stepped { s with pmem := writeBytes s.pmem (porchAddr 13 28) [0, 0, 0, 0] } (.doorbell a.now .spi 13 7)).get
      (F.PR_STATE_LAST_STATUS 13) = 8 := by decide +kernel

/-- RESET_N low for 1 µs resets the part; 999 ns do not (R385). -/
theorem test_reset_pin :
    (stepped (inMode .clock) (.resetN 5 true 1000)).mode = .boot ∧ (stepped (inMode .clock) (.resetN 5 true 999)).mode = .clock := by
  decide +kernel

/-- Two wrong bits of a Pantry word are an uncorrectable error (R394). -/
theorem test_pantry_double :
    (stepped (inMode .configure) (.pantryRead 5 0x3000000 0 [0, 71])).get F.PANTRY_UNCORR_TOTAL = 1 ∧
      (stepped (inMode .configure) (.pantryRead 5 0x3000000 0 [71])).get F.PANTRY_CORR_TOTAL = 1 := by decide +kernel

end Sys2Proof.Tests
end

section
/-! Reads of a register word: what the path changes, and what the read clears (R13, R14, R552). -/

namespace Sys2Proof.Machine

/-! ### The path of a read -/

/-- Only TIME_HI shows a field that belongs to the path of the read (R552). -/
theorem State.shown_path (s : State) {off : Nat} (h : off ≠ F.GL_TIME_HI.off) (p q : Path) :
    s.shown p off = s.shown q off := by
  have hg : s.showGlobal p off = s.showGlobal q off := by simp only [State.showGlobal, if_neg h]
  unfold State.shown
  split
  case h_1 => exact hg
  all_goals rfl

theorem State.readValue_path (s : State) {off : Nat} (h : off ≠ F.GL_TIME_HI.off) (p q : Path) :
    s.readValue p off = s.readValue q off := by
  simp only [State.readValue, State.current, s.shown_path h p q]

/-! ### What a read leaves in the registers -/

theorem State.afterRead_reserved (s : State) (p : Path) {off : Nat} (h : regRow off = none) : s.afterRead p off = s := by
  simp only [State.afterRead, h]

/-- The TIME_HI latch, the counted holdover and a used free value stand outside the registers: of these a read only
clears the RC bits of its own register (R13). -/
theorem State.regs_afterRead (s : State) (p : Path) {off : Nat} {r : RegRow} (h : regRow off = some r) :
    (s.afterRead p off).regs =
      (s.setReg off (s.reg off &&& ~~~ (BitVec.ofNat 32 (r.mask (fun a => decide (a = .rc)))))).regs := by
  simp only [State.afterRead, h]
  split
  · rfl
  split
  · rfl
  split <;> rfl

theorem State.reg_congr {s u : State} (h : s.regs = u.regs) (o : Nat) : s.reg o = u.reg o := by
  rw [State.reg, State.reg, h]

theorem State.reg_afterRead_path (s : State) (p q : Path) (off o : Nat) :
    (s.afterRead p off).reg o = (s.afterRead q off).reg o := by
  cases h : regRow off with
  | none => rw [s.afterRead_reserved p h, s.afterRead_reserved q h]
  | some r => exact State.reg_congr ((s.regs_afterRead p h).trans (s.regs_afterRead q h).symm) o

theorem State.reg_afterRead_same (s : State) (p : Path) {off : Nat} {r : RegRow} (h : regRow off = some r) :
    (s.afterRead p off).reg off = s.reg off &&& ~~~ (BitVec.ofNat 32 (r.mask (fun a => decide (a = .rc)))) :=
  (State.reg_congr (s.regs_afterRead p h) off).trans (s.reg_setReg_same off _)

/-- A bit of a mask is 0 in what the mask has cleared. -/
theorem getLsbD_and_not_ofNat (w : Word) {m k : Nat} (hk : k < 32) (hm : m.testBit k = true) :
    (w &&& ~~~ (BitVec.ofNat 32 m)).getLsbD k = false := by
  rw [BitVec.getLsbD_and, BitVec.getLsbD_not, BitVec.getLsbD_ofNat, hm]
  simp [hk]

/-! ### Word reads -/

/-- A word read finds an MSI-X table or PBA word, which it leaves as it is on either path, or a register. -/
theorem State.readWord_cases (s : State) (off : Nat) :
    (msixOffset off = true ∧ ∃ v, ∀ p, s.readWord p off = (v, s)) ∨
    ∀ p, s.readWord p off = ((s.readValue p off).toNat, s.afterRead p off) := by
  unfold State.readWord
  split
  case isTrue h => exact .inl ⟨by simp [msixOffset, h], _, fun _ => rfl⟩
  split
  case isTrue h => exact .inl ⟨by simp only [msixOffset, decide_eq_true_eq]; omega, _, fun _ => rfl⟩
  exact .inr fun _ => rfl

/-- Settles O4: both paths read one register, whose shown fields differ in TIME_HI alone, and what a read leaves in the
registers does not depend on its path. -/
theorem spiAndPcieReadsClearAlike : Obligations.SpiAndPcieReadsClearAlike := by
  intro s off
  obtain ⟨hmsix, v, hread⟩ | hread := s.readWord_cases off
  · rw [hread, hread]
    exact ⟨fun _ => rfl, fun _ => rfl, fun r _ hreg => absurd hmsix (by simp [hreg])⟩
  · simp only [hread]
    refine ⟨fun h => congrArg _ (s.readValue_path h _ _), s.reg_afterRead_path _ _ off, fun r hr _ p k hk hrc => ?_⟩
    rw [s.reg_afterRead_same p hr]
    exact getLsbD_and_not_ofNat _ hk hrc

end Sys2Proof.Machine
end

section
/-! The field of R47: the symbols are the 65,536 elements of a field, in which `gfMul` multiplies, `^^^` adds, `gfPow`
gives the powers of α and `gfInv` inverts. They are read in the algebraic closure of ZMod 2, where the field's polynomial
has a root; that α is primitive makes the reading one to one. -/

namespace Sys2Proof.Machine

/-! ### The reading of symbols -/

/-- `z` is a root of x^16 + x^12 + x^3 + x + 1 (R47). -/
def IsGfRoot {K : Type} [Field K] (z : K) : Prop := z ^ 16 + z ^ 12 + z ^ 3 + z + 1 = 0

theorem exists_isGfRoot : ∃ z : AlgebraicClosure (ZMod 2), IsGfRoot z := by
  have hd : (Polynomial.X ^ 16 + Polynomial.X ^ 12 + Polynomial.X ^ 3 + Polynomial.X + 1 :
      Polynomial (AlgebraicClosure (ZMod 2))).degree = 16 := by compute_degree!
  obtain ⟨z, hz⟩ := IsAlgClosed.exists_root _ (by rw [hd]; decide)
  exact ⟨z, by simpa [Polynomial.IsRoot, IsGfRoot] using hz⟩

/-- A symbol read as an element of the field: bit j is the coefficient of α^j (R47). -/
def gfRead {K : Type} [Field K] (z : K) (a : Nat) : K := ∑ j ∈ Finset.range 16, if a.testBit j then z ^ j else 0

section
variable {K : Type} [Field K] {z : K}

@[simp] theorem gfRead_zero : gfRead z 0 = 0 := by simp [gfRead]

@[simp] theorem gfRead_one : gfRead z 1 = 1 := by simp [gfRead, Nat.testBit_one_eq_true_iff_self_eq_zero]

theorem gfRead_two_mul (a : Nat) : gfRead z (2 * a) + (if a.testBit 15 then z ^ 16 else 0) = z * gfRead z a := by
  have h0 : (2 * a).testBit 0 = false := by simp
  have hs : ∀ j, (2 * a).testBit (j + 1) = a.testBit j := fun j => by simp [Nat.testBit_succ]
  unfold gfRead
  rw [Finset.sum_range_succ', Finset.sum_range_succ _ 15, mul_add, Finset.mul_sum, h0]
  simp only [hs, mul_ite, mul_zero, ← pow_succ', Bool.false_eq_true, if_false, add_zero]

end

section
variable {K : Type} [Field K] [CharP K 2] {z : K}

/-- The sum of symbols is their exclusive or. -/
theorem gfRead_xor (a b : Nat) : gfRead z (a ^^^ b) = gfRead z a + gfRead z b := by
  simp only [gfRead, ← Finset.sum_add_distrib, Nat.testBit_xor]
  refine Finset.sum_congr rfl fun j _ => ?_
  cases a.testBit j <;> cases b.testBit j <;> simp [CharTwo.add_self_eq_zero]

theorem gfDouble_lt {a : Nat} (h : a < 65536) : gfDouble a < 65536 := by
  unfold gfDouble
  split
  · omega
  · have hq : (2 * a ^^^ 0x1100B) / 2 ^ 16 = 0 := by
      rw [← Nat.shiftRight_eq_div_pow, Nat.shiftRight_xor_distrib, Nat.shiftRight_eq_div_pow,
        show 2 * a / 2 ^ 16 = 1 by omega]
      rfl
    omega

theorem gfRead_gfDouble (hz : IsGfRoot z) {a : Nat} (h : a < 65536) : gfRead z (gfDouble a) = z * gfRead z a := by
  rw [← gfRead_two_mul a]
  unfold gfDouble
  by_cases h15 : a < 0x8000
  · have hb : a.testBit 15 = false := Nat.testBit_lt_two_pow h15
    simp [h15, hb]
  · have hb : a.testBit 15 = true := by
      rw [Nat.testBit_eq_decide_div_mod_eq]; simp; omega
    have hr : gfRead z 0x1100B = z ^ 12 + z ^ 3 + z + 1 := by
      simp [gfRead, Finset.sum_range_succ, Nat.testBit]
      ring
    rw [if_neg h15, if_pos hb, gfRead_xor, hr]
    have hz' : z ^ 16 + z ^ 12 + z ^ 3 + z + 1 = 0 := hz
    linear_combination hz' - z ^ 16 * CharTwo.two_eq_zero (R := K)

theorem gfMulN_lt (n : Nat) : ∀ {a b : Nat}, a < 65536 → gfMulN n a b < 65536 := by
  induction n with
  | zero => intros; simp [gfMulN]
  | succ n ih =>
    intro a b h
    refine Nat.xor_lt_two_pow (n := 16) ?_ (ih (gfDouble_lt h))
    split <;> omega

theorem gfMul_zero_left (b : Nat) : gfMul 0 b = 0 := by
  have hN : ∀ n b, gfMulN n 0 b = 0 := by
    intro n
    induction n with
    | zero => intro b; rfl
    | succ n ih => intro b; simp [gfMulN, gfDouble, ih]
  exact hN 16 b

theorem gfMul_lt {a b : Nat} (h : a < 65536) : gfMul a b < 65536 := gfMulN_lt 16 h

theorem gfRead_gfMulN (hz : IsGfRoot z) (n : Nat) : ∀ {a b : Nat}, a < 65536 →
    gfRead z (gfMulN n a b) = gfRead z a * ∑ j ∈ Finset.range n, if b.testBit j then z ^ j else 0 := by
  induction n with
  | zero => intros; simp [gfMulN]
  | succ n ih =>
    intro a b h
    rw [gfMulN, gfRead_xor, ih (gfDouble_lt h), gfRead_gfDouble hz h, Finset.sum_range_succ', mul_add, Finset.mul_sum,
      Finset.mul_sum, add_comm]
    congr 1
    · refine Finset.sum_congr rfl fun j _ => ?_
      rw [Nat.testBit_succ]
      split <;> ring
    · by_cases hb : b % 2 = 1 <;> simp [hb, Nat.testBit_zero]

/-- The product of symbols is the product in the field. -/
theorem gfRead_gfMul (hz : IsGfRoot z) {a b : Nat} (h : a < 65536) : gfRead z (gfMul a b) = gfRead z a * gfRead z b :=
  gfRead_gfMulN hz 16 h

theorem gfPow_lt (n : Nat) : gfPow n < 65536 := by
  induction n with
  | zero => decide
  | succ n ih => exact gfDouble_lt ih

theorem gfRead_gfPow (hz : IsGfRoot z) (n : Nat) : gfRead z (gfPow n) = z ^ n := by
  induction n with
  | zero => simp [gfPow]
  | succ n ih => rw [gfPow, gfRead_gfDouble hz (gfPow_lt n), ih, pow_succ']

theorem gfRead_alpha (hz : IsGfRoot z) : gfRead z 2 = z := by
  rw [show 2 = gfPow 1 from rfl, gfRead_gfPow hz, pow_one]

/-! ### α is primitive -/

/-- A power by squaring: the lowest `k` bits of the exponent. -/
def gfPower : Nat → Nat → Nat → Nat
  | 0, _, _ => 1
  | k + 1, a, n => gfMul (if n % 2 = 1 then a else 1) (gfPower k (gfMul a a) (n / 2))

theorem gfRead_gfPower (hz : IsGfRoot z) (k : Nat) : ∀ {a n : Nat}, a < 65536 → n < 2 ^ k →
    gfRead z (gfPower k a n) = gfRead z a ^ n := by
  induction k with
  | zero =>
    intro a n _ hn
    obtain rfl : n = 0 := by omega
    simp [gfPower]
  | succ k ih =>
    intro a n h hn
    have hdiv : n = n % 2 + 2 * (n / 2) := by omega
    rw [gfPower, gfRead_gfMul hz (by split <;> omega), ih (gfMul_lt h) (by rw [pow_succ] at hn; omega), gfRead_gfMul hz h]
    conv_rhs => rw [hdiv, pow_add, pow_mul, sq]
    congr 1
    obtain hb | hb : n % 2 = 0 ∨ n % 2 = 1 := by omega
    all_goals simp [hb]

theorem gfRead_ne_zero_of_gfMul_eq_one (hz : IsGfRoot z) {a b : Nat} (h : a < 65536) (hab : gfMul a b = 1) :
    gfRead z a ≠ 0 := by
  intro h0
  have := gfRead_gfMul hz (b := b) h
  rw [hab, h0, zero_mul, gfRead_one] at this
  exact one_ne_zero this

/-- A power of α whose symbol differs from 1 by a unit is not 1. -/
theorem pow_ne_one_of_gfPower (hz : IsGfRoot z) {n : Nat} (hn : n < 2 ^ 16) (hlt : (gfPower 16 2 n ^^^ 1) < 65536)
    (h : gfMul (gfPower 16 2 n ^^^ 1) (gfInv (gfPower 16 2 n ^^^ 1)) = 1) : z ^ n ≠ 1 := by
  intro h1
  refine gfRead_ne_zero_of_gfMul_eq_one hz hlt h ?_
  have h2 : gfRead z 2 = z := gfRead_alpha hz
  rw [gfRead_xor, gfRead_gfPower hz 16 (by decide) hn, h2, h1, gfRead_one, CharTwo.add_self_eq_zero]

theorem orderOf_gfRoot (hz : IsGfRoot z) : orderOf z = 65535 := by
  refine orderOf_eq_of_pow_and_pow_div_prime (by decide) ?_ ?_
  · have h2 : gfRead z 2 = z := gfRead_alpha hz
    rw [← h2, ← gfRead_gfPower hz 16 (by decide) (by decide), show gfPower 16 2 65535 = 1 by decide +kernel, gfRead_one]
  · intro p hp hdvd
    rw [show 65535 = 3 * 5 * 17 * 257 by decide, hp.dvd_mul, hp.dvd_mul, hp.dvd_mul,
      Nat.prime_dvd_prime_iff_eq hp (by norm_num), Nat.prime_dvd_prime_iff_eq hp (by norm_num),
      Nat.prime_dvd_prime_iff_eq hp (by norm_num), Nat.prime_dvd_prime_iff_eq hp (by norm_num)] at hdvd
    obtain ((rfl | rfl) | rfl) | rfl := hdvd
    all_goals exact pow_ne_one_of_gfPower hz (by decide) (by decide +kernel) (by decide +kernel)

/-- The elements read are 0 and the powers of α. -/
theorem image_gfRead (hz : IsGfRoot z) [DecidableEq K] :
    insert 0 ((Finset.range 65535).image (z ^ ·)) = (Finset.range 65536).image (gfRead z) ∧
      ((Finset.range 65536).image (gfRead z)).card = 65536 := by
  have h0 : z ≠ 0 := fun h => by simp [h, IsGfRoot] at hz
  have hcard : (insert 0 ((Finset.range 65535).image (z ^ ·))).card = 65536 := by
    rw [Finset.card_insert_of_notMem (by simp [h0]), Finset.card_image_of_injOn, Finset.card_range]
    simpa [orderOf_gfRoot hz, Set.Iio] using pow_injOn_Iio_orderOf (x := z)
  have hsub : insert 0 ((Finset.range 65535).image (z ^ ·)) ⊆ (Finset.range 65536).image (gfRead z) := by
    intro x hx
    rw [Finset.mem_insert, Finset.mem_image] at hx
    obtain rfl | ⟨n, -, rfl⟩ := hx
    · exact Finset.mem_image.2 ⟨0, by simp, gfRead_zero⟩
    · exact Finset.mem_image.2 ⟨gfPow n, by simpa using gfPow_lt n, gfRead_gfPow hz n⟩
  have hle : ((Finset.range 65536).image (gfRead z)).card ≤ 65536 :=
    Finset.card_image_le.trans_eq (Finset.card_range _)
  have heq := Finset.eq_of_subset_of_card_le hsub (hle.trans_eq hcard.symm)
  exact ⟨heq, heq ▸ hcard⟩

/-- Two symbols that are read alike are equal. -/
theorem gfRead_inj (hz : IsGfRoot z) {a b : Nat} (ha : a < 65536) (hb : b < 65536) :
    gfRead z a = gfRead z b ↔ a = b := by
  classical
  have hinj := Finset.injOn_of_card_image_eq ((image_gfRead hz).2.trans (Finset.card_range _).symm)
  exact ⟨fun h => hinj (by simpa using ha) (by simpa using hb) h, fun h => by rw [h]⟩

theorem gfRead_eq_zero (hz : IsGfRoot z) {a : Nat} (ha : a < 65536) : gfRead z a = 0 ↔ a = 0 := by
  rw [← gfRead_inj hz ha (by decide), gfRead_zero]

theorem gfRead_pow_order (hz : IsGfRoot z) {a : Nat} (ha : a < 65536) (h0 : gfRead z a ≠ 0) : gfRead z a ^ 65535 = 1 := by
  classical
  have hm : gfRead z a ∈ insert 0 ((Finset.range 65535).image (z ^ ·)) := by
    rw [(image_gfRead hz).1]
    exact Finset.mem_image_of_mem _ (Finset.mem_range.2 ha)
  rw [Finset.mem_insert, Finset.mem_image] at hm
  obtain h | ⟨n, -, hn⟩ := hm
  · exact absurd h h0
  · rw [← hn, ← pow_mul, mul_comm, pow_mul, ← orderOf_gfRoot hz, pow_orderOf_eq_one, one_pow]

theorem gfInv_lt (a : Nat) : gfInv a < 65536 :=
  foldl_keeps (· < 65536) _ (fun _ _ h => gfMul_lt (gfMul_lt h)) _ 1 (by decide)

/-- After `n` of the steps by which `gfInv` squares and multiplies. -/
theorem gfRead_inverse_steps (hz : IsGfRoot z) (a n : Nat) :
    gfRead z ((List.range n).foldl (fun r _ => gfMul (gfMul r a) (gfMul r a)) 1) = gfRead z a ^ (2 ^ (n + 1) - 2) := by
  induction n with
  | zero => simp
  | succ n ih =>
    have hlt : (List.range n).foldl (fun r _ => gfMul (gfMul r a) (gfMul r a)) 1 < 65536 :=
      foldl_keeps (· < 65536) _ (fun _ _ h => gfMul_lt (gfMul_lt h)) _ 1 (by decide)
    rw [List.range_succ, List.foldl_append, List.foldl_cons, List.foldl_nil, gfRead_gfMul hz (gfMul_lt hlt),
      gfRead_gfMul hz hlt, ih, ← pow_succ, ← pow_add]
    congr 1
    have := Nat.one_le_two_pow (n := n)
    rw [pow_succ 2 (n + 1), pow_succ 2 n]
    omega

/-- `gfInv` inverts. -/
theorem gfRead_gfInv (hz : IsGfRoot z) {a : Nat} (ha : a < 65536) : gfRead z (gfInv a) = (gfRead z a)⁻¹ := by
  rw [gfInv, gfRead_inverse_steps hz]
  by_cases h0 : gfRead z a = 0
  · simp [h0]
  · refine eq_inv_of_mul_eq_one_left ?_
    rw [← pow_succ]
    exact gfRead_pow_order hz ha h0

end

end Sys2Proof.Machine
end

section
/-! The code of R45 to R50: the bytes and symbols of a codeword, the syndromes of the symbols a decoder sees, and why those
of a codeword are 0. -/

namespace Sys2Proof.Machine

/-! ### Little-endian bytes -/

theorem leNat_lt (l : List Byte) : leNat l < 256 ^ l.length := by
  induction l with
  | nil => simp [leNat]
  | cons b r ih =>
    have := b.isLt
    rw [leNat, List.length_cons, pow_succ]
    omega

theorem uAt_lt (l : List Byte) (off n : Nat) : uAt l off n < 256 ^ n :=
  (leNat_lt _).trans_le (Nat.pow_le_pow_right (by decide) (by simp [bytesAt]))

theorem leBytes_leNat (l : List Byte) : leBytes l.length (leNat l) = l := by
  induction l with
  | nil => rfl
  | cons b r ih =>
    have hb := b.isLt
    rw [leNat, List.length_cons, leBytes, show (b.toNat + 256 * leNat r) / 256 = leNat r by omega, ih]
    congr 1
    exact BitVec.eq_of_toNat_eq (by rw [BitVec.toNat_ofNat]; omega)

/-- The 16-bit fields of a string of bytes spell the number that the bytes spell. -/
theorem ofDigits_uAt_two (n : Nat) : ∀ l : List Byte, l.length = 2 * n →
    Nat.ofDigits 65536 ((List.range n).map (fun k => uAt l (2 * k) 2)) = leNat l := by
  induction n with
  | zero =>
    intro l h
    obtain rfl := List.length_eq_zero_iff.1 h
    rfl
  | succ n ih =>
    intro l h
    obtain ⟨a, b, r, rfl⟩ : ∃ a b r, l = a :: b :: r := by
      match l, h with
      | a :: b :: r, _ => exact ⟨a, b, r, rfl⟩
    have hr := ih r (by simp only [List.length_cons] at h; omega)
    have hnext : (fun k => uAt (a :: b :: r) (2 * k) 2) ∘ Nat.succ = fun k => uAt r (2 * k) 2 :=
      funext fun k => by simp [uAt, bytesAt, Nat.mul_succ]
    rw [List.range_succ_eq_map, List.map_cons, List.map_map, Nat.ofDigits_cons, hnext, hr]
    simp [uAt, bytesAt, leNat]
    ring

/-! ### The symbols of a codeword -/

theorem pow_symbols {n k : Nat} (h : n = 16 * k) : 2 ^ n = 65536 ^ k := h ▸ pow_mul 2 16 k

theorem toNat_ofNat_symbols {n k x : Nat} (h : n = 16 * k) (hx : x < 65536 ^ k) : (BitVec.ofNat n x).toNat = x := by
  rw [BitVec.toNat_ofNat, Nat.mod_eq_of_lt (by rwa [pow_symbols h])]

theorem cwOfSymbols_toNat {l : List Nat} (h36 : l.length = 36) (hl : ∀ x ∈ l, x < 65536) :
    (cwOfSymbols l).toNat = Nat.ofDigits 65536 l := by
  have hd : l.foldr (fun x acc => x % 65536 + 65536 * acc) 0 = Nat.ofDigits 65536 l := by
    rw [Nat.ofDigits_eq_foldr]
    exact List.foldr_ext _ _ _ fun x hx acc => by rw [Nat.mod_eq_of_lt (hl x hx)]; rfl
  rw [cwOfSymbols, hd]
  exact toNat_ofNat_symbols (k := 36) rfl (h36 ▸ Nat.ofDigits_lt_base_pow_length (by decide) hl)

theorem map_cwSymbol_cwOfSymbols {l : List Nat} (h36 : l.length = 36) (hl : ∀ x ∈ l, x < 65536) :
    (List.range 36).map (cwSymbol (cwOfSymbols l)) = l := by
  refine List.ext_getElem (by simp [h36]) fun k hk hk' => ?_
  rw [List.getElem_map, List.getElem_range, cwSymbol, cwOfSymbols_toNat h36 hl, Nat.shiftRight_eq_div_pow, pow_symbols rfl,
    Nat.ofDigits_div_pow_eq_ofDigits_drop k (by decide) l hl, List.drop_eq_getElem_cons hk', Nat.ofDigits_cons]
  have := hl _ (List.getElem_mem hk')
  omega

theorem cwSymbol_lt (w : Codeword) (k : Nat) : cwSymbol w k < 65536 := Nat.mod_lt _ (by decide)

theorem cwSymbol_xor (w x : Codeword) (k : Nat) : cwSymbol (w ^^^ x) k = cwSymbol w k ^^^ cwSymbol x k := by
  rw [cwSymbol, BitVec.toNat_xor, Nat.shiftRight_xor_distrib]
  exact Nat.xor_mod_two_pow (n := 16)

/-- A value that stands at symbol `k` of a codeword otherwise 0. -/
theorem cwSymbol_ofNat_shift {v k : Nat} (hv : v < 65536) (hk : k < 36) (j : Nat) :
    cwSymbol (BitVec.ofNat 576 (v <<< (16 * k))) j = if j = k then v else 0 := by
  have hlt : v <<< (16 * k) < 65536 ^ 36 := by
    calc v <<< (16 * k) < 65536 * 65536 ^ k := by
          rw [Nat.shiftLeft_eq, pow_symbols rfl]; exact Nat.mul_lt_mul_of_pos_right hv (by positivity)
      _ ≤ 65536 ^ 36 := by rw [← pow_succ']; exact Nat.pow_le_pow_right (by decide) hk
  rw [cwSymbol, toNat_ofNat_symbols rfl hlt]
  refine Nat.eq_of_testBit_eq fun i => ?_
  rw [Nat.testBit_mod_two_pow (j := 16), Nat.testBit_shiftRight, Nat.testBit_shiftLeft]
  have hhigh : ∀ i, 16 ≤ i → v.testBit i = false := fun i hi =>
    Nat.testBit_lt_two_pow (hv.trans_le (Nat.pow_le_pow_right (n := 2) (i := 16) (by decide) hi))
  obtain hjk | rfl | hjk := lt_trichotomy j k
  · rw [if_neg hjk.ne]
    by_cases hi : i < 16
    · simp [show ¬ 16 * j + i ≥ 16 * k by omega]
    · simp [hi]
  · by_cases hi : i < 16
    · simp [hi]
    · simp [hi, hhigh i (by omega)]
  · rw [if_neg hjk.ne', hhigh (16 * j + i - 16 * k) (by omega)]
    simp

/-! ### Messages and their check symbols -/

theorem messageSymbols_lt {b : Nat} {bytes : List Byte} : ∀ x ∈ messageSymbols b bytes, x < 65536 := by
  intro x hx
  simp only [messageSymbols, List.mem_cons, List.mem_map] at hx
  obtain rfl | rfl | ⟨k, -, rfl⟩ := hx
  · exact Nat.mod_lt _ (by decide)
  · exact Nat.mod_lt _ (by decide)
  · exact uAt_lt bytes (2 * k) 2

/-- The four symbols of a remainder lie in the field. -/
def RemSmall (r : Nat × Nat × Nat × Nat) : Prop := r.1 < 65536 ∧ r.2.1 < 65536 ∧ r.2.2.1 < 65536 ∧ r.2.2.2 < 65536

theorem rsStep_small {r : Nat × Nat × Nat × Nat} {m : Nat} (hr : RemSmall r) (hm : m < 65536) : RemSmall (rsStep r m) := by
  obtain ⟨h0, h1, h2, h3⟩ := hr
  have hf : r.1 ^^^ m < 65536 := Nat.xor_lt_two_pow (n := 16) h0 hm
  exact ⟨Nat.xor_lt_two_pow (n := 16) h1 (gfMul_lt hf), Nat.xor_lt_two_pow (n := 16) h2 (gfMul_lt hf),
    Nat.xor_lt_two_pow (n := 16) h3 (gfMul_lt hf), gfMul_lt hf⟩

theorem foldl_rsStep_small {l : List Nat} (hl : ∀ x ∈ l, x < 65536) {r : Nat × Nat × Nat × Nat} (hr : RemSmall r) :
    RemSmall (l.foldl rsStep r) := by
  induction l generalizing r with
  | nil => exact hr
  | cons m l ih => exact ih (fun x hx => hl x (List.mem_cons_of_mem _ hx)) (rsStep_small hr (hl m List.mem_cons_self))

theorem rsChecks_lt {l : List Nat} (hl : ∀ x ∈ l, x < 65536) : ∀ x ∈ rsChecks l, x < 65536 := by
  obtain ⟨h0, h1, h2, h3⟩ := foldl_rsStep_small hl (r := (0, 0, 0, 0)) ⟨by decide, by decide, by decide, by decide⟩
  simp only [rsChecks, List.mem_cons, List.not_mem_nil, or_false]
  rintro x (rfl | rfl | rfl | rfl) <;> assumption

theorem mem_encoded_lt {b : Nat} {bytes : List Byte} :
    ∀ x ∈ messageSymbols b bytes ++ rsChecks (messageSymbols b bytes), x < 65536 := fun x hx =>
  (List.mem_append.1 hx).elim (messageSymbols_lt x) (rsChecks_lt messageSymbols_lt x)

theorem mem_stored_lt {b : Nat} {bytes : List Byte} :
    ∀ x ∈ (messageSymbols b bytes).drop 2 ++ rsChecks (messageSymbols b bytes), x < 65536 := fun x hx =>
  mem_encoded_lt x (List.mem_append.2 ((List.mem_append.1 hx).imp_left List.mem_of_mem_drop))

theorem length_stored (b : Nat) (bytes : List Byte) :
    ((messageSymbols b bytes).drop 2 ++ rsChecks (messageSymbols b bytes)).length = 36 := by
  simp [messageSymbols, rsChecks]

/-- Under its own address a decoder sees the message and its check symbols (R48, R49, R51). -/
theorem receivedSymbols_encodeBlock (b : Nat) (bytes : List Byte) :
    receivedSymbols b (encodeBlock b bytes) = messageSymbols b bytes ++ rsChecks (messageSymbols b bytes) := by
  rw [receivedSymbols, encodeBlock, map_cwSymbol_cwOfSymbols (length_stored b bytes) mem_stored_lt]
  rfl

/-- A codeword holds the bytes of its block (R46). -/
theorem cwBytes_encodeBlock {b : Nat} {bytes : List Byte} (h : bytes.length = 64) :
    cwBytes (encodeBlock b bytes) = bytes := by
  rw [cwBytes, encodeBlock, cwOfSymbols_toNat (length_stored b bytes) mem_stored_lt,
    pow_symbols (n := 512) (k := 32) rfl, Nat.ofDigits_mod_pow_eq_ofDigits_take 32 (by decide) _ mem_stored_lt,
    List.take_left' (by simp [messageSymbols])]
  have := ofDigits_uAt_two 32 bytes h
  simp only [messageSymbols, List.drop_succ_cons, List.drop_zero, this, ← h, leBytes_leNat]

/-- The coefficients of (x + 1)(x + α)(x + α^2)(x + α^3) (R50). -/
theorem generator_coefficients :
    1 ^^^ gfPow 1 ^^^ gfPow 2 ^^^ gfPow 3 = 0x000F ∧
    gfMul 1 (gfPow 1) ^^^ gfMul 1 (gfPow 2) ^^^ gfMul 1 (gfPow 3) ^^^ gfMul (gfPow 1) (gfPow 2) ^^^
      gfMul (gfPow 1) (gfPow 3) ^^^ gfMul (gfPow 2) (gfPow 3) = 0x0036 ∧
    gfMul (gfMul 1 (gfPow 1)) (gfPow 2) ^^^ gfMul (gfMul 1 (gfPow 1)) (gfPow 3) ^^^
      gfMul (gfMul 1 (gfPow 2)) (gfPow 3) ^^^ gfMul (gfMul (gfPow 1) (gfPow 2)) (gfPow 3) = 0x0078 ∧
    gfMul (gfMul (gfMul 1 (gfPow 1)) (gfPow 2)) (gfPow 3) = 0x0040 := by decide +kernel

/-! ### Syndromes -/

/-- A symbol stands for an element of the field. -/
def GfReads {K : Type} [Field K] (z : K) (a : Nat) (x : K) : Prop := a < 65536 ∧ gfRead z a = x

/-- The value at `x` of the polynomial with the symbols `l`, highest power first, added to `acc` above them. -/
def gfHorner {K : Type} [Field K] (z x acc : K) (l : List Nat) : K := l.foldl (fun acc y => acc * x + gfRead z y) acc

/-- The value at `x` of a remainder C_0 x^3 + C_1 x^2 + C_2 x + C_3 (R49). -/
def remValue {K : Type} [Field K] (z x : K) (r : Nat × Nat × Nat × Nat) : K :=
  gfRead z r.1 * x ^ 3 + gfRead z r.2.1 * x ^ 2 + gfRead z r.2.2.1 * x + gfRead z r.2.2.2

section
variable {K : Type} [Field K] {z : K}

theorem GfReads.zero : GfReads z 0 0 := ⟨by decide, gfRead_zero⟩
theorem GfReads.of_lt {a : Nat} (h : a < 65536) : GfReads z a (gfRead z a) := ⟨h, rfl⟩

theorem gfHorner_cons (x acc : K) (y : Nat) (l : List Nat) :
    gfHorner z x acc (y :: l) = gfHorner z x (acc * x + gfRead z y) l := rfl

theorem gfHorner_append (x acc : K) (l m : List Nat) :
    gfHorner z x acc (l ++ m) = gfHorner z x (gfHorner z x acc l) m := List.foldl_append

theorem gfHorner_map_range (x acc : K) (f : Nat → Nat) (n : Nat) :
    gfHorner z x acc ((List.range n).map f) = acc * x ^ n + ∑ k ∈ Finset.range n, gfRead z (f k) * x ^ (n - 1 - k) := by
  induction n with
  | zero => simp [gfHorner]
  | succ n ih =>
    have hs : ∀ k ∈ Finset.range n, gfRead z (f k) * x ^ (n + 1 - 1 - k) = gfRead z (f k) * x ^ (n - 1 - k) * x := by
      intro k hk
      rw [Finset.mem_range] at hk
      rw [mul_assoc, ← pow_succ]
      congr 2
      omega
    rw [List.range_succ, List.map_append, gfHorner_append, ih, Finset.sum_range_succ, Finset.sum_congr rfl hs,
      ← Finset.sum_mul]
    simp [gfHorner]
    ring

end

section
variable {K : Type} [Field K] [CharP K 2] {z : K}

theorem GfReads.xor {a b : Nat} {x y : K} (ha : GfReads z a x) (hb : GfReads z b y) : GfReads z (a ^^^ b) (x + y) :=
  ⟨Nat.xor_lt_two_pow (n := 16) ha.1 hb.1, by rw [gfRead_xor, ha.2, hb.2]⟩

variable (hz : IsGfRoot z)
include hz

theorem GfReads.pow (n : Nat) : GfReads z (gfPow n) (z ^ n) := ⟨gfPow_lt n, gfRead_gfPow hz n⟩

theorem GfReads.mul {a b : Nat} {x y : K} (ha : GfReads z a x) (hb : GfReads z b y) :
    GfReads z (gfMul a b) (x * y) := ⟨gfMul_lt ha.1, by rw [gfRead_gfMul hz ha.1, ha.2, hb.2]⟩

theorem GfReads.inv {a : Nat} {x : K} (ha : GfReads z a x) : GfReads z (gfInv a) x⁻¹ :=
  ⟨gfInv_lt a, by rw [gfRead_gfInv hz ha.1, ha.2]⟩

theorem GfReads.eq_iff {a b : Nat} {x y : K} (ha : GfReads z a x) (hb : GfReads z b y) : a = b ↔ x = y := by
  rw [← gfRead_inj hz ha.1 hb.1, ha.2, hb.2]

theorem GfReads.eq_zero {a : Nat} {x : K} (ha : GfReads z a x) : a = 0 ↔ x = 0 := ha.eq_iff hz .zero

/-- Syndrome i is the value at α^i of the polynomial with the symbols seen (R50). -/
theorem syndrome_reads {l : List Nat} (hl : ∀ x ∈ l, x < 65536) (i : Nat) :
    GfReads z (syndrome l i) (gfHorner z (z ^ i) 0 l) := by
  have step : ∀ {l : List Nat} {a : Nat} {x : K}, (∀ y ∈ l, y < 65536) → GfReads z a x →
      GfReads z (l.foldl (fun acc y => gfMul acc (gfPow i) ^^^ y) a) (gfHorner z (z ^ i) x l) := by
    intro l
    induction l with
    | nil => intro a x _ ha; exact ha
    | cons y l ih =>
      intro a x hl ha
      exact ih (fun w hw => hl w (List.mem_cons_of_mem _ hw))
        ((ha.mul hz (.pow hz i)).xor (.of_lt (hl y List.mem_cons_self)))
  exact step hl .zero

/-- α^0 to α^3 are the zeros of the generator, whose coefficients are those that its factors give (R50). -/
theorem generator_value {i : Nat} (hi : i < 4) :
    (z ^ i) ^ 4 + gfRead z 0x000F * (z ^ i) ^ 3 + gfRead z 0x0036 * (z ^ i) ^ 2 + gfRead z 0x0078 * z ^ i +
      gfRead z 0x0040 = 0 := by
  obtain ⟨h3, h2, h1, h0⟩ := generator_coefficients
  rw [← h3, ← h2, ← h1, ← h0]
  simp (disch := simp [gfMul_lt, gfPow_lt]) only [gfRead_xor, gfRead_gfMul hz, gfRead_gfPow hz, gfRead_one]
  calc _ = (z ^ i + z ^ 0) * (z ^ i + z ^ 1) * (z ^ i + z ^ 2) * (z ^ i + z ^ 3) := by ring
    _ = 0 := by interval_cases i <;> simp [CharTwo.add_self_eq_zero]

theorem remValue_rsStep {x acc : K} {r : Nat × Nat × Nat × Nat} {m : Nat} (hr : RemSmall r) (hm : m < 65536)
    (hx : x ^ 4 + gfRead z 0x000F * x ^ 3 + gfRead z 0x0036 * x ^ 2 + gfRead z 0x0078 * x + gfRead z 0x0040 = 0)
    (h : remValue z x r = acc * x ^ 4) : remValue z x (rsStep r m) = (acc * x + gfRead z m) * x ^ 4 := by
  have hf : r.1 ^^^ m < 65536 := Nat.xor_lt_two_pow (n := 16) hr.1 hm
  have h2 : (2 : K) = 0 := CharTwo.two_eq_zero
  simp only [remValue, rsStep, gfRead_xor, gfRead_gfMul hz hf] at h ⊢
  linear_combination (gfRead z r.1 + gfRead z m) * hx + x * h - (gfRead z r.1 + gfRead z m) * x ^ 4 * h2

/-- The remainder of the message symbols, at a zero of the generator, is the message's value times x^4 (R49). -/
theorem remValue_foldl_rsStep {x : K}
    (hx : x ^ 4 + gfRead z 0x000F * x ^ 3 + gfRead z 0x0036 * x ^ 2 + gfRead z 0x0078 * x + gfRead z 0x0040 = 0)
    {l : List Nat} (hl : ∀ y ∈ l, y < 65536) : ∀ {acc : K} {r : Nat × Nat × Nat × Nat}, RemSmall r →
    remValue z x r = acc * x ^ 4 → remValue z x (l.foldl rsStep r) = gfHorner z x acc l * x ^ 4 := by
  induction l with
  | nil => intro acc r _ h; exact h
  | cons m l ih =>
    intro acc r hr h
    have hm := hl m List.mem_cons_self
    exact ih (fun y hy => hl y (List.mem_cons_of_mem _ hy)) (rsStep_small hr hm) (remValue_rsStep hz hr hm hx h)

/-- A message with its check symbols is 0 at the zeros of the generator (R50). -/
theorem gfHorner_checked {i : Nat} (hi : i < 4) {l : List Nat} (hl : ∀ y ∈ l, y < 65536) :
    gfHorner z (z ^ i) 0 (l ++ rsChecks l) = 0 := by
  have hr := remValue_foldl_rsStep hz (generator_value hz hi) hl (acc := 0) (r := (0, 0, 0, 0))
    ⟨by decide, by decide, by decide, by decide⟩ (by simp [remValue])
  have h2 : (2 : K) = 0 := CharTwo.two_eq_zero
  rw [gfHorner_append]
  simp only [remValue, rsChecks, gfHorner_cons] at hr ⊢
  rw [gfHorner, List.foldl_nil]
  linear_combination hr + gfHorner z (z ^ i) 0 l * (z ^ i) ^ 4 * h2

end

theorem syndrome_encodeBlock (b : Nat) (bytes : List Byte) {i : Nat} (hi : i < 4) :
    syndrome (receivedSymbols b (encodeBlock b bytes)) i = 0 := by
  obtain ⟨z, hz⟩ := exists_isGfRoot
  rw [receivedSymbols_encodeBlock, (syndrome_reads hz mem_encoded_lt i).eq_zero hz]
  exact gfHorner_checked hz hi messageSymbols_lt

/-- Settles O9: division by the generator leaves the remainder that, added, makes its zeros zeros of the codeword. -/
theorem codewordsSatisfyTheGenerator : Obligations.CodewordsSatisfyTheGenerator :=
  ⟨generator_coefficients, fun b bytes _ _ hi => syndrome_encodeBlock b bytes hi⟩

end Sys2Proof.Machine
end

section
/-! The decoder of R51 to R56: what errors in two places make of the syndromes, and what it finds from them. -/

namespace Sys2Proof.Machine

/-! ### Searching the positions -/

theorem find?_range_eq_some_of_iff {n a : Nat} {p : Nat → Bool} (ha : a < n) (hp : ∀ e, e < n → (p e = true ↔ e = a)) :
    (List.range n).find? p = some a := by
  rw [List.find?_range_eq_some]
  refine ⟨(hp a ha).2 rfl, List.mem_range.2 ha, fun j hj => ?_⟩
  have : p j ≠ true := fun h => hj.ne ((hp j (hj.trans ha)).1 h)
  simpa using this

theorem filter_range_eq_pair {n a b : Nat} {p : Nat → Bool} (hab : a < b) (hb : b < n)
    (hp : ∀ e, e < n → (p e = true ↔ e = a ∨ e = b)) : (List.range n).filter p = [a, b] := by
  refine List.Pairwise.eq_of_mem_iff (List.pairwise_lt_range.filter p) (by simpa using hab) fun e => ?_
  rw [List.mem_filter, List.mem_range, List.mem_pair]
  constructor
  · rintro ⟨he, h⟩
    exact (hp e he).1 h
  · rintro (rfl | rfl)
    · exact ⟨hab.trans hb, (hp _ (hab.trans hb)).2 (.inl rfl)⟩
    · exact ⟨hb, (hp _ hb).2 (.inr rfl)⟩

/-! ### Errors in the stored symbols -/

/-- An error whose value is a symbol other than 0, at one of the 38 positions. -/
def SymErr.Real (e : SymErr) : Prop := e.pos < 38 ∧ 0 < e.val ∧ e.val < 65536

@[simp] theorem fixSymbol_zero (w : Codeword) (p : Nat) : fixSymbol w ⟨p, 0⟩ = w := by simp [fixSymbol]

theorem fixSymbol_fixSymbol (w : Codeword) (e : SymErr) : fixSymbol (fixSymbol w e) e = w := by
  unfold fixSymbol
  split
  · rw [BitVec.xor_assoc, BitVec.xor_self, BitVec.xor_zero]
  · rfl

/-- A value added to the symbol of a lane is an error at the position of the lane. -/
theorem xor_eq_fixSymbol (w : Codeword) {k : Nat} (v : Nat) (hk : k < 36) :
    w ^^^ BitVec.ofNat 576 (v <<< (16 * k)) = fixSymbol w ⟨35 - k, v⟩ := by
  rw [fixSymbol, if_pos (by simp), show 35 - (35 - k) = k by omega]

theorem receivedSymbols_lt {b : Nat} {w : Codeword} : ∀ x ∈ receivedSymbols b w, x < 65536 := by
  intro x hx
  simp only [receivedSymbols, List.mem_cons, List.mem_map] at hx
  obtain rfl | rfl | ⟨k, -, rfl⟩ := hx
  · exact Nat.mod_lt _ (by decide)
  · exact Nat.mod_lt _ (by decide)
  · exact cwSymbol_lt w k

/-- The value at `x` of the polynomial that a decoder sees at block `b` (R48, R49). -/
def codeValue {K : Type} [Field K] (z x : K) (b : Nat) (w : Codeword) : K := gfHorner z x 0 (receivedSymbols b w)

theorem codeValue_eq_sum {K : Type} [Field K] (z x : K) (b : Nat) (w : Codeword) :
    codeValue z x b w = gfRead z (b / 65536 % 65536) * x ^ 37 + gfRead z (b % 65536) * x ^ 36 +
      ∑ k ∈ Finset.range 36, gfRead z (cwSymbol w k) * x ^ (35 - k) := by
  rw [codeValue, receivedSymbols, gfHorner_cons, gfHorner_cons, gfHorner_map_range]
  ring

section
variable {K : Type} [Field K] [CharP K 2] {z : K}

theorem codeValue_fixSymbol (x : K) (b : Nat) (w : Codeword) {e : SymErr} (hp : e.pos ≤ 35) (hv : e.val < 65536) :
    codeValue z x b (fixSymbol w e) = codeValue z x b w + gfRead z e.val * x ^ e.pos := by
  have hterm : ∀ k ∈ Finset.range 36, gfRead z (cwSymbol (fixSymbol w e) k) * x ^ (35 - k) =
      gfRead z (cwSymbol w k) * x ^ (35 - k) + if k = 35 - e.pos then gfRead z e.val * x ^ e.pos else 0 := by
    intro k _
    rw [fixSymbol, if_pos hp, cwSymbol_xor, cwSymbol_ofNat_shift hv (by omega), gfRead_xor, add_mul]
    split
    case isTrue h => rw [h, show 35 - (35 - e.pos) = e.pos by omega]
    case isFalse => simp
  rw [codeValue_eq_sum, codeValue_eq_sum, Finset.sum_congr rfl hterm, Finset.sum_add_distrib, Finset.sum_ite_eq',
    if_pos (by simp; omega)]
  ring

theorem codeValue_address (x : K) (b c : Nat) (w : Codeword) :
    codeValue z x c w = codeValue z x b w + gfRead z (b / 65536 % 65536 ^^^ c / 65536 % 65536) * x ^ 37 +
      gfRead z (b % 65536 ^^^ c % 65536) * x ^ 36 := by
  have h2 : (2 : K) = 0 := CharTwo.two_eq_zero
  rw [codeValue_eq_sum, codeValue_eq_sum, gfRead_xor, gfRead_xor]
  linear_combination -(gfRead z (b / 65536 % 65536) * x ^ 37 + gfRead z (b % 65536) * x ^ 36) * h2

/-- The syndromes are those of two errors and no other. -/
def HasErrors {K : Type} [Field K] (z : K) (s : Nat → Nat) (e f : SymErr) : Prop :=
  ∀ i, i < 4 → GfReads z (s i) (gfRead z e.val * (z ^ e.pos) ^ i + gfRead z f.val * (z ^ f.pos) ^ i)

omit [CharP K 2] in
theorem HasErrors.symm {s : Nat → Nat} {e f : SymErr} (h : HasErrors z s e f) : HasErrors z s f e := fun i hi => by
  rw [add_comm]; exact h i hi

variable (hz : IsGfRoot z)
include hz

theorem syndrome_reads_codeValue (b : Nat) (w : Codeword) (i : Nat) :
    GfReads z (syndrome (receivedSymbols b w) i) (codeValue z (z ^ i) b w) := syndrome_reads hz receivedSymbols_lt i

theorem codeValue_encodeBlock (b : Nat) (bytes : List Byte) {i : Nat} (hi : i < 4) :
    codeValue z (z ^ i) b (encodeBlock b bytes) = 0 := by
  rw [← (syndrome_reads_codeValue hz b _ i).eq_zero hz, syndrome_encodeBlock b bytes hi]

theorem hasErrors_of_codeValue {b : Nat} {w : Codeword} {e f : SymErr}
    (h : ∀ i, i < 4 → codeValue z (z ^ i) b w = gfRead z e.val * (z ^ i) ^ e.pos + gfRead z f.val * (z ^ i) ^ f.pos) :
    HasErrors z (syndrome (receivedSymbols b w)) e f := fun i hi => by
  rw [← pow_mul, ← pow_mul, mul_comm e.pos, mul_comm f.pos, pow_mul, pow_mul, ← h i hi]
  exact syndrome_reads_codeValue hz b w i

/-- What errors in two stored symbols make of the syndromes of a codeword. -/
theorem hasErrors_stored (b : Nat) (bytes : List Byte) {e f : SymErr} (he : e.pos ≤ 35) (hf : f.pos ≤ 35)
    (hev : e.val < 65536) (hfv : f.val < 65536) :
    HasErrors z (syndrome (receivedSymbols b (fixSymbol (fixSymbol (encodeBlock b bytes) e) f))) e f :=
  hasErrors_of_codeValue hz fun i hi => by
    rw [codeValue_fixSymbol _ _ _ hf hfv, codeValue_fixSymbol _ _ _ he hev, codeValue_encodeBlock hz _ _ hi, zero_add]

/-- A codeword read under another address differs from one of that address in V0 and V1 alone (R52). -/
theorem hasErrors_address (b c : Nat) (bytes : List Byte) :
    HasErrors z (syndrome (receivedSymbols c (encodeBlock b bytes)))
      ⟨36, b % 65536 ^^^ c % 65536⟩ ⟨37, b / 65536 % 65536 ^^^ c / 65536 % 65536⟩ :=
  hasErrors_of_codeValue hz fun i hi => by
    rw [codeValue_address _ b, codeValue_encodeBlock hz _ _ hi]
    ring

/-! ### Locating the errors -/

theorem gfRoot_pow_inj {a b : Nat} (ha : a < 38) (hb : b < 38) : z ^ a = z ^ b ↔ a = b := by
  have hinj := pow_injOn_Iio_orderOf (x := z)
  rw [orderOf_gfRoot hz] at hinj
  exact ⟨fun h => hinj (Set.mem_Iio.2 (by omega)) (Set.mem_Iio.2 (by omega)) h, fun h => by rw [h]⟩

theorem gfRead_val_ne_zero {e : SymErr} (h : e.Real) : gfRead z e.val ≠ 0 := by
  obtain ⟨-, hpos, hlt⟩ := h
  rw [Ne, gfRead_eq_zero hz hlt]
  exact hpos.ne'

/-- Syndromes in geometric progression locate one error. -/
theorem oneError_eq_some {s : Nat → Nat} {e : SymErr} {p : Nat} (he : e.Real) (h : HasErrors z s e ⟨p, 0⟩) :
    s 0 = e.val ∧ oneError (s 0) (s 1) (s 2) (s 3) = some e := by
  have hv := gfRead_val_ne_zero hz he
  obtain ⟨hpos, -, hlt⟩ := he
  have hs : ∀ i, i < 4 → GfReads z (s i) (gfRead z e.val * (z ^ e.pos) ^ i) := fun i hi => by
    simpa using h i hi
  have hs0 : s 0 = e.val := ((hs 0 (by decide)).eq_iff hz (.of_lt hlt)).2 (by simp)
  refine ⟨hs0, ?_⟩
  have hnext : ∀ i, i + 1 < 4 → ∀ q, s (i + 1) = gfMul (s i) (gfPow q) ↔
      gfRead z e.val * (z ^ e.pos) ^ (i + 1) = gfRead z e.val * (z ^ e.pos) ^ i * z ^ q := fun i hi q =>
    (hs (i + 1) hi).eq_iff hz ((hs i (by omega)).mul hz (.pow hz q))
  rw [oneError, find?_range_eq_some_of_iff hpos, hs0]
  · rfl
  intro q hq
  simp only [Bool.and_eq_true, decide_eq_true_eq, hnext 0 (by decide), hnext 1 (by decide), hnext 2 (by decide)]
  constructor
  · rintro ⟨⟨h1, -⟩, -⟩
    rw [pow_zero, mul_one, zero_add, pow_one] at h1
    exact ((gfRoot_pow_inj hz hpos hq).1 (mul_left_cancel₀ hv h1)).symm
  · rintro rfl
    exact ⟨⟨by ring, by ring⟩, by ring⟩

/-- Three symbols in geometric progression have determinant 0. -/
theorem det_eq_zero_of_progression {a b c q : Nat} (ha : a < 65536) (hb : b = gfMul a (gfPow q))
    (hc : c = gfMul b (gfPow q)) : gfMul a c ^^^ gfMul b b = 0 := by
  have ra : GfReads z a (gfRead z a) := .of_lt ha
  have rb : GfReads z b (gfRead z a * z ^ q) := hb ▸ ra.mul hz (.pow hz q)
  have rc : GfReads z c (gfRead z a * z ^ q * z ^ q) := hc ▸ rb.mul hz (.pow hz q)
  rw [((ra.mul hz rc).xor (rb.mul hz rb)).eq_zero hz]
  linear_combination gfRead z a ^ 2 * (z ^ q) ^ 2 * CharTwo.two_eq_zero (R := K)

/-- No error stands alone where the determinant of the syndromes is not 0. -/
theorem oneError_eq_none {s0 s1 s2 s3 : Nat} (h0 : s0 < 65536) (hdet : gfMul s0 s2 ^^^ gfMul s1 s1 ≠ 0) :
    oneError s0 s1 s2 s3 = none := by
  rw [oneError, Option.map_eq_none_iff, List.find?_eq_none]
  intro q _ hq
  simp only [Bool.and_eq_true, decide_eq_true_eq] at hq
  obtain ⟨⟨hq1, hq2⟩, -⟩ := hq
  exact hdet (det_eq_zero_of_progression hz h0 hq1 hq2)

theorem det_reads {a b c : Nat} {u v x y : K} (ha : GfReads z a (u * x ^ 0 + v * y ^ 0))
    (hb : GfReads z b (u * x ^ 1 + v * y ^ 1)) (hc : GfReads z c (u * x ^ 2 + v * y ^ 2)) :
    GfReads z (gfMul a c ^^^ gfMul b b) (u * v * (x + y) ^ 2) := by
  convert (ha.mul hz hc).xor (hb.mul hz hb) using 1
  linear_combination -(u ^ 2 * x ^ 2 + v ^ 2 * y ^ 2) * CharTwo.two_eq_zero (R := K)

/-- The determinant of the syndromes of two errors. -/
theorem HasErrors.det {s : Nat → Nat} {e f : SymErr} (h : HasErrors z s e f) :
    GfReads z (gfMul (s 0) (s 2) ^^^ gfMul (s 1) (s 1))
      (gfRead z e.val * gfRead z f.val * (z ^ e.pos + z ^ f.pos) ^ 2) :=
  det_reads hz (h 0 (by decide)) (h 1 (by decide)) (h 2 (by decide))

theorem pow_add_pow_ne_zero {a b : Nat} (ha : a < 38) (hb : b < 38) (hab : a ≠ b) : z ^ a + z ^ b ≠ 0 := fun h =>
  hab ((gfRoot_pow_inj hz ha hb).1 (CharTwo.add_eq_zero.1 h))

theorem det_value_ne_zero {e f : SymErr} (he : e.Real) (hf : f.Real) (hne : e.pos ≠ f.pos) :
    gfRead z e.val * gfRead z f.val * (z ^ e.pos + z ^ f.pos) ^ 2 ≠ 0 :=
  mul_ne_zero (mul_ne_zero (gfRead_val_ne_zero hz he) (gfRead_val_ne_zero hz hf))
    (pow_ne_zero 2 (pow_add_pow_ne_zero hz he.1 hf.1 hne))

theorem HasErrors.det_ne_zero {s : Nat → Nat} {e f : SymErr} (h : HasErrors z s e f) (he : e.Real) (hf : f.Real)
    (hne : e.pos ≠ f.pos) : gfMul (s 0) (s 2) ^^^ gfMul (s 1) (s 1) ≠ 0 := by
  rw [Ne, (h.det hz).eq_zero hz]
  exact det_value_ne_zero hz he hf hne

/-- The first coefficient of the locator is the sum of the places. -/
theorem HasErrors.locator_sum {s : Nat → Nat} {e f : SymErr} (h : HasErrors z s e f) (he : e.Real) (hf : f.Real)
    (hne : e.pos ≠ f.pos) :
    GfReads z (gfMul (gfMul (s 0) (s 3) ^^^ gfMul (s 1) (s 2)) (gfInv (gfMul (s 0) (s 2) ^^^ gfMul (s 1) (s 1))))
      (z ^ e.pos + z ^ f.pos) := by
  convert (((h 0 (by decide)).mul hz (h 3 (by decide))).xor ((h 1 (by decide)).mul hz (h 2 (by decide)))).mul hz
    ((h.det hz).inv hz) using 1
  rw [eq_mul_inv_iff_mul_eq₀ (det_value_ne_zero hz he hf hne)]
  generalize gfRead z e.val = u, gfRead z f.val = v, z ^ e.pos = x, z ^ f.pos = y
  linear_combination (-u ^ 2 * x ^ 3 - v ^ 2 * y ^ 3 + u * v * x ^ 2 * y + u * v * x * y ^ 2) *
    CharTwo.two_eq_zero (R := K)

/-- The second coefficient of the locator is the product of the places. -/
theorem HasErrors.locator_product {s : Nat → Nat} {e f : SymErr} (h : HasErrors z s e f) (he : e.Real) (hf : f.Real)
    (hne : e.pos ≠ f.pos) :
    GfReads z (gfMul (gfMul (s 1) (s 3) ^^^ gfMul (s 2) (s 2)) (gfInv (gfMul (s 0) (s 2) ^^^ gfMul (s 1) (s 1))))
      (z ^ e.pos * z ^ f.pos) := by
  convert (((h 1 (by decide)).mul hz (h 3 (by decide))).xor ((h 2 (by decide)).mul hz (h 2 (by decide)))).mul hz
    ((h.det hz).inv hz) using 1
  rw [eq_mul_inv_iff_mul_eq₀ (det_value_ne_zero hz he hf hne)]
  generalize gfRead z e.val = u, gfRead z f.val = v, z ^ e.pos = x, z ^ f.pos = y
  linear_combination -(u ^ 2 * x ^ 4 + v ^ 2 * y ^ 4) * CharTwo.two_eq_zero (R := K)

omit hz in
/-- The locator is 0 at the two places alone. -/
theorem locator_eq_zero {w x y : K} : w * w + (x + y) * w + x * y = 0 ↔ w = x ∨ w = y := by
  rw [show w * w + (x + y) * w + x * y = (w + x) * (w + y) by ring, mul_eq_zero, CharTwo.add_eq_zero, CharTwo.add_eq_zero]

/-- The value of an error follows from the places of both. -/
theorem HasErrors.value {s : Nat → Nat} {e f : SymErr} (h : HasErrors z s e f) (he : e.Real) (hf : f.Real)
    (hne : e.pos ≠ f.pos) :
    gfMul (s 1 ^^^ gfMul (s 0) (gfPow f.pos)) (gfInv (gfPow e.pos ^^^ gfPow f.pos)) = e.val := by
  have hx := GfReads.pow hz e.pos
  have hy := GfReads.pow hz f.pos
  rw [(((h 1 (by decide)).xor ((h 0 (by decide)).mul hz hy)).mul hz ((hx.xor hy).inv hz)).eq_iff hz (.of_lt he.2.2),
    mul_inv_eq_iff_eq_mul₀ (pow_add_pow_ne_zero hz he.1 hf.1 hne)]
  linear_combination gfRead z f.val * z ^ f.pos * CharTwo.two_eq_zero (R := K)

theorem HasErrors.sum {s : Nat → Nat} {e f : SymErr} (h : HasErrors z s e f) (he : e.val < 65536) (hf : f.val < 65536) :
    s 0 ^^^ e.val = f.val := by
  rw [((h 0 (by decide)).xor (.of_lt he)).eq_iff hz (.of_lt hf)]
  linear_combination gfRead z e.val * CharTwo.two_eq_zero (R := K)

/-- The syndromes of two errors locate both. -/
theorem twoErrors_eq_some {s : Nat → Nat} {e f : SymErr} (he : e.Real) (hf : f.Real) (hlt : e.pos < f.pos)
    (h : HasErrors z s e f) : twoErrors (s 0) (s 1) (s 2) (s 3) = some (e, f) := by
  have hdet := h.det_ne_zero hz he hf hlt.ne
  have hroots : ∀ q, q < 38 → (decide (gfMul (gfPow q) (gfPow q) ^^^
      gfMul (gfMul (gfMul (s 0) (s 3) ^^^ gfMul (s 1) (s 2)) (gfInv (gfMul (s 0) (s 2) ^^^ gfMul (s 1) (s 1)))) (gfPow q) ^^^
      gfMul (gfMul (s 1) (s 3) ^^^ gfMul (s 2) (s 2)) (gfInv (gfMul (s 0) (s 2) ^^^ gfMul (s 1) (s 1))) = 0) = true ↔
      q = e.pos ∨ q = f.pos) := by
    intro q hq
    have hw := GfReads.pow hz q
    rw [decide_eq_true_eq, (((hw.mul hz hw).xor ((h.locator_sum hz he hf hlt.ne).mul hz hw)).xor
      (h.locator_product hz he hf hlt.ne)).eq_zero hz, locator_eq_zero, gfRoot_pow_inj hz hq he.1, gfRoot_pow_inj hz hq hf.1]
  unfold twoErrors
  simp only [if_neg hdet, filter_range_eq_pair hlt hf.1 hroots, h.value hz he hf hlt.ne, h.sum hz he.2.2 hf.2.2]
  rw [if_pos ⟨he.2.1.ne', hf.2.1.ne'⟩]

/-! ### Decoding without an erased lane -/

/-- One error is taken out, or is an address error where it stands at a virtual symbol (R51). -/
theorem decodePlain_one {s : Nat → Nat} {e : SymErr} {p : Nat} (w : Codeword) (he : e.Real) (h : HasErrors z s e ⟨p, 0⟩) :
    decodePlain w (s 0) (s 1) (s 2) (s 3) =
      if 36 ≤ e.pos then .addrErr else .good (cwBytes (fixSymbol w e)) [e.lane] (fixSymbol w e) := by
  obtain ⟨hs0, hone⟩ := oneError_eq_some hz he h
  have h0 : s 0 ≠ 0 := hs0 ▸ he.2.1.ne'
  rw [decodePlain, if_neg (fun hall => h0 hall.1), if_neg h0, hone]
  simp [SymErr.virtual]

/-- Two errors are taken out, or are an address error where one stands at a virtual symbol (R51). -/
theorem decodePlain_two {s : Nat → Nat} {e f : SymErr} (w : Codeword) (he : e.Real) (hf : f.Real) (hlt : e.pos < f.pos)
    (h : HasErrors z s e f) :
    decodePlain w (s 0) (s 1) (s 2) (s 3) =
      if 36 ≤ f.pos then .addrErr
      else .good (cwBytes (fixSymbol (fixSymbol w e) f)) [f.lane, e.lane] (fixSymbol (fixSymbol w e) f) := by
  have hdet := h.det_ne_zero hz he hf hlt.ne
  have hclean : ¬ (s 0 = 0 ∧ s 1 = 0 ∧ s 2 = 0 ∧ s 3 = 0) := fun ⟨h0, h1, _, _⟩ =>
    hdet (by rw [h0, h1, gfMul_zero_left, gfMul_zero_left, Nat.xor_zero])
  have hone := oneError_eq_none hz (s3 := s 3) (h 0 (by decide)).1 hdet
  have hlanes : f.lane ≤ e.lane := by simp only [SymErr.lane]; omega
  rw [decodePlain, if_neg hclean, hone, ite_self, twoErrors_eq_some hz he hf hlt h]
  simp only [SymErr.virtual, min_eq_right hlanes, max_eq_left hlanes, Bool.or_eq_true, decide_eq_true_eq,
    show 36 ≤ e.pos ∨ 36 ≤ f.pos ↔ 36 ≤ f.pos by omega]

/-! ### Decoding with an erased lane -/

/-- Syndrome `i` without the contribution of the symbol at position `p` (R56). -/
def strippedSyndrome (s : Nat → Nat) (p i : Nat) : Nat := s (i + 1) ^^^ gfMul (s i) (gfPow p)

omit [CharP K 2] hz in
theorem strippedSyndrome_eq (s : Nat → Nat) (p : Nat) :
    s 1 ^^^ gfMul (s 0) (gfPow p) = strippedSyndrome s p 0 ∧ s 2 ^^^ gfMul (s 1) (gfPow p) = strippedSyndrome s p 1 ∧
      s 3 ^^^ gfMul (s 2) (gfPow p) = strippedSyndrome s p 2 := ⟨rfl, rfl, rfl⟩

theorem HasErrors.strip {s : Nat → Nat} {e f : SymErr} (h : HasErrors z s e f) (p : Nat) {i : Nat} (hi : i < 3) :
    GfReads z (strippedSyndrome s p i)
      (gfRead z e.val * (z ^ e.pos + z ^ p) * (z ^ e.pos) ^ i + gfRead z f.val * (z ^ f.pos + z ^ p) * (z ^ f.pos) ^ i) := by
  obtain ⟨hlt, hread⟩ := (h (i + 1) (by omega)).xor ((h i (by omega)).mul hz (.pow hz p))
  exact ⟨hlt, hread.trans (by ring)⟩

/-- Of an erased symbol and one other error the latter alone is left. -/
theorem HasErrors.strip_erased {s : Nat → Nat} {p u : Nat} {f : SymErr} (h : HasErrors z s ⟨p, u⟩ f) {i : Nat} (hi : i < 3) :
    GfReads z (strippedSyndrome s p i) (gfRead z f.val * (z ^ f.pos + z ^ p) * (z ^ f.pos) ^ i) := by
  simpa [CharTwo.add_self_eq_zero] using h.strip hz p hi

/-- Damage in the erased lane alone is filled in and no correction (R56). -/
theorem decodeErased_alone {s : Nat → Nat} {k u p : Nat} (w : Codeword) (hu : u < 65536)
    (h : HasErrors z s ⟨35 - k, u⟩ ⟨p, 0⟩) :
    decodeErased w k (s 0) (s 1) (s 2) (s 3) =
      .good (cwBytes (fixSymbol w ⟨35 - k, u⟩)) [] (fixSymbol w ⟨35 - k, u⟩) := by
  have ht : ∀ i, i < 3 → strippedSyndrome s (35 - k) i = 0 := fun i hi => by
    rw [(h.strip_erased hz hi).eq_zero hz, gfRead_zero, zero_mul, zero_mul]
  have hs0 : s 0 = u := by simpa using h.symm.sum hz (Nat.zero_lt_succ _) hu
  simp only [decodeErased, strippedSyndrome_eq s]
  rw [if_pos ⟨ht 0 (by decide), ht 1 (by decide), ht 2 (by decide)⟩, hs0]

/-- The search of R56 for one error beside an erased symbol at position `p`. -/
def locateStripped (s : Nat → Nat) (p : Nat) : Option Nat :=
  (List.range 38).find? (fun e => decide (e ≠ p) &&
    decide (strippedSyndrome s p 1 = gfMul (strippedSyndrome s p 0) (gfPow e)) &&
    decide (strippedSyndrome s p 2 = gfMul (strippedSyndrome s p 1) (gfPow e)))

section
variable {s : Nat → Nat} {p u : Nat} {f : SymErr} (hp : p < 38) (hf : f.Real) (hfp : f.pos ≠ p)
  (h : HasErrors z s ⟨p, u⟩ f)
include hp hf hfp h

theorem strippedSyndrome_ne_zero : strippedSyndrome s p 0 ≠ 0 := by
  rw [Ne, (h.strip_erased hz (by decide)).eq_zero hz, pow_zero, mul_one]
  exact mul_ne_zero (gfRead_val_ne_zero hz hf) (pow_add_pow_ne_zero hz hf.1 hp hfp)

theorem locateStripped_eq_some : locateStripped s p = some f.pos := by
  have ht := fun (i : Nat) (hi : i < 3) => h.strip_erased hz hi
  have hcoeff := mul_ne_zero (gfRead_val_ne_zero hz hf) (pow_add_pow_ne_zero hz hf.1 hp hfp)
  refine find?_range_eq_some_of_iff hf.1 fun q hq => ?_
  simp only [Bool.and_eq_true, decide_eq_true_eq,
    (ht 1 (by decide)).eq_iff hz ((ht 0 (by decide)).mul hz (.pow hz q)),
    (ht 2 (by decide)).eq_iff hz ((ht 1 (by decide)).mul hz (.pow hz q))]
  constructor
  · rintro ⟨⟨-, h1⟩, -⟩
    rw [pow_zero, mul_one, pow_one] at h1
    exact ((gfRoot_pow_inj hz hf.1 hq).1 (mul_left_cancel₀ hcoeff h1)).symm
  · rintro rfl
    exact ⟨⟨hfp, by ring⟩, by ring⟩

theorem value_of_stripped : gfMul (strippedSyndrome s p 0) (gfInv (gfPow f.pos ^^^ gfPow p)) = f.val := by
  rw [((h.strip_erased hz (by decide)).mul hz (((GfReads.pow hz f.pos).xor (.pow hz p)).inv hz)).eq_iff hz (.of_lt hf.2.2),
    mul_inv_eq_iff_eq_mul₀ (pow_add_pow_ne_zero hz hf.1 hp hfp), pow_zero, mul_one]

end

section
variable {s : Nat → Nat} {p : Nat} {e f : SymErr} (hp : p < 38) (he : e.Real) (hf : f.Real) (hep : e.pos ≠ p)
  (hfp : f.pos ≠ p) (hne : e.pos ≠ f.pos) (h : HasErrors z s e f)
include hp he hf hep hfp hne h

/-- Two errors beside the erased symbol leave syndromes with a determinant other than 0. -/
theorem stripped_det_ne_zero : gfMul (strippedSyndrome s p 0) (strippedSyndrome s p 2) ^^^
    gfMul (strippedSyndrome s p 1) (strippedSyndrome s p 1) ≠ 0 := by
  have ht := fun (i : Nat) (hi : i < 3) => h.strip hz p hi
  rw [Ne, (det_reads hz (ht 0 (by decide)) (ht 1 (by decide)) (ht 2 (by decide))).eq_zero hz]
  exact mul_ne_zero
    (mul_ne_zero (mul_ne_zero (gfRead_val_ne_zero hz he) (pow_add_pow_ne_zero hz he.1 hp hep))
      (mul_ne_zero (gfRead_val_ne_zero hz hf) (pow_add_pow_ne_zero hz hf.1 hp hfp)))
    (pow_ne_zero 2 (pow_add_pow_ne_zero hz he.1 hf.1 hne))

theorem locateStripped_eq_none : locateStripped s p = none := by
  rw [locateStripped, List.find?_eq_none]
  intro q _ hq
  simp only [Bool.and_eq_true, decide_eq_true_eq] at hq
  obtain ⟨⟨-, h1⟩, h2⟩ := hq
  exact stripped_det_ne_zero hz hp he hf hep hfp hne h
    (det_eq_zero_of_progression hz (h.strip hz p (by decide)).1 h1 h2)

end

/-- The stripped syndromes of two errors meet the recurrence that their places give. -/
theorem HasErrors.stripped_recurrence {s : Nat → Nat} {e f : SymErr} (h : HasErrors z s e f) (p : Nat) :
    strippedSyndrome s p 2 ^^^ gfMul (gfPow f.pos ^^^ gfPow e.pos) (strippedSyndrome s p 1) ^^^
      gfMul (gfMul (gfPow f.pos) (gfPow e.pos)) (strippedSyndrome s p 0) = 0 := by
  have hx := GfReads.pow hz e.pos
  have hy := GfReads.pow hz f.pos
  rw [(((h.strip hz p (i := 2) (by decide)).xor ((hy.xor hx).mul hz (h.strip hz p (i := 1) (by decide)))).xor
    ((hy.mul hz hx).mul hz (h.strip hz p (i := 0) (by decide)))).eq_zero hz]
  generalize z ^ e.pos = x, z ^ f.pos = y, z ^ p = w, gfRead z e.val = a, gfRead z f.val = b
  linear_combination (a * (x + w) * (x ^ 2 + x * y) + b * (y + w) * (y ^ 2 + x * y)) * CharTwo.two_eq_zero (R := K)

/-- One error beside the erased lane is taken out with it, or is an address error (R52, R56). -/
theorem decodeErased_one {s : Nat → Nat} {k u : Nat} {f : SymErr} (w : Codeword) (hu : u < 65536) (hf : f.Real)
    (hne : f.pos ≠ 35 - k) (h : HasErrors z s ⟨35 - k, u⟩ f) :
    decodeErased w k (s 0) (s 1) (s 2) (s 3) =
      if 36 ≤ f.pos then .addrErr
      else .good (cwBytes (fixSymbol (fixSymbol w f) ⟨35 - k, u⟩)) [f.lane] (fixSymbol (fixSymbol w f) ⟨35 - k, u⟩) := by
  have hp : 35 - k < 38 := by omega
  have ht0 := strippedSyndrome_ne_zero hz hp hf hne h
  have hfind := locateStripped_eq_some hz hp hf hne h
  have hval := value_of_stripped hz hp hf hne h
  have hs0 : s 0 ^^^ f.val = u := h.symm.sum hz hf.2.2 hu
  simp only [decodeErased, strippedSyndrome_eq s]
  rw [if_neg (fun hall => ht0 hall.1), if_neg ht0]
  unfold locateStripped at hfind
  simp only [hfind, hval, hs0, SymErr.lane]

/-- A wrong address that changes both virtual symbols is seen with a lane erased too (R52). -/
theorem decodeErased_address {s : Nat → Nat} {k : Nat} {e f : SymErr} (w : Codeword) (he : e.Real) (hf : f.Real)
    (he36 : e.pos = 36) (hf37 : f.pos = 37) (h : HasErrors z s e f) :
    decodeErased w k (s 0) (s 1) (s 2) (s 3) = .addrErr := by
  have hp : 35 - k < 38 := by omega
  have hdet := stripped_det_ne_zero hz hp he hf (by omega) (by omega) (by omega) h
  have hfind := locateStripped_eq_none hz hp he hf (by omega) (by omega) (by omega) h
  have hboth := h.stripped_recurrence hz (35 - k)
  have hclean : ¬ (strippedSyndrome s (35 - k) 0 = 0 ∧ strippedSyndrome s (35 - k) 1 = 0 ∧
      strippedSyndrome s (35 - k) 2 = 0) :=
    fun ⟨h0, h1, _⟩ => hdet (by rw [h0, h1, gfMul_zero_left, gfMul_zero_left, Nat.xor_zero])
  simp only [decodeErased, strippedSyndrome_eq s]
  rw [if_neg hclean]
  unfold locateStripped at hfind
  rw [he36, hf37] at hboth
  simp only [hfind, ite_self, hboth, if_true]

end

/-! ### Reads of stored blocks -/

/-- An error of the lane `k` of a stored symbol. -/
theorem real_of_lane {k v : Nat} (hv0 : 0 < v) (hv : v < 65536) : SymErr.Real ⟨35 - k, v⟩ :=
  ⟨(Nat.sub_le 35 k).trans_lt (by decide), hv0, hv⟩

theorem lane_of_lane {k v : Nat} (hk : k < 36) : SymErr.lane ⟨35 - k, v⟩ = k := Nat.sub_sub_self (Nat.le_of_lt_succ hk)

theorem not_virtual_of_lane (k v : Nat) : ¬ 36 ≤ SymErr.pos ⟨35 - k, v⟩ :=
  Nat.not_le.2 (Nat.lt_succ_of_le (Nat.sub_le 35 k))

@[simp] theorem decodeBlock_none (b : Nat) (w : Codeword) :
    decodeBlock b w none = decodePlain w (syndrome (receivedSymbols b w) 0) (syndrome (receivedSymbols b w) 1)
      (syndrome (receivedSymbols b w) 2) (syndrome (receivedSymbols b w) 3) := rfl

@[simp] theorem decodeBlock_some (b : Nat) (w : Codeword) (k : Nat) :
    decodeBlock b w (some k) = decodeErased w k (syndrome (receivedSymbols b w) 0) (syndrome (receivedSymbols b w) 1)
      (syndrome (receivedSymbols b w) 2) (syndrome (receivedSymbols b w) 3) := rfl

section
variable {K : Type} [Field K] [CharP K 2] {z : K} (hz : IsGfRoot z) (b : Nat) (bytes : List Byte)
include hz

/-- The syndromes where errors stand in two lanes of a codeword. -/
theorem hasErrors_lanes {j k v w : Nat} (hv : v < 65536) (hw : w < 65536) :
    HasErrors z (syndrome (receivedSymbols b (fixSymbol (fixSymbol (encodeBlock b bytes) ⟨35 - j, v⟩) ⟨35 - k, w⟩)))
      ⟨35 - j, v⟩ ⟨35 - k, w⟩ := hasErrors_stored hz b bytes (Nat.sub_le 35 j) (Nat.sub_le 35 k) hv hw

/-- The syndromes where an error stands in one lane of a codeword. -/
theorem hasErrors_lane {k v : Nat} (hv : v < 65536) :
    HasErrors z (syndrome (receivedSymbols b (fixSymbol (encodeBlock b bytes) ⟨35 - k, v⟩))) ⟨35 - k, v⟩ ⟨35 - 0, 0⟩ := by
  simpa using hasErrors_lanes hz b bytes (k := 0) hv (Nat.zero_lt_succ _)

/-- One error at a virtual symbol is an address error, with a lane erased or none (R51, R52). -/
theorem decodeBlock_virtual_one {w : Codeword} {e : SymErr} {p : Nat} (erased : Option Nat) (he : e.Real) (hvirt : 36 ≤ e.pos)
    (h : HasErrors z (syndrome (receivedSymbols b w)) e ⟨p, 0⟩) : decodeBlock b w erased = .addrErr := by
  cases erased with
  | none => rw [decodeBlock_none, decodePlain_one hz w he h, if_pos hvirt]
  | some k =>
    have h' : HasErrors z (syndrome (receivedSymbols b w)) ⟨35 - k, 0⟩ e := fun i hi => by simpa using h i hi
    rw [decodeBlock_some, decodeErased_one hz w (by decide) he (by omega) h', if_pos hvirt]

/-- Errors at both virtual symbols are an address error, with a lane erased or none (R51, R52). -/
theorem decodeBlock_virtual_two {w : Codeword} {e f : SymErr} (erased : Option Nat) (he : e.Real) (hf : f.Real)
    (he36 : e.pos = 36) (hf37 : f.pos = 37) (h : HasErrors z (syndrome (receivedSymbols b w)) e f) :
    decodeBlock b w erased = .addrErr := by
  cases erased with
  | none => rw [decodeBlock_none, decodePlain_two hz w he hf (by omega) h, if_pos (by omega)]
  | some k => rw [decodeBlock_some, decodeErased_address hz w he hf he36 hf37 h]

end

/-- Settles O10: the syndromes of a codeword under its own address are 0. -/
theorem storedBlocksReadBack : Obligations.StoredBlocksReadBack := by
  intro b bytes erased hlen _
  cases erased with
  | none => simp [decodePlain, syndrome_encodeBlock, cwBytes_encodeBlock hlen]
  | some k =>
    obtain ⟨z, hz⟩ := exists_isGfRoot
    have h := hasErrors_lane hz b bytes (k := k) (v := 0) (by decide)
    rw [fixSymbol_zero] at h
    rw [decodeBlock_some, decodeErased_alone hz _ (by decide) h, fixSymbol_zero, cwBytes_encodeBlock hlen]

/-- Settles O11: the error leaves syndromes in geometric progression, whose ratio is its place. -/
theorem oneSymbolErrorIsCorrected : Obligations.OneSymbolErrorIsCorrected := by
  intro b k v bytes hlen hk hv0 hv
  obtain ⟨z, hz⟩ := exists_isGfRoot
  rw [xor_eq_fixSymbol _ v hk, decodeBlock_none, decodePlain_one hz _ (real_of_lane hv0 hv) (hasErrors_lane hz b bytes hv),
    if_neg (not_virtual_of_lane k v), fixSymbol_fixSymbol, cwBytes_encodeBlock hlen, lane_of_lane hk]

/-- Settles O12: the locator of two errors is 0 at their two places alone. -/
theorem twoSymbolErrorsAreCorrected : Obligations.TwoSymbolErrorsAreCorrected := by
  intro b j k v w bytes hlen hjk hk hv0 hv hw0 hw
  obtain ⟨z, hz⟩ := exists_isGfRoot
  have h := (hasErrors_lanes hz b bytes (j := j) (k := k) hv hw).symm
  have hj := hjk.trans hk
  rw [xor_eq_fixSymbol _ v hj, xor_eq_fixSymbol _ w hk, decodeBlock_none,
    decodePlain_two hz _ (real_of_lane hw0 hw) (real_of_lane hv0 hv) (Nat.sub_lt_sub_left (by omega) hjk) h,
    if_neg (not_virtual_of_lane j v), fixSymbol_fixSymbol, fixSymbol_fixSymbol, cwBytes_encodeBlock hlen, lane_of_lane hj,
    lane_of_lane hk]

/-- Settles O13: the codeword differs from one of the address read in V0 and V1 alone, where no stored error stands. -/
theorem wrongAddressIsAnAddressError : Obligations.WrongAddressIsAnAddressError := by
  intro b c bytes erased _ hb hc hbc _
  obtain ⟨z, hz⟩ := exists_isGfRoot
  have h := hasErrors_address hz b c bytes
  have hdiff : b % 65536 ^^^ c % 65536 ≠ 0 ∨ b / 65536 % 65536 ^^^ c / 65536 % 65536 ≠ 0 := by
    rw [Ne, Nat.xor_eq_zero_iff, Ne, Nat.xor_eq_zero_iff]
    omega
  have hu : b % 65536 ^^^ c % 65536 < 65536 :=
    Nat.xor_lt_two_pow (n := 16) (Nat.mod_lt _ (by decide)) (Nat.mod_lt _ (by decide))
  have hv : b / 65536 % 65536 ^^^ c / 65536 % 65536 < 65536 :=
    Nat.xor_lt_two_pow (n := 16) (Nat.mod_lt _ (by decide)) (Nat.mod_lt _ (by decide))
  generalize b % 65536 ^^^ c % 65536 = u at *
  generalize b / 65536 % 65536 ^^^ c / 65536 % 65536 = v at *
  have hu36 (h0 : 0 < u) : SymErr.Real ⟨36, u⟩ := ⟨(by decide : 36 < 38), h0, hu⟩
  have hv37 (h0 : 0 < v) : SymErr.Real ⟨37, v⟩ := ⟨(by decide : 37 < 38), h0, hv⟩
  obtain rfl | hu0 := Nat.eq_zero_or_pos u
  · exact decodeBlock_virtual_one hz c erased (hv37 (by omega)) (Nat.le_succ 36) h.symm
  obtain rfl | hv0 := Nat.eq_zero_or_pos v
  · exact decodeBlock_virtual_one hz c erased (hu36 hu0) (le_refl 36) h
  · exact decodeBlock_virtual_two hz c erased (hu36 hu0) (hv37 hv0) rfl rfl h

/-- Settles O14: without the erased lane's contribution the syndromes are those of the other error alone. -/
theorem erasedLaneIsFilledInUncounted : Obligations.ErasedLaneIsFilledInUncounted := by
  intro b k v bytes hlen hk hv
  obtain ⟨z, hz⟩ := exists_isGfRoot
  rw [xor_eq_fixSymbol _ v hk]
  constructor
  · rw [decodeBlock_some, decodeErased_alone hz _ hv (hasErrors_lane hz b bytes hv), fixSymbol_fixSymbol,
      cwBytes_encodeBlock hlen]
  · intro j w hj hjk hw0 hw
    rw [xor_eq_fixSymbol _ w hj, decodeBlock_some, decodeErased_one hz _ hv (real_of_lane hw0 hw)
      (by simp only [ne_eq]; omega) (hasErrors_lanes hz b bytes hv hw), if_neg (not_virtual_of_lane j w), fixSymbol_fixSymbol,
      fixSymbol_fixSymbol, cwBytes_encodeBlock hlen, lane_of_lane hj]

end Sys2Proof.Machine
end

section
/-! The Cellar's channels: stored codewords, and what interrupts, limp conditions, the loss of a channel and the reports of
a read change and leave unchanged (R51 to R63). -/

namespace Sys2Proof.Machine

/-! ### Stored codewords and the hidden state of channels -/

section
variable (s : State)

@[simp] theorem State.reg_setChan (c : Nat) (x : Chan) (off : Nat) : (s.setChan c x).reg off = s.reg off := rfl
@[simp] theorem State.get_setChan (c : Nat) (x : Chan) (f : Fld) : (s.setChan c x).get f = s.get f := rfl
@[simp] theorem State.reg_setCodeword (b : Nat) (w : Codeword) (off : Nat) : (s.setCodeword b w).reg off = s.reg off := rfl
@[simp] theorem State.get_setCodeword (b : Nat) (w : Codeword) (f : Fld) : (s.setCodeword b w).get f = s.get f := rfl
@[simp] theorem State.chanOnline_setChan (c : Nat) (x : Chan) (d : Nat) :
    (s.setChan c x).chanOnline d = s.chanOnline d := rfl
@[simp] theorem State.words_setChan (c : Nat) (x : Chan) : (s.setChan c x).cellar.words = s.cellar.words := rfl
@[simp] theorem State.codeword_setChan (c : Nat) (x : Chan) (b : Nat) : (s.setChan c x).codeword b = s.codeword b := rfl
@[simp] theorem State.chan_setCodeword (b : Nat) (w : Codeword) (c : Nat) : (s.setCodeword b w).chan c = s.chan c := rfl
@[simp] theorem State.chan_set (f : Fld) (v c : Nat) : (s.set f v).chan c = s.chan c := rfl
@[simp] theorem State.chan_bump (f : Fld) (n c : Nat) : (s.bump f n).chan c = s.chan c := rfl

@[simp] theorem State.chan_setChan_same (c : Nat) (x : Chan) : (s.setChan c x).chan c = x := Tbl.get_set_same _ _ _ _

@[simp] theorem State.codeword_setCodeword_same (b : Nat) (w : Codeword) : (s.setCodeword b w).codeword b = w :=
  Tbl.get_set_same _ _ _ _

theorem State.codeword_setCodeword_other {b x : Nat} (w : Codeword) (h : x ≠ b) :
    (s.setCodeword b w).codeword x = s.codeword x := Tbl.get_set_other _ _ _ _ h

theorem State.get_congr {u : State} {f : Fld} (h : u.reg f.off = s.reg f.off) : u.get f = s.get f := by
  rw [State.get, State.get, h]

/-- A counter of 32 bits counts one more, saturating. -/
theorem State.get_bump_same {f : Fld} (hlo : f.lo = 0) (hw : f.width = 32) :
    (s.bump f).get f = min (s.get f + 1) (2 ^ 32 - 1) := by
  rw [State.bump, State.get_set_same _ _ _ (by omega), satAdd, hw]
  omega

theorem State.reg_bump_other {f : Fld} {off : Nat} (n : Nat) (h : off ≠ f.off) : (s.bump f n).reg off = s.reg off :=
  s.reg_set_other _ h

theorem State.reg_setBit_other {f : Fld} {off : Nat} (k : Nat) (b : Bool) (h : off ≠ f.off) :
    (s.setBit f k b).reg off = s.reg off := s.reg_set_other _ h

/-! ### Interrupts and limp conditions -/

/-- A message changes neither registers nor the Cellar. -/
theorem State.sendMsi_frame (v : Nat) : (s.sendMsi v).regs = s.regs ∧ (s.sendMsi v).cellar = s.cellar := by
  unfold State.sendMsi
  split <;> exact ⟨rfl, rfl⟩

theorem sendNewMsi_frame (old : State) : (sendNewMsi old s).regs = s.regs ∧ (sendNewMsi old s).cellar = s.cellar := by
  unfold sendNewMsi
  refine foldl_keeps (fun u => u.regs = s.regs ∧ u.cellar = s.cellar) _ (fun u v hu => ?_) _ s ⟨rfl, rfl⟩
  split
  · exact ⟨(u.sendMsi_frame v).1.trans hu.1, (u.sendMsi_frame v).2.trans hu.2⟩
  · exact hu

@[simp] theorem State.cellar_cause (f : Fld) (v : Nat) : (s.cause f v).cellar = s.cellar :=
  (sendNewMsi_frame (s.set f _) s).2

theorem State.reg_cause_other {f : Fld} {off : Nat} (v : Nat) (h : off ≠ f.off) : (s.cause f v).reg off = s.reg off :=
  (State.reg_congr (sendNewMsi_frame (s.set f _) s).1 off).trans (s.reg_set_other _ h)

@[simp] theorem State.cellar_summary (k n : Nat) : (s.summary k n).cellar = s.cellar := by
  unfold State.summary
  split <;> rfl

/-- The counters of R501 lie in the HEALTH block. -/
theorem State.reg_summary_below {off : Nat} (k n : Nat) (h : off < 0xE0000) : (s.summary k n).reg off = s.reg off := by
  unfold State.summary
  split
  · rfl
  · exact s.reg_bump_other n (by simp only [F.HEALTH_SUMMARY]; omega)

@[simp] theorem State.cellar_queueHealth (e : HealthEvent) : (s.queueHealth e).cellar = s.cellar := by
  unfold State.queueHealth
  split <;> simp

theorem State.reg_queueHealth_below {off : Nat} (e : HealthEvent) (h : off < 0xE0000) :
    (s.queueHealth e).reg off = s.reg off := by
  unfold State.queueHealth
  split
  · rfl
  · rw [State.reg_cause_other _ _ (by simp only [F.HEALTH_INT_STATUS_LOG_LOST]; omega),
      State.reg_bump_other _ _ (by simp only [F.HEALTH_LOG_STATUS_LOST]; omega)]

@[simp] theorem State.cellar_limpRaise (code inst : Nat) : (s.limpRaise code inst).cellar = s.cellar := by
  unfold State.limpRaise
  split
  · rfl
  · dsimp only
    split <;> simp

/-- A limp condition is shown in the HEALTH block alone. -/
theorem State.reg_limpRaise_below {off : Nat} (code inst : Nat) (h : off < 0xE0000) :
    (s.limpRaise code inst).reg off = s.reg off := by
  have hne : ∀ x, 0xE0000 ≤ x → off ≠ x := fun x hx => by omega
  unfold State.limpRaise
  split
  · rfl
  dsimp only
  rw [State.reg_queueHealth_below _ _ h]
  split
  · rw [State.reg_set_other _ _ (hne _ (by decide)), State.reg_cause_other _ _ (hne _ (by decide)),
      State.reg_set_other _ _ (hne _ (by decide)), State.reg_cause_other _ _ (hne _ (by decide)),
      State.reg_setBit_other _ _ _ (hne _ (by decide))]
    rfl
  · rw [State.reg_set_other _ _ (hne _ (by decide)), State.reg_cause_other _ _ (hne _ (by decide)),
      State.reg_setBit_other _ _ _ (hne _ (by decide))]
    rfl

end

/-! ### What an update leaves at one register and in the blocks -/

/-- Two states have the same word in a register and store the same codewords. -/
def SameAt (off : Nat) (s u : State) : Prop := u.reg off = s.reg off ∧ u.cellar.words = s.cellar.words

section
variable {s u : State} {off : Nat}

theorem SameAt.refl (s : State) (off : Nat) : SameAt off s s := ⟨rfl, rfl⟩

theorem SameAt.get {f : Fld} (h : SameAt f.off s u) : u.get f = s.get f := State.get_congr s h.1

theorem SameAt.set (h : SameAt off s u) {f : Fld} (v : Nat) (hf : off ≠ f.off) : SameAt off s (u.set f v) :=
  ⟨(u.reg_set_other v hf).trans h.1, h.2⟩

theorem SameAt.bump (h : SameAt off s u) {f : Fld} (n : Nat) (hf : off ≠ f.off) : SameAt off s (u.bump f n) := h.set _ hf

theorem SameAt.setBit (h : SameAt off s u) {f : Fld} (k : Nat) (b : Bool) (hf : off ≠ f.off) : SameAt off s (u.setBit f k b) :=
  h.set _ hf

theorem SameAt.cause (h : SameAt off s u) {f : Fld} (v : Nat) (hf : off ≠ f.off) : SameAt off s (u.cause f v) :=
  ⟨(u.reg_cause_other v hf).trans h.1, by rw [State.cellar_cause]; exact h.2⟩

theorem SameAt.summary (h : SameAt off s u) (k n : Nat) (hoff : off < 0xE0000) : SameAt off s (u.summary k n) :=
  ⟨(u.reg_summary_below k n hoff).trans h.1, by rw [State.cellar_summary]; exact h.2⟩

theorem SameAt.limpRaise (h : SameAt off s u) (code inst : Nat) (hoff : off < 0xE0000) : SameAt off s (u.limpRaise code inst) :=
  ⟨(u.reg_limpRaise_below code inst hoff).trans h.1, by rw [State.cellar_limpRaise]; exact h.2⟩

theorem SameAt.setChan (h : SameAt off s u) (c : Nat) (x : Chan) : SameAt off s (u.setChan c x) := h

end

/-! ### The loss of a channel -/

/-- The channel status once it says that the channel is lost. -/
def State.markLost (s : State) (c cause : Nat) : State :=
  ((s.set (F.CH_STATUS_STATE c) 4).set (F.CH_STATUS_LOST_CAUSE c) cause).set (F.CH_STATUS_LOST_CAUSE_VALID c) 1

section
variable (s : State) {c off : Nat} (cause : Nat)

theorem State.markLost_shows :
    (s.markLost c cause).get (F.CH_STATUS_STATE c) = 4 ∧ (s.markLost c cause).get (F.CH_STATUS_LOST_CAUSE c) = cause % 8 ∧
      (s.markLost c cause).get (F.CH_STATUS_LOST_CAUSE_VALID c) = 1 := by
  have hstate : (F.CH_STATUS_STATE c).lo + (F.CH_STATUS_STATE c).width ≤ 32 := by simp [F.CH_STATUS_STATE]
  have hcause : (F.CH_STATUS_LOST_CAUSE c).lo + (F.CH_STATUS_LOST_CAUSE c).width ≤ 32 := by simp [F.CH_STATUS_LOST_CAUSE]
  have hvalid : (F.CH_STATUS_LOST_CAUSE_VALID c).lo + (F.CH_STATUS_LOST_CAUSE_VALID c).width ≤ 32 := by
    simp [F.CH_STATUS_LOST_CAUSE_VALID]
  refine ⟨?_, ?_, State.get_set_same _ _ _ hvalid⟩
  · rw [State.markLost, State.get_set_apart _ _ hvalid (.inr (.inr (by simp [F.CH_STATUS_LOST_CAUSE_VALID, F.CH_STATUS_STATE]))),
      State.get_set_apart _ _ hcause (.inr (.inr (by simp [F.CH_STATUS_LOST_CAUSE, F.CH_STATUS_STATE]))),
      State.get_set_same _ _ _ hstate]
    rfl
  · rw [State.markLost,
      State.get_set_apart _ _ hvalid (.inr (.inl (by simp [F.CH_STATUS_LOST_CAUSE_VALID, F.CH_STATUS_LOST_CAUSE]))),
      State.get_set_same _ _ _ hcause]
    rfl

/-- The loss of an online channel marks it lost; beside that it changes CELLAR_STATUS, INT_STATUS and the HEALTH block. -/
theorem State.sameAt_loseChannel_markLost (hon : s.chanOnline c = true) (hcellar : off ≠ F.CELLAR_STATUS.off)
    (hint : off ≠ F.CELLAR_INT_STATUS.off) (hoff : off < 0xE0000) : SameAt off (s.markLost c cause) (s.loseChannel c cause) := by
  rw [State.loseChannel, hon, Bool.true_or, if_pos rfl]
  refine .limpRaise (.cause (.setChan (.set (.setBit (.refl _ off) _ _ ?_) _ ?_) _ _) _ ?_) _ _ hoff
  exacts [hcellar, hcellar, hint]

/-- A channel that is declared lost shows state OFFLINE and the cause (R62, R63). -/
theorem State.loseChannel_shows (hc : c < 12) (hon : s.chanOnline c = true) :
    (s.loseChannel c cause).get (F.CH_STATUS_STATE c) = 4 ∧
      (s.loseChannel c cause).get (F.CH_STATUS_LOST_CAUSE c) = cause % 8 ∧
      (s.loseChannel c cause).get (F.CH_STATUS_LOST_CAUSE_VALID c) = 1 := by
  have h := s.sameAt_loseChannel_markLost (off := (F.CH_STATUS c).off) cause hon
    (by simp only [F.CH_STATUS, F.CELLAR_STATUS]; omega) (by simp only [F.CH_STATUS, F.CELLAR_INT_STATUS]; omega)
    (by simp only [F.CH_STATUS]; omega)
  obtain ⟨hstate, hcause, hvalid⟩ := s.markLost_shows (c := c) cause
  exact ⟨(SameAt.get (f := F.CH_STATUS_STATE c) h).trans hstate, (SameAt.get (f := F.CH_STATUS_LOST_CAUSE c) h).trans hcause,
    (SameAt.get (f := F.CH_STATUS_LOST_CAUSE_VALID c) h).trans hvalid⟩

end

/-! ### Reports of a read -/

/-- A register that no report of a read of channel `c` changes. -/
def Unreported (c off : Nat) : Prop :=
  off < 0xE0000 ∧ off ≠ F.CELLAR_STATUS.off ∧ off ≠ F.CELLAR_INT_STATUS.off ∧ off ≠ F.CELLAR_CORR_TOTAL.off ∧
    off ≠ F.CELLAR_UNCORR_TOTAL.off ∧ off ∉ [(F.CH_STATUS c).off, (F.CH_CORR1 c).off, (F.CH_CORR2 c).off, (F.CH_UNCORR c).off,
      (F.CH_ADDR_ERR c).off, (F.CH_LAST_ERR_BLOCK c).off, (F.CH_LAST_ERR_INFO c).off, (F.CH_LANE_WATCH c).off]

theorem unreported_scrubPos {c : Nat} (hc : c < 12) : Unreported c (F.CH_SCRUB_POS c).off := by
  simp only [Unreported, F.CH_SCRUB_POS, F.CELLAR_STATUS, F.CELLAR_INT_STATUS, F.CELLAR_CORR_TOTAL, F.CELLAR_UNCORR_TOTAL,
    F.CH_STATUS, F.CH_CORR1, F.CH_CORR2, F.CH_UNCORR, F.CH_ADDR_ERR, F.CH_LAST_ERR_BLOCK, F.CH_LAST_ERR_INFO, F.CH_LANE_WATCH,
    List.mem_cons, List.not_mem_nil, or_false]
  omega

section
variable {s u : State} {c off : Nat} (hu : Unreported c off)
include hu

theorem SameAt.loseChannel (h : SameAt off s u) (cause : Nat) : SameAt off s (u.loseChannel c cause) := by
  obtain ⟨hoff, hcellar, hint, -, -, hch⟩ := hu
  simp only [List.mem_cons, not_or] at hch
  unfold State.loseChannel
  split
  · refine .limpRaise (.cause (.setChan (.set (.setBit (.set (.set (.set h _ ?_) _ ?_) _ ?_) _ _ ?_) _ ?_) _ _) _ ?_) _ _ hoff
    exacts [hch.1, hch.1, hch.1, hcellar, hcellar, hint]
  · exact h

theorem SameAt.enterHistory (h : SameAt off s u) (lanes : List Nat) : SameAt off s (u.enterHistory c lanes) := by
  have hu' := hu
  obtain ⟨hoff, -, hint, -, -, hch⟩ := hu
  simp only [List.mem_cons, not_or, List.not_mem_nil, not_false_eq_true, and_true] at hch
  obtain ⟨hstatus, -, -, -, -, -, -, hwatch⟩ := hch
  unfold State.enterHistory
  refine .set (.set (foldl_keeps (SameAt off s) _ (fun a l ha => ?_) _ _ (h.setChan c _)) _ ?_) _ ?_
  case refine_2 => exact hwatch
  case refine_3 => exact hwatch
  split
  · exact ha
  split
  · refine .limpRaise (.cause (.set (.set (.set ha _ ?_) _ ?_) _ ?_) _ ?_) _ _ hoff
    exacts [hstatus, hstatus, hstatus, hint]
  · split
    · exact ha
    · exact ha.loseChannel hu' 3

theorem SameAt.lastCellarErr (h : SameAt off s u) (b kind : Nat) (scrub : Bool) :
    SameAt off s (u.lastCellarErr c b kind scrub) := by
  obtain ⟨-, -, -, -, -, hch⟩ := hu
  simp only [List.mem_cons, not_or, List.not_mem_nil, not_false_eq_true, and_true] at hch
  obtain ⟨-, -, -, -, -, hblock, hinfo, -⟩ := hch
  refine .set (.set (.set h _ ?_) _ ?_) _ ?_
  exacts [hblock, hinfo, hinfo]

theorem SameAt.uncorrRate (h : SameAt off s u) : SameAt off s (u.uncorrRate c) := by
  unfold State.uncorrRate
  dsimp only
  split
  · exact (h.setChan c _).loseChannel hu 2
  · exact h.setChan c _

/-- The report of a read stores nothing, and leaves the registers that say nothing of reads. -/
theorem SameAt.reportRead (h : SameAt off s u) (b : Nat) (scrub : Bool) (o : ReadOutcome) :
    SameAt off s (u.reportRead c b scrub o) := by
  have hu' := hu
  obtain ⟨hoff, -, hint, hcorr, huncorr, hch⟩ := hu
  simp only [List.mem_cons, not_or, List.not_mem_nil, not_false_eq_true, and_true] at hch
  obtain ⟨-, hone, htwo, hunc, haddr, -⟩ := hch
  unfold State.reportRead
  split
  · exact h
  · refine .enterHistory hu' (.summary (.cause (.bump (.bump h _ ?_) _ ?_) _ ?_) _ _ hoff) _
    · split
      · exact hone
      · exact htwo
    · exact hcorr
    · exact hint
  · refine .summary (.cause (.lastCellarErr hu' (.bump (.bump h _ ?_) _ ?_) _ _ _) _ ?_) _ _ hoff
    exacts [haddr, huncorr, hint]
  · refine .uncorrRate hu' (.summary (.cause (.lastCellarErr hu' (.bump (.bump h _ ?_) _ ?_) _ _ _) _ ?_) _ _ hoff)
    exacts [hunc, huncorr, hint]

end

end Sys2Proof.Machine
end

section
/-! What becomes of the rows of the Cellar: accesses, probes and scrub steps (R51, R58 to R63). -/

namespace Sys2Proof.Machine

/-! ### Commands of the running core -/

theorem Live.gives_of_coreStep {s a : State} {t : Nat} (h : Live s t a) {c : Instr} {f : State → State}
    (hc : exec c s = coreStep t f s) : Gives c s (f a) := by
  obtain ⟨hrun, rfl⟩ := h
  exact hc.trans (coreStep_run hrun)

/-! ### Accesses of a lost channel (R63) -/

section
variable (s : State)

theorem State.cellarRead_lost {b c : Nat} (hb : s.blockChannel b = some c) (hoff : s.chanOnline c = false) :
    s.cellarRead b = (none, s.countBlank c) := by simp [State.cellarRead, hb, hoff]

theorem State.cellarWrite_lost {b c : Nat} (bytes : List Byte) (hb : s.blockChannel b = some c) (hoff : s.chanOnline c = false) :
    s.cellarWrite b bytes = s.countBlank c := by simp [State.cellarWrite, hb, hoff]

theorem State.cellarPartialWrite_lost {b c : Nat} (off : Nat) (bytes : List Byte) (hb : s.blockChannel b = some c)
    (hoff : s.chanOnline c = false) : s.cellarPartialWrite b off bytes = (false, s.countBlank c) := by
  simp [State.cellarPartialWrite, hb, hoff]

theorem State.sameMemory_countBlank (c : Nat) : SameMemory s (s.countBlank c) := by
  simp only [SameMemory, State.countBlank, State.host_bump, State.pmem_bump, State.perr_bump, State.cellar_bump, State.otp_bump,
    State.msix_bump, and_self]

/-- The channel's BLANK and the block's BLANK_TOTAL are two registers. -/
theorem blank_ne_blankTotal {c : Nat} (hc : c < 12) : (F.CH_BLANK c).off ≠ F.CELLAR_BLANK_TOTAL.off := by
  simp only [F.CH_BLANK, F.CELLAR_BLANK_TOTAL]; omega

theorem State.countBlank_counts {c : Nat} (hc : c < 12) :
    (s.countBlank c).get (F.CH_BLANK c) = min (s.get (F.CH_BLANK c) + 1) (2 ^ 32 - 1) ∧
      (s.countBlank c).get F.CELLAR_BLANK_TOTAL = min (s.get F.CELLAR_BLANK_TOTAL + 1) (2 ^ 32 - 1) := by
  constructor
  · rw [State.countBlank, State.get_congr _ (State.reg_bump_other _ 1 (blank_ne_blankTotal hc)), State.get_bump_same _ rfl rfl]
  · rw [State.countBlank, State.get_bump_same _ rfl rfl,
      State.get_congr _ (State.reg_bump_other _ 1 (blank_ne_blankTotal hc).symm)]

end

/-- Settles O16: a lost channel answers every access with its two counters and nothing else. -/
theorem lostChannelsDeliverNothing : Obligations.LostChannelsDeliverNothing := by
  intro s a t b c off bytes hlive hc hb hoff
  obtain ⟨hblank, htotal⟩ := a.countBlank_counts hc
  refine ⟨by rw [a.cellarRead_lost hb hoff], by rw [a.cellarRead_lost hb hoff], a.cellarWrite_lost bytes hb hoff, ?_,
    hblank, htotal, fun o ho ho' => ?_, a.sameMemory_countBlank c⟩
  · have := hlive.gives_of_coreStep (exec_cellarPartialWrite t b off bytes s)
    rwa [a.cellarPartialWrite_lost _ _ hb hoff] at this
  · rw [State.countBlank, State.reg_bump_other _ 1 ho', State.reg_bump_other _ 1 ho]

/-! ### Writes and the scrub (R59) -/

/-- A write that overtakes the write-back of the scrub. -/
theorem State.cellarWrite_overtakes (s : State) {b c : Nat} {w : Codeword} (bytes : List Byte) (hb : s.blockChannel b = some c)
    (hon : s.chanOnline c = true) (hw : (s.chan c).scrub = some (b, w)) :
    s.cellarWrite b bytes = ((s.setChan c { s.chan c with writes := (s.chan c).writes + 1, scrub := none }).bump
      (F.CH_SCRUB_CANCEL c)).setCodeword b (encodeBlock b bytes) := by
  simp [State.cellarWrite, hb, hon, hw]

/-- Settles O18: the write finds the block held by the scrub, and drops it. -/
theorem newerDataOvertakeTheScrub : Obligations.NewerDataOvertakeTheScrub := by
  intro s b c w bytes _ hb hon hw
  rw [s.cellarWrite_overtakes bytes hb hon hw]
  refine ⟨by simp, by simp, ?_⟩
  rw [State.get_setCodeword, State.get_bump_same _ rfl rfl, State.get_setChan]

/-! ### Probes (R62) -/

theorem State.chanOnline_state (s : State) {c : Nat} (h : s.chanOnline c = true) :
    s.get (F.CH_STATUS_STATE c) = 2 ∨ s.get (F.CH_STATUS_STATE c) = 3 := of_decide_eq_true h

/-- A channel that is online is probed. -/
theorem State.probe_due (s : State) {c : Nat} (hc : c < 12) (h : s.chanOnline c = true) :
    ¬ (s.get (F.CH_STATUS_STATE c) < 2 ∨ 12 ≤ c) := by
  obtain h | h := s.chanOnline_state h <;> omega

/-- What a probe of an online channel does that reads the refresh-rate field. -/
theorem Live.gives_probe_read {s a : State} {t c v : Nat} (h : Live s t a) (hc : c < 12) (hon : a.chanOnline c = true) :
    Gives (.cellarProbe t c (some v)) s
      ((a.setChan c { a.chan c with probeFails := 0 }).set (F.CH_STATUS_DRAM_TEMP c) v) := by
  have := h.gives_of_coreStep (exec_cellarProbe t c (some v) s)
  simpa only [if_neg (a.probe_due hc hon), State.chanOnline_setChan, hon, if_true] using this

/-- What a failing probe of an online channel does. -/
theorem Live.gives_probe_failed {s a : State} {t c : Nat} (h : Live s t a) (hc : c < 12) (hon : a.chanOnline c = true) :
    Gives (.cellarProbe t c none) s
      (if 2 ≤ (a.chan c).probeFails + 1 then
        ((a.bump (F.CH_PROBE_FAIL c)).setChan c { a.chan c with probeFails := (a.chan c).probeFails + 1 }).loseChannel c 1
      else (a.bump (F.CH_PROBE_FAIL c)).setChan c { a.chan c with probeFails := (a.chan c).probeFails + 1 }) := by
  have := h.gives_of_coreStep (exec_cellarProbe t c none s)
  simpa only [if_neg (a.probe_due hc hon)] using this

theorem State.chanOnline_bump_probeFail (s : State) {c : Nat} (n : Nat) :
    (s.bump (F.CH_PROBE_FAIL c) n).chanOnline c = s.chanOnline c := by
  rw [State.chanOnline, State.get_congr _ (State.reg_bump_other _ n (by simp only [F.CH_PROBE_FAIL, F.CH_STATUS_STATE]; omega))]
  rfl

/-! ### Steps of the scrub (R58, R59) -/

/-- The channel's scrub runs. -/
def State.scrubs (s : State) (c : Nat) : Prop :=
  s.chanOnline c = true ∧ s.flag (F.CH_CTRL_SCRUB_EN c) = true ∧ s.cellar.layout.contains c = true

theorem Live.gives_scrub_writeBack {s a : State} {t c b : Nat} {w : Codeword} (h : Live s t a) (hs : a.scrubs c)
    (hw : (a.chan c).scrub = some (b, w)) :
    Gives (.scrubStep t c) s
      ((a.setChan c { a.chan c with scrub := none, writes := (a.chan c).writes + 1 }).setCodeword b w) := by
  obtain ⟨hon, hen, hin⟩ := hs
  have := h.gives_of_coreStep (exec_scrubStep t c s)
  simpa only [hon, hen, hin, hw, Bool.not_true, Bool.or_self, Bool.false_eq_true, if_false] using this

/-- A scrub step of channel `c` has read the row at SCRUB_POS, and SCRUB_POS has moved on. -/
def State.scrubRead (s : State) (c : Nat) : State :=
  let row := s.get (F.CH_SCRUB_POS c)
  let b := row * s.layoutN + s.layoutPos c
  let o := decodeBlock b (s.codeword b) (s.erasedLane c)
  let back := match o with
    | .good _ lanes w => if lanes = [] then none else some (b, w)
    | _ => none
  let wrap := decide (row + 1 = channelRows)
  let s1 := s.setChan c { s.chan c with reads := (s.chan c).reads + 1, scrub := back, passes := (s.chan c).passes + b2n wrap }
  (s1.set (F.CH_SCRUB_POS c) (if wrap then 0 else row + 1)).reportRead c b true o

/-- The registers of the block follow the scrub's progress. -/
def State.scrubReport (s : State) (before : Nat) : State :=
  let s1 := (s.set F.CELLAR_SCRUB_STATUS_PASSES s.scrubPasses).set F.CELLAR_SCRUB_STATUS_PROGRESS
    (s.scrubProgress * 256 / channelRows)
  if before < s.scrubPasses then s1.cause F.CELLAR_INT_STATUS_SCRUB_PASS else s1

theorem Live.gives_scrub_read {s a : State} {t c : Nat} (h : Live s t a) (hs : a.scrubs c) (hw : (a.chan c).scrub = none) :
    Gives (.scrubStep t c) s ((a.scrubRead c).scrubReport a.scrubPasses) := by
  obtain ⟨hon, hen, hin⟩ := hs
  have := h.gives_of_coreStep (exec_scrubStep t c s)
  simp only [hon, hen, hin, hw, Bool.not_true, Bool.or_self, Bool.false_eq_true, if_false] at this
  exact this

/-- A read of the scrub moves SCRUB_POS on to the next row, after the last one to row 0, and stores nothing. -/
theorem State.sameAt_scrubRead (s : State) {c : Nat} (hc : c < 12) :
    SameAt (F.CH_SCRUB_POS c).off (s.set (F.CH_SCRUB_POS c)
      (if s.get (F.CH_SCRUB_POS c) + 1 = channelRows then 0 else s.get (F.CH_SCRUB_POS c) + 1)) (s.scrubRead c) := by
  rw [← if_congr (decide_eq_true_iff) rfl rfl]
  exact .reportRead (unreported_scrubPos hc) ⟨rfl, rfl⟩ _ _ _

theorem SameAt.scrubReport {s u : State} {off : Nat} (h : SameAt off s u) (before : Nat)
    (hstatus : off ≠ F.CELLAR_SCRUB_STATUS.off) (hint : off ≠ F.CELLAR_INT_STATUS.off) : SameAt off s (u.scrubReport before) := by
  unfold State.scrubReport
  dsimp only
  split
  · refine .cause (.set (.set h _ ?_) _ ?_) _ ?_
    exacts [hstatus, hstatus, hint]
  · refine .set (.set h _ ?_) _ ?_
    exacts [hstatus, hstatus]

/-- Settles O17: each row does what its chapter says on an online channel. -/
theorem cellarCommandsTakeEffect : Obligations.CellarCommandsTakeEffect := by
  intro s a t hlive
  refine ⟨fun b errors => hlive.gives_of_coreStep (exec_cellarRead t b errors s), ?_, ?_, ?_, ?_, ?_, ?_⟩
  case refine_1 =>
    intro b off bytes hlen hoff
    have := hlive.gives_of_coreStep (exec_cellarPartialWrite t b off bytes s)
    rwa [Nat.mod_eq_of_lt hoff, List.take_of_length_le (by omega)] at this
  case refine_2 =>
    intro c v hc hon hv
    refine ⟨_, hlive.gives_probe_read hc hon, ?_, by simp⟩
    rw [State.get_set_same _ _ _ (by simp [F.CH_STATUS_DRAM_TEMP])]
    exact Nat.mod_eq_of_lt hv
  case refine_3 =>
    intro c hc hon h0
    have hgives := hlive.gives_probe_failed hc hon
    rw [h0, if_neg (by decide)] at hgives
    refine ⟨_, hgives, by simp, ?_, ?_⟩
    · rw [State.get_setChan, State.get_bump_same _ rfl rfl]
    · rw [State.get_setChan, State.get_congr _ (State.reg_bump_other _ 1
        (by simp only [F.CH_PROBE_FAIL, F.CH_STATUS_STATE]; omega))]
  case refine_4 =>
    intro c hc hon h1
    have hgives := hlive.gives_probe_failed hc hon
    rw [if_pos (by omega)] at hgives
    obtain ⟨hstate, hcause, hvalid⟩ := State.loseChannel_shows ((a.bump (F.CH_PROBE_FAIL c)).setChan c
      { a.chan c with probeFails := (a.chan c).probeFails + 1 }) 1 hc
      (by rw [State.chanOnline_setChan, State.chanOnline_bump_probeFail, hon])
    exact ⟨_, hgives, hstate, hcause, by rw [State.flag, hvalid]; rfl⟩
  case refine_5 =>
    intro c b w _ hon hen hin hw
    exact ⟨_, hlive.gives_scrub_writeBack ⟨hon, hen, hin⟩ hw, by simp, by simp,
      fun x hx => State.codeword_setCodeword_other _ _ hx⟩
  case refine_6 =>
    intro c hc hon hen hin hw
    obtain ⟨hreg, hwords⟩ := (a.sameAt_scrubRead hc).scrubReport a.scrubPasses
      (by simp only [F.CH_SCRUB_POS, F.CELLAR_SCRUB_STATUS]; omega) (by simp only [F.CH_SCRUB_POS, F.CELLAR_INT_STATUS]; omega)
    refine ⟨_, hlive.gives_scrub_read ⟨hon, hen, hin⟩ hw, hwords, ?_⟩
    rw [State.get_congr _ hreg, State.get_set_same _ _ _ (by simp [F.CH_SCRUB_POS])]
    split <;> rfl

end Sys2Proof.Machine
end

section
/-! Delay rings: where the placement puts them, and which blocks the slots of a ring take (R42, R43). -/

namespace Sys2Proof.Machine

/-! ### The placement of rings (R42) -/

theorem ringBlocks_cons (r : Ring) (l : List Ring) : ringBlocks (r :: l) = r.depth * r.slot + ringBlocks l := by
  simp only [ringBlocks, List.map_cons]
  rw [← List.sum_eq_foldl, ← List.sum_eq_foldl, List.sum_cons]

/-- The ring that a row of a declared plane gets at block `b`. -/
def ringFor (e : RowEntry) (p : Plane) (b : Nat) : Ring :=
  { port := e.port, row := e.row, base := b, depth := e.delay + p.headroom, slot := slotBlocks e.n p.bits }

theorem placeRings_cons_some (g : Geo) (b : Nat) (e : RowEntry) (l : List RowEntry) {p : Plane} (hp : g.plane e.plane = some p) :
    placeRings g b (e :: l) =
      ringFor e p b :: placeRings g (b + (ringFor e p b).depth * (ringFor e p b).slot) l := by
  simp only [placeRings, hp]
  rfl

theorem placeRings_cons_none (g : Geo) (b : Nat) (e : RowEntry) (l : List RowEntry) (hp : g.plane e.plane = none) :
    placeRings g b (e :: l) = placeRings g b l := by
  simp only [placeRings, hp]

/-- Each ring starts where those before it end. -/
theorem base_placeRings (g : Geo) (l : List RowEntry) : ∀ {b i : Nat} {r : Ring}, (placeRings g b l)[i]? = some r →
    r.base = b + ringBlocks ((placeRings g b l).take i) := by
  induction l with
  | nil => intro b i r h; simp [placeRings] at h
  | cons e l ih =>
    intro b i r h
    cases hp : g.plane e.plane with
    | none =>
      rw [placeRings_cons_none g b e l hp] at h ⊢
      exact ih h
    | some p =>
      rw [placeRings_cons_some g b e l hp] at h ⊢
      cases i with
      | zero =>
        obtain rfl : ringFor e p b = r := by simpa using h
        rfl
      | succ i =>
        rw [List.take_succ_cons, ringBlocks_cons, ih (by simpa using h)]
        omega

/-- Each ring is that of a row whose plane is declared. -/
theorem mem_placeRings (g : Geo) (l : List RowEntry) : ∀ {b : Nat} {r : Ring}, r ∈ placeRings g b l →
    ∃ e ∈ l, ∃ p, g.plane e.plane = some p ∧ ∃ c, r = ringFor e p c := by
  induction l with
  | nil => intro b r h; simp [placeRings] at h
  | cons e l ih =>
    intro b r h
    have tail : ∀ {c : Nat}, r ∈ placeRings g c l →
        ∃ x ∈ e :: l, ∃ p, g.plane x.plane = some p ∧ ∃ c, r = ringFor x p c := by
      intro c hr
      obtain ⟨x, hx, hring⟩ := ih hr
      exact ⟨x, List.mem_cons_of_mem e hx, hring⟩
    cases hp : g.plane e.plane with
    | none => exact tail (placeRings_cons_none g b e l hp ▸ h)
    | some p =>
      rw [placeRings_cons_some g b e l hp, List.mem_cons] at h
      obtain rfl | h := h
      · exact ⟨e, List.mem_cons_self, p, hp, b, rfl⟩
      · exact tail h

/-! ### The slots of a ring (R43) -/

theorem Ring.mem_slotOf {r : Ring} {w b : Nat} :
    b ∈ r.slotOf w ↔ ∃ k, k < r.slot ∧ r.base + (w % r.depth) * r.slot + k = b := by
  simp [Ring.slotOf]

theorem Ring.slotOf_inside {r : Ring} {w b : Nat} (hd : 0 < r.depth) (hb : b ∈ r.slotOf w) :
    r.base ≤ b ∧ b < r.base + r.depth * r.slot := by
  obtain ⟨k, hk, rfl⟩ := Ring.mem_slotOf.1 hb
  have hline : (w % r.depth + 1) * r.slot ≤ r.depth * r.slot := Nat.mul_le_mul_right _ (Nat.mod_lt w hd)
  rw [Nat.add_mul, one_mul] at hline
  omega

/-- A block of a slot tells its line, modulo the depth. -/
theorem Ring.line_of_mem_slotOf {r : Ring} {w b : Nat} (hb : b ∈ r.slotOf w) : (b - r.base) / r.slot = w % r.depth := by
  obtain ⟨k, hk, rfl⟩ := Ring.mem_slotOf.1 hb
  rw [Nat.add_assoc, Nat.add_sub_cancel_left, Nat.mul_comm, Nat.mul_add_div (by omega), Nat.div_eq_of_lt hk, Nat.add_zero]

/-- Settles O19: the placement adds up the sizes of the rings, and a block of a ring belongs to one line. -/
theorem ringsLieContiguouslyFromBlockZero : Obligations.RingsLieContiguouslyFromBlockZero := by
  refine ⟨fun g i r h => ?_, fun g r h => ?_, fun r w x hd =>
    ⟨fun b hb => Ring.slotOf_inside hd hb, fun hne b hw hx => hne ?_⟩⟩
  · have := base_placeRings g g.rows h
    rwa [Nat.zero_add] at this
  · obtain ⟨e, he, p, hp, c, rfl⟩ := mem_placeRings g g.rows h
    exact ⟨e, he, p, hp, rfl, rfl, rfl, rfl⟩
  · rw [← Ring.line_of_mem_slotOf hw, ← Ring.line_of_mem_slotOf hx]

end Sys2Proof.Machine
end

section
/-! Payloads of packets: the tokens of R85 to R88 one at a time, and the line that a whole payload decodes to (R87). -/

namespace Sys2Proof.Machine

/-! ### One token (R85) -/

/-- What a token gives: how many units, how many payload bytes belong to it beside its first, and what is decoded then. -/
structure Token where
  units : Nat
  need : Nat
  result : Decoded

/-- The token that starts with byte `b` and goes on in `l`, none where R85 gives it no meaning. -/
def tokenAt (bits : Nat) (ref : Option (List Nat)) (b : Byte) (l : List Byte) (d : Decoded) : Option Token :=
  let v := b.toNat
  if v < 0x40 then
    some ⟨v + 1, 2 * bits * (v + 1), { d with units := (literalUnits bits (v + 1) l).reverse ++ d.units, n := d.n + (v + 1) }⟩
  else if v < 0x80 then some ⟨v - 0x40 + 1, 0, d.fill (v - 0x40 + 1) (List.replicate 16 0)⟩
  else if v < 0xC0 then some ⟨v - 0x80 + 1, 0, d.copyUp (v - 0x80 + 1) ref⟩
  else if v < 0xE0 then
    some ⟨v - 0xC0 + 1, 2 * bits, d.fill (v - 0xC0 + 1) (unitLevels bits (leNat (l.take (2 * bits))))⟩
  else if v = 0xE0 then some ⟨uAt l 0 2 + 1, 2, d.fill (uAt l 0 2 + 1) (List.replicate 16 0)⟩
  else if v = 0xE1 then some ⟨uAt l 0 2 + 1, 2, d.copyUp (uAt l 0 2 + 1) ref⟩
  else none

theorem length_unitLevels (bits v : Nat) : (unitLevels bits v).length = 16 := by simp [unitLevels]

theorem length_refUnit (ref : Option (List Nat)) (k : Nat) : (refUnit ref k).length = 16 := by
  cases ref <;> simp [refUnit]

theorem length_literalUnits (bits : Nat) : ∀ (k : Nat) (l : List Byte), (literalUnits bits k l).length = k
  | 0, _ => rfl
  | k + 1, _ => congrArg (· + 1) (length_literalUnits bits k _)

theorem length_of_mem_literalUnits {bits : Nat} {u : List Nat} :
    ∀ {k : Nat} {l : List Byte}, u ∈ literalUnits bits k l → u.length = 16
  | k + 1, _, h => by
    rw [literalUnits, List.mem_cons] at h
    obtain rfl | h := h
    · exact length_unitLevels _ _
    · exact length_of_mem_literalUnits h

/-- Bytes after those that are read do not matter. -/
theorem literalUnits_append (bits : Nat) (e : List Byte) : ∀ (k : Nat) (l : List Byte), 2 * bits * k ≤ l.length →
    literalUnits bits k (l ++ e) = literalUnits bits k l
  | 0, _, _ => rfl
  | k + 1, l, h => by
    rw [Nat.mul_succ] at h
    rw [literalUnits, literalUnits, List.take_append_of_le_length (by omega), List.drop_append_of_le_length (by omega),
      literalUnits_append bits e k _ (by rw [List.length_drop]; omega)]

theorem uAt_append {l : List Byte} {off n : Nat} (e : List Byte) (h : off + n ≤ l.length) :
    uAt (l ++ e) off n = uAt l off n := by
  rw [uAt, uAt, bytesAt, bytesAt, List.drop_append_of_le_length (by omega),
    List.take_append_of_le_length (by rw [List.length_drop]; omega)]

/-- A token adds its units, at least one and each of 16 levels, to what has been decoded. -/
def Token.Adds (k : Token) (d : Decoded) : Prop :=
  1 ≤ k.units ∧ k.result.n = d.n + k.units ∧
    ∃ us, k.result.units = us ++ d.units ∧ us.length = k.units ∧ ∀ u ∈ us, u.length = 16

theorem Token.adds_fill (d : Decoded) (j m : Nat) {levels : List Nat} (h : levels.length = 16) :
    (⟨j + 1, m, d.fill (j + 1) levels⟩ : Token).Adds d :=
  ⟨Nat.le_add_left 1 j, rfl, _, rfl, List.length_replicate, fun _ hu => List.eq_of_mem_replicate hu ▸ h⟩

theorem Token.adds_copyUp (d : Decoded) (j m : Nat) (ref : Option (List Nat)) :
    (⟨j + 1, m, d.copyUp (j + 1) ref⟩ : Token).Adds d := by
  refine ⟨Nat.le_add_left 1 j, rfl, _, rfl, by simp, fun u hu => ?_⟩
  obtain ⟨i, -, rfl⟩ := List.mem_map.1 (List.mem_reverse.1 hu)
  exact length_refUnit _ _

section
variable {bits total : Nat} {ref : Option (List Nat)}

theorem tokenAt_adds {b : Byte} {l : List Byte} {d : Decoded} {k : Token} (h : tokenAt bits ref b l d = some k) :
    k.Adds d := by
  unfold tokenAt at h
  dsimp only at h
  split_ifs at h <;> obtain rfl := Option.some.inj h
  · exact ⟨Nat.le_add_left 1 _, rfl, _, rfl, by rw [List.length_reverse, length_literalUnits],
      fun u hu => length_of_mem_literalUnits (List.mem_reverse.1 hu)⟩
  · exact Token.adds_fill _ _ _ List.length_replicate
  · exact Token.adds_copyUp _ _ _ _
  · exact Token.adds_fill _ _ _ (length_unitLevels _ _)
  · exact Token.adds_fill _ _ _ List.length_replicate
  · exact Token.adds_copyUp _ _ _ _

/-- A token whose bytes are all there is the same whatever follows it. -/
theorem tokenAt_append {b : Byte} {l : List Byte} {d : Decoded} {k : Token} (e : List Byte)
    (h : tokenAt bits ref b l d = some k) (hneed : k.need ≤ l.length) : tokenAt bits ref b (l ++ e) d = some k := by
  unfold tokenAt at h ⊢
  dsimp only at h ⊢
  split_ifs at h ⊢ <;> obtain rfl := Option.some.inj h
  · rw [literalUnits_append _ _ _ _ hneed]
  · rfl
  · rfl
  · rw [List.take_append_of_le_length hneed]
  · rw [uAt_append _ hneed]
  · rw [uAt_append _ hneed]

/-! ### Whole payloads (R87) -/

theorem decodeTokens_nil (fuel : Nat) (d : Decoded) : decodeTokens bits total ref fuel [] d = some d := by
  rw [decodeTokens]

/-- A payload is decoded token by token. -/
theorem decodeTokens_cons (fuel : Nat) (b : Byte) (l : List Byte) (d : Decoded) :
    decodeTokens bits total ref (fuel + 1) (b :: l) d = (tokenAt bits ref b l d).bind (fun k =>
      if total < d.n + k.units ∨ l.length < k.need then none
      else decodeTokens bits total ref fuel (l.drop k.need) k.result) := by
  rw [decodeTokens, tokenAt]
  iterate 6 (split; · rfl)
  rfl

theorem decodeTokens_cons_some {fuel : Nat} {b : Byte} {l : List Byte} {d r : Decoded}
    (h : decodeTokens bits total ref fuel (b :: l) d = some r) :
    ∃ f k, fuel = f + 1 ∧ tokenAt bits ref b l d = some k ∧ d.n + k.units ≤ total ∧ k.need ≤ l.length ∧
      decodeTokens bits total ref f (l.drop k.need) k.result = some r := by
  cases fuel with
  | zero => rw [decodeTokens] at h; cases h
  | succ f =>
    rw [decodeTokens_cons, Option.bind_eq_some_iff] at h
    obtain ⟨k, hk, h⟩ := h
    split at h
    case isTrue => cases h
    case isFalse hfit =>
      rw [not_or, not_lt, not_lt] at hfit
      exact ⟨f, k, rfl, hk, hfit.1, hfit.2, h⟩

/-- As many units as counted, each of 16 levels. -/
def Decoded.Whole (d : Decoded) : Prop := d.units.length = d.n ∧ ∀ u ∈ d.units, u.length = 16

theorem Decoded.whole_tokenAt {b : Byte} {l : List Byte} {d : Decoded} {k : Token} (hd : d.Whole)
    (h : tokenAt bits ref b l d = some k) : k.result.Whole := by
  obtain ⟨-, hn, us, hunits, hlen, hus⟩ := tokenAt_adds h
  rw [Decoded.Whole, hunits, hn, List.length_append, hlen, hd.1, Nat.add_comm]
  exact ⟨rfl, fun u hu => (List.mem_append.1 hu).elim (hus u) (hd.2 u)⟩

theorem Decoded.whole_decodeTokens {r : Decoded} : ∀ {fuel : Nat} {l : List Byte} {d : Decoded}, d.Whole →
    decodeTokens bits total ref fuel l d = some r → r.Whole
  | fuel, [], d, hd, h => by
    rw [decodeTokens_nil] at h
    exact Option.some.inj h ▸ hd
  | fuel, b :: l, d, hd, h => by
    obtain ⟨f, k, rfl, hk, -, -, h⟩ := decodeTokens_cons_some h
    exact whole_decodeTokens (whole_tokenAt hd hk) h

/-- Once the line has all its units, no token may follow. -/
theorem decodeTokens_full {l : List Byte} {d : Decoded} (fuel : Nat) (hl : l ≠ []) (hd : d.n = total) :
    decodeTokens bits total ref fuel l d = none := by
  obtain ⟨b, l, rfl⟩ := List.exists_cons_of_ne_nil hl
  refine Option.eq_none_iff_forall_ne_some.2 fun r h => ?_
  obtain ⟨-, k, -, hk, hfit, -⟩ := decodeTokens_cons_some h
  have := (tokenAt_adds hk).1
  omega

/-- A payload that gives all the units of a line may not go on. -/
theorem decodeTokens_append {e : List Byte} {r : Decoded} (he : e ≠ []) (hr : r.n = total) :
    ∀ {fuel : Nat} {l : List Byte} {d : Decoded} (fuel' : Nat), decodeTokens bits total ref fuel l d = some r →
      decodeTokens bits total ref fuel' (l ++ e) d = none
  | fuel, [], d, fuel', h => by
    rw [decodeTokens_nil] at h
    exact decodeTokens_full fuel' he (Option.some.inj h ▸ hr)
  | fuel, b :: l, d, fuel', h => by
    obtain ⟨f, k, rfl, hk, -, hneed, h⟩ := decodeTokens_cons_some h
    rw [List.cons_append, Option.eq_none_iff_forall_ne_some]
    intro r' h'
    obtain ⟨f', k', -, hk', -, -, h'⟩ := decodeTokens_cons_some h'
    obtain rfl := Option.some.inj ((tokenAt_append e hk hneed).symm.trans hk')
    rw [List.drop_append_of_le_length hneed, decodeTokens_append he hr f' h] at h'
    cases h'

/-- What a payload decodes to is the levels of its units, as many units as the columns of the line take. -/
theorem decodeLine_eq_some {count : Nat} {payload : List Byte} {levels : List Nat} {rep : Bool} :
    decodeLine bits count ref payload = some (levels, rep) ↔
      ∃ d, decodeTokens bits (ceilDiv count 16) ref payload.length payload {} = some d ∧ d.n = ceilDiv count 16 ∧
        levels = d.units.reverse.flatten.take count ∧ rep = d.repeated := by
  rw [decodeLine]
  cases decodeTokens bits (ceilDiv count 16) ref payload.length payload {} with
  | none => simp
  | some d => simp [eq_comm]

end

theorem Decoded.length_flatten {d : Decoded} (h : d.Whole) : d.units.reverse.flatten.length = 16 * d.n := by
  rw [List.length_flatten, List.map_reverse, List.sum_reverse, List.map_congr_left h.2, List.map_const', List.sum_replicate,
    smul_eq_mul, h.1, Nat.mul_comm]

/-- Settles O21: every token adds whole units, and a line that has all its units takes no further token. -/
theorem linesDecodeToExactlyTheirUnits : Obligations.LinesDecodeToExactlyTheirUnits := by
  intro bits count ref payload levels rep _ _ _ h
  obtain ⟨d, hd, hn, rfl, rfl⟩ := decodeLine_eq_some.1 h
  have hwhole : d.Whole := Decoded.whole_decodeTokens ⟨rfl, by simp⟩ hd
  constructor
  · rw [List.length_take, Decoded.length_flatten hwhole, hn, ceilDiv]
    omega
  · refine fun extra he => Option.eq_none_iff_forall_ne_some.2 fun r hr => ?_
    obtain ⟨d', hd', -⟩ := decodeLine_eq_some.1 hr
    rw [decodeTokens_append he hn _ hd] at hd'
    cases hd'

end Sys2Proof.Machine
end

section
/-! Streams: what interrupts, faults of the Dumbwaiter and dropped packets leave of them, and what a gate decision and a stream
fault change (R81, R107, R110). -/

namespace Sys2Proof.Machine

/-! ### What leaves the streams unchanged -/

/-- Two states hold the same streams and the same lines in the line engines. -/
def SameStreams (s u : State) : Prop := u.streams = s.streams ∧ u.lines = s.lines

section
variable {s u : State}

theorem SameStreams.refl (s : State) : SameStreams s s := ⟨rfl, rfl⟩

theorem SameStreams.stream (h : SameStreams s u) (n : Nat) : u.stream n = s.stream n := by
  rw [State.stream, State.stream, h.1]

theorem SameStreams.set (h : SameStreams s u) (f : Fld) (v : Nat) : SameStreams s (u.set f v) := h

theorem SameStreams.bump (h : SameStreams s u) (f : Fld) (n : Nat) : SameStreams s (u.bump f n) := h

theorem SameStreams.setArrBit (h : SameStreams s u) (f : Nat → Fld) (k : Nat) (b : Bool) :
    SameStreams s (u.setArrBit f k b) := h

/-- Messages go into the list of what was sent and change nothing else. -/
theorem sendNewMsi_sent (old s : State) : ∃ l, sendNewMsi old s = { s with sent := l } := by
  unfold sendNewMsi
  refine foldl_keeps (fun u => ∃ l, u = { s with sent := l }) _ (fun u v hu => ?_) _ s ⟨_, rfl⟩
  obtain ⟨l, rfl⟩ := hu
  unfold State.sendMsi
  split
  · split <;> exact ⟨_, rfl⟩
  · exact ⟨_, rfl⟩

theorem SameStreams.cause (h : SameStreams s u) (f : Fld) (v : Nat) : SameStreams s (u.cause f v) := by
  obtain ⟨l, hl⟩ := sendNewMsi_sent u (u.set f (u.get f ||| v))
  rw [State.cause, hl]
  exact h

theorem SameStreams.summary (h : SameStreams s u) (k n : Nat) : SameStreams s (u.summary k n) := by
  unfold State.summary
  split <;> exact h

theorem SameStreams.ite {v : State} {p : Prop} [Decidable p] (hu : SameStreams s u) (hv : SameStreams s v) :
    SameStreams s (if p then u else v) := by
  split
  · exact hu
  · exact hv

theorem SameStreams.captureFault (h : SameStreams s u) (ch idx cause units : Nat) (late : Bool) (iter : Nat) :
    SameStreams s (u.captureFault ch idx cause units late iter) := by
  unfold State.captureFault
  refine .ite (h.set _ _) (.ite ?_ (.set ?_ _ _)) <;> exact .set (.set (.set (.set (.set h _ _) _ _) _ _) _ _) _ _

/-- A BAD of the Dumbwaiter changes no stream. -/
theorem SameStreams.dwBad (h : SameStreams s u) (ch idx : Nat) (cause : DwCause) (units : Nat) (late : Bool) (iter : Nat) :
    SameStreams s (u.dwBad ch idx cause units late iter) := by
  unfold State.dwBad
  refine .ite (.ite (.cause (.bump ?_ _ _) _ _) ?_) (.cause (.ite (.cause (.bump ?_ _ _) _ _) ?_) _ _)
  all_goals
    exact .cause (.setArrBit (.set (.set (.set (.set (.set (.set (.summary (.bump (h.captureFault _ _ _ _ _ _) _ _) _ _)
      _ _) _ _) _ _) _ _) _ _) _ _) _ _ _) _ _

theorem SameStreams.setDecomp (h : SameStreams s u) (k : Nat) (d : Decomp) : SameStreams s (u.setDecomp k d) := by
  have hd : SameStreams s { u with decomps := u.decomps.set {} k d } := h
  unfold State.setDecomp
  split
  · exact .set (.set (.set hd _ _) _ _) _ _
  · exact .set (.set hd _ _) _ _

/-- A packet that is dropped leaves its decompressor, and nothing else. -/
theorem State.sameStreams_dropPacket (s : State) (n : Nat) : SameStreams s (s.dropPacket n) := by
  unfold State.dropPacket
  refine foldl_keeps (SameStreams s) _ (fun u k hu => ?_) _ s (.refl s)
  split
  · exact .ite (hu.setDecomp k _) hu
  · exact hu

end

/-! ### The table of streams -/

section
variable (s : State)

@[simp] theorem State.stream_setStream_same (n : Nat) (x : Stream) : (s.setStream n x).stream n = x := Tbl.get_set_same _ _ _ _

theorem State.stream_setStream_other {n m : Nat} (x : Stream) (h : m ≠ n) : (s.setStream n x).stream m = s.stream m :=
  Tbl.get_set_other _ _ _ _ h

@[simp] theorem State.stream_set (f : Fld) (v n : Nat) : (s.set f v).stream n = s.stream n := rfl

@[simp] theorem State.stream_forgetLines (m n : Nat) : (s.forgetLines m).stream n = s.stream n := rfl

@[simp] theorem State.stream_dropPacket (m n : Nat) : (s.dropPacket m).stream n = s.stream n :=
  (s.sameStreams_dropPacket m).stream n

@[simp] theorem State.get_setStream (n : Nat) (x : Stream) (f : Fld) : (s.setStream n x).get f = s.get f := rfl

theorem SameAt.setStream {s u : State} {off : Nat} (h : SameAt off s u) (n : Nat) (x : Stream) :
    SameAt off s (u.setStream n x) := h

/-- A gate decision changes the gate alone (R81). -/
theorem Stream.decideGate_gate (x : Stream) : ∃ g, x.decideGate = { x with gate := g } := by
  unfold Stream.decideGate
  split
  · exact ⟨false, rfl⟩
  · split
    · exact ⟨true, rfl⟩
    · exact ⟨x.gate, rfl⟩

theorem State.stream_decideGate (n : Nat) : ∃ g, (s.decideGate n).stream n = { s.stream n with gate := g } := by
  rw [State.decideGate, State.stream_setStream_same]
  exact (s.stream n).decideGate_gate

@[simp] theorem State.get_decideGate (n : Nat) (f : Fld) : (s.decideGate n).get f = s.get f := rfl

/-! ### Stream faults (R107, R110) -/

/-- The record of a fault. -/
def State.faultRec (kind plane desc line : Nat) : FaultRec :=
  { kind := kind, plane := plane, desc := desc, time := s.devTime / 1000 % 2 ^ 32, line := line }

/-- A stream that has counted and logged a fault. -/
def Stream.faulted (x : Stream) (r : FaultRec) (n : Nat) : Stream :=
  { x.count (r.kind - 1) n with log := (x.log ++ [r]).drop ((x.log ++ [r]).length - 16) }

section
variable (st kind plane desc line n : Nat)

/-- A fault is shown in registers; beside them it changes its stream. -/
theorem State.sameStreams_streamFault :
    SameStreams (s.setStream st ((s.stream st).faulted (s.faultRec kind plane desc line) n))
      (s.streamFault st kind plane desc line n) := by
  unfold State.streamFault
  refine .ite (.cause ?_ _ _) ?_
  all_goals
    refine .cause (.set (.set (.set (.set (.set (.set (.setArrBit ?_ _ _ _) _ _) _ _) _ _) _ _) _ _) _ _) _ _
    split
    · exact ⟨rfl, rfl⟩
    · exact ⟨rfl, rfl⟩

/-- A fault changes the counters and the log of its stream, and no other part of it. -/
@[simp] theorem State.stream_streamFault_same : (s.streamFault st kind plane desc line n).stream st =
    (s.stream st).faulted (s.faultRec kind plane desc line) n :=
  ((s.sameStreams_streamFault st kind plane desc line n).stream st).trans (s.stream_setStream_same _ _)

@[simp] theorem State.lines_streamFault : (s.streamFault st kind plane desc line n).lines = s.lines :=
  (s.sameStreams_streamFault st kind plane desc line n).2

end

/-- The counters of FAULTS have 4 bits. -/
theorem faultsFld_eq_some {st kind : Nat} {f : Fld} (h : faultsFld st kind = some f) :
    f.off = (F.SN_FAULTS st).off ∧ f.width = 4 ∧ f.lo + f.width ≤ 32 := by
  unfold faultsFld at h
  split at h
  · obtain rfl := Option.some.inj h
    exact ⟨rfl, rfl, by dsimp only; omega⟩
  · split at h
    · obtain rfl := Option.some.inj h
      exact ⟨rfl, rfl, by simp [F.SN_FAULTS_DESC]⟩
    · cases h

/-- A counter counts `n` more, saturating. -/
theorem State.get_bump_satAdd {f : Fld} (n : Nat) (hf : f.lo + f.width ≤ 32) :
    (s.bump f n).get f = satAdd f.width (s.get f) n := by
  rw [State.bump, State.get_set_same _ _ _ hf]
  refine Nat.mod_eq_of_lt (lt_of_le_of_lt (Nat.min_le_right _ _) ?_)
  have := Nat.two_pow_pos f.width
  omega

theorem SameAt.ite {s u v : State} {off : Nat} {p : Prop} [Decidable p] (hu : SameAt off s u) (hv : SameAt off s v) :
    SameAt off s (if p then u else v) := by
  split
  · exact hu
  · exact hv

theorem SameAt.setArrBit {s u : State} {off : Nat} (h : SameAt off s u) {f : Nat → Fld} (k : Nat) (b : Bool)
    (hf : off ≠ (f (k / 32)).off) : SameAt off s (u.setArrBit f k b) := h.setBit _ _ hf

/-- In the FAULTS of its stream a fault changes its counter alone. -/
theorem State.sameAt_streamFault {st kind : Nat} {f : Fld} (hst : st < 128) (hf : faultsFld st kind = some f)
    (plane desc line n : Nat) : SameAt f.off (s.bump f n) (s.streamFault st kind plane desc line n) := by
  have hoff : f.off = 0x3000C + 0x10 * st := (faultsFld_eq_some hf).1
  have hpend : f.off ≠ (F.STREAM_FAULT_PEND (st / 32)).off := by simp only [F.STREAM_FAULT_PEND]; omega
  have hlast : f.off ≠ 0x30838 ∧ f.off ≠ 0x3083C ∧ f.off ≠ F.STREAM_INT_STATUS.off := by
    simp only [F.STREAM_INT_STATUS]; omega
  obtain ⟨hinfo, hline, hint⟩ := hlast
  unfold State.streamFault
  simp only [hf]
  refine .ite (.cause ?_ _ hint) ?_
  all_goals
    refine .cause (.set (.set (.set (.set (.set (.set (.setArrBit ?_ _ _ hpend) _ hinfo) _ hinfo) _ hinfo) _ hinfo) _ hinfo) _
      hline) _ hint
    exact ⟨rfl, rfl⟩

/-- A fault counts in FAULTS, saturating at 15. -/
theorem State.get_streamFault {st kind : Nat} {f : Fld} (hst : st < 128) (hf : faultsFld st kind = some f)
    (plane desc line : Nat) : (s.streamFault st kind plane desc line).get f = min (s.get f + 1) 15 := by
  obtain ⟨-, hw, hfit⟩ := faultsFld_eq_some hf
  rw [(s.sameAt_streamFault hst hf plane desc line 1).get, State.get_bump_satAdd _ _ hfit, satAdd, hw]
  rfl

end
end Sys2Proof.Machine
end

section
/-! Packets and descriptors: an old packet is discarded (R90), and a descriptor that is read is consumed (R73 to R78). -/

namespace Sys2Proof.Machine

/-! ### Old packets (R90) -/

@[simp] theorem Stream.planes_faulted (x : Stream) (r : FaultRec) (n : Nat) : (x.faulted r n).planes = x.planes := rfl

/-- Consuming bytes of a queue changes the queue alone. -/
theorem Stream.take_queue (x : Stream) (m : Nat) : ∃ l, x.take m = { x with queue := l } := by
  unfold Stream.take
  split
  · exact ⟨x.queue, rfl⟩
  · split <;> exact ⟨_, rfl⟩

section
variable {s : State} {k n : Nat} {q : QBuf} {h : SdsHeader}

/-- A packet is consumed from the front of its stream's queue. -/
def State.consumePacket (s : State) (k n len : Nat) : State :=
  ((s.bump (F.DECOMP_PACKETS k)).setStream n ((s.stream n).take len)).decideGate n

theorem State.planes_consumePacket (s : State) (k n len : Nat) :
    ((s.consumePacket k n len).stream n).planes = (s.stream n).planes := by
  obtain ⟨g, hg⟩ := ((s.bump (F.DECOMP_PACKETS k)).setStream n ((s.stream n).take len)).stream_decideGate n
  obtain ⟨l, hl⟩ := (s.stream n).take_queue len
  rw [State.consumePacket, hg, State.stream_setStream_same, hl]

theorem State.faults_consumePacket (s : State) (k len : Nat) {kind : Nat} {f : Fld} (hn : n < 128)
    (hf : faultsFld n kind = some f) : (s.consumePacket k n len).get f = s.get f := by
  have hoff : f.off = 0x3000C + 0x10 * n := (faultsFld_eq_some hf).1
  rw [State.consumePacket, State.get_decideGate, State.get_setStream,
    State.get_congr _ (State.reg_bump_other _ 1 (by simp only [F.DECOMP_PACKETS]; omega))]

/-- The fault that an old packet is (R90). -/
def PlaneSt.oldKind (x : PlaneSt) (line : Nat) : Nat := if x.underSince then 7 else if line + 1 = x.expect then 5 else 6

theorem State.takePacket_old (heoj : (s.plane n h.plane).eoj = false) (hline : h.line < (s.plane n h.plane).expect) :
    s.takePacket k n q h = (s.consumePacket k n (36 + h.payload)).streamFault n ((s.plane n h.plane).oldKind h.line) h.plane
      q.descIndex h.line := by
  unfold State.takePacket
  dsimp only
  rw [heoj, if_neg Bool.false_ne_true, if_pos hline]
  rfl

end

/-- Settles O22: the packet is consumed and counted as one fault, whose kind the plane's state gives. -/
theorem oldPacketsAreDiscardedAndClassified : Obligations.OldPacketsAreDiscardedAndClassified := by
  intro s k n q h hn _ heoj hline
  rw [State.takePacket_old heoj hline]
  have counted : ∀ {kind f}, (s.plane n h.plane).oldKind h.line = kind → faultsFld n kind = some f →
      ((s.consumePacket k n (36 + h.payload)).streamFault n ((s.plane n h.plane).oldKind h.line) h.plane q.descIndex
        h.line).get f = min (s.get f + 1) 15 := by
    rintro _ f rfl hf
    rw [State.get_streamFault _ hn hf, s.faults_consumePacket _ _ hn hf]
  refine ⟨by rw [State.lines_streamFault]; rfl, ?_, fun hu => counted (kind := 7) ?_ rfl,
    fun hu he => counted (kind := 5) ?_ rfl, fun hu he => counted (kind := 6) ?_ rfl⟩
  · rw [State.plane, State.stream_streamFault_same, Stream.planes_faulted, State.planes_consumePacket]
    rfl
  · rw [PlaneSt.oldKind, if_pos hu]
  · rw [PlaneSt.oldKind, if_neg (by simp [hu]), if_pos he]
  · rw [PlaneSt.oldKind, if_neg (by simp [hu]), if_neg he]

/-! ### Reading a descriptor (R73, R76, R78) -/

/-- A descriptor whose buffer is fetched. -/
def Stream.Fetches (x : Stream) (d : List Byte) : Prop :=
  x.seqOk (uAt d 14 2) = true ∧ uAt d 12 2 = 0 ∧ 37 ≤ uAt d 8 4 ∧ uAt d 8 4 ≤ 4194304

/-- A descriptor that is a DESC fault. -/
def Stream.DescFaults (x : Stream) (d : List Byte) : Prop :=
  x.seqOk (uAt d 14 2) = false ∨ 2 ≤ uAt d 12 2 ∨ (uAt d 12 2 = 0 ∧ ¬ (37 ≤ uAt d 8 4 ∧ uAt d 8 4 ≤ 4194304))

theorem Stream.not_fetches_of_descFaults {x : Stream} {d : List Byte} (h : x.DescFaults d) : ¬ x.Fetches d := by
  rintro ⟨hseq, hflags, hlen⟩
  obtain h | h | ⟨-, h⟩ := h
  · exact Bool.false_ne_true (h.symm.trans hseq)
  · omega
  · exact h hlen

section
variable {s : State} {n : Nat} {d : List Byte}

/-- The stream once it has consumed the descriptor `d`. -/
def Stream.afterDesc (x : Stream) (d : List Byte) (ready : Bool) : Stream :=
  { x with retryAt := none }.consume (uAt d 14 2) ready

/-- What a descriptor that has been read leads to: its buffer is fetched, or it is a DESC fault, or it is skipped. -/
theorem State.readDescriptor_cases
    (hd : s.hostRead ((s.stream n).bind.ringAddr + 16 * (s.stream n).head) 16 = some d) :
    ((s.stream n).Fetches d ∧
      ∃ f q, s.readDescriptor n = s.setStream n { (s.stream n).afterDesc d false with fetch := some f, queue := q }) ∨
    ((s.stream n).DescFaults d ∧ s.readDescriptor n =
      (s.setStream n ((s.stream n).afterDesc d true)).streamFault n 8 0xFF (s.stream n).head noLine) ∨
    (¬ (s.stream n).Fetches d ∧ ¬ (s.stream n).DescFaults d ∧
      s.readDescriptor n = s.setStream n ((s.stream n).afterDesc d true)) := by
  unfold State.readDescriptor
  simp only [hd, within, Bool.not_eq_true', decide_eq_false_iff_not]
  split
  case isTrue hseq => exact .inr (.inl ⟨.inl hseq, rfl⟩)
  case isFalse hseq =>
    split
    case isTrue hflags => exact .inr (.inl ⟨.inr (.inl hflags), rfl⟩)
    case isFalse hflags =>
      split
      case isTrue hskip =>
        refine .inr (.inr ⟨fun h => ?_, fun h => ?_, rfl⟩)
        · have := h.2.1
          omega
        · obtain h | h | h := h
          · exact hseq h
          · exact hflags h
          · omega
      case isFalse hskip =>
        split
        case isTrue hlen => exact .inr (.inl ⟨.inr (.inr ⟨by omega, hlen⟩), rfl⟩)
        case isFalse hlen =>
          exact .inl ⟨⟨Bool.eq_true_of_not_eq_false hseq, by omega, not_not.1 hlen⟩, _, _, rfl⟩

/-- A descriptor that has been read is consumed, fetched when it is good, and counted when it is a fault. -/
theorem State.readDescriptor_consumes (hn : n < 128) (hfetch : (s.stream n).fetch = none)
    (hd : s.hostRead ((s.stream n).bind.ringAddr + 16 * (s.stream n).head) 16 = some d) :
    ((s.readDescriptor n).stream n).head = ((s.stream n).head + 1) % (s.stream n).bind.ringSize ∧
    ((s.readDescriptor n).stream n).consumed = ((s.stream n).consumed + 1) % 2 ^ 32 ∧
    ((s.readDescriptor n).stream n).seqExpect = some ((uAt d 14 2 + 1) % 65536) ∧
    (((s.readDescriptor n).stream n).fetch.isSome = true ↔ (s.stream n).Fetches d) ∧
    ((s.stream n).DescFaults d →
      (s.readDescriptor n).get (F.SN_FAULTS_DESC n) = min (s.get (F.SN_FAULTS_DESC n) + 1) 15) ∧
    (¬ (s.stream n).DescFaults d → (s.readDescriptor n).get (F.SN_FAULTS_DESC n) = s.get (F.SN_FAULTS_DESC n)) := by
  have unfetched : ¬ (s.stream n).Fetches d → ((s.stream n).fetch.isSome = true ↔ (s.stream n).Fetches d) := fun h => by
    rw [hfetch]
    exact iff_of_false Bool.false_ne_true h
  obtain ⟨hf, f, q, hr⟩ | ⟨hf, hr⟩ | ⟨hf, hnf, hr⟩ := State.readDescriptor_cases hd
  · rw [hr, State.stream_setStream_same]
    exact ⟨rfl, rfl, rfl, iff_of_true rfl hf, fun h => absurd hf (Stream.not_fetches_of_descFaults h), fun _ => rfl⟩
  · rw [hr, State.stream_streamFault_same, State.stream_setStream_same, State.get_streamFault _ hn rfl]
    exact ⟨rfl, rfl, rfl, unfetched (Stream.not_fetches_of_descFaults hf), fun _ => rfl, fun h => absurd hf h⟩
  · rw [hr, State.stream_setStream_same]
    exact ⟨rfl, rfl, rfl, unfetched hf, fun h => absurd h hnf, fun _ => rfl⟩

/-- A read that fails leaves the descriptor where it is, due again 100 µs later (R78). -/
theorem State.readDescriptor_unread
    (hd : s.hostRead ((s.stream n).bind.ringAddr + 16 * (s.stream n).head) 16 = none) :
    ((s.readDescriptor n).stream n).head = (s.stream n).head ∧
      ((s.readDescriptor n).stream n).retryAt = some (s.now + 100000) := by
  unfold State.readDescriptor
  simp only [hd]
  rw [((SameStreams.refl _).dwBad n _ _ _ _ _).stream, State.stream_streamFault_same, State.stream_setStream_same]
  exact ⟨rfl, rfl⟩

/-- A stream that may read a descriptor fetches no buffer. -/
theorem State.fetch_of_mayReadDescriptor (h : s.mayReadDescriptor n = true) : (s.stream n).fetch = none := by
  unfold State.mayReadDescriptor at h
  rw [Bool.and_eq_true, Option.isNone_iff_eq_none] at h
  exact h.2

end

/-- DESCRIPTOR_READ of a stream that may read its descriptor. -/
theorem Live.gives_descriptorRead {s a : State} {t n : Nat} (h : Live s t a) (hn : n < 128)
    (hread : a.mayReadDescriptor n = true) (hretry : (a.stream n).retryAt = none) :
    Gives (.descriptorRead t n) s ((a.decideGate n).readDescriptor n) := by
  have := h.gives_of_coreStep (exec_descriptorRead t n s)
  rwa [if_pos ⟨hn, hread, by rw [hretry]; rfl⟩] at this

/-- Settles O23: the row is a gate decision and a read of the descriptor at HEAD. -/
theorem descriptorReadsConsumeInOrder : Obligations.DescriptorReadsConsumeInOrder := by
  intro s a t n hlive hn hread hretry
  have hgives := hlive.gives_descriptorRead hn hread hretry
  have hnone := State.fetch_of_mayReadDescriptor hread
  obtain ⟨g, hg⟩ := a.stream_decideGate n
  refine ⟨fun d hd => ⟨_, hgives, ?_⟩, fun hd => ⟨_, hgives, ?_⟩⟩
  · obtain ⟨hhead, hcons, hseq, hfetch, hfault, hgood⟩ :=
      State.readDescriptor_consumes (s := a.decideGate n) (d := d) hn (by rw [hg]; exact hnone) (by rw [hg]; exact hd)
    rw [hg] at hhead hcons hfetch hfault hgood
    refine ⟨hhead, hcons, hseq, hfetch, ?_⟩
    split
    case isTrue h => exact hfault h
    case isFalse h => exact hgood h
  · have hunread := State.readDescriptor_unread (s := a.decideGate n) (n := n) (by rw [hg]; exact hd)
    rwa [hg] at hunread

end Sys2Proof.Machine
end

section
/-! The commands that open, close and reset streams, and STREAM_FAULTS (R107, R108, R556). -/

namespace Sys2Proof.Machine

/-! ### Planes that start afresh (R92, R556) -/

/-- What a table holds at a key to which a fold has written one value. -/
theorem Tbl.get_foldl_set {α : Type} [DecidableEq α] {d v : α} {p : Nat} : ∀ {l : List Nat} (tb : Tbl α), p ∈ l →
    (l.foldl (fun tb k => tb.set d k v) tb).get d p = v := by
  intro l
  induction l using List.reverseRecOn with
  | nil => exact fun _ h => absurd h List.not_mem_nil
  | append_singleton l k ih =>
    intro tb h
    rw [List.foldl_append, List.foldl_cons, List.foldl_nil]
    by_cases hk : p = k
    · rw [hk, Tbl.get_set_same]
    · rw [Tbl.get_set_other _ _ _ _ hk]
      exact ih tb ((List.mem_append.1 h).resolve_right (by simpa using hk))

theorem Binding.mem_planes {b : Binding} {p : Nat} (hp : p < 16) (h : bitOf b.planeMask p = true) : p ∈ b.planes :=
  List.mem_filter.2 ⟨List.mem_range.2 hp, h⟩

/-- A plane of a stream that has restarted expects line 0 with a blank reference line. -/
theorem Stream.plane_restart (x : Stream) {p : Nat} (hp : p < 16) (h : bitOf x.bind.planeMask p = true) :
    x.restart.planes.get {} p = { storedEnd := x.bind.barOffset, next := x.bind.barOffset } :=
  Tbl.get_foldl_set _ (Binding.mem_planes hp h)

/-! ### STREAM_OPEN, STREAM_CLOSE and STREAM_FAULTS (R107, R556) -/

/-- What STREAM_OPEN makes of a stream. -/
def Stream.opened (x : Stream) (b : Binding) : Stream :=
  { x.drain with
    st := 1, bind := b, head := 0, tail := 0, consumed := 0, seqExpect := none, lastSeq := 0, wb := [] : Stream }.restart

section
variable (l : List Byte) (rq : Req) (s : State)

theorem stream_streamOpen : (streamOpen.apply l rq s).2.stream (rq.u 0 1) = (s.stream (rq.u 0 1)).opened (openBinding rq) := by
  simp only [streamOpen, ok, State.stream_set, State.stream_forgetLines, State.stream_setStream_same, State.stream_dropPacket]
  rfl

theorem stream_streamClose : (streamClose.apply l rq s).2.stream (rq.u 0 1) =
    { ctr := (s.stream (rq.u 0 1)).ctr, log := (s.stream (rq.u 0 1)).log } := by
  simp only [streamClose, ok, State.stream_set, State.stream_forgetLines, State.stream_setStream_same, State.stream_dropPacket]

theorem stream_streamFaults (hclear : rq.u 1 1 = 1) : (streamFaults.apply l rq s).2.stream (rq.u 0 1) =
    { s.stream (rq.u 0 1) with log := [], ctr := List.replicate 12 0 } := by
  simp only [streamFaults, okWith, hclear, if_true, State.stream_setStream_same]

end

/-- Settles O24: each command leaves one stream that its payload and the old counters and log give. -/
theorem streamOpenAndCloseStartAfresh : Obligations.StreamOpenAndCloseStartAfresh := by
  intro l rq s
  rw [stream_streamOpen, stream_streamClose]
  refine ⟨?_, rfl, ?_, fun hclear => ?_⟩
  · rintro x (rfl | rfl) <;> exact ⟨rfl, rfl, rfl, rfl, rfl, rfl⟩
  · rintro x rfl
    refine ⟨rfl, rfl, rfl, rfl, rfl, rfl, fun p hp h => ?_⟩
    rw [Stream.opened, Stream.plane_restart _ hp h]
    exact ⟨rfl, rfl, rfl⟩
  · rw [stream_streamFaults l rq s hclear]
    exact ⟨rfl, rfl⟩

/-! ### STREAM_RESET (R108) -/

/-- What STREAM_RESET makes of a stream. -/
def Stream.reset (x : Stream) : Stream :=
  let c := (x.consumed + (x.tail + x.bind.ringSize - x.head) % x.bind.ringSize) % 2 ^ 32
  let y := { x.drain with st := 1, head := x.tail, consumed := c, seqExpect := none }
  { y.restart with wb := y.wb ++ [{ desc := x.head, head := x.tail, lastSeq := x.lastSeq, consumed := c }] }

theorem Stream.plane_reset (x : Stream) {p : Nat} (hp : p < 16) (h : bitOf x.bind.planeMask p = true) :
    x.reset.planes.get {} p = { storedEnd := x.bind.barOffset, next := x.bind.barOffset } :=
  Tbl.get_foldl_set _ (Binding.mem_planes hp h)

section
variable (s : State)

@[simp] theorem State.stream_resetStream_same (n : Nat) : (s.resetStream n).stream n = (s.stream n).reset := by
  simp only [State.resetStream, State.stream_setStream_same, State.stream_dropPacket]
  rfl

theorem State.stream_resetStream_other {n m : Nat} (h : m ≠ n) : (s.resetStream n).stream m = s.stream m := by
  simp only [State.resetStream, State.stream_setStream_other _ _ h, State.stream_forgetLines, State.stream_dropPacket]

/-- Of a list of streams that are reset, each is reset once and no other one changes. -/
theorem State.stream_foldl_resetStream (n : Nat) : ∀ {l : List Nat} (s : State), l.Nodup →
    (l.foldl State.resetStream s).stream n = if n ∈ l then (s.stream n).reset else s.stream n
  | [], s, _ => rfl
  | m :: l, s, hl => by
    obtain ⟨hm, hl⟩ := List.nodup_cons.1 hl
    rw [List.foldl_cons, State.stream_foldl_resetStream n _ hl]
    by_cases h : n = m
    · rw [h, if_neg hm, if_pos List.mem_cons_self, State.stream_resetStream_same]
    · rw [State.stream_resetStream_other _ h]
      simp only [List.mem_cons, h, false_or]

theorem State.nodup_openStreams : s.openStreams.Nodup := List.nodup_range.filter _

theorem State.mem_openStreams {n : Nat} : n ∈ s.openStreams ↔ n < 128 ∧ (s.stream n).st ≠ 0 := by
  simp [State.openStreams]

/-- The streams that a STREAM_RESET resets. -/
def State.resetTargets (rq : Req) : List Nat := if rq.u 0 1 = 0xFF then s.openStreams else [rq.u 0 1]

theorem State.nodup_resetTargets (rq : Req) : (s.resetTargets rq).Nodup := by
  unfold State.resetTargets
  split
  · exact s.nodup_openStreams
  · exact List.nodup_singleton _

theorem stream_streamReset (l : List Byte) (rq : Req) (n : Nat) : (streamReset.apply l rq s).2.stream n =
    if n ∈ s.resetTargets rq then (s.stream n).reset else s.stream n :=
  s.stream_foldl_resetStream n (s.nodup_resetTargets rq)

end

/-- HEAD and TAIL inside a ring tell how many descriptors are outstanding. -/
theorem outstanding_eq {head tail size : Nat} (hh : head < size) (ht : tail < size) :
    (tail + size - head) % size = if head ≤ tail then tail - head else tail + size - head := by
  split
  · rw [show tail + size - head = tail - head + size by omega, Nat.add_mod_right, Nat.mod_eq_of_lt (by omega)]
  · exact Nat.mod_eq_of_lt (by omega)

/-- Settles O25: the streams named are each reset once, and a reset consumes what is outstanding. -/
theorem streamResetConsumesWhatIsOutstanding : Obligations.StreamResetConsumesWhatIsOutstanding := by
  refine ⟨fun rq s hn hst => ?_, fun l rq s => rfl, fun l rq s n hall hn hst => ?_, ?_⟩
  · have hname : rq.u 0 1 ≠ 0xFF := by omega
    simp [streamReset, inRange, hst, hname]
  · rw [stream_streamReset, if_neg]
    rw [State.resetTargets, if_pos hall, State.mem_openStreams]
    exact fun h => h.2 hst
  · rintro l rq s n x y rfl rfl hn hnamed hh ht
    have hmem : n ∈ s.resetTargets rq := by
      unfold State.resetTargets
      obtain rfl | ⟨hall, hst⟩ := hnamed
      · rw [if_neg (by omega)]
        exact List.mem_singleton_self _
      · rw [if_pos hall, State.mem_openStreams]
        exact ⟨hn, hst⟩
    rw [stream_streamReset, if_pos hmem, ← outstanding_eq hh ht]
    refine ⟨rfl, rfl, rfl, rfl, rfl, rfl, rfl, rfl, rfl, rfl, rfl, ?_, fun w hw => ?_, fun p hp h => ?_⟩
    · simp [Stream.reset, Stream.drain]
    · rw [Stream.reset, List.getLast?_append_cons] at hw
      obtain rfl := Option.some.inj hw
      exact ⟨rfl, rfl, rfl, rfl⟩
    · rw [Stream.plane_reset _ hp h]
      exact ⟨rfl, rfl⟩

end Sys2Proof.Machine
end

section
/-! The rows of streams and decompressors: TAIL, descriptors, write-backs and packets (R75, R78, R79, R101, R102). -/

namespace Sys2Proof.Machine

/-! ### TAIL (R75) -/

/-- The register row of TAIL. -/
def tailRow : RegRow := ⟨"TAIL", 0x30000, 0x10, 128, 1, [⟨0, 16, .rw, 0⟩]⟩

theorem regRow_tail {n : Nat} (hn : n < 128) : regRow (F.SN_TAIL_TAIL n).off = some tailRow := by
  have hblock : (F.SN_TAIL_TAIL n).off / 0x10000 = 3 := by simp only [F.SN_TAIL_TAIL]; omega
  have hcovers : tailRow.covers (F.SN_TAIL_TAIL n).off = true := by
    rw [RegRow.covers, if_neg (by decide)]
    simp only [Bool.and_eq_true, decide_eq_true_eq]
    dsimp only [tailRow, F.SN_TAIL_TAIL]
    omega
  rw [regRow, hblock]
  exact List.find?_cons_of_pos hcovers

section
variable {s : State} {n : Nat}

/-- In a mode with streams TAIL is a register that the host writes. -/
theorem State.writeRefused_tail (hmode : s.mode.normal = true) :
    s.writeRefused (F.SN_TAIL_TAIL n).off tailRow = none := by
  obtain ⟨hboot, -⟩ := of_decide_eq_true hmode
  have hrwf : tailRow.hasAcc (fun a => decide (a = .rwf)) = false := by decide
  have hhigh : ¬ ((F.GL_FEATURE_ACCEPT 0).off ≤ (F.SN_TAIL_TAIL n).off ∧
      (F.SN_TAIL_TAIL n).off < (F.GL_FEATURE_ACCEPT 8).off) := by
    simp only [F.GL_FEATURE_ACCEPT, F.SN_TAIL_TAIL]
    omega
  simp [State.writeRefused, hrwf, hboot, hhigh]

theorem State.writeStored_tail (hn : n < 128) (r : RegRow) (v : Word) :
    s.writeStored (F.SN_TAIL_TAIL n).off r v = s.writeTail n (v.toNat % 0x10000) := by
  have hslot : (0x30000 + 0x10 * n - 0x30000) / 16 = n := by omega
  rw [State.writeStored, if_neg, if_neg, if_pos]
  · simp only [F.SN_TAIL_TAIL, hslot]
  all_goals simp only [F.SN_TAIL_TAIL, F.PORCH_EV_READ]; omega

theorem State.busWrite_tail (path : Path) (v : Nat) (hn : n < 128) (hmode : s.mode.normal = true) :
    s.busWrite path (F.SN_TAIL_TAIL n).off 4 v = s.writeTail n (v % 65536) := by
  obtain ⟨-, hdiag⟩ := of_decide_eq_true hmode
  have hmsix : msixOffset (F.SN_TAIL_TAIL n).off = false := by
    rw [msixOffset, decide_eq_false_iff_not]
    simp only [F.SN_TAIL_TAIL]
    omega
  rw [State.busWrite, if_neg, if_neg, if_neg, if_neg, regRow_tail hn]
  · have hwritable : tailRow.writable = true := by decide
    simp only [State.writeReg, hwritable, Bool.not_true, Bool.false_eq_true, if_false, State.writeRefused_tail hmode,
      if_pos hdiag, State.writeStored_tail hn, BitVec.toNat_ofNat]
    rw [Nat.mod_mod_of_dvd _ (by decide)]
  · simp only [F.SN_TAIL_TAIL]; omega
  · rw [hmsix]; decide
  · simp only [F.SN_TAIL_TAIL]; omega
  · simp only [F.SN_TAIL_TAIL]; omega

theorem State.writeTail_closed (v : Nat) (hst : (s.stream n).st = 0) : s.writeTail n v = s := if_pos hst

theorem State.writeTail_inside {v : Nat} (hst : (s.stream n).st ≠ 0) (hv : v < (s.stream n).bind.ringSize) :
    s.writeTail n v = s.setStream n { s.stream n with tail := v } := by
  rw [State.writeTail]
  dsimp only
  rw [if_neg hst, if_neg (by omega)]

end

/-- TAIL_WRITE in a mode with streams. -/
theorem Live.gives_tailWrite {s a : State} {t n : Nat} {path : Path} (v : Nat) (h : Live s t a) (hpath : a.reaches path = true)
    (hn : n < 128) (hmode : a.mode.normal = true) : Gives (.tailWrite t path n v) s (a.writeTail n (v % 65536)) := by
  have := h.gives_of_coreStep (exec_tailWrite t path n v s)
  rwa [if_pos ⟨hpath, hn⟩, State.busWrite_tail path v hn hmode] at this

/-! ### Descriptors and write-backs (R78, R79) -/

theorem Live.gives_descriptorRetry {s a : State} {t n r : Nat} (h : Live s t a) (hn : n < 128)
    (hread : a.mayReadDescriptor n = true) (hretry : (a.stream n).retryAt = some r) (hr : r ≤ a.now) :
    Gives (.descriptorRetry t n) s ((a.decideGate n).readDescriptor n) := by
  have := h.gives_of_coreStep (exec_descriptorRetry t n s)
  simpa only [hretry, if_pos (And.intro hn (And.intro hread hr))] using this

theorem length_leBytes : ∀ n v : Nat, (leBytes n v).length = n
  | 0, _ => rfl
  | n + 1, _ => congrArg (· + 1) (length_leBytes n _)

/-- The 8 bytes of a write-back (R79). -/
def WriteBack.bytes (w : WriteBack) : List Byte := leBytes 2 w.head ++ leBytes 2 w.lastSeq ++ leBytes 4 w.consumed

theorem WriteBack.length_bytes (w : WriteBack) : w.bytes.length = 8 := by
  rw [WriteBack.bytes, List.length_append, List.length_append, length_leBytes, length_leBytes, length_leBytes]

/-- A write of host memory that goes through. -/
theorem State.hostWrite_good {s : State} {x : Nat} {l : List Byte} (hbus : s.busMaster = true)
    (hgood : touches s.host.badWrite x l.length = false) :
    s.hostWrite x l = (true, { s with host := { s.host with mem := writeBytes s.host.mem x l } }.emit (.hostWrite x l)) := by
  rw [State.hostWrite, hbus, hgood]
  rfl

/-- The write-back in front is made. -/
theorem State.makeWriteBack_good {s : State} {n : Nat} {w : WriteBack} {rest : List WriteBack}
    (hwb : (s.stream n).wb = w :: rest) (hready : w.ready = true) (hbus : s.busMaster = true)
    (hgood : touches s.host.badWrite (s.stream n).bind.wbAddr 8 = false) :
    ((s.makeWriteBack n).stream n).wb = rest ∧
      (s.makeWriteBack n).host.mem = writeBytes s.host.mem (s.stream n).bind.wbAddr w.bytes := by
  have hwrite := State.hostWrite_good (s := s.setStream n { s.stream n with wb := rest }) (l := w.bytes) hbus
    (by rw [w.length_bytes]; exact hgood)
  have hmake : s.makeWriteBack n =
      ((s.setStream n { s.stream n with wb := rest }).hostWrite (s.stream n).bind.wbAddr w.bytes).2 := by
    unfold State.makeWriteBack
    simp only [hwb, hready, if_true]
    rw [← WriteBack.bytes, hwrite]
    rfl
  rw [hmake, hwrite]
  exact ⟨congrArg Stream.wb (s.stream_setStream_same n _), rfl⟩

/-! ### Decompressors that go offline (R102) -/

/-- The status of a decompressor once it says that the decompressor is offline. -/
def State.markOffline (s : State) (k cause : Nat) : State :=
  ((s.set (F.DECOMP_DC_STATUS_STATE k) 3).set (F.DECOMP_DC_STATUS_OFF_CAUSE k) cause).set (F.DECOMP_DC_STATUS_STREAM_VALID k) 0

section
variable (s : State) (k cause : Nat)

theorem State.markOffline_shows : (s.markOffline k cause).get (F.DECOMP_DC_STATUS_STATE k) = 3 ∧
    (s.markOffline k cause).get (F.DECOMP_DC_STATUS_OFF_CAUSE k) = cause % 4 := by
  have hcause : (F.DECOMP_DC_STATUS_OFF_CAUSE k).lo + (F.DECOMP_DC_STATUS_OFF_CAUSE k).width ≤ 32 := by
    simp [F.DECOMP_DC_STATUS_OFF_CAUSE]
  have hvalid : (F.DECOMP_DC_STATUS_STREAM_VALID k).lo + (F.DECOMP_DC_STATUS_STREAM_VALID k).width ≤ 32 := by
    simp [F.DECOMP_DC_STATUS_STREAM_VALID]
  constructor
  · rw [State.markOffline, State.get_set_apart _ _ hvalid
        (.inr (.inr (by simp [F.DECOMP_DC_STATUS_STREAM_VALID, F.DECOMP_DC_STATUS_STATE]))),
      State.get_set_apart _ _ hcause (.inr (.inr (by simp [F.DECOMP_DC_STATUS_OFF_CAUSE, F.DECOMP_DC_STATUS_STATE]))),
      State.get_set_same _ _ _ (by simp [F.DECOMP_DC_STATUS_STATE])]
    rfl
  · rw [State.markOffline, State.get_set_apart _ _ hvalid
        (.inr (.inl (by simp [F.DECOMP_DC_STATUS_STREAM_VALID, F.DECOMP_DC_STATUS_OFF_CAUSE]))),
      State.get_set_same _ _ _ hcause]
    rfl

end

theorem SameAt.placeStreams {s : State} {off : Nat} : ∀ {l placed : List Nat} {u : State}, SameAt off s u →
    SameAt off s (u.placeStreams placed l)
  | [], _, _, h => h
  | n :: l, placed, u, h => by
    rw [State.placeStreams]
    refine SameAt.placeStreams ?_
    unfold State.placeStream
    split
    · exact h.setStream n _
    · exact h

theorem SameAt.countDecomps {s u : State} {off : Nat} (h : SameAt off s u)
    (hoff : ∀ k, off ≠ (F.DECOMP_DC_STREAMS_COUNT k).off) : SameAt off s u.countDecomps :=
  foldl_keeps (SameAt off s) _ (fun _ k hu => hu.set _ (hoff k)) _ u h

/-- A decompressor that goes offline shows it with its cause. -/
theorem State.decompOffline_shows (s : State) {k : Nat} (cause : Nat) (hk : k < 8)
    (hon : s.get (F.DECOMP_DC_STATUS_STATE k) ≠ 3) :
    (s.decompOffline k cause).get (F.DECOMP_DC_STATUS_STATE k) = 3 ∧
      (s.decompOffline k cause).get (F.DECOMP_DC_STATUS_OFF_CAUSE k) = cause % 4 := by
  have hsame : ∃ u : State, SameAt (F.DECOMP_DC_STATUS k).off (u.markOffline k cause) (s.decompOffline k cause) := by
    rw [State.decompOffline, if_neg (by omega)]
    refine ⟨_, .limpRaise (.cause (.countDecomps (.placeStreams (.refl _ _)) fun j => ?_) _ ?_) _ _ ?_⟩
    · simp only [F.DECOMP_DC_STATUS, F.DECOMP_DC_STREAMS_COUNT]; omega
    · simp only [F.DECOMP_DC_STATUS, F.STREAM_INT_STATUS_DECOMP_OFFLINE]; omega
    · simp only [F.DECOMP_DC_STATUS]; omega
  obtain ⟨u, h⟩ := hsame
  obtain ⟨hstate, hcause⟩ := u.markOffline_shows k cause
  exact ⟨(SameAt.get (f := F.DECOMP_DC_STATUS_STATE k) h).trans hstate,
    (SameAt.get (f := F.DECOMP_DC_STATUS_OFF_CAUSE k) h).trans hcause⟩

/-- A decompressor that takes a packet is not offline. -/
theorem State.get_state_setDecomp_busy (s : State) (k : Nat) {d : Decomp} {n t : Nat} (hd : d.busy = some (n, t)) :
    (s.setDecomp k d).get (F.DECOMP_DC_STATUS_STATE k) = 2 := by
  unfold State.setDecomp
  simp only [hd]
  rw [State.get_set_apart _ _ (by simp [F.DECOMP_DC_STATUS_STREAM_VALID])
      (.inr (.inr (by simp [F.DECOMP_DC_STATUS_STREAM_VALID, F.DECOMP_DC_STATUS_STATE]))),
    State.get_set_apart _ _ (by simp [F.DECOMP_DC_STATUS_STREAM])
      (.inr (.inr (by simp [F.DECOMP_DC_STATUS_STREAM, F.DECOMP_DC_STATUS_STATE]))),
    State.get_set_same _ _ _ (by simp [F.DECOMP_DC_STATUS_STATE])]
  rfl

section
variable {s a : State} {t k : Nat}

theorem Live.gives_sdsPacket (h : Live s t a) (hk : k < 8) : Gives (.sdsPacket t k false) s (a.decompTurn k) := by
  have := h.gives_of_coreStep (exec_sdsPacket t k false s)
  rwa [if_neg (by omega), if_neg Bool.false_ne_true] at this

/-- A parity failure takes the decompressor offline with the packet that it works on or would take next. -/
theorem Live.gives_sdsPacket_parity (h : Live s t a) (hk : k < 8) (hon : a.get (F.DECOMP_DC_STATUS_STATE k) ≠ 3) :
    ∃ u : State, u.get (F.DECOMP_DC_STATUS_STATE k) ≠ 3 ∧ Gives (.sdsPacket t k true) s (u.decompOffline k 0) := by
  have := h.gives_of_coreStep (exec_sdsPacket t k true s)
  rw [if_neg (by omega), if_pos rfl] at this
  split at this
  · exact ⟨a, hon, this⟩
  · split at this
    · exact ⟨_, by rw [a.get_state_setDecomp_busy k rfl]; decide, this⟩
    · exact ⟨a, hon, this⟩

theorem Live.gives_decompPacketTimeout {n since : Nat} (h : Live s t a) (hk : k < 8)
    (hbusy : (a.decomps.get {} k).busy = some (n, since)) (hlate : since + 2000000 < a.now) :
    Gives (.decompPacketTimeout t k) s (a.decompOffline k 1) := by
  have := h.gives_of_coreStep (exec_decompPacketTimeout t k s)
  simpa only [hbusy, if_pos (And.intro hk hlate)] using this

end

/-- Settles O26: each row is one operation on streams or decompressors. -/
theorem streamCommandsTakeEffect : Obligations.StreamCommandsTakeEffect := by
  intro s a t hlive
  refine ⟨?_, ?_, ?_, ?_, ?_, ?_, ?_⟩
  case refine_1 =>
    intro path n v hpath hn hmode hst hv
    rw [← State.writeTail_inside hst hv]
    exact hlive.gives_tailWrite v hpath hn hmode
  case refine_2 =>
    intro path n v hpath hn hmode hst
    have := hlive.gives_tailWrite v hpath hn hmode
    rwa [State.writeTail_closed _ hst] at this
  case refine_3 => exact fun n r hn hread hretry hr => hlive.gives_descriptorRetry hn hread hretry hr
  case refine_4 =>
    intro n w rest hn hwb hready hbus hgood
    have hgives := hlive.gives_of_coreStep (exec_writeBack t n s)
    rw [if_pos hn] at hgives
    obtain ⟨hrest, hmem⟩ := State.makeWriteBack_good hwb hready hbus hgood
    have hlen := w.length_bytes
    refine ⟨_, hgives, hrest, ?_, fun x hx => ?_⟩
    · rw [hmem, ← WriteBack.bytes, ← hlen]
      exact readBytes_writeBytes _ _ _
    · rw [hmem]
      exact byteOf_writeBytes_outside _ _ _ _ (by omega)
  case refine_5 => exact fun k hk => hlive.gives_sdsPacket hk
  case refine_6 =>
    intro k hk hon
    obtain ⟨u, hu, hgives⟩ := hlive.gives_sdsPacket_parity hk hon
    exact ⟨_, hgives, u.decompOffline_shows 0 hk hu⟩
  case refine_7 =>
    intro k n since hk hon hbusy hlate
    exact ⟨_, hlive.gives_decompPacketTimeout hk hbusy hlate, a.decompOffline_shows 1 hk hon⟩

end Sys2Proof.Machine
end

section
/-! The slices of a window and the sources of neighbour spread (R124, R126, R127). -/

namespace Sys2Proof.Machine

/-! ### Slices (R127) -/

/-- Slice `j` of a window of `c` columns shared by `n` engines holds column `x`. -/
def InSlice (c n x j : Nat) : Prop := j < n ∧ j * c / n ≤ x ∧ x < (j + 1) * c / n

section
variable {c n x j : Nat}

/-- The slices begin in the order of their numbers. -/
theorem sliceStart_mono {i : Nat} (h : i ≤ j) : i * c / n ≤ j * c / n := Nat.div_le_div_right (Nat.mul_le_mul_right c h)

/-- The slices that begin at or before a column are those up to the one that holds it. -/
theorem InSlice.start_le_iff (h : InSlice c n x j) (i : Nat) : i * c / n ≤ x ↔ i ≤ j := by
  obtain ⟨-, hlo, hhi⟩ := h
  constructor
  · intro hi
    by_contra hlt
    have : (j + 1) * c / n ≤ i * c / n := sliceStart_mono (by omega)
    omega
  · intro hi
    exact (sliceStart_mono hi).trans hlo

theorem length_filter_range_le (h : j < n) : ((List.range n).filter (fun i => decide (i ≤ j))).length = j + 1 := by
  obtain ⟨k, rfl⟩ := Nat.exists_eq_add_of_lt h
  rw [show j + k + 1 = j + 1 + k by omega, List.range_add, List.filter_append, List.filter_eq_self.2, List.filter_eq_nil_iff.2]
  · simp
  · simp only [List.mem_map, decide_eq_true_eq]
    rintro _ ⟨i, -, rfl⟩
    omega
  · simp only [List.mem_range, decide_eq_true_eq]
    omega

theorem InSlice.sliceOf_eq (h : InSlice c n x j) : sliceOf c n x = j := by
  simp only [sliceOf, h.start_le_iff, length_filter_range_le h.1, Nat.add_sub_cancel]

/-- The first slice that ends behind a column holds it. -/
theorem exists_inSlice (hn : 0 < n) (hx : x < c) : ∃ j, InSlice c n x j := by
  have hlast : x < (n - 1 + 1) * c / n := by rwa [Nat.sub_add_cancel hn, Nat.mul_div_cancel_left _ hn]
  have hex : ∃ j, x < (j + 1) * c / n := ⟨n - 1, hlast⟩
  have hle : Nat.find hex ≤ n - 1 := Nat.find_min' hex hlast
  refine ⟨Nat.find hex, by omega, ?_, Nat.find_spec hex⟩
  rcases hj : Nat.find hex with _ | i
  · simp
  · exact Nat.le_of_not_lt (Nat.find_min hex (by omega))

theorem sliceOf_eq_iff (hn : 0 < n) (hx : x < c) : sliceOf c n x = j ↔ InSlice c n x j := by
  refine ⟨fun h => ?_, InSlice.sliceOf_eq⟩
  obtain ⟨i, hi⟩ := exists_inSlice hn hx
  rwa [← h, hi.sliceOf_eq]

end

/-- Settles O27: the slices begin in ascending order, and the last one ends with the window. -/
theorem everyColumnHasOneOwningSlice : Obligations.EveryColumnHasOneOwningSlice := by
  intro engines c x hne hx
  have hn : 0 < engines.length := List.length_pos_of_ne_nil hne
  obtain ⟨hlt, -⟩ := (sliceOf_eq_iff hn hx).1 rfl
  have hget := List.getElem?_eq_getElem hlt
  exact ⟨fun j => sliceOf_eq_iff hn hx, _, hget, by rw [ownerOf, List.getD_eq_getElem?_getD, hget, Option.getD_some]⟩

/-! ### Sources of one target (R124) -/

/-- A source is at least as good as another for target `t`: it is no farther, and at equal distance it stands on the side that
the parity of the line prefers. -/
def Leads (even : Bool) (t x y : Nat) : Prop :=
  ((x : Int) - t).natAbs ≤ ((y : Int) - t).natAbs ∧
    (((x : Int) - t).natAbs = ((y : Int) - t).natAbs → if even then x ≤ y else y ≤ x)

section
variable {even : Bool} {t x y z : Nat}

theorem Leads.refl (even : Bool) (t x : Nat) : Leads even t x x := ⟨le_rfl, fun _ => by split <;> exact le_rfl⟩

theorem Leads.trans (h : Leads even t x y) (h' : Leads even t y z) : Leads even t x z := by
  cases even <;> simp only [Leads, if_true, Bool.false_eq_true, if_false] at * <;> omega

/-- A source that beats another leads it, and one that does not is led by it. -/
theorem leads_of_beats (even : Bool) (t x y : Nat) : if beats even t x y then Leads even t x y else Leads even t y x := by
  have hdist : ∀ a, (if a < t then t - a else a - t) = ((a : Int) - t).natAbs := fun a => by split <;> omega
  simp only [beats, hdist, Leads, Bool.or_eq_true, Bool.and_eq_true, decide_eq_true_eq]
  cases even
  · simp only [Bool.false_eq_true, if_false, decide_eq_true_eq]
    split <;> omega
  · simp only [if_true, decide_eq_true_eq]
    split <;> omega

/-- One comparison of R124: the best source so far against one more. -/
def betterSource (even : Bool) (t : Nat) : Option Nat → Nat → Option Nat
  | none, x => some x
  | some b, x => if beats even t x b then some x else some b

theorem betterSource_leads (even : Bool) (t b x : Nat) : ∃ w, betterSource even t (some b) x = some w ∧ (w = b ∨ w = x) ∧
    Leads even t w b ∧ Leads even t w x := by
  have h := leads_of_beats even t x b
  rw [betterSource]
  split at h
  · exact ⟨x, if_pos ‹_›, .inr rfl, h, .refl _ _ _⟩
  · exact ⟨b, if_neg ‹_›, .inl rfl, .refl _ _ _, h⟩

/-- The best of a list of sources is one of them and leads them all. -/
theorem foldl_betterSource_leads : ∀ (l : List Nat) (b : Nat), ∃ w, l.foldl (betterSource even t) (some b) = some w ∧
    w ∈ b :: l ∧ ∀ y ∈ b :: l, Leads even t w y
  | [], b => ⟨b, rfl, List.mem_singleton_self b, fun y hy => List.mem_singleton.1 hy ▸ .refl even t y⟩
  | x :: l, b => by
    obtain ⟨v, hv, hvmem, hvb, hvx⟩ := betterSource_leads even t b x
    obtain ⟨w, hw, hwmem, hlead⟩ := foldl_betterSource_leads l v
    have hwv : Leads even t w v := hlead v List.mem_cons_self
    refine ⟨w, by rw [List.foldl_cons, hv, hw], ?_, ?_⟩
    · simp only [List.mem_cons] at hwmem ⊢
      rcases hwmem with rfl | hwl
      · tauto
      · exact .inr (.inr hwl)
    · simp only [List.mem_cons, forall_eq_or_imp] at hlead ⊢
      exact ⟨hwv.trans hvb, hwv.trans hvx, hlead.2⟩

end

section
variable (even : Bool) (live : List (Nat × Option Nat)) (t : Nat)

/-- The sources of a target. -/
def sourcesOf : List Nat := (live.filter (fun x => x.2 = some t)).map (·.1)

theorem mem_sourcesOf {y : Nat} : y ∈ sourcesOf live t ↔ (y, some t) ∈ live := by simp [sourcesOf]

theorem winner_eq : winner even live t = (sourcesOf live t).foldl (betterSource even t) none := by
  rw [winner, sourcesOf]
  congr 1
  funext best x
  cases best <;> rfl

/-- A target without a source has no winner; else the winner is a source of it that leads all its sources. -/
theorem winner_cases : (winner even live t = none ∧ ∀ y, (y, some t) ∉ live) ∨
    ∃ x, winner even live t = some x ∧ (x, some t) ∈ live ∧ ∀ y, (y, some t) ∈ live → Leads even t x y := by
  simp only [winner_eq, ← mem_sourcesOf]
  rcases sourcesOf live t with _ | ⟨b, l⟩
  · exact .inl ⟨rfl, fun _ => List.not_mem_nil⟩
  · exact .inr (foldl_betterSource_leads l b)

end

/-! ### The counts of spread and drop (R125, R126) -/

/-- The engine that owns the column where the decision about a source falls: its target's, or its own without a target. -/
def InFlight.decides (f : InFlight) (c : Nat) (x : Nat × Option Nat) : Nat := f.owner c (x.2.getD x.1)

/-- An engine places or drops the sources that it decides. -/
theorem InFlight.spreadCounts_sum (f : InFlight) (c : Nat) (live : List (Nat × Option Nat)) (e : Nat) :
    (f.spreadCounts c live e).1 + (f.spreadCounts c live e).2 = (live.map (f.decides c)).count e := by
  have hplaced : ∀ l : List (Nat × Option Nat), (l.filterMap (·.2)).dedup.length ≤ l.length := fun l =>
    (List.dedup_sublist _).length_le.trans (List.length_filterMap_le _ _)
  simp only [InFlight.spreadCounts]
  rw [← Nat.add_assoc, Nat.add_sub_cancel' (hplaced _)]
  clear hplaced
  induction live with
  | nil => rfl
  | cons x l ih =>
    obtain ⟨x, _ | t⟩ := x
    · rcases eq_or_ne (f.owner c x) e with h | h
      · simp [InFlight.decides, h, ← ih, Nat.add_assoc]
      · simp [InFlight.decides, h, ← ih]
    · rcases eq_or_ne (f.owner c t) e with h | h
      · simp [InFlight.decides, h, ← ih, Nat.add_right_comm]
      · simp [InFlight.decides, h, ← ih]

/-- Counts over distinct values that cover a list add up to its length. -/
theorem sum_map_count_of_nodup {l m : List Nat} (hl : l.Nodup) (hm : ∀ a ∈ m, a ∈ l) :
    (l.map (m.count ·)).sum = m.length := by
  rw [← List.sum_toFinset _ hl]
  have h := Multiset.sum_count_eq_card (s := l.toFinset) (m := (m : Multiset Nat)) (by simpa using hm)
  simpa only [Multiset.coe_count, Multiset.coe_card] using h

/-- Settles O29: the comparisons of R124 order the sources of a target, and each source is decided by one engine. -/
theorem nearestSourceWinsTheTarget : Obligations.NearestSourceWinsTheTarget := by
  refine ⟨fun even live t x hx => ?_, fun even live t y hy => ?_, fun f c live engines hnodup howner => ?_⟩
  · rcases winner_cases even live t with ⟨hnone, -⟩ | ⟨w, hw, hmem, hlead⟩
    · rw [hnone] at hx
      cases hx
    · obtain rfl := Option.some.inj (hw.symm.trans hx)
      exact ⟨hmem, hlead⟩
  · rcases winner_cases even live t with ⟨-, hnot⟩ | ⟨w, hw, -⟩
    · exact absurd hy (hnot y)
    · rw [hw]
      rfl
  · simp only [InFlight.spreadCounts_sum]
    rw [sum_map_count_of_nodup hnodup, List.length_map]
    simp only [List.mem_map, forall_exists_index, and_imp, forall_apply_eq_imp_iff₂]
    rintro ⟨x, target⟩ hx
    obtain ⟨hsource, htarget⟩ := howner _ hx
    cases target with
    | none => exact hsource
    | some t => exact htarget t rfl

end Sys2Proof.Machine
end

section
/-! What the Cellar's reads and writes, event lines, limp conditions and the status of the engines leave of the streams and of
the lines in the line engines. -/

namespace Sys2Proof.Machine

/-! ### Operations that leave the streams and the lines -/

section
variable {s u v : State}

theorem SameStreams.trans (h : SameStreams s u) (h' : SameStreams u v) : SameStreams s v :=
  ⟨h'.1.trans h.1, h'.2.trans h.2⟩

theorem SameStreams.queueHealth (h : SameStreams s u) (e : HealthEvent) : SameStreams s (u.queueHealth e) := by
  unfold State.queueHealth
  exact .ite h (.cause (.bump h _ _) _ _)

theorem SameStreams.limpRaise (h : SameStreams s u) (code inst : Nat) : SameStreams s (u.limpRaise code inst) := by
  unfold State.limpRaise
  refine .ite h (.queueHealth (.ite (.set (.cause (.set (.cause ?_ _ _) _ _) _ _) _ _) (.set (.cause ?_ _ _) _ _)) _)
  all_goals exact h

theorem SameStreams.setChan (h : SameStreams s u) (c : Nat) (x : Chan) : SameStreams s (u.setChan c x) := h

theorem SameStreams.setBit (h : SameStreams s u) (f : Fld) (k : Nat) (b : Bool) : SameStreams s (u.setBit f k b) := h

theorem SameStreams.loseChannel (h : SameStreams s u) (c cause : Nat) : SameStreams s (u.loseChannel c cause) := by
  unfold State.loseChannel
  exact .ite (.limpRaise (.cause (.setChan (.set (.setBit (.set (.set (.set h _ _) _ _) _ _) _ _ _) _ _) _ _) _ _) _ _) h

theorem SameStreams.enterHistory (h : SameStreams s u) (c : Nat) (lanes : List Nat) : SameStreams s (u.enterHistory c lanes) := by
  unfold State.enterHistory
  refine .set (.set (foldl_keeps (SameStreams s) _ (fun a l ha => ?_) _ _ (h.setChan c _)) _ _) _ _
  split
  · exact ha
  split
  · exact .limpRaise (.cause (.set (.set (.set ha _ _) _ _) _ _) _ _) _ _
  · split
    · exact ha
    · exact ha.loseChannel c 3

theorem SameStreams.lastCellarErr (h : SameStreams s u) (c b kind : Nat) (scrub : Bool) :
    SameStreams s (u.lastCellarErr c b kind scrub) := h

theorem SameStreams.uncorrRate (h : SameStreams s u) (c : Nat) : SameStreams s (u.uncorrRate c) := by
  unfold State.uncorrRate
  dsimp only
  exact .ite ((h.setChan c _).loseChannel c 2) (h.setChan c _)

theorem SameStreams.reportRead (h : SameStreams s u) (c b : Nat) (scrub : Bool) (o : ReadOutcome) :
    SameStreams s (u.reportRead c b scrub o) := by
  unfold State.reportRead
  split
  · exact h
  · exact .enterHistory (.summary (.cause (.bump (.bump h _ _) _ _) _ _) _ _) _ _
  · exact .summary (.cause (.lastCellarErr (.bump (.bump h _ _) _ _) _ _ _ _) _ _) _ _
  · exact .uncorrRate (.summary (.cause (.lastCellarErr (.bump (.bump h _ _) _ _) _ _ _ _) _ _) _ _) _

theorem SameStreams.cellarRead (h : SameStreams s u) (b : Nat) : SameStreams s (u.cellarRead b).2 := by
  unfold State.cellarRead
  split
  · exact h
  · split
    · exact (h.setChan _ _).reportRead _ _ _ _
    · exact h

theorem State.cellarReads_cons (b : Nat) (l : List Nat) : (u.cellarReads (b :: l)).2 = ((u.cellarRead b).2.cellarReads l).2 := rfl

theorem SameStreams.cellarReads : ∀ {u : State} (_ : SameStreams s u) (l : List Nat), SameStreams s (u.cellarReads l).2
  | _, h, [] => h
  | u, h, b :: l => by
    rw [State.cellarReads_cons]
    exact SameStreams.cellarReads (h.cellarRead b) l

theorem SameStreams.setCodeword (h : SameStreams s u) (b : Nat) (w : Codeword) : SameStreams s (u.setCodeword b w) := h

theorem SameStreams.cellarWrite (h : SameStreams s u) (b : Nat) (bytes : List Byte) : SameStreams s (u.cellarWrite b bytes) := by
  unfold State.cellarWrite
  split
  · exact h
  · dsimp only
    refine .ite (.setCodeword (.ite (.bump (h.setChan _ _) _ _) (h.setChan _ _)) _ _) (.bump (.bump h _ _) _ _)

theorem State.readTile_cons (p n : Nat) (t : Tile) (e : Nat) (l : List Nat) : (u.readTile p n t (e :: l)).2 =
    ((u.cellarReads ((List.range 8).map (· + u.tileBlock p (n % t.th)))).2.readTile p n t l).2 := by
  simp only [State.readTile]

theorem SameStreams.readTile (p n : Nat) (t : Tile) : ∀ {u : State} (_ : SameStreams s u) (l : List Nat),
    SameStreams s (u.readTile p n t l).2
  | _, h, [] => h
  | u, h, e :: l => by
    rw [State.readTile_cons]
    exact SameStreams.readTile p n t (h.cellarReads _) l

theorem SameStreams.setChans (h : SameStreams s u) (x : Tbl GenChan) : SameStreams s { u with chans := x } := h

theorem SameStreams.pulse (h : SameStreams s u) (k : Nat) : SameStreams s (u.pulse k) := by
  unfold State.pulse
  refine foldl_keeps (SameStreams s) _ (fun a m ha => ?_) _ _ (h.setArrBit _ _ _)
  exact .ite (.cause (.bump (ha.setChans _) _ _) _ _) (ha.setChans _)

theorem SameStreams.showEngines (h : SameStreams s u) : SameStreams s u.showEngines := by
  unfold State.showEngines
  refine .set (.set (foldl_keeps (SameStreams s) _ (fun a e ha => ?_) _ _ (foldl_keeps (SameStreams s) _ (fun a e ha => ?_) _ _ h))
    _ _) _ _
  · exact .set (.set ha _ _) _ _
  · exact .set (.set (.set ha _ _) _ _) _ _

end

/-! ### The streams and the queues of lines -/

/-- Two states hold the same streams, and the same lines are handed and in flight. -/
def SameQueues (s u : State) : Prop :=
  u.streams = s.streams ∧ u.lines.handed = s.lines.handed ∧ u.lines.inFlight = s.lines.inFlight

section
variable {s u v : State}

theorem SameStreams.sameQueues (h : SameStreams s u) : SameQueues s u := by
  obtain ⟨hstreams, hlines⟩ := h
  exact ⟨hstreams, by rw [hlines], by rw [hlines]⟩

theorem SameQueues.refl (s : State) : SameQueues s s := ⟨rfl, rfl, rfl⟩

theorem SameQueues.trans (h : SameQueues s u) (h' : SameQueues u v) : SameQueues s v := by
  obtain ⟨hstreams, hhanded, hflight⟩ := h
  obtain ⟨hstreams', hhanded', hflight'⟩ := h'
  exact ⟨hstreams'.trans hstreams, hhanded'.trans hhanded, hflight'.trans hflight⟩

theorem State.sameQueues_countMaskZero (s : State) (p n : Nat) : SameQueues s (s.countMaskZero p n) := by
  unfold State.countMaskZero
  split
  · exact .refl s
  · exact (SameStreams.cause (.bump (.refl _) _ _) _ _).sameQueues

theorem State.sameQueues_recordLine (s : State) (g : Ring) (x : StoredLine) : SameQueues s (s.recordLine g x) := .refl s

theorem State.sameQueues_writeRow (s : State) (f : InFlight) (b : Binding) (bits w : Nat) (live : List (Nat × Option Nat))
    (r : RowEntry) : SameQueues s (s.writeRow f b bits w live r) := by
  unfold State.writeRow
  split
  · exact .refl s
  · exact (foldl_keeps (SameStreams s) _ (fun _ k hu => hu.cellarWrite _ _) _ _ (.refl s)).sameQueues.trans
      (State.sameQueues_recordLine _ _ _)

theorem SameQueues.sameStreams (h : SameQueues s u) (h' : SameStreams u v) : SameQueues s v := h.trans h'.sameQueues

theorem SameQueues.set (h : SameQueues s u) (f : Fld) (v : Nat) : SameQueues s (u.set f v) := h

theorem SameQueues.bump (h : SameQueues s u) (f : Fld) (n : Nat) : SameQueues s (u.bump f n) := h

theorem SameQueues.setBusy (h : SameQueues s u) (x : Tbl Nat) : SameQueues s { u with lines := { u.lines with busy := x } } := h

theorem State.sameQueues_countSlice (s : State) (f : InFlight) (b : Binding) (bits : Nat) (live : List (Nat × Option Nat))
    (ns : Nat) (wrote : Bool) (e : Nat) : SameQueues s (s.countSlice f b bits live ns wrote e) := by
  unfold State.countSlice
  extract_lets _ _ _ _ s1 _ s2 s3 s4
  split
  extract_lets s6 s7
  have h4 : SameQueues s s4 := .set (.set (.set (.set (.setBusy (.set (.bump (.refl s) _ _) _ _) _) _ _) _ _) _ _) _ _
  have h7 : SameQueues s s7 :=
    .sameStreams (.bump (.bump (.bump (.bump (.bump (.bump (.bump h4 _ _) _ _) _ _) _ _) _ _) _ _) _ _) (.summary (.refl _) _ _)
  split
  · split
    · exact h4.bump _ _
    · exact h4
  · split
    · exact h7
    · exact h7.sameStreams (.cause (.refl _) _ _)

theorem State.sameQueues_flagPartial (s : State) (f : InFlight) : SameQueues s (s.flagPartial f) :=
  (SameStreams.cause (.set (.set (.set (.set (.set (.bump (.refl s) _ _) _ _) _ _) _ _) _ _) _ _) _ _).sameQueues

theorem State.sameStreams_pulseGroups (s : State) (f : InFlight) : SameStreams s (s.pulseGroups f) :=
  foldl_keeps (SameStreams s) _ (fun _ _ hu => .ite (hu.pulse _) hu) _ s (.refl s)

end

end Sys2Proof.Machine
end

section
/-! The line engines: a line is begun, a line is stored, an engine goes offline (R111, R112, R114, R129 to R133). -/

namespace Sys2Proof.Machine

/-! ### Lines begun (R111, R112, R114) -/

/-- The record of a line as the engines begin it: under the published epoch, with the engines then online. -/
def InFlight.IsBegun (f : InFlight) (s : State) (h : Handed) : Prop :=
  f.stream = h.stream ∧ f.plane = h.plane ∧ f.line = h.line ∧ f.epoch = s.get F.WATCH_EPOCH ∧
    f.engines = s.onlineEngines ∧ f.lost = [] ∧ f.blank = h.levels.isNone

section
variable (s : State) {h : Handed}

@[simp] theorem State.lines_showEngines : s.showEngines.lines = s.lines := (SameStreams.refl s).showEngines.2

/-- The line begun joins those in flight; reading the tile touches no queue. -/
theorem State.beginLine_begins : ∃ f : InFlight, f.IsBegun s h ∧ (s.beginLine h).lines.handed = s.lines.handed ∧
    (s.beginLine h).lines.inFlight = s.lines.inFlight ++ [f] ∧ (s.beginLine h).lines.epochInUse = s.get F.WATCH_EPOCH := by
  unfold State.beginLine
  extract_lets b engines c f
  split
  rename_i g s1 hbegun
  have key : g.IsBegun s h ∧ SameQueues s s1 := by
    split at hbegun
    case h_1 hblank =>
      obtain ⟨rfl, rfl⟩ := Prod.mk.inj hbegun
      exact ⟨⟨rfl, rfl, rfl, rfl, rfl, rfl, by rw [hblank]; rfl⟩, .refl s⟩
    case h_2 levels hlevels =>
      split at hbegun
      rename_i reads s2 htile
      obtain ⟨rfl, rfl⟩ := Prod.mk.inj hbegun
      have hread : SameQueues s s2 := by
        split at htile
        · obtain rfl : _ = s2 := congrArg Prod.snd htile
          exact ((SameStreams.refl s).readTile _ _ _ _).sameQueues
        · obtain rfl : s = s2 := congrArg Prod.snd htile
          exact .refl s
      refine ⟨⟨rfl, rfl, rfl, rfl, rfl, rfl, by rw [hlevels]; rfl⟩, ?_⟩
      split
      · exact hread.trans (s2.sameQueues_countMaskZero _ _)
      · exact hread
  obtain ⟨hg, -, hhanded, hflight⟩ := key
  obtain ⟨-, -, -, hepoch, -⟩ := id hg
  refine ⟨g, hg, ?_⟩
  rw [State.lines_showEngines]
  exact ⟨hhanded, congrArg (· ++ [g]) hflight, hepoch⟩

end

/-! ### Lines stored (R103, R129, R130) -/

@[simp] theorem State.plane_setPlane_same (s : State) (n p : Nat) (x : PlaneSt) : (s.setPlane n p x).plane n p = x := by
  simp only [State.plane, State.setPlane, State.stream_setStream_same, Tbl.get_set_same]

theorem SameQueues.plane {s u : State} (h : SameQueues s u) (n p : Nat) : u.plane n p = s.plane n p := by
  rw [State.plane, State.plane, State.stream, State.stream, h.1]

/-- A line that is stored leaves the queues, and its plane passes its write line. -/
theorem State.storeLine_stores (s : State) (f : InFlight) (ns : List Nat) :
    (s.storeLine f ns).lines.inFlight = s.lines.inFlight ∧ ((s.storeLine f ns).plane f.stream f.plane).storedEnd =
      max (s.plane f.stream f.plane).storedEnd (f.line + (s.stream f.stream).bind.barOffset + 1) := by
  unfold State.storeLine
  extract_lets b bits w live rows late s1 writers s2 s3 x s4
  have h1 : SameQueues s s1 := by
    unfold s1
    split
    · exact .refl s
    · exact foldl_keeps (SameQueues s) _ (fun u r hu => hu.trans (u.sameQueues_writeRow f b bits w live r)) _ s (.refl s)
  have h2 : SameQueues s s2 := foldl_keeps (SameQueues s) _ (fun u e hu => hu.trans (u.sameQueues_countSlice _ _ _ _ _ _ _)) _ _ h1
  have h3 : SameQueues s s3 := by
    unfold s3
    split
    · exact h2
    · exact h2.trans (s2.sameQueues_flagPartial f)
  have h4 := (s4.sameStreams_pulseGroups f).sameQueues
  refine ⟨h4.2.2.trans h3.2.2, ?_⟩
  rw [h4.plane, State.plane_setPlane_same]
  exact congrArg (fun y : PlaneSt => max y.storedEnd (w + 1)) (h3.plane _ _)

/-! ### Engines that go offline (R131) -/

theorem mem_insertLimp (x : Nat × Nat) : ∀ l : List (Nat × Nat), x ∈ insertLimp l x
  | [] => List.mem_singleton_self x
  | c :: l => by
    have ih := mem_insertLimp x l
    unfold insertLimp
    split
    · exact ‹c = x› ▸ List.mem_cons_self
    · split
      · exact List.mem_cons_self
      · exact List.mem_cons_of_mem c ih

section
variable (s : State)

@[simp] theorem State.health_cause (f : Fld) (v : Nat) : (s.cause f v).health = s.health := by
  obtain ⟨l, hl⟩ := sendNewMsi_sent s (s.set f (s.get f ||| v))
  rw [State.cause, hl]
  rfl

theorem State.limps_queueHealth (e : HealthEvent) : (s.queueHealth e).health.limps = s.health.limps := by
  unfold State.queueHealth
  split <;> simp

/-- A limp condition that is raised is present. -/
theorem State.mem_limps_limpRaise (code inst : Nat) : (code, inst) ∈ (s.limpRaise code inst).health.limps := by
  unfold State.limpRaise
  split
  · exact List.contains_iff_mem.1 ‹_›
  · dsimp only
    rw [State.limps_queueHealth]
    split <;> simp [mem_insertLimp]

/-- The state and the cause of an engine. -/
def SameEngine (e : Nat) (s u : State) : Prop :=
  u.get (F.LE_STATUS_STATE e) = s.get (F.LE_STATUS_STATE e) ∧ u.get (F.LE_STATUS_OFF_CAUSE e) = s.get (F.LE_STATUS_OFF_CAUSE e)

variable {s} {u : State} {e : Nat}

theorem SameEngine.set (h : SameEngine e s u) {f : Fld} (v : Nat) (hfit : f.lo + f.width ≤ 32)
    (hstate : f.apart (F.LE_STATUS_STATE e)) (hcause : f.apart (F.LE_STATUS_OFF_CAUSE e)) : SameEngine e s (u.set f v) :=
  ⟨(u.get_set_apart v hfit hstate).trans h.1, (u.get_set_apart v hfit hcause).trans h.2⟩

theorem SameEngine.setSlice (h : SameEngine e s u) (d v : Nat) : SameEngine e s (u.set (F.LE_STATUS_SLICE d) v) :=
  h.set v (by simp [F.LE_STATUS_SLICE]) (.inr (.inr (by simp [F.LE_STATUS_SLICE, F.LE_STATUS_STATE])))
    (.inr (.inr (by simp [F.LE_STATUS_SLICE, F.LE_STATUS_OFF_CAUSE])))

theorem SameEngine.setActive (h : SameEngine e s u) (d v : Nat) : SameEngine e s (u.set (F.LE_STATUS_ACTIVE d) v) :=
  h.set v (by simp [F.LE_STATUS_ACTIVE]) (.inr (.inr (by simp [F.LE_STATUS_ACTIVE, F.LE_STATUS_STATE])))
    (.inr (.inr (by simp [F.LE_STATUS_ACTIVE, F.LE_STATUS_OFF_CAUSE])))

theorem SameEngine.setState (h : SameEngine e s u) {d : Nat} (v : Nat) (hd : d ≠ e) :
    SameEngine e s (u.set (F.LE_STATUS_STATE d) v) :=
  h.set v (by simp [F.LE_STATUS_STATE]) (.inl (by simp only [F.LE_STATUS_STATE]; omega))
    (.inr (.inl (by simp [F.LE_STATUS_STATE, F.LE_STATUS_OFF_CAUSE])))

theorem SameAt.sameEngine (h : SameAt (F.LE_STATUS e).off s u) : SameEngine e s u :=
  ⟨SameAt.get (f := F.LE_STATUS_STATE e) h, SameAt.get (f := F.LE_STATUS_OFF_CAUSE e) h⟩

theorem SameEngine.trans {v : State} (h : SameEngine e s u) (h' : SameEngine e u v) : SameEngine e s v :=
  ⟨h'.1.trans h.1, h'.2.trans h.2⟩

/-- The status of the engines shows the online ones as idle or busy, and leaves the state of the others. -/
theorem State.sameEngine_showEngines (he : e < 12) (hoff : s.engineOn e = false) : SameEngine e s s.showEngines := by
  have honline : ∀ d ∈ s.onlineEngines, d ≠ e := by
    rintro d hd rfl
    simp [State.onlineEngines, hoff] at hd
  have hline : (F.LE_STATUS e).off ≠ 0x40404 := by simp only [F.LE_STATUS]; omega
  unfold State.showEngines
  extract_lets on s1 s2
  have h1 : SameEngine e s s1 := List.foldlRecOn on _ ⟨rfl, rfl⟩ fun u hu d hd =>
    ((hu.setState _ (honline d hd)).setSlice d _).setActive d _
  have h2 : SameEngine e s s2 := foldl_keeps (SameEngine e s) _ (fun u d hu => (hu.setSlice d _).setActive d _) _ _ h1
  exact h2.trans (SameAt.sameEngine (.set (.set (.refl _ _) _ hline) _ hline))

/-- The status of an engine once it says that the engine is offline. -/
def State.markEngine (s : State) (e cause : Nat) : State :=
  (s.set (F.LE_STATUS_STATE e) 3).set (F.LE_STATUS_OFF_CAUSE e) cause

theorem State.markEngine_shows (s : State) (e cause : Nat) : (s.markEngine e cause).get (F.LE_STATUS_STATE e) = 3 ∧
    (s.markEngine e cause).get (F.LE_STATUS_OFF_CAUSE e) = cause % 4 := by
  have hcause : (F.LE_STATUS_OFF_CAUSE e).lo + (F.LE_STATUS_OFF_CAUSE e).width ≤ 32 := by simp [F.LE_STATUS_OFF_CAUSE]
  constructor
  · rw [State.markEngine, State.get_set_apart _ _ hcause (.inr (.inr (by simp [F.LE_STATUS_OFF_CAUSE, F.LE_STATUS_STATE]))),
      State.get_set_same _ _ _ (by simp [F.LE_STATUS_STATE])]
    rfl
  · rw [State.markEngine, State.get_set_same _ _ _ hcause]
    rfl

theorem State.engineOn_of_offline (h : s.get (F.LE_STATUS_STATE e) = 3) : s.engineOn e = false := by simp [State.engineOn, h]

theorem State.not_offline_of_engineOn (h : s.engineOn e = true) : s.get (F.LE_STATUS_STATE e) ≠ 3 := fun h3 =>
  absurd (State.engineOn_of_offline h3) (by simp [h])

/-- An engine that goes offline shows it with its cause, is not online, and raises limp condition 0x03 (R131). -/
theorem State.engineOffline_shows (s : State) {e : Nat} (cause : Nat) (he : e < 12) (hon : s.engineOn e = true) :
    (s.engineOffline e cause).get (F.LE_STATUS_STATE e) = 3 ∧
      (s.engineOffline e cause).get (F.LE_STATUS_OFF_CAUSE e) = cause % 4 ∧
      (3, e + 16 * cause) ∈ (s.engineOffline e cause).health.limps := by
  have hnot := State.not_offline_of_engineOn hon
  unfold State.engineOffline
  rw [if_neg (by omega)]
  extract_lets s1 fl kept old s2
  obtain ⟨hstate, hcause⟩ := s.markEngine_shows e cause
  have hshow : SameEngine e s2 s2.showEngines := State.sameEngine_showEngines he (State.engineOn_of_offline hstate)
  have hrest : SameEngine e s2.showEngines ((s2.showEngines.cause F.LINE_INT_STATUS_ENGINE_OFFLINE).limpRaise 3
      (e + 16 * cause + 64 * b2n false)) :=
    SameAt.sameEngine (.limpRaise (.cause (.refl _ _) _ (by simp only [F.LE_STATUS, F.LINE_INT_STATUS_ENGINE_OFFLINE]; omega))
      _ _ (by simp only [F.LE_STATUS]; omega))
  obtain ⟨hs, hc⟩ := hshow.trans hrest
  exact ⟨hs.trans hstate, hc.trans hcause, State.mem_limps_limpRaise _ _ _⟩

end

/-! ### The rows of the line engines -/

section
variable {s a : State} {t n p : Nat}

/-- The next line handed, taken and begun, where an engine is online and the ring has room (R44, R111). -/
theorem Live.gives_lineEngineLine {h : Handed} (hlive : Live s t a) (hnext : a.firstHanded n p = some h)
    (hon : a.onlineEngines ≠ []) (hfree : a.lineFree n p (h.line + (a.stream n).bind.barOffset) = true)
    (hnew : (a.plane n p).storedEnd ≤ h.line + (a.stream n).bind.barOffset) :
    Gives (.lineEngineLine t n p none) s
      ({ a with lines := { a.lines with handed := a.lines.handed.erase h } }.beginLine h) := by
  have := hlive.gives_of_coreStep (exec_lineEngineLine t n p none s)
  simpa only [hnext, hon, hfree, decide_false, Bool.not_true, Bool.or_false, Bool.false_eq_true, if_false,
    if_neg (Nat.not_lt.2 hnew)] using this

/-- A parity error takes the engine offline with cause 2 (R131). -/
theorem Live.gives_lineEngineLine_parity {e : Nat} (hlive : Live s t a) (hnone : a.firstHanded n p = none)
    (hon : a.engineOn e = true) : Gives (.lineEngineLine t n p (some e)) s (a.engineOffline e 2) := by
  have := hlive.gives_of_coreStep (exec_lineEngineLine t n p (some e) s)
  simpa only [hnone, hon, if_true] using this

theorem Live.gives_lineStored {f : InFlight} {ns : List Nat} (hlive : Live s t a)
    (hf : a.lines.inFlight.find? (fun g => decide (g.stream = n ∧ g.plane = p)) = some f) :
    Gives (.lineStored t n p ns) s
      ({ a with lines := { a.lines with inFlight := a.lines.inFlight.erase f } }.storeLine f ns).showEngines := by
  have := hlive.gives_of_coreStep (exec_lineStored t n p ns s)
  simpa only [hf] using this

/-- A slice that has taken more than 1 ms takes its engine offline with cause 0 (R131). -/
theorem Live.gives_sliceTimeout {e : Nat} {f : InFlight} (hlive : Live s t a) (hon : a.engineOn e = true)
    (hf : f ∈ a.lines.inFlight) (hshares : f.engines.contains e = true) (hlost : f.lost.contains e = false)
    (hlate : f.since + 1000000 < a.now) : Gives (.sliceTimeout t e) s (a.engineOffline e 0) := by
  have hany : a.lines.inFlight.any (fun f => f.engines.contains e && !f.lost.contains e &&
      decide (f.since + 1000000 < a.now)) = true := List.any_eq_true.2 ⟨f, hf, by
        simp only [hshares, hlost, hlate, Bool.not_false, decide_true, Bool.and_self]⟩
  have := hlive.gives_of_coreStep (exec_sliceTimeout t e s)
  simpa only [hon, hany, Bool.and_self, if_true] using this

end

/-- Settles O30: each row begins a line, stores one, or takes an engine offline. -/
theorem lineEngineCommandsTakeEffect : Obligations.LineEngineCommandsTakeEffect := by
  intro s a t hlive
  refine ⟨?_, ?_, ?_, ?_⟩
  case refine_1 =>
    intro n p h hnext hon hfree hnew
    obtain ⟨f, ⟨hst, hpl, hline, hepoch, hengines, hlost, hblank⟩, hhanded, hflight, huse⟩ :=
      State.beginLine_begins { a with lines := { a.lines with handed := a.lines.handed.erase h } } (h := h)
    exact ⟨_, f, hlive.gives_lineEngineLine hnext hon hfree hnew, hhanded, hflight, hst, hpl, hline, hepoch, hengines, hlost,
      hblank, huse⟩
  case refine_2 =>
    intro n p e he hon hnone
    exact ⟨_, hlive.gives_lineEngineLine_parity hnone hon, a.engineOffline_shows 2 he hon⟩
  case refine_3 =>
    intro n p f ns hf
    obtain ⟨rfl, rfl⟩ : f.stream = n ∧ f.plane = p := by simpa using List.find?_some hf
    obtain ⟨hflight, hend⟩ :=
      State.storeLine_stores { a with lines := { a.lines with inFlight := a.lines.inFlight.erase f } } f ns
    exact ⟨_, hlive.gives_lineStored hf, (congrArg Lines.inFlight (State.lines_showEngines _)).trans hflight,
      (congrArg PlaneSt.storedEnd ((SameStreams.refl _).showEngines.sameQueues.plane _ _)).trans hend⟩
  case refine_4 =>
    intro e f he hon hf hshares hlost hlate
    obtain ⟨hstate, hcause, hlimp⟩ := a.engineOffline_shows 0 he hon
    exact ⟨_, hlive.gives_sliceTimeout hon hf hshares hlost hlate, hstate, hcause, hlimp, State.engineOn_of_offline hstate⟩

end Sys2Proof.Machine
end

section
/-! The parts of the state that time a job, and what the operations that show, store and send leave of them: registers,
interrupts, counters, the Pantry, events, the ring's frames and the Cellar's reads. -/

namespace Sys2Proof.Machine

/-! ### Operations that leave the timing of a job -/

/-- Two states agree in what times a job: clock, core, mode, tracks, encoders, governor, head ports and their streams. -/
def SameTiming (s u : State) : Prop :=
  u.now = s.now ∧ u.clock = s.clock ∧ u.core = s.core ∧ u.mode = s.mode ∧ u.job = s.job ∧ u.tracks = s.tracks ∧
    u.encs = s.encs ∧ u.gov = s.gov ∧ u.ports = s.ports ∧ u.geo = s.geo ∧ u.streams = s.streams

section
variable {s u v : State}

theorem SameTiming.refl (s : State) : SameTiming s s := ⟨rfl, rfl, rfl, rfl, rfl, rfl, rfl, rfl, rfl, rfl, rfl⟩

theorem SameTiming.now (h : SameTiming s u) : u.now = s.now := h.1
theorem SameTiming.clock (h : SameTiming s u) : u.clock = s.clock := h.2.1
theorem SameTiming.core (h : SameTiming s u) : u.core = s.core := h.2.2.1
theorem SameTiming.mode (h : SameTiming s u) : u.mode = s.mode := h.2.2.2.1
theorem SameTiming.job (h : SameTiming s u) : u.job = s.job := h.2.2.2.2.1
theorem SameTiming.tracks (h : SameTiming s u) : u.tracks = s.tracks := h.2.2.2.2.2.1
theorem SameTiming.encs (h : SameTiming s u) : u.encs = s.encs := h.2.2.2.2.2.2.1
theorem SameTiming.gov (h : SameTiming s u) : u.gov = s.gov := h.2.2.2.2.2.2.2.1
theorem SameTiming.ports (h : SameTiming s u) : u.ports = s.ports := h.2.2.2.2.2.2.2.2.1

theorem SameTiming.track (h : SameTiming s u) (t : Nat) : u.track t = s.track t := by
  rw [State.track, State.track, h.tracks]

theorem SameTiming.enc (h : SameTiming s u) (e : Nat) : u.enc e = s.enc e := by rw [State.enc, State.enc, h.encs]

theorem SameTiming.port (h : SameTiming s u) (p : Nat) : u.port p = s.port p := by rw [State.port, State.port, h.ports]

theorem SameTiming.set (h : SameTiming s u) (f : Fld) (v : Nat) : SameTiming s (u.set f v) := h

theorem SameTiming.bump (h : SameTiming s u) (f : Fld) (n : Nat) : SameTiming s (u.bump f n) := h

theorem SameTiming.setBit (h : SameTiming s u) (f : Fld) (k : Nat) (b : Bool) : SameTiming s (u.setBit f k b) := h

theorem SameTiming.setArrBit (h : SameTiming s u) (f : Nat → Fld) (k : Nat) (b : Bool) : SameTiming s (u.setArrBit f k b) :=
  h

theorem SameTiming.set64 (h : SameTiming s u) (lo hi : Fld) (v : Nat) : SameTiming s (u.set64 lo hi v) := h

theorem SameTiming.emit (h : SameTiming s u) (o : Out) : SameTiming s (u.emit o) := h

theorem SameTiming.ite {p : Prop} [Decidable p] (hu : SameTiming s u) (hv : SameTiming s v) :
    SameTiming s (if p then u else v) := by
  split
  · exact hu
  · exact hv

theorem SameTiming.cause (h : SameTiming s u) (f : Fld) (v : Nat) : SameTiming s (u.cause f v) := by
  obtain ⟨l, hl⟩ := sendNewMsi_sent u (u.set f (u.get f ||| v))
  rw [State.cause, hl]
  exact h

theorem SameTiming.causeBit (h : SameTiming s u) (f : Fld) (k : Nat) : SameTiming s (u.causeBit f k) := h.cause f _

theorem SameTiming.summary (h : SameTiming s u) (k n : Nat) : SameTiming s (u.summary k n) := .ite h h

/-! ### Frames of the ring (R283, R294, R309) -/

theorem SameTiming.pealSend (h : SameTiming s u) (k : Nat) (f : PealFrame) : SameTiming s (u.pealSend k f) :=
  .ite (((h.emit _).bump _ _).bump _ _ |>.bump _ _) (((h.emit _).bump _ _).bump _ _)

theorem SameTiming.pealOriginate (h : SameTiming s u) (kind dst : Nat) (payload : List Byte) :
    SameTiming s (u.pealOriginate kind dst payload) :=
  foldl_keeps (SameTiming s) _ (fun _ k ha => ha.pealSend k _) _ _ h

theorem SameTiming.tollLine (h : SameTiming s u) (tr : Nat) (c : CLine) (clocked : Bool) :
    SameTiming s (u.tollLine tr c clocked) := .ite ((h.pealOriginate _ _ _).bump _ _) h

theorem SameTiming.tollStop (h : SameTiming s u) (tr cause : Nat) (stop : Option Nat) (clocked : Bool) :
    SameTiming s (u.tollStop tr cause stop clocked) := by
  unfold State.tollStop
  split
  · exact .ite ((h.pealOriginate _ _ _).bump _ _) h
  · exact h

theorem SameTiming.sendReport (h : SameTiming s u) (r : Report) : SameTiming s (u.sendReport r) := h.pealOriginate _ _ _

theorem SameTiming.setPeal (h : SameTiming s u) (x : Peal) : SameTiming s { u with peal := x } := h

theorem SameTiming.reportLocal (h : SameTiming s u) (r : Report) : SameTiming s (u.reportLocal r) := by
  unfold State.reportLocal
  split
  · exact h.sendReport r
  · dsimp only
    split
    · exact ((h.setPeal _).sendReport _).setPeal _
    · exact h.setPeal _

theorem SameTiming.ringEval (h : SameTiming s u) (reason : Nat) : SameTiming s (u.ringEval reason) := by
  unfold State.ringEval
  exact .ite (.ite (.pealOriginate (.set (.set (.set h _ _) _ _) _ _) _ _ _) (.reportLocal (.set (.set h _ _) _ _) _)) h

/-! ### The Pantry and events (R348, R394) -/

theorem SameTiming.touchBank (h : SameTiming s u) (b : Nat) : SameTiming s (u.touchBank b) := by
  unfold State.touchBank
  split
  · exact h
  · dsimp only
    split <;> exact h

theorem SameTiming.setErr (h : SameTiming s u) (w m : Nat) : SameTiming s { u with perr := u.perr.set 0 w m } := h

theorem SameTiming.checkWord (h : SameTiming s u) (w : Nat) (patrol : Bool) : SameTiming s (u.checkWord w patrol).2 := by
  unfold State.checkWord
  dsimp only
  split
  · exact h
  · split
    · exact .summary (.cause (.bump (.bump (h.setErr w 0) _ _) _ _) _ _) _ _
    · exact .summary (.cause (.set (.set (.set (.set (.bump (.bump h _ _) _ _) _ _) _ _) _ _) _ _) _ _) _ _

theorem SameTiming.mergeWord (h : SameTiming s u) (w : Nat) : SameTiming s (u.mergeWord w).2 := by
  have hc := h.checkWord w false
  unfold State.mergeWord
  exact .ite hc hc

theorem SameTiming.pwrite (h : SameTiming s u) (a : Nat) (l : List Byte) : SameTiming s (u.pwrite a l) := by
  unfold State.pwrite State.pwriteCheck
  split
  · exact h
  · extract_lets e part
    have hwords := foldl_keeps (fun r : Bool × State => SameTiming s r.2)
      (fun r w => ((r.2.mergeWord w).1 || r.1, (r.2.mergeWord w).2)) (fun r w hr => hr.mergeWord w) part
      (false, u.touchBank (bankOf a)) (h.touchBank _)
    exact hwords

theorem SameTiming.writeEvent (h : SameTiming s u) (code time : Nat) (data : List Byte) :
    SameTiming s (u.writeEvent code time data) := .cause (.set (.pwrite h _ _) _ _) _ _

theorem SameTiming.setLost (h : SameTiming s u) (n : Nat) : SameTiming s { u with evLostPend := n } := h

theorem SameTiming.flushLost (h : SameTiming s u) : SameTiming s u.flushLost := .ite (.setLost (h.writeEvent _ _ _) _) h

theorem SameTiming.postEventAt (h : SameTiming s u) (code time : Nat) (data : List Byte) :
    SameTiming s (u.postEventAt code time data) :=
  .ite (.ite (h.flushLost.writeEvent _ _ _) (.setLost (.cause (.bump h.flushLost _ _) _ _) _)) h

theorem SameTiming.postEvent (h : SameTiming s u) (code : Nat) (data : List Byte) : SameTiming s (u.postEvent code data) :=
  h.postEventAt _ _ _

end

end Sys2Proof.Machine
end

section
/-! Tracks and ports: a track or a port replaced, and what the stop of a running track changes and leaves (R168, R169). -/

namespace Sys2Proof.Machine

/-! ### Tables of tracks, ports and encoders -/

section
variable (s : State)

@[simp] theorem State.track_setTrack_same (t : Nat) (x : Track) : (s.setTrack t x).track t = x := Tbl.get_set_same _ _ _ _

theorem State.track_setTrack_other {t k : Nat} (x : Track) (h : k ≠ t) : (s.setTrack t x).track k = s.track k :=
  Tbl.get_set_other _ _ _ _ h

@[simp] theorem State.port_setPort_same (p : Nat) (x : Port) : (s.setPort p x).port p = x := Tbl.get_set_same _ _ _ _

theorem State.port_setPort_other {p k : Nat} (x : Port) (h : k ≠ p) : (s.setPort p x).port k = s.port k :=
  Tbl.get_set_other _ _ _ _ h

end

/-! ### Registers below the ring's -/

section
variable {s u v : State} {off : Nat}

theorem SameAt.trans (h : SameAt off s u) (h' : SameAt off u v) : SameAt off s v := ⟨h'.1.trans h.1, h'.2.trans h.2⟩

theorem SameAt.flag {f : Fld} (h : SameAt f.off s u) : u.flag f = s.flag f := by rw [State.flag, State.flag, h.get]

theorem SameAt.setTrack (h : SameAt off s u) (t : Nat) (x : Track) (hoff : off ≠ (F.TRACK_TR_STATUS t).off) :
    SameAt off s (u.setTrack t x) := by
  have htable : SameAt off s { u with tracks := u.tracks.set {} t x } := h
  exact .set (f := F.TRACK_TR_STATUS_CAUSE t) (.set (f := F.TRACK_TR_STATUS_STATE t) htable _ hoff) _ hoff

theorem SameAt.setPort (h : SameAt off s u) (p : Nat) (x : Port) : SameAt off s (u.setPort p x) := h

theorem SameAt.setGov (h : SameAt off s u) (g : Governor) : SameAt off s { u with gov := g } := h

theorem SameAt.pealSend (h : SameAt off s u) (k : Nat) (f : PealFrame) (hoff : off < 0xA0000) :
    SameAt off s (u.pealSend k f) := by
  have hsent : SameAt off s (((u.emit (.peal k f)).bump (F.PP_TX_FRAMES k)).bump (F.PP_TX_BYTES k) (frameUnits f)) :=
    .bump (.bump (u := u.emit _) h _ (by simp only [F.PP_TX_FRAMES]; omega)) _ (by simp only [F.PP_TX_BYTES]; omega)
  exact .ite (hsent.bump _ (by simp only [F.PP_TUNNEL_TX]; omega)) hsent

/-- A frame originated on the ring is counted in the registers of the ring alone. -/
theorem SameAt.pealOriginate (h : SameAt off s u) (kind dst : Nat) (payload : List Byte) (hoff : off < 0xA0000) :
    SameAt off s (u.pealOriginate kind dst payload) :=
  foldl_keeps (SameAt off s) _ (fun _ k ha => ha.pealSend k _ hoff) _ _ h

theorem SameAt.tollStop (h : SameAt off s u) (tr cause : Nat) (stop : Option Nat) (clocked : Bool) (hoff : off < 0xA0000) :
    SameAt off s (u.tollStop tr cause stop clocked) := by
  unfold State.tollStop
  split
  · exact .ite ((h.pealOriginate _ _ _ hoff).bump _ (by simp only [F.PEAL_TOLL_TX]; omega)) h
  · exact h

end

/-! ### The stop of a track (R168) -/

/-- A track that stops at a stop line. -/
def Track.stopped (x : Track) (cause : Nat) (stop : Option Nat) : Track :=
  { x with st := 2, cause := cause, stopLine := stop, lines := x.lines.filter (fun c => !lineAfter stop c.line) }

theorem lineAfter_eq_false_iff {stop : Option Nat} {l : Nat} : lineAfter stop l = false ↔ ∃ k, stop = some k ∧ l ≤ k := by
  cases stop <;> simp [lineAfter]

theorem Msg.after_eq_lineAfter {m : Msg} {n : Nat} (stop : Option Nat) (h : m.lineNo = some n) :
    m.after stop = lineAfter stop n := by
  cases m <;> simp only [Msg.lineNo, Option.some.injEq, reduceCtorEq] at h <;> subst h <;> cases stop <;> rfl

theorem Port.mem_lines_withdraw {x : Port} {t : Nat} {stop : Option Nat} {l : PortLine} :
    l ∈ (x.withdraw t stop).lines ↔ l ∈ x.lines ∧ (l.track = t → ∃ k, stop = some k ∧ l.line ≤ k) := by
  rw [← lineAfter_eq_false_iff (stop := stop)]
  by_cases ht : l.track = t <;> simp [Port.withdraw, ht]

/-- One port after another is replaced: each named port once, and nothing else. -/
theorem State.foldl_setPort (g : Port → Port) : ∀ (l : List Nat) (s : State), l.Nodup →
    ∃ x, l.foldl (fun (a : State) p => a.setPort p (g (a.port p))) s = { s with ports := x } ∧
      ∀ p, x.get {} p = if p ∈ l then g (s.port p) else s.port p
  | [], s, _ => ⟨s.ports, rfl, fun _ => rfl⟩
  | q :: l, s, hl => by
    obtain ⟨hq, hl⟩ := List.nodup_cons.1 hl
    obtain ⟨x, hx, hget⟩ := State.foldl_setPort g l (s.setPort q (g (s.port q))) hl
    refine ⟨x, hx, fun p => ?_⟩
    rw [hget]
    by_cases hp : p = q
    · subst hp
      simp [hq]
    · simp [hp, State.port_setPort_other]

/-- The running track that is told to stop: the track, the pulses of the line triggers and the ports of the track change. -/
def State.afterStop (s : State) (t cause : Nat) (stop : Option Nat) (ports : Tbl Port) (trig : Tbl LTrig) : State :=
  { s.setTrack t ((s.track t).stopped cause stop) with ports := ports, gov := { s.gov with ltrig := trig } }

section
variable (s : State) (t cause : Nat) (stop : Option Nat)

theorem State.track_afterStop (ports : Tbl Port) (trig : Tbl LTrig) (k : Nat) :
    (s.afterStop t cause stop ports trig).track k = (s.setTrack t ((s.track t).stopped cause stop)).track k := by
  rw [State.track, State.track, State.afterStop]

theorem State.port_afterStop (ports : Tbl Port) (trig : Tbl LTrig) (p : Nat) :
    (s.afterStop t cause stop ports trig).port p = ports.get {} p := by
  rw [State.port, State.afterStop]

theorem SameAt.afterStop {off : Nat} (ports : Tbl Port) (trig : Tbl LTrig) (ht : off ≠ (F.TRACK_TR_STATUS t).off) :
    SameAt off s (s.afterStop t cause stop ports trig) := by
  have h := (SameAt.refl s off).setTrack t ((s.track t).stopped cause stop) ht
  exact ⟨h.1, h.2⟩

theorem State.stopTrack_idle {s : State} {t : Nat} (h : (s.track t).st ≠ 1) : s.stopTrack t cause stop = s := if_neg h

/-- What the stop of a running track can change (R168): beside the track, its ports and the line triggers, a toll is sent. -/
theorem State.stopTrack_running {s : State} {t : Nat} (h : (s.track t).st = 1) : ∃ ports trig,
    (∀ p, ports.get {} p = if p ∈ s.trackPorts t then (s.port p).withdraw t stop else s.port p) ∧
      SameTiming (s.afterStop t cause stop ports trig) (s.stopTrack t cause stop) ∧
      ∀ off, off < 0xA0000 → SameAt off (s.afterStop t cause stop ports trig) (s.stopTrack t cause stop) := by
  obtain ⟨ports, hfold, hget⟩ := State.foldl_setPort (fun x => x.withdraw t stop) (s.trackPorts t)
    (s.setTrack t ((s.track t).stopped cause stop)) (List.nodup_dedup _)
  unfold State.stopTrack
  rw [if_pos h]
  extract_lets s1 s2 trig g s3
  have h2 : s2 = { s1 with ports := ports } := hfold
  have h3 : s3 = s.afterStop t cause stop ports trig := by
    unfold s3 g
    rw [h2]
    rfl
  refine ⟨ports, trig, hget, ?_, fun off hoff => ?_⟩
  · rw [← h3]
    exact .ite (.tollStop (.refl _) _ _ _ _) (.refl _)
  · rw [← h3]
    exact .ite (.tollStop (.refl _ _) _ _ _ _ hoff) (.refl _ _)

theorem State.track_stopTrack_same {s : State} {t : Nat} (h : (s.track t).st = 1) :
    (s.stopTrack t cause stop).track t = (s.track t).stopped cause stop := by
  obtain ⟨ports, trig, -, hsame, -⟩ := State.stopTrack_running cause stop h
  rw [hsame.track, State.track_afterStop, State.track_setTrack_same]

theorem State.track_stopTrack_other {k : Nat} (hk : k ≠ t) : (s.stopTrack t cause stop).track k = s.track k := by
  by_cases h : (s.track t).st = 1
  · obtain ⟨ports, trig, -, hsame, -⟩ := State.stopTrack_running cause stop h
    rw [hsame.track, State.track_afterStop, State.track_setTrack_other _ _ hk]
  · rw [State.stopTrack_idle _ _ h]

theorem State.port_stopTrack {s : State} {t p : Nat} (h : (s.track t).st = 1) (hp : p ∈ s.trackPorts t) :
    (s.stopTrack t cause stop).port p = (s.port p).withdraw t stop := by
  obtain ⟨ports, trig, hget, hsame, -⟩ := State.stopTrack_running cause stop h
  rw [hsame.port, State.port_afterStop, hget, if_pos hp]

/-- The stop of a track changes the status register of the track and registers of the ring. -/
theorem SameAt.stopTrack {s u : State} {off : Nat} (h : SameAt off s u) (t cause : Nat) (stop : Option Nat)
    (hoff : off < 0xA0000) (ht : off ≠ (F.TRACK_TR_STATUS t).off) : SameAt off s (u.stopTrack t cause stop) := by
  by_cases hst : (u.track t).st = 1
  · obtain ⟨ports, trig, -, -, hregs⟩ := State.stopTrack_running cause stop hst
    exact (h.trans (.afterStop u t cause stop ports trig ht)).trans (hregs off hoff)
  · rwa [State.stopTrack_idle _ _ hst]

@[simp] theorem State.encs_stopTrack : (s.stopTrack t cause stop).encs = s.encs := by
  by_cases h : (s.track t).st = 1
  · obtain ⟨ports, trig, -, hsame, -⟩ := State.stopTrack_running cause stop h
    rw [hsame.encs, State.afterStop, State.encs_setTrack]
  · rw [State.stopTrack_idle _ _ h]

end

/-- Settles O33: the stop line cuts the committed lines of the track and the lines and frames of its ports. -/
theorem tracksStopAtTheirStopLine : Obligations.TracksStopAtTheirStopLine := by
  intro s t cause stop
  refine ⟨State.stopTrack_idle cause stop, fun h => ?_, fun k hk => s.track_stopTrack_other t cause stop hk⟩
  rw [State.track_stopTrack_same cause stop h]
  refine ⟨rfl, rfl, rfl, fun c => ?_, fun p l hp => ?_, fun p f n hp hf hn => ?_⟩
  · rw [← lineAfter_eq_false_iff]
    simp [Track.stopped]
  · rw [State.port_stopTrack cause stop h hp, Port.mem_lines_withdraw]
  · rw [State.port_stopTrack cause stop h hp] at hf
    have hkept : f.msg.after stop = false := by simpa using (List.mem_filter.1 hf).2
    rwa [Msg.after_eq_lineAfter stop hn, lineAfter_eq_false_iff] at hkept

end Sys2Proof.Machine
end

section
/-! Fire instants: the spacing of R166 leaves every nozzle of a port its minimum period (R165, R166). -/

namespace Sys2Proof.Machine

section
variable (s : State) (p interval : Nat)

/-- The fire instant after a firing: no earlier than asked, and the period and the spacing after that firing (R165). -/
theorem State.earliest_of_fPrev {f : Int} (h : (s.port p).fPrev = some f) (t : Int) :
    s.earliest p interval t = max t (f + s.tMin p + s.spacing p interval) := by rw [State.earliest, h]

theorem State.le_earliest (t : Int) : t ≤ s.earliest p interval t := by
  unfold State.earliest
  split
  · exact le_max_left _ _
  · exact le_rfl

/-- A coefficient between two others gives a product no greater than the greater of theirs. -/
theorem mul_le_max_mul {k lo hi : Int} (d : Int) (hlo : lo ≤ k) (hhi : k ≤ hi) : k * d ≤ max (hi * d) (lo * d) := by
  rcases le_total 0 d with hd | hd
  · exact le_max_of_le_left (mul_le_mul_of_nonneg_right hhi hd)
  · exact le_max_of_le_right (mul_le_mul_of_nonpos_right hlo hd)

/-- What the spacing makes up for, in ns: the change of interval at any coefficient of the port, and 8 ns on HL-2 (R166). -/
theorem State.le_spacing {k : Int} (hlo : (s.port p).coefMin ≤ k) (hhi : k ≤ (s.port p).coefMax) :
    ((k * ((s.port p).intervalPrev - interval) : Int) : Rat) / 67108864 + (if s.gen p = 2 then 8 else 0) ≤
      (s.spacing p interval : Rat) := by
  have hceil : ((k * ((s.port p).intervalPrev - interval) : Int) : Rat) / 67108864 ≤
      ((max (0 : Rat) (max (((s.port p).coefMax * ((s.port p).intervalPrev - interval) : Int) / 67108864)
        (((s.port p).coefMin * ((s.port p).intervalPrev - interval) : Int) / 67108864))).ceil : Rat) := by
    refine le_trans (le_max_of_le_right ?_) Rat.le_ceil
    rw [max_div_div_right (by norm_num), ← Int.cast_max]
    exact div_le_div_of_nonneg_right (Int.cast_le.2 (mul_le_max_mul _ hlo hhi)) (by norm_num)
  unfold State.spacing
  split
  · exact add_le_add_left hceil 8 |>.trans_eq (by push_cast; ring)
  · exact add_le_add_left hceil 0 |>.trans_eq (by push_cast; ring)

end

/-- Settles O36: the spacing is no less than what a change of interval takes from any coefficient of the port. -/
theorem everyNozzleKeepsTheMinimumPeriod : Obligations.EveryNozzleKeepsTheMinimumPeriod := by
  intro s p interval t
  refine ⟨s.le_earliest p interval t, fun f k hf hlo hhi => ?_⟩
  have hspace := s.le_spacing p interval hlo hhi
  have hfire : ((f + s.tMin p + s.spacing p interval : Int) : Rat) ≤ (s.earliest p interval t : Rat) := by
    rw [s.earliest_of_fPrev p interval hf t]
    exact Int.cast_le.2 (le_max_right _ _)
  push_cast at hspace hfire ⊢
  linarith

end Sys2Proof.Machine
end

section
/-! The fetch of a line: what the rows read leaves, how a line joins its port, and the outcome it takes (R165 to R167). -/

namespace Sys2Proof.Machine

/-! ### Reads of the Cellar and quick cover leave the timing of a job -/

section
variable {s u : State}

theorem SameTiming.queueHealth (h : SameTiming s u) (e : HealthEvent) : SameTiming s (u.queueHealth e) := by
  unfold State.queueHealth
  exact .ite h (.cause (.bump h _ _) _ _)

theorem SameTiming.limpRaise (h : SameTiming s u) (code inst : Nat) : SameTiming s (u.limpRaise code inst) := by
  unfold State.limpRaise
  refine .ite h (.queueHealth (.ite (.set (.cause (.set (.cause ?_ _ _) _ _) _ _) _ _) (.set (.cause ?_ _ _) _ _)) _)
  all_goals exact h

theorem SameTiming.setChan (h : SameTiming s u) (c : Nat) (x : Chan) : SameTiming s (u.setChan c x) := h

theorem SameTiming.loseChannel (h : SameTiming s u) (c cause : Nat) : SameTiming s (u.loseChannel c cause) := by
  unfold State.loseChannel
  exact .ite (.limpRaise (.cause (.setChan (.set (.setBit (.set (.set (.set h _ _) _ _) _ _) _ _ _) _ _) _ _) _ _) _ _) h

theorem SameTiming.enterHistory (h : SameTiming s u) (c : Nat) (lanes : List Nat) :
    SameTiming s (u.enterHistory c lanes) := by
  unfold State.enterHistory
  refine .set (.set (foldl_keeps (SameTiming s) _ (fun a l ha => ?_) _ _ (h.setChan c _)) _ _) _ _
  split
  · exact ha
  split
  · exact .limpRaise (.cause (.set (.set (.set ha _ _) _ _) _ _) _ _) _ _
  · split
    · exact ha
    · exact ha.loseChannel c 3

theorem SameTiming.lastCellarErr (h : SameTiming s u) (c b kind : Nat) (scrub : Bool) :
    SameTiming s (u.lastCellarErr c b kind scrub) := h

theorem SameTiming.uncorrRate (h : SameTiming s u) (c : Nat) : SameTiming s (u.uncorrRate c) := by
  unfold State.uncorrRate
  dsimp only
  exact .ite ((h.setChan c _).loseChannel c 2) (h.setChan c _)

theorem SameTiming.reportRead (h : SameTiming s u) (c b : Nat) (scrub : Bool) (o : ReadOutcome) :
    SameTiming s (u.reportRead c b scrub o) := by
  unfold State.reportRead
  split
  · exact h
  · exact .enterHistory (.summary (.cause (.bump (.bump h _ _) _ _) _ _) _ _) _ _
  · exact .summary (.cause (.lastCellarErr (.bump (.bump h _ _) _ _) _ _ _ _) _ _) _ _
  · exact .uncorrRate (.summary (.cause (.lastCellarErr (.bump (.bump h _ _) _ _) _ _ _ _) _ _) _ _) _

theorem SameTiming.cellarRead (h : SameTiming s u) (b : Nat) : SameTiming s (u.cellarRead b).2 := by
  unfold State.cellarRead
  split
  · exact h
  · split
    · exact (h.setChan _ _).reportRead _ _ _ _
    · exact (h.bump _ _).bump _ _

theorem SameTiming.cellarReads : ∀ {u : State} (_ : SameTiming s u) (l : List Nat), SameTiming s (u.cellarReads l).2
  | _, h, [] => h
  | u, h, b :: l => by
    rw [State.cellarReads_cons]
    exact SameTiming.cellarReads (h.cellarRead b) l

end

/-! ### The registers that no read and no cover shows -/

/-- A register below the watch's that no read of the Cellar changes. -/
def Unread (off : Nat) : Prop :=
  off < 0x90000 ∧ off ≠ F.CELLAR_BLANK_TOTAL.off ∧ ∀ c, Unreported c off ∧ off ≠ (F.CH_BLANK c).off

/-- The registers of the channels and of the tracks, both 64 bytes apart, do not meet at OVERSPEED. -/
theorem unread_overspeed {t : Nat} (ht : t < 16) : Unread (F.TRACK_OVERSPEED t).off := by
  simp only [Unread, Unreported, F.TRACK_OVERSPEED, F.CELLAR_STATUS, F.CELLAR_INT_STATUS, F.CELLAR_CORR_TOTAL,
    F.CELLAR_UNCORR_TOTAL, F.CELLAR_BLANK_TOTAL, F.CH_BLANK, F.CH_STATUS, F.CH_CORR1, F.CH_CORR2, F.CH_UNCORR, F.CH_ADDR_ERR,
    F.CH_LAST_ERR_BLOCK, F.CH_LAST_ERR_INFO, F.CH_LANE_WATCH, List.mem_cons, List.not_mem_nil, or_false]
  refine ⟨by omega, by omega, fun c => ?_⟩
  omega

section
variable {s u : State} {off : Nat} (hu : Unread off)
include hu

theorem SameAt.cellarRead (h : SameAt off s u) (b : Nat) : SameAt off s (u.cellarRead b).2 := by
  obtain ⟨-, htotal, hchan⟩ := hu
  unfold State.cellarRead
  split
  · exact h
  · rename_i c _
    obtain ⟨hreport, hblank⟩ := hchan c
    split
    · exact SameAt.reportRead hreport (h.setChan c _) _ _ _
    · exact (h.bump _ hblank).bump _ htotal

theorem SameAt.cellarReads (h : SameAt off s u) (l : List Nat) : SameAt off s (u.cellarReads l).2 := by
  induction l generalizing u with
  | nil => exact h
  | cons b l ih =>
    rw [State.cellarReads_cons]
    exact ih (h.cellarRead hu b)

end

/-! ### The rows of a line -/

section
variable {s u : State}

/-- What the rows of a fetch leave: the timing of a job, and the registers that no read shows. -/
def SameFetch (s u : State) : Prop := SameTiming s u ∧ ∀ off, Unread off → SameAt off s u

theorem SameFetch.refl (s : State) : SameFetch s s := ⟨.refl s, fun off _ => .refl s off⟩

theorem SameFetch.cellarReads (h : SameFetch s u) (l : List Nat) : SameFetch s (u.cellarReads l).2 :=
  ⟨h.1.cellarReads l, fun off hu => (h.2 off hu).cellarReads hu l⟩

theorem SameFetch.setWatch (h : SameFetch s u) (w : Watch) : SameFetch s (u.setWatch w) := h

theorem SameFetch.bump (h : SameFetch s u) {f : Fld} (n : Nat) (hf : 0x90000 ≤ f.off) : SameFetch s (u.bump f n) :=
  ⟨h.1.bump f n, fun off hu => (h.2 off hu).bump n (by have := hu.1; omega)⟩

theorem SameFetch.cause (h : SameFetch s u) {f : Fld} (v : Nat) (hf : 0x90000 ≤ f.off) : SameFetch s (u.cause f v) :=
  ⟨h.1.cause f v, fun off hu => (h.2 off hu).cause v (by have := hu.1; omega)⟩

theorem SameFetch.summary (h : SameFetch s u) (k n : Nat) : SameFetch s (u.summary k n) :=
  ⟨h.1.summary k n, fun off hu => (h.2 off hu).summary k n (by have := hu.1; omega)⟩

theorem SameFetch.coverFetched (h : SameFetch s u) (r : RowEntry) (epoch : Nat) : SameFetch s (u.coverFetched r epoch) := by
  unfold State.coverFetched
  dsimp only
  split
  · exact h.setWatch _
  · exact h

theorem SameFetch.quickCover (h : SameFetch s u) (r : RowEntry) (w : Nat) (epoch : Option Nat) (codes : List Nat) :
    SameFetch s (u.quickCover r w epoch codes).2.2 := by
  unfold State.quickCover
  split
  · exact h
  · extract_lets src usable
    split
    · exact h
    · split
      extract_lets s1
      have h1 : SameFetch s s1 := h.bump _ (by decide)
      split
      · exact h1
      · exact ((h1.bump _ (by decide)).summary _ _).cause _ (by decide)

theorem SameFetch.fetchRow (h : SameFetch s u) (line : Nat) (r : RowEntry) : SameFetch s (u.fetchRow line r).2 := by
  unfold State.fetchRow
  dsimp only
  split
  · exact h
  split
  · exact h
  split
  · exact h
  split
  · exact h
  · exact ((h.cellarReads _).coverFetched _ _).quickCover _ _ _ _

theorem State.fetchRows_cons (line : Nat) (r : RowEntry) (l : List RowEntry) :
    (u.fetchRows line (r :: l)).2 = ((u.fetchRow line r).2.fetchRows line l).2 := rfl

theorem SameFetch.fetchRows (h : SameFetch s u) (line : Nat) (l : List RowEntry) : SameFetch s (u.fetchRows line l).2 := by
  induction l generalizing u with
  | nil => exact h
  | cons r l ih =>
    rw [State.fetchRows_cons]
    exact ih (h.fetchRow line r)

end

/-! ### A line joins its port -/

/-- Two states have the same lines and the same last firing at a port, and the same word in every register. -/
def SameShots (p : Nat) (s u : State) : Prop :=
  (u.port p).lines = (s.port p).lines ∧ (u.port p).fPrev = (s.port p).fPrev ∧ ∀ off, SameAt off s u

section
variable {s u : State} {p : Nat}

theorem SameShots.refl (p : Nat) (s : State) : SameShots p s s := ⟨rfl, rfl, fun off => .refl s off⟩

/-- A port replaced by one with the same lines and the same last firing. -/
theorem SameShots.setPort (h : SameShots p s u) {x : Port} (hl : x.lines = (u.port p).lines) (hf : x.fPrev = (u.port p).fPrev) :
    SameShots p s (u.setPort p x) := by
  obtain ⟨hlines, hprev, hregs⟩ := h
  refine ⟨?_, ?_, fun off => (hregs off).setPort p x⟩
  · rw [State.port_setPort_same, hl, hlines]
  · rw [State.port_setPort_same, hf, hprev]

theorem SameShots.setWp (h : SameShots p s u) (q : Nat) (x : WavePort) : SameShots p s (u.setWp q x) := h

theorem SameShots.ite {v : State} {c : Prop} [Decidable c] (hu : SameShots p s u) (hv : SameShots p s v) :
    SameShots p s (if c then u else v) := by
  split
  · exact hu
  · exact hv

theorem SameShots.queueMsgs (h : SameShots p s u) (tag : Nat) (l : List Msg) : SameShots p s (u.queueMsgs p tag l) :=
  h.setPort rfl rfl

theorem SameShots.queueLine (h : SameShots p s u) (line : Nat) (f : Int) (interval : Nat) (rows : List (RowEntry × Int × List Nat)) :
    SameShots p s (u.queueLine p line f interval rows) := by
  refine .setWp (.setPort h ?_ ?_) _ _ <;> rfl

theorem SameShots.sendUsage (h : SameShots p s u) : SameShots p s (u.sendUsage p) := by
  unfold State.sendUsage
  refine .ite (.queueMsgs (.setPort h ?_ ?_) _ _) h <;> rfl

theorem SameShots.addDrops (h : SameShots p s u) (n : Nat) : SameShots p s (u.addDrops p n) := by
  refine .sendUsage (.setPort h ?_ ?_) <;> rfl

end

/-- A line that its port is to fire: at `f`, and not over. -/
def PortLine.Joins (l : PortLine) (t line : Nat) (tl f : Int) (outcome : Nat) : Prop :=
  l.line = line ∧ l.f = f ∧ l.tl = tl ∧ l.track = t ∧ l.ended = false ∧ l.outcome = outcome

/-- A line that is sent joins the lines of its port, and its fire instant is the last one (R165, R244). -/
theorem State.sendLine_joins (s : State) (p t line : Nat) (tl f : Int) (interval outcome : Nat) (maint : Bool)
    (rows : List (RowEntry × List Nat)) : ∃ l : PortLine, l.Joins t line tl f outcome ∧
      ((s.sendLine p t line tl f interval outcome maint rows).port p).lines = (s.port p).lines ++ [l] ∧
      ((s.sendLine p t line tl f interval outcome maint rows).port p).fPrev = some f ∧
      ∀ off, SameAt off s (s.sendLine p t line tl f interval outcome maint rows) := by
  unfold State.sendLine
  extract_lets timed at_ first last x wp some_ wave waveEnd l drops s1 s2
  have h2 : SameShots p s1 s2 := .ite (.setWp (.refl p s1) _ _) (.queueLine (.refl p s1) _ _ _ _)
  obtain ⟨hlines, hprev, hregs⟩ : SameShots p s1 (if outcome = 1 ∨ outcome = 2 then s2.addDrops p drops else s2) :=
    .ite (h2.addDrops drops) h2
  refine ⟨l, ⟨rfl, rfl, rfl, rfl, rfl, rfl⟩, hlines.trans ?_, hprev.trans ?_, hregs⟩
  · rw [State.port_setPort_same]
  · rw [State.port_setPort_same]

/-! ### Overspeed (R167) -/

theorem SameAt.bump_congr {s u : State} {f : Fld} (h : SameAt f.off s u) (n : Nat) :
    SameAt f.off (s.bump f n) (u.bump f n) :=
  ⟨by rw [State.bump, State.bump, State.set, State.set, State.reg_setReg_same, State.reg_setReg_same, h.1, h.get], h.2⟩

section
variable (s : State) {t : Nat} (dropped : Bool)

/-- The counter of a line that is late, or Dropped for overspeed. -/
def overspeedCounter (t : Nat) (dropped : Bool) : Fld := if dropped then F.TRACK_OVERSPEED_DROPPED t else F.TRACK_OVERSPEED_LATE t

theorem overspeedCounter_off (t : Nat) (dropped : Bool) : (overspeedCounter t dropped).off = (F.TRACK_OVERSPEED t).off := by
  cases dropped <;> rfl

@[simp] theorem State.ports_overspeed : (s.overspeed t dropped).ports = s.ports :=
  ((SameTiming.refl _).cause _ _).ports

/-- In OVERSPEED of its track, overspeed counts one line. -/
theorem State.sameAt_overspeed (ht : t < 16) :
    SameAt (F.TRACK_OVERSPEED t).off (s.bump (overspeedCounter t dropped)) (s.overspeed t dropped) := by
  unfold State.overspeed
  extract_lets x s1 s2 s3
  have h1 : SameAt (overspeedCounter t dropped).off s s1 :=
    (SameAt.refl s _).setTrack t _ (by rw [overspeedCounter_off]; simp only [F.TRACK_OVERSPEED, F.TRACK_TR_STATUS]; omega)
  have h2 := h1.bump_congr 1
  rw [overspeedCounter_off] at h2
  exact .cause (h2.setGov _) _ (by simp only [F.TRACK_OVERSPEED, F.TIMING_TM_INT_STATUS_OVERSPEED]; omega)

/-- A line Dropped for overspeed counts in DROPPED alone, a late one in LATE alone. -/
theorem State.get_overspeed (ht : t < 16) :
    (s.overspeed t true).get (F.TRACK_OVERSPEED_DROPPED t) = min (s.get (F.TRACK_OVERSPEED_DROPPED t) + 1) 65535 ∧
      (s.overspeed t true).get (F.TRACK_OVERSPEED_LATE t) = s.get (F.TRACK_OVERSPEED_LATE t) ∧
      (s.overspeed t false).get (F.TRACK_OVERSPEED_LATE t) = min (s.get (F.TRACK_OVERSPEED_LATE t) + 1) 65535 ∧
      (s.overspeed t false).get (F.TRACK_OVERSPEED_DROPPED t) = s.get (F.TRACK_OVERSPEED_DROPPED t) := by
  have hd := s.sameAt_overspeed true ht
  have hl := s.sameAt_overspeed false ht
  have hdfit : (F.TRACK_OVERSPEED_DROPPED t).lo + (F.TRACK_OVERSPEED_DROPPED t).width ≤ 32 := by simp [F.TRACK_OVERSPEED_DROPPED]
  have hlfit : (F.TRACK_OVERSPEED_LATE t).lo + (F.TRACK_OVERSPEED_LATE t).width ≤ 32 := by simp [F.TRACK_OVERSPEED_LATE]
  have hapart : (F.TRACK_OVERSPEED_LATE t).apart (F.TRACK_OVERSPEED_DROPPED t) := .inr (.inl (by
    simp [F.TRACK_OVERSPEED_DROPPED, F.TRACK_OVERSPEED_LATE]))
  have hapart' : (F.TRACK_OVERSPEED_DROPPED t).apart (F.TRACK_OVERSPEED_LATE t) := .inr (.inr (by
    simp [F.TRACK_OVERSPEED_DROPPED, F.TRACK_OVERSPEED_LATE]))
  refine ⟨?_, ?_, ?_, ?_⟩
  · exact (SameAt.get (f := F.TRACK_OVERSPEED_DROPPED t) hd).trans (s.get_bump_satAdd 1 hdfit)
  · exact (SameAt.get (f := F.TRACK_OVERSPEED_LATE t) hd).trans (s.get_set_apart _ hdfit hapart')
  · exact (SameAt.get (f := F.TRACK_OVERSPEED_LATE t) hl).trans (s.get_bump_satAdd 1 hlfit)
  · exact (SameAt.get (f := F.TRACK_OVERSPEED_DROPPED t) hl).trans (s.get_set_apart _ hlfit hapart)

end

/-! ### The outcome of a fetch (R165, R167) -/

section
variable (s : State) (p t : Nat) (c : CLine)

/-- The fire instant that a fetch gives a line (R165). -/
def State.fireInstant : Int := s.earliest p c.interval (max c.tl ((c.tc : Int) + s.fetchNs t))

/-- A line is later than its slack (R167). -/
def State.BeyondSlack : Prop :=
  (s.get (F.TRACK_SLACK_TOL_SLACK t) * c.interval : Int) < (s.fireInstant p t c - c.tl) * 256 * 65536

/-- A line Dropped at its fetch is remembered among the lines of its port, as over. -/
theorem State.rememberDropped_joins : ∃ l : PortLine,
    ((s.rememberDropped p t c).port p).lines = (s.port p).lines ++ [l] ∧ l.line = c.line ∧ l.outcome = 4 ∧ l.ended = true := by
  unfold State.rememberDropped
  exact ⟨_, by rw [State.port_setPort_same], rfl, rfl, rfl⟩

theorem State.fPrev_rememberDropped : ((s.rememberDropped p t c).port p).fPrev = (s.port p).fPrev := by
  rw [State.rememberDropped, State.port_setPort_same]

theorem State.fetchLine_dropped (h : s.BeyondSlack p t c) :
    s.fetchLine p t c = ((s.overspeed t true).summary 1).rememberDropped p t c := if_pos h

/-- A line within its slack is sent, with the outcome blank where a row fires blank for a fault. -/
theorem State.fetchLine_sent (h : ¬ s.BeyondSlack p t c) : ∃ (u : State) (outcome : Nat) (rows : List (RowEntry × List Nat)),
    (outcome = 3 ∨ outcome = if 0 < s.fireInstant p t c - c.tl then 2 else 1) ∧
      SameFetch (if 0 < s.fireInstant p t c - c.tl then s.overspeed t false else s) u ∧
      s.fetchLine p t c = u.sendLine p t c.line c.tl (s.fireInstant p t c) c.interval outcome false rows := by
  unfold State.fetchLine
  extract_lets f late slack s1
  rw [if_neg (show ¬ slack < late * 256 * 65536 from h)]
  rcases hrows : s1.fetchRows c.line (s1.geo.portRows p) with ⟨⟨rows, blank, src⟩, s2⟩
  have h2 : SameFetch s1 s2 := by
    have := (SameFetch.refl s1).fetchRows c.line (s1.geo.portRows p)
    rwa [hrows] at this
  refine ⟨if src then s2.bump F.WATCH_QC_LINES else s2, if blank then 3 else if 0 < late then 2 else 1, rows, ?_, ?_, rfl⟩
  · cases blank
    · exact .inr rfl
    · exact .inl rfl
  · cases src
    · exact h2
    · exact h2.bump 1 (by decide)

end

/-- Settles O44: a fetch drops the line and counts it, or sends it; the rows read and the frames queued count nothing. -/
theorem fetchDecidesTheOutcomeOfALine : Obligations.FetchDecidesTheOutcomeOfALine := by
  intro s p t c f ht hp hf
  obtain ⟨hdrop, hdropLate, hlate, hlateDrop⟩ := s.get_overspeed ht
  subst hf
  refine ⟨fun hbeyond => ?_, fun hwithin => ?_⟩
  · rw [s.fetchLine_dropped p t c hbeyond]
    have hsum : SameAt (F.TRACK_OVERSPEED t).off (s.overspeed t true) ((s.overspeed t true).summary 1) :=
      (SameAt.refl _ _).summary _ _ (by simp only [F.TRACK_OVERSPEED]; omega)
    have hport : ((s.overspeed t true).summary 1).port p = s.port p := by
      rw [((SameTiming.refl _).summary 1 1).port, State.port, State.ports_overspeed, State.port]
    have hjoins := ((s.overspeed t true).summary 1).rememberDropped_joins p t c
    have hprev := ((s.overspeed t true).summary 1).fPrev_rememberDropped p t c
    rw [hport] at hjoins hprev
    exact ⟨hprev, (SameAt.get (f := F.TRACK_OVERSPEED_DROPPED t) hsum).trans hdrop,
      (SameAt.get (f := F.TRACK_OVERSPEED_LATE t) hsum).trans hdropLate, hjoins⟩
  · obtain ⟨u, outcome, rows, hout, ⟨htiming, hregs⟩, hsent⟩ := s.fetchLine_sent p t c (not_lt.2 hwithin)
    obtain ⟨l, ⟨hline, hlf, htl, htrack, hended, houtcome⟩, hlines, hprev, hsend⟩ :=
      u.sendLine_joins p t c.line c.tl (s.fireInstant p t c) c.interval outcome false rows
    have hat := (hregs _ (unread_overspeed ht)).trans (hsend _)
    rw [← hsent] at hlines hprev hat
    have hport : u.port p = s.port p := by
      rw [htiming.port]
      split
      · rw [State.port, State.ports_overspeed, State.port]
      · rfl
    refine ⟨hprev, (SameAt.get (f := F.TRACK_OVERSPEED_DROPPED t) hat).trans ?_,
      (SameAt.get (f := F.TRACK_OVERSPEED_LATE t) hat).trans ?_, l, hport ▸ hlines, hline, hlf, htl, htrack, hended, houtcome ▸ hout⟩
    · split
      · exact hlateDrop
      · rfl
    · unfold State.fireInstant
      split
      · exact hlate
      · rfl

end Sys2Proof.Machine
end

section
/-! The speed governor: what an evaluation makes of P, of the start of HYST, of the PACE output and of the reason register
(R172 to R178). -/

namespace Sys2Proof.Machine

/-! ### The parts of an evaluation -/

section
variable {s u : State} {off : Nat}

theorem SameAt.causeBit (h : SameAt off s u) {f : Fld} (k : Nat) (hf : off ≠ f.off) : SameAt off s (u.causeBit f k) :=
  h.cause _ hf

theorem SameAt.emit (h : SameAt off s u) (o : Out) : SameAt off s (u.emit o) := h

theorem SameAt.sendReport (h : SameAt off s u) (r : Report) (hoff : off < 0xA0000) : SameAt off s (u.sendReport r) :=
  h.pealOriginate _ _ _ hoff

theorem SameAt.setPeal (h : SameAt off s u) (x : Peal) : SameAt off s { u with peal := x } := h

theorem SameAt.reportLocal (h : SameAt off s u) (r : Report) (hoff : off < 0xA0000) : SameAt off s (u.reportLocal r) := by
  unfold State.reportLocal
  split
  · exact h.sendReport r hoff
  · dsimp only
    split
    · exact ((h.setPeal _).sendReport _ hoff).setPeal _
    · exact h.setPeal _

/-- The ring side of an evaluation shows in the registers of the ring alone. -/
theorem SameAt.ringEval (h : SameAt off s u) (reason : Nat) (hoff : off < 0xA0000) : SameAt off s (u.ringEval reason) := by
  have hring : off ≠ 0xA0154 := by omega
  unfold State.ringEval
  refine .ite (.ite (.pealOriginate (.set (.set (.set h _ ?_) _ ?_) _ ?_) _ _ _ hoff)
    (.reportLocal (.set (.set h _ ?_) _ ?_) _ hoff)) h
  all_goals exact hring

theorem SameAt.setP (h : SameAt off s u) (p : Nat) (hstatus : off ≠ F.TIMING_GOV_STATUS.off)
    (hint : off ≠ F.TIMING_GOV_INT_STATUS.off) : SameAt off s (u.setP p) := by
  have hp : SameAt off s (u.set F.TIMING_GOV_STATUS_P p) := h.set _ hstatus
  unfold State.setP
  extract_lets old s1 g s2 s3
  have h2 : SameAt off s s2 := hp.setGov _
  have h3 : SameAt off s s3 := h2.cause _ hint
  exact .ite (.ite (h3.causeBit _ hint) h3) (.ite (h2.causeBit _ hint) h2)

theorem SameAt.showLimits (h : SameAt off s u) (l : Limits) (ring : Nat) (ha : off ≠ F.TIMING_LIMITS_A.off)
    (hb : off ≠ F.TIMING_LIMITS_B.off) (hint : off ≠ F.TIMING_GOV_INT_STATUS.off) : SameAt off s (u.showLimits l ring) := by
  unfold State.showLimits
  extract_lets s1 s2 fell s3 g s4
  have h4 : SameAt off s s4 := by
    refine .setGov (.set (.set (.set (.set (.set (.set (.set h _ ?_) _ ?_) _ ?_) _ ?_) _ ?_) _ ?_) _ ?_) _
    exacts [ha, ha, ha, ha, hb, hb, hb]
  exact .ite (h4.causeBit _ hint) h4

end

/-- The governor changed, and nothing else. -/
def State.mapGov (s : State) (f : Governor → Governor) : State := { s with gov := f s.gov }

theorem SameTiming.mapGov {s u : State} (h : SameTiming s u) (f : Governor → Governor) :
    SameTiming (s.mapGov f) (u.mapGov f) := by
  obtain ⟨hnow, hclock, hcore, hmode, hjob, htracks, hencs, hgov, hrest⟩ := h
  exact ⟨hnow, hclock, hcore, hmode, hjob, htracks, hencs, congrArg f hgov, hrest⟩

/-- The governor as P takes a value at a time (R174). -/
def Governor.take (now p : Nat) (g : Governor) : Governor :=
  { g with p := p, minP := min g.minP p, lastChange := if p = g.p then g.lastChange else now }

/-- The governor as its limits are shown (R173). -/
def Governor.limit (speed : Nat) (g : Governor) : Governor := { g with overLimit := speed, overSince := false }

/-- The governor as it drives the PACE outputs (R176, R177). -/
def Governor.drive (until_ : Nat) (frame : Option (Nat × Nat)) (counter : Nat) (g : Governor) : Governor :=
  { g with paceUntil := until_, frame := frame, counter := counter }

theorem State.sameTiming_setP (s : State) (p : Nat) : SameTiming (s.mapGov (.take s.now p)) (s.setP p) := by
  unfold State.setP
  extract_lets old s1 g s2 s3
  have h2 : SameTiming (s.mapGov (.take s.now p)) s2 := ((SameTiming.refl s).set F.TIMING_GOV_STATUS_P p).mapGov _
  have h3 : SameTiming (s.mapGov (.take s.now p)) s3 := h2.cause _ _
  exact .ite (.ite (h3.causeBit _ _) h3) (.ite (h2.causeBit _ _) h2)

theorem State.sameTiming_showLimits (s : State) (l : Limits) (ring : Nat) :
    SameTiming (s.mapGov (.limit l.speed)) (s.showLimits l ring) := by
  unfold State.showLimits
  extract_lets s1 s2 fell s3 g s4
  have h3 : SameTiming s s3 := .set (.set (.set (.set (.set (.set (.set (.refl s) _ _) _ _) _ _) _ _) _ _) _ _) _ _
  have h4 : SameTiming (s.mapGov (.limit l.speed)) s4 := h3.mapGov (.limit l.speed)
  exact .ite (h4.causeBit _ _) h4

/-- The time until which an evaluation holds PACE high (R176). -/
def State.paceEnd (s : State) : Nat := if s.flag F.TIMING_GOV_CTRL_PWM_EN then s.now + 6250 * s.gov.p else s.now

theorem State.sameTiming_pace (s : State) : ∃ frame counter, SameTiming (s.mapGov (.drive s.paceEnd frame counter)) s.pace := by
  unfold State.pace
  rw [← State.paceEnd]
  generalize s.paceEnd = until_
  extract_lets reason g s1 f s2 g2
  have h1 : SameTiming (s.mapGov (.drive until_ none s.gov.counter)) s1 := .refl _
  have h2 : SameTiming s1 s2 := .set (.set (.refl s1) _ _) _ _
  split
  · exact ⟨some (f, s.now), s.gov.counter + 1,
      .emit (h2.mapGov (fun g => { g with frame := some (f, s.now), counter := s.gov.counter + 1 })) _⟩
  · exact ⟨none, s.gov.counter, h1⟩

/-- The serial frame is shown beside the reasons. -/
theorem State.get_reason_pace (s : State) : s.pace.get F.TIMING_GOV_STATUS_REASON = s.get F.TIMING_GOV_STATUS_REASON := by
  unfold State.pace
  extract_lets reason g s1 f s2 g2
  have h2 : s2.get F.TIMING_GOV_STATUS_REASON = s.get F.TIMING_GOV_STATUS_REASON :=
    ((s1.set F.TIMING_FRAME f).get_set_apart (f := F.TIMING_GOV_STATUS_COUNTER) _ (by decide) (.inr (.inr (by decide)))).trans
      (s1.get_set_apart (f := F.TIMING_FRAME) _ (by decide) (.inl (by decide)))
  split
  · exact (SameAt.get (f := F.TIMING_GOV_STATUS_REASON) (((SameAt.refl s2 _).setGov _).emit _)).trans h2
  · exact SameAt.get (f := F.TIMING_GOV_STATUS_REASON) ((SameAt.refl s _).setGov _)

/-! ### An evaluation (R172, R174) -/

/-- P and its reasons taken, the PACE outputs and the ring informed: how an evaluation ends. -/
def State.takeP (s : State) (p reason own : Nat) (low : Bool) : State :=
  ((if low then ((s.setP p).set F.TIMING_GOV_STATUS_REASON reason).summary 14
    else (s.setP p).set F.TIMING_GOV_STATUS_REASON reason).pace).ringEval own

section
variable (s : State) (p reason own : Nat) (low : Bool)

/-- What the end of an evaluation makes of the governor. -/
theorem State.gov_takeP : (s.takeP p reason own low).gov.p = p ∧
    (s.takeP p reason own low).gov.lastChange = (if p = s.gov.p then s.gov.lastChange else s.now) ∧
    (s.takeP p reason own low).gov.lastEval = s.gov.lastEval ∧
    (s.takeP p reason own low).gov.paceUntil = (if s.flag F.TIMING_GOV_CTRL_PWM_EN then s.now + 6250 * p else s.now) ∧
    (s.takeP p reason own low).core = s.core ∧ (s.takeP p reason own low).clock = s.clock := by
  unfold State.takeP
  generalize hv : (if low then ((s.setP p).set F.TIMING_GOV_STATUS_REASON reason).summary 14
    else (s.setP p).set F.TIMING_GOV_STATUS_REASON reason) = v
  have hpwm : SameAt F.TIMING_GOV_CTRL_PWM_EN.off s v := by
    have hset : SameAt F.TIMING_GOV_CTRL_PWM_EN.off s ((s.setP p).set F.TIMING_GOV_STATUS_REASON reason) :=
      .set (.setP (.refl _ _) p (by decide) (by decide)) _ (by decide)
    exact hv ▸ .ite (hset.summary _ _ (by decide)) hset
  have htiming : SameTiming (s.mapGov (.take s.now p)) v := by
    have hset : SameTiming (s.mapGov (.take s.now p)) ((s.setP p).set F.TIMING_GOV_STATUS_REASON reason) := s.sameTiming_setP p
    exact hv ▸ .ite (hset.summary _ _) hset
  obtain ⟨frame, counter, hpace⟩ := v.sameTiming_pace
  have hend := hpace.ringEval own
  rw [hend.gov, hend.core, hend.clock]
  simp only [State.mapGov, Governor.drive]
  rw [htiming.gov, htiming.core, htiming.clock, State.paceEnd, hpwm.flag, htiming.now, htiming.gov]
  exact ⟨rfl, rfl, rfl, rfl, rfl, rfl⟩

theorem State.get_reason_takeP : (s.takeP p reason own low).get F.TIMING_GOV_STATUS_REASON = reason % 2048 := by
  unfold State.takeP
  rw [(SameAt.ringEval (.refl _ F.TIMING_GOV_STATUS_REASON.off) own (by decide)).get, State.get_reason_pace]
  have hset := (s.setP p).get_set_same F.TIMING_GOV_STATUS_REASON reason (by decide)
  split
  · rw [(SameAt.summary (.refl _ F.TIMING_GOV_STATUS_REASON.off) 14 1 (by decide)).get, hset]
    rfl
  · exact hset

/-- The value that the ring gives an evaluation: 16 outside a ring. -/
def State.ringPart : Nat := if !s.inRing then 16 else if s.isMaster then s.ringLimit else s.ringValue

/-- P at an evaluation while tracks run. -/
def State.runningP : Nat :=
  if s.inRing && !s.isMaster then min s.limits.least s.ringPart else s.hystP (min s.limits.least s.ringPart)

/-- P at an evaluation in the other modes. -/
def State.idleP : Nat :=
  match s.mode with
  | .ready => min (s.get F.TIMING_GOV_CTRL_IDLE_P) (s.get F.TIMING_GOV_CTRL_HOST_CAP)
  | .maintain => min (s.get F.TIMING_GOV_CTRL_IDLE_P) (s.get F.TIMING_GOV_CTRL_HOST_CAP)
  | _ => 0

variable {s}

theorem State.govern_running (h : s.mode = .track ∨ s.mode = .clock) : ∃ reason own low,
    s.govern = (s.showLimits s.limits s.ringPart).takeP s.runningP reason own low := by
  unfold State.govern
  simp only [h, decide_true, if_true]
  exact ⟨_, _, _, rfl⟩

theorem State.govern_idle (h : ¬ (s.mode = .track ∨ s.mode = .clock)) : s.govern =
    s.takeP s.idleP (256 + 128 * b2n (decide (s.get F.TIMING_GOV_CTRL_HOST_CAP < 16))) 0 false := by
  unfold State.govern
  simp only [h, decide_false, Bool.false_eq_true, if_false]
  rfl

/-- An evaluation while tracks run: P, the start of HYST and the core. -/
theorem State.gov_govern_running (h : s.mode = .track ∨ s.mode = .clock) : s.govern.gov.p = s.runningP ∧
    s.govern.gov.lastChange = (if s.runningP = s.gov.p then s.gov.lastChange else s.now) := by
  obtain ⟨reason, own, low, hg⟩ := State.govern_running h
  have hshow := s.sameTiming_showLimits s.limits s.ringPart
  obtain ⟨hp, hchange, -⟩ := (s.showLimits s.limits s.ringPart).gov_takeP s.runningP reason own low
  rw [hg, hp, hchange, hshow.gov, hshow.now]
  exact ⟨rfl, rfl⟩

/-- Every evaluation leaves PACE high until its share of the period is over, and the core as it is. -/
theorem State.paceUntil_govern (s : State) : s.govern.gov.paceUntil =
      (if s.flag F.TIMING_GOV_CTRL_PWM_EN then s.now + 6250 * s.govern.gov.p else s.now) ∧ s.govern.core = s.core := by
  by_cases h : s.mode = .track ∨ s.mode = .clock
  · obtain ⟨reason, own, low, hg⟩ := State.govern_running h
    have hshow := s.sameTiming_showLimits s.limits s.ringPart
    have hpwm := (SameAt.refl s F.TIMING_GOV_CTRL_PWM_EN.off).showLimits s.limits s.ringPart (by decide) (by decide) (by decide)
    obtain ⟨hp, -, -, huntil, hcore, -⟩ := (s.showLimits s.limits s.ringPart).gov_takeP s.runningP reason own low
    rw [hg, hp, huntil, hcore, hpwm.flag, hshow.now, hshow.core]
    exact ⟨rfl, rfl⟩
  · obtain ⟨hp, -, -, huntil, hcore, -⟩ := s.gov_takeP s.idleP (256 + 128 * b2n (decide (s.get F.TIMING_GOV_CTRL_HOST_CAP < 16)))
      0 false
    rw [State.govern_idle h, hp, huntil, hcore]
    exact ⟨rfl, rfl⟩

end

/-! ### Limits and hysteresis (R173, R174) -/

section
variable {s : State}

theorem State.least_limits_le : s.limits.least ≤ 16 :=
  (min_le_right _ _).trans ((min_le_right _ _).trans ((min_le_left _ _).trans (min_le_left _ _)))

theorem State.ringPart_of_master (h : s.inRing = false ∨ s.isMaster = true) :
    s.ringPart = if s.inRing then s.ringLimit else 16 := by
  rcases h with h | h <;> cases hr : s.inRing <;> simp_all [State.ringPart]

theorem State.runningP_of_master (h : s.inRing = false ∨ s.isMaster = true) :
    s.runningP = s.hystP (min s.limits.least (if s.inRing then s.ringLimit else 16)) := by
  have hown : (s.inRing && !s.isMaster) = false := by rcases h with h | h <;> simp [h]
  rw [State.runningP, hown, State.ringPart_of_master h]
  rfl

theorem State.runningP_of_member (hr : s.inRing = true) (hm : s.isMaster = false) :
    s.runningP = min s.limits.least s.ringValue := by
  simp [State.runningP, State.ringPart, hr, hm]

theorem State.hystP_of_lt {l : Nat} (h : l < s.gov.p) : s.hystP l = l := if_pos h

theorem State.hystP_of_gt {l : Nat} (h : s.gov.p < l) :
    s.hystP l = if s.gov.lastChange + s.govHyst ≤ s.now then s.gov.p + 1 else s.gov.p := by
  simp [State.hystP, h, Nat.lt_asymm h]

theorem State.hystP_self : s.hystP s.gov.p = s.gov.p := by simp [State.hystP]

theorem State.hystP_le {l n : Nat} (hl : l ≤ n) (hp : s.gov.p ≤ n) : s.hystP l ≤ n := by
  unfold State.hystP
  split_ifs <;> omega

end

/-! ### TIMING_GOVERNOR (R186) -/

theorem hyst_of_timingGovernor_range {rq : Req} {s : State} (h : timingGovernor.range rq s = none) :
    10 ≤ rq.u 6 2 ∧ rq.u 6 2 ≤ 5000 := by
  simp only [timingGovernor, inRange, within, ite_eq_left_iff, reduceCtorEq, imp_false, not_not, Bool.and_eq_true,
    decide_eq_true_eq] at h
  obtain ⟨⟨⟨⟨-, hhyst⟩, -⟩, -⟩, -⟩ := h
  exact hhyst

theorem get_hyst_timingGovernor (l : List Byte) {rq : Req} (s : State) (h : rq.u 6 2 ≤ 5000) :
    (timingGovernor.apply l rq s).2.get F.TIMING_HYST = rq.u 6 2 := by
  simp only [timingGovernor, ok]
  rw [State.get_set_apart _ _ (by decide) (.inl (by decide)), State.get_set_apart _ _ (by decide) (.inl (by decide)),
    State.get_set_same _ _ _ (by decide)]
  exact Nat.mod_eq_of_lt (by simp only [F.TIMING_HYST]; omega)

/-- Settles O34: while tracks run an evaluation sets P by the hysteresis of R174, on another device of a ring without it. -/
theorem governorFollowsTheLeastLimit : Obligations.GovernorFollowsTheLeastLimit := by
  refine ⟨fun s l hmode hown hl => ?_, fun s hmode hr hm => ?_, fun rq s h => hyst_of_timingGovernor_range h,
    fun l rq s h => get_hyst_timingGovernor l s (hyst_of_timingGovernor_range h).2, by decide⟩
  · obtain ⟨hp, hchange⟩ := State.gov_govern_running hmode
    rw [State.runningP_of_master hown, ← hl] at hp hchange
    have hle : l ≤ 16 := hl ▸ (min_le_left _ _).trans State.least_limits_le
    rw [hp, hchange]
    refine ⟨State.hystP_of_lt, fun hlt hdue => ?_, fun hlt hearly => ?_, fun heq => ?_, hle, State.hystP_le hle, fun hne => if_neg hne⟩
    · exact (State.hystP_of_gt hlt).trans (if_pos hdue)
    · exact (State.hystP_of_gt hlt).trans (if_neg (Nat.not_le.2 hearly))
    · rw [heq, State.hystP_self]
  · rw [(State.gov_govern_running hmode).1, State.runningP_of_member hr hm]

/-! ### The PACE output (R176) -/

/-- PACE while the core runs, until the next evaluation. -/
theorem State.pace_govern {s : State} (hcore : s.core = .run) {x : Nat} (hx : s.now ≤ x) :
    ({ s.govern with now := x }).pacePins.1 = (s.flag F.TIMING_GOV_CTRL_PWM_EN && decide (x < s.now + 6250 * s.govern.gov.p)) := by
  obtain ⟨huntil, hgov⟩ := s.paceUntil_govern
  have hrun : s.govern.core = .run := hgov.trans hcore
  simp only [State.pacePins, hrun, huntil]
  cases s.flag F.TIMING_GOV_CTRL_PWM_EN
  · simp [Nat.not_lt.2 hx]
  · simp

/-- An evaluation off the grid of 100 µs does not come about (R172). -/
theorem Live.gives_governorEval_off {s a : State} {t : Nat} (h : Live s t a) (hoff : a.devTime % 100000 ≠ 0) :
    Gives (.governorEval t) s a := by
  have hstep := h.gives_of_coreStep (exec_governorEval t s)
  rwa [if_neg (fun hc => hoff hc.1)] at hstep

/-- Settles O35: PACE stands high until its share of the period is over, and the grid starts the periods. -/
theorem paceIsHighForItsShareOfThePeriod : Obligations.PaceIsHighForItsShareOfThePeriod := by
  refine ⟨fun s x hcore hx => ⟨State.pace_govern hcore hx, fun hen hp hlt => ?_, fun hp => ?_⟩,
    fun s a t hlive hoff => hlive.gives_governorEval_off hoff⟩
  · rw [State.pace_govern hcore hx, hen, hp]
    simpa using hlt
  · rw [State.pace_govern hcore hx, hp]
    simp [Nat.not_lt.2 hx]

end Sys2Proof.Machine
end

section
/-! Encoders: what a sample, a reading, a fault and a recovery change (R141 to R151, R168). -/

namespace Sys2Proof.Machine

/-! ### An encoder replaced -/

section
variable (s : State) (e : Nat) (x : Enc)

@[simp] theorem State.enc_setEnc_same : (s.setEnc e x).enc e = x := by
  rw [State.enc, State.encs_setEnc, Tbl.get_set_same]

@[simp] theorem State.track_setEnc (t : Nat) : (s.setEnc e x).track t = s.track t := by
  rw [State.track, State.track, State.tracks_setEnc]

/-- An encoder replaced changes its status, position and velocity registers. -/
theorem SameAt.setEnc {s u : State} {off : Nat} (h : SameAt off s u) (hoff : off < 0x71004 + 0x40 * e ∨ 0x71010 + 0x40 * e < off) :
    SameAt off s (u.setEnc e x) := by
  have htable : SameAt off s { u with encs := u.encs.set {} e x } := h
  unfold State.setEnc State.set64
  refine .set (.set (.set (.set (.set (.set (.set (.set htable _ ?_) _ ?_) _ ?_) _ ?_) _ ?_) _ ?_) _ ?_) _ ?_
  all_goals
    simp only [F.ENC_EN_STATUS_STATE, F.ENC_EN_STATUS_ARMED, F.ENC_EN_STATUS_REJECTS, F.ENC_EN_STATUS_LEVELS,
      F.ENC_EN_STATUS_WARN, F.ENC_POS_LO, F.ENC_POS_HI, F.ENC_VELOCITY]
    omega

/-- In the status register an encoder replaced leaves FAULT. -/
theorem State.get_fault_setEnc : (s.setEnc e x).get (F.ENC_EN_STATUS_FAULT e) = s.get (F.ENC_EN_STATUS_FAULT e) := by
  unfold State.setEnc State.set64
  iterate 8 rw [State.get_set_apart _ _ (by simp [F.ENC_EN_STATUS_STATE, F.ENC_EN_STATUS_ARMED, F.ENC_EN_STATUS_REJECTS,
    F.ENC_EN_STATUS_LEVELS, F.ENC_EN_STATUS_WARN, F.ENC_POS_LO, F.ENC_POS_HI, F.ENC_VELOCITY]) (by simp [Fld.apart,
    F.ENC_EN_STATUS_STATE, F.ENC_EN_STATUS_ARMED, F.ENC_EN_STATUS_REJECTS, F.ENC_EN_STATUS_LEVELS, F.ENC_EN_STATUS_WARN,
    F.ENC_POS_LO, F.ENC_POS_HI, F.ENC_VELOCITY, F.ENC_EN_STATUS_FAULT])]
  rfl

end

/-! ### The tracks that an encoder paces -/

section
variable {s u : State} {e t kind : Nat} {l : List Nat}

theorem State.mem_pacedBy : t ∈ s.pacedBy e ↔ t < 16 ∧ (s.track t).st = 1 ∧ s.byEncoder t = true ∧ s.trackEnc t = some e := by
  simp [State.pacedBy, and_assoc]

theorem State.pacedBy_congr (htracks : u.tracks = s.tracks) (hctrl : ∀ k < 16, SameAt (F.TRACK_TR_CTRL k).off s u) (e : Nat) :
    u.pacedBy e = s.pacedBy e := by
  refine List.filter_congr fun k hk => ?_
  have hk := hctrl k (List.mem_range.1 hk)
  have htrack : u.track k = s.track k := by rw [State.track, State.track, htracks]
  have hsource : u.source k = s.source k := SameAt.get (f := F.TRACK_TR_CTRL_SOURCE k) hk
  have henc : u.trackEnc k = s.trackEnc k := by
    rw [State.trackEnc, State.trackEnc, SameAt.flag (f := F.TRACK_TR_CTRL_ENC_VALID k) hk,
      SameAt.get (f := F.TRACK_TR_CTRL_ENC k) hk]
  rw [State.byEncoder, State.byEncoder, htrack, hsource, henc]

theorem State.track_foldl_stopAtLast_other : ∀ (l : List Nat) (s : State), t ∉ l →
    (l.foldl (fun (a : State) k => a.stopAtLast k kind) s).track t = s.track t
  | [], _, _ => rfl
  | k :: l, s, ht => by
    obtain ⟨hk, ht⟩ := not_or.1 (fun h => ht (List.mem_cons.2 h))
    exact (State.track_foldl_stopAtLast_other l _ ht).trans (s.track_stopTrack_other _ _ _ hk)

/-- Each running track of a list stops at its last line. -/
theorem State.track_foldl_stopAtLast (hl : l.Nodup) (ht : t ∈ l) (hst : (s.track t).st = 1) :
    (l.foldl (fun (a : State) k => a.stopAtLast k kind) s).track t = (s.track t).stopped kind ((s.track t).last.map (·.line)) := by
  induction l generalizing s with
  | nil => cases ht
  | cons k l ih =>
    obtain ⟨hk, hl⟩ := List.nodup_cons.1 hl
    rw [List.foldl_cons]
    rcases List.mem_cons.1 ht with rfl | ht
    · rw [State.track_foldl_stopAtLast_other l _ hk]
      exact State.track_stopTrack_same _ _ hst
    · have hkeep : (s.stopAtLast k kind).track t = s.track t := s.track_stopTrack_other _ _ _ fun h => hk (h ▸ ht)
      rw [ih hl ht (by rwa [hkeep]), hkeep]

theorem SameAt.foldl_stopAtLast {off : Nat} (hoff : off < 0xA0000) : ∀ (l : List Nat) (u : State), SameAt off s u →
    (∀ k ∈ l, off ≠ (F.TRACK_TR_STATUS k).off) → SameAt off s (l.foldl (fun (a : State) k => a.stopAtLast k kind) u)
  | [], _, h, _ => h
  | k :: l, _, h, hl => SameAt.foldl_stopAtLast hoff l _ (h.stopTrack k _ _ hoff (hl k List.mem_cons_self))
    fun j hj => hl j (List.mem_cons_of_mem _ hj)

theorem State.encs_foldl_stopAtLast : (l.foldl (fun (a : State) k => a.stopAtLast k kind) s).encs = s.encs :=
  foldl_keeps (fun a => a.encs = s.encs) _ (fun a k h => (a.encs_stopTrack k _ _).trans h) l s rfl

end

/-! ### A fault of an encoder (R148, R151) -/

section
variable (s : State) (e kind : Nat)

/-- The fault recorded and its cause raised, before the tracks stop. -/
def State.recordFault : State :=
  (s.set (F.ENC_EN_STATUS_FAULT e) kind).causeBit ⟨F.TIMING_TM_INT_STATUS_OVERSPEED.off, 0, 32⟩ (kind + 1)

theorem State.sameTiming_recordFault : SameTiming s (s.recordFault e kind) := ((SameTiming.refl s).set _ _).causeBit _ _

theorem SameAt.recordFault {s u : State} {off : Nat} (h : SameAt off s u) (hst : off ≠ (F.ENC_EN_STATUS e).off)
    (hint : off ≠ F.TIMING_TM_INT_STATUS_OVERSPEED.off) : SameAt off s (u.recordFault e kind) :=
  (h.set (f := F.ENC_EN_STATUS_FAULT e) kind hst).causeBit (f := ⟨F.TIMING_TM_INT_STATUS_OVERSPEED.off, 0, 32⟩) _ hint

theorem State.encFault_eq : s.encFault e kind =
    ((s.recordFault e kind).pacedBy e).foldl (fun (a : State) k => a.stopAtLast k kind) (s.recordFault e kind) := rfl

@[simp] theorem State.encs_encFault : (s.encFault e kind).encs = s.encs := by
  rw [State.encFault_eq, State.encs_foldl_stopAtLast, (s.sameTiming_recordFault e kind).encs]

theorem State.pacedBy_recordFault : (s.recordFault e kind).pacedBy e = s.pacedBy e := by
  refine State.pacedBy_congr (s.sameTiming_recordFault e kind).tracks (fun k hk => .recordFault e kind (.refl _ _) ?_ ?_) e
  all_goals
    simp only [F.TRACK_TR_CTRL, F.ENC_EN_STATUS, F.TIMING_TM_INT_STATUS_OVERSPEED]
    omega

/-- A fault stops each track that the encoder paces at its last committed line. -/
theorem State.track_encFault {t : Nat} (ht : t ∈ s.pacedBy e) :
    (s.encFault e kind).track t = (s.track t).stopped kind ((s.track t).last.map (·.line)) := by
  have hrun := (State.mem_pacedBy.1 ht).2.1
  have htrack := (s.sameTiming_recordFault e kind).track t
  rw [State.encFault_eq, State.pacedBy_recordFault, ← htrack]
  exact State.track_foldl_stopAtLast (List.nodup_range.filter _) ht (htrack ▸ hrun)

theorem SameAt.encFault {s u : State} {off : Nat} (h : SameAt off s u) (hst : off ≠ (F.ENC_EN_STATUS e).off)
    (hint : off < F.TIMING_TM_INT_STATUS_OVERSPEED.off) (htr : ∀ k < 16, off ≠ (F.TRACK_TR_STATUS k).off) :
    SameAt off s (u.encFault e kind) := by
  have hoff : off < 0xA0000 := hint.trans (by decide)
  exact .foldl_stopAtLast hoff _ _ (h.recordFault e kind hst hint.ne) fun k hk => htr k (State.mem_pacedBy.1 hk).1

theorem State.get_fault_encFault (he : e < 4) (hkind : kind < 4) :
    (s.encFault e kind).get (F.ENC_EN_STATUS_FAULT e) = kind := by
  have hset : (s.set (F.ENC_EN_STATUS_FAULT e) kind).get (F.ENC_EN_STATUS_FAULT e) = kind := by
    rw [State.get_set_same _ _ _ (by simp [F.ENC_EN_STATUS_FAULT])]
    exact Nat.mod_eq_of_lt hkind
  have hcause : SameAt (F.ENC_EN_STATUS_FAULT e).off (s.set (F.ENC_EN_STATUS_FAULT e) kind) (s.recordFault e kind) :=
    (SameAt.refl _ _).causeBit (f := ⟨F.TIMING_TM_INT_STATUS_OVERSPEED.off, 0, 32⟩) _
      (by simp only [F.ENC_EN_STATUS_FAULT, F.TIMING_TM_INT_STATUS_OVERSPEED]; omega)
  refine (SameAt.get (f := F.ENC_EN_STATUS_FAULT e) (.foldl_stopAtLast ?_ _ _ hcause fun k hk => ?_)).trans hset
  · simp only [F.ENC_EN_STATUS_FAULT]
    omega
  · have := (State.mem_pacedBy.1 hk).1
    simp only [F.ENC_EN_STATUS_FAULT, F.TRACK_TR_STATUS]
    omega

end

/-! ### Samples and readings (R144, R145, R149, R150) -/

/-- Two states of an encoder between which it has neither counted nor read. -/
def Enc.SameReading (x y : Enc) : Prop := y.a = x.a ∧ y.b = x.b ∧ y.count = x.count ∧ y.readAt = x.readAt

theorem Enc.SameReading.trans {x y z : Enc} (h : x.SameReading y) (h' : y.SameReading z) : x.SameReading z := by
  obtain ⟨ha, hb, hc, hr⟩ := h
  obtain ⟨ha', hb', hc', hr'⟩ := h'
  exact ⟨ha'.trans ha, hb'.trans hb, hc'.trans hc, hr'.trans hr⟩

theorem Enc.sameReading_accept (x : Enc) (alpha beta : Nat) (z ts : Int) : x.SameReading (x.accept alpha beta z ts) := by
  unfold Enc.accept
  split <;> exact ⟨rfl, rfl, rfl, rfl⟩

section
variable (s : State) (e : Nat)

theorem State.enc_congr {s u : State} (h : u.encs = s.encs) (e : Nat) : u.enc e = s.enc e := by rw [State.enc, State.enc, h]

@[simp] theorem State.encs_trackMax (t : Nat) (x : Rat) : (s.trackMax t x).encs = s.encs := by
  unfold State.trackMax
  extract_lets
  split
  · rw [State.encs_setTrack]
  · rfl

@[simp] theorem State.encs_followMax : (s.followMax e).encs = s.encs :=
  foldl_keeps (fun a => a.encs = s.encs) _ (fun a t h => (a.encs_trackMax t _).trans h) _ s rfl

theorem State.sameReading_rejectSample : (s.enc e).SameReading ((s.rejectSample e).enc e) := by
  unfold State.rejectSample
  extract_lets x n s1
  have h1 : s1.enc e = { x with rejects := n } := State.enc_setEnc_same _ _ _
  split
  · rw [State.enc_congr (State.encs_encFault _ _ _), State.enc_setEnc_same, h1]
    exact ⟨rfl, rfl, rfl, rfl⟩
  · rw [h1]
    exact ⟨rfl, rfl, rfl, rfl⟩

theorem State.sameReading_frameError : (s.enc e).SameReading ((s.frameError e).enc e) := by
  unfold State.frameError
  extract_lets x s1
  have h1 : x.SameReading (s1.enc e) := by
    rw [State.enc_setEnc_same]
    split <;> exact ⟨rfl, rfl, rfl, rfl⟩
  exact h1.trans (s1.sameReading_rejectSample e)

/-- A sample moves the estimator, not the levels, the count and the readings. -/
theorem State.sameReading_takeSample (z ts : Int) : (s.enc e).SameReading ((s.takeSample e z ts).enc e) := by
  unfold State.takeSample
  extract_lets x s1 y s2 ns s3
  have hy : x.SameReading y := by
    have h1 : s1.enc e = x := State.enc_congr (State.encs_followMax _ _) e
    exact h1 ▸ Enc.sameReading_accept _ _ _ _ _
  have h3 : s3.enc e = { y with wdFrom := s.now, wdLate := false } := by
    have hset : SameTiming (s1.setEnc e { y with wdFrom := s.now, wdLate := false })
        (s2.set (F.ENC_SAMPLE_TIME e) (ofSigned 32 ns)) := ((SameTiming.refl _).bump _ _).set _ _
    exact (State.enc_congr (State.encs_followMax _ _) e).trans ((hset.enc e).trans (State.enc_setEnc_same _ _ _))
  split
  · exact ⟨rfl, rfl, rfl, rfl⟩
  · split
    · have hbump := ((SameTiming.refl s).bump (F.ENC_ERRORS_IMPLAUSIBLE e) 1).enc e
      exact hbump ▸ (s.bump (F.ENC_ERRORS_IMPLAUSIBLE e)).sameReading_rejectSample e
    · have h : x.SameReading (s3.enc e) := by
        rw [h3]
        exact hy
      split
      · rw [(((SameTiming.refl s3).bump _ _).cause _ _).enc e]
        exact h
      · exact h

theorem State.levels_takeSample_setEnc (x : Enc) (z ts : Int) : (((s.setEnc e x).takeSample e z ts).enc e).a = x.a ∧
    (((s.setEnc e x).takeSample e z ts).enc e).b = x.b ∧ (((s.setEnc e x).takeSample e z ts).enc e).count = x.count := by
  obtain ⟨ha, hb, hcount, -⟩ := (s.setEnc e x).sameReading_takeSample e z ts
  rw [State.enc_setEnc_same] at ha hb hcount
  exact ⟨ha, hb, hcount⟩

theorem SameAt.rejectSample {s u : State} {e : Nat} (h : SameAt (F.ENC_ERRORS e).off s u) (he : e < 4) :
    SameAt (F.ENC_ERRORS e).off s (u.rejectSample e) := by
  have hshown : (F.ENC_ERRORS e).off < 0x71004 + 0x40 * e ∨ 0x71010 + 0x40 * e < (F.ENC_ERRORS e).off := by
    simp only [F.ENC_ERRORS]
    omega
  refine .ite (.encFault e 2 ((h.setEnc e _ hshown).setEnc e _ hshown) ?_ ?_ fun k hk => ?_) (h.setEnc e _ hshown)
  all_goals
    simp only [F.ENC_ERRORS, F.ENC_EN_STATUS, F.TIMING_TM_INT_STATUS_OVERSPEED, F.TRACK_TR_STATUS]
    omega

/-- A FRAME error counts one in FRAME. -/
theorem State.get_frame_frameError (he : e < 4) :
    (s.frameError e).get (F.ENC_ERRORS_FRAME e) = min (s.get (F.ENC_ERRORS_FRAME e) + 1) 255 := by
  have hshown : (F.ENC_ERRORS e).off < 0x71004 + 0x40 * e ∨ 0x71010 + 0x40 * e < (F.ENC_ERRORS e).off := by
    simp only [F.ENC_ERRORS]
    omega
  have hkeep : SameAt (F.ENC_ERRORS e).off (s.bump (F.ENC_ERRORS_FRAME e)) (s.frameError e) :=
    ((SameAt.refl _ _).setEnc e _ hshown).rejectSample he
  exact (SameAt.get (f := F.ENC_ERRORS_FRAME e) hkeep).trans (s.get_bump_satAdd 1 (by simp [F.ENC_ERRORS_FRAME]))

end

end Sys2Proof.Machine
end

section
/-! The rows of the encoders (R142 to R151). -/

namespace Sys2Proof.Machine

/-! ### Levels of a quadrature encoder (R142, R143) -/

theorem quadStep_of_a {a b x : Bool} (h : x ≠ a) : quadStep a b x b = if x = b then -1 else 1 := by
  revert a b x
  decide

theorem quadStep_of_b {a b y : Bool} (h : y ≠ b) : quadStep a b a y = if y = a then 1 else -1 := by
  revert a b y
  decide

section
variable {s a : State} {t e : Nat} {x b z half : Bool}

theorem Live.gives_encoderSample_illegal (h : Live s t a) (he : e < 4) (hkind : a.encKind e = 1)
    (hin : (a.enc e).inputFault = false) (hx : x ≠ (a.enc e).a) (hb : b ≠ (a.enc e).b) :
    Gives (.encoderSample t e x b z half) s
      ((a.setEnc e { a.enc e with a := x, b := b, z := (a.enc e).z && z }).bump (F.ENC_ERRORS_ILLEGAL e)) := by
  have hstep := h.gives_of_coreStep (exec_encoderSample t e x b z half s)
  dsimp only at hstep
  rwa [if_neg (Nat.not_le.2 he), if_neg (by simp [hkind, hin]), if_pos ⟨hx, hb⟩] at hstep

/-- A change of one level counts the step of its direction. -/
theorem Live.gives_encoderSample_step (h : Live s t a) (he : e < 4) (hkind : a.encKind e = 1)
    (hin : (a.enc e).inputFault = false) (hone : (x = (a.enc e).a) ≠ (b = (a.enc e).b)) :
    ∃ u, Gives (.encoderSample t e x b z half) s u ∧ (u.enc e).a = x ∧ (u.enc e).b = b ∧ (u.enc e).count = (a.enc e).count +
      (if a.flag (F.ENC_EN_CTRL_DIR_INVERT e) then -1 else 1) * quadStep (a.enc e).a (a.enc e).b x b := by
  have hboth : ¬ (x ≠ (a.enc e).a ∧ b ≠ (a.enc e).b) := fun ⟨hx, hb⟩ => hone (by rw [eq_false hx, eq_false hb])
  have hnone : ¬ (x = (a.enc e).a ∧ b = (a.enc e).b) := fun ⟨hx, hb⟩ => hone (by rw [eq_true hx, eq_true hb])
  have hstep := h.gives_of_coreStep (exec_encoderSample t e x b z half s)
  dsimp only at hstep
  rw [if_neg (Nat.not_le.2 he), if_neg (by simp [hkind, hin]), if_neg hboth, if_neg hnone] at hstep
  have hsign (d : Int) : (if a.flag (F.ENC_EN_CTRL_DIR_INVERT e) then -1 else 1) * d =
      if a.flag (F.ENC_EN_CTRL_DIR_INVERT e) then -d else d := by rw [ite_mul, neg_one_mul, one_mul]
  rw [hsign]
  exact ⟨_, hstep, State.levels_takeSample_setEnc _ _ _ _ _⟩

theorem Live.gives_zIndex (h : Live s t a) (he : e < 4) (hkind : a.encKind e = 1) (hz : (a.enc e).z = false)
    (hin : (a.enc e).inputFault = false) : ∃ u, Gives (.zIndex t e) s u ∧ (u.enc e).z = true ∧ (u.enc e).x = (a.enc e).x ∧
      u.get (F.ENC_Z_POS e) =
        if a.flag (F.ENC_EN_CTRL_Z_EN e) then ofSigned 32 ((a.enc e).x / 65536) else a.get (F.ENC_Z_POS e) := by
  have hstep := h.gives_of_coreStep (exec_zIndex t e s)
  dsimp only at hstep
  rw [if_pos (by simp [he, hkind, hz, hin])] at hstep
  refine ⟨_, hstep, ?_⟩
  have hset := a.enc_setEnc_same e { a.enc e with z := true }
  split
  · have hlatch := ((SameTiming.refl (a.setEnc e { a.enc e with z := true })).set (F.ENC_Z_POS e)
      (ofSigned 32 ((a.enc e).x / 65536))).enc e
    rw [hlatch, hset, State.get_set_same _ _ _ (by simp [F.ENC_Z_POS])]
    exact ⟨rfl, rfl, Nat.mod_eq_of_lt (by simp only [F.ENC_Z_POS, ofSigned]; omega)⟩
  · rw [hset]
    exact ⟨rfl, rfl, SameAt.get (f := F.ENC_Z_POS e) ((SameAt.refl a _).setEnc e _ (by simp only [F.ENC_Z_POS]; omega))⟩

end

/-! ### Readings of an absolute encoder (R144, R145) -/

section
variable {s a : State} {t e clk : Nat}

theorem State.lt_of_readDue {s : State} {e kind clk : Nat} (h : s.readDue e kind clk = true) : e < 4 := by
  simp only [State.readDue, Bool.and_eq_true, decide_eq_true_eq] at h
  obtain ⟨⟨⟨he, -⟩, -⟩, -⟩ := h
  exact he

/-- A failed reading sets the next one and counts one FRAME error. -/
theorem State.frameError_nextRead (a : State) {e : Nat} (he : e < 4) (clk : Nat) (level : Bool) :
    (((a.nextRead e clk level).frameError e).enc e).readAt = clk + 1000 * a.get (F.ENC_ABS_CFG_SAMPLE_US e) ∧
      ((a.nextRead e clk level).frameError e).get (F.ENC_ERRORS_FRAME e) = min (a.get (F.ENC_ERRORS_FRAME e) + 1) 255 := by
  obtain ⟨-, -, -, hread⟩ := (a.nextRead e clk level).sameReading_frameError e
  have hkeep : (a.nextRead e clk level).get (F.ENC_ERRORS_FRAME e) = a.get (F.ENC_ERRORS_FRAME e) :=
    SameAt.get (f := F.ENC_ERRORS_FRAME e) ((SameAt.refl a _).setEnc e _ (by simp only [F.ENC_ERRORS_FRAME]; omega))
  refine ⟨hread.trans ?_, (State.get_frame_frameError _ _ he).trans (by rw [hkeep])⟩
  rw [State.nextRead, State.enc_setEnc_same]

theorem Live.gives_ssiRead (h : Live s t a) (hdue : a.readDue e 2 clk = true) (high : Bool) (value : Nat) :
    Gives (.ssiRead t e clk high value) s (if high then (a.nextRead e clk high).absolute e clk
        (if a.flag (F.ENC_EN_CTRL_GRAY e) then grayToBinary (value % 2 ^ a.get (F.ENC_EN_CTRL_BITS e)) (a.get (F.ENC_EN_CTRL_BITS e))
          else value % 2 ^ a.get (F.ENC_EN_CTRL_BITS e))
      else (a.nextRead e clk high).frameError e) := by
  have hstep := h.gives_of_coreStep (exec_ssiRead t e clk high value s)
  dsimp only at hstep
  rwa [if_pos hdue] at hstep

theorem Live.gives_bissRead_none (h : Live s t a) (hdue : a.readDue e 3 clk = true) :
    Gives (.bissRead t e clk none) s ((a.nextRead e clk true).frameError e) := by
  have hstep := h.gives_of_coreStep (exec_bissRead t e clk none s)
  dsimp only at hstep
  rwa [if_pos hdue] at hstep

/-- A frame without error, whose CRC is the inverted CRC of its bits, gives a reading. -/
theorem Live.gives_bissRead_frame (h : Live s t a) (hdue : a.readDue e 3 clk = true) {value crc : Nat} {nW : Bool}
    (hvalue : value < 2 ^ a.get (F.ENC_EN_CTRL_BITS e)) (hlt : crc < 64)
    (hcrc : crc = 63 - crc6 (4 * value + 2 + b2n nW) (a.get (F.ENC_EN_CTRL_BITS e) + 2) 0) :
    Gives (.bissRead t e clk (some (value, true, nW, crc))) s
      (((a.nextRead e clk true).setEnc e { (a.nextRead e clk true).enc e with warn := !nW }).absolute e clk value) := by
  have hstep := h.gives_of_coreStep (exec_bissRead t e clk (some (value, true, nW, crc)) s)
  dsimp only at hstep
  rw [if_pos hdue, Nat.mod_eq_of_lt hvalue, Nat.mod_eq_of_lt hlt] at hstep
  rwa [show b2n true = 1 from rfl, Nat.mul_one, if_neg (fun hbad => hbad.elim (fun hne => hne hcrc) Bool.noConfusion)] at hstep

end

/-! ### Faults and recovery (R148, R149, R151) -/

section
variable {s a : State} {t e : Nat}

/-- A fault that a change of the encoder raises stops the tracks that it paces. -/
theorem State.encFault_setEnc (a : State) {e kind : Nat} (x : Enc) (he : e < 4) (hkind : kind < 4) :
    ((a.setEnc e x).encFault e kind).enc e = x ∧ ((a.setEnc e x).encFault e kind).get (F.ENC_EN_STATUS_FAULT e) = kind ∧
      ∀ tr, tr ∈ a.pacedBy e → (((a.setEnc e x).encFault e kind).track tr).st = 2 ∧
        (((a.setEnc e x).encFault e kind).track tr).cause = kind ∧
        (((a.setEnc e x).encFault e kind).track tr).stopLine = (a.track tr).last.map (·.line) := by
  have hpaced : (a.setEnc e x).pacedBy e = a.pacedBy e :=
    State.pacedBy_congr (a.tracks_setEnc e x) (fun k hk => (SameAt.refl a _).setEnc e x (by
      simp only [F.TRACK_TR_CTRL]; omega)) e
  refine ⟨?_, State.get_fault_encFault _ _ _ he hkind, fun tr htr => ?_⟩
  · rw [State.enc_congr (State.encs_encFault _ _ _), State.enc_setEnc_same]
  · rw [← hpaced] at htr
    rw [State.track_encFault _ _ _ htr, State.track_setEnc]
    exact ⟨rfl, rfl, rfl⟩

theorem Live.gives_encInputFault (h : Live s t a) (he : e < 4) (hkind : a.encKind e ≠ 0) (hin : (a.enc e).inputFault = false) :
    Gives (.encInputFault t e) s ((a.setEnc e { a.enc e with inputFault := true }).encFault e 3) := by
  have hstep := h.gives_of_coreStep (exec_encInputFault t e s)
  dsimp only at hstep
  rwa [if_pos (by simp [he, hkind, hin])] at hstep

theorem Live.gives_encInputRecover (h : Live s t a) (hin : (a.enc e).inputFault = true) :
    Gives (.encInputRecover t e) s (a.setEnc e { (a.enc e).restart with inputFault := false }) := by
  have hstep := h.gives_of_coreStep (exec_encInputRecover t e s)
  dsimp only at hstep
  rwa [if_pos hin] at hstep

theorem Live.gives_encStall (h : Live s t a) (he : e < 4) (harmed : a.encArmed e = true) (hlate : (a.enc e).wdLate = false)
    (hdue : (a.enc e).wdFrom + 1000 * a.get (F.ENC_WD_TIME e) ≤ a.now) :
    Gives (.encStall t e) s ((a.setEnc e { a.enc e with wdLate := true }).encFault e 1) := by
  have hstep := h.gives_of_coreStep (exec_encStall t e s)
  dsimp only at hstep
  rwa [if_pos (by simp [he, harmed, hlate, hdue])] at hstep

end

/-- Settles O31: each row of an encoder moves its count, its latch, its readings or its fault as the rules say. -/
theorem encoderCommandsTakeEffect : Obligations.EncoderCommandsTakeEffect := by
  intro s a t e h he
  refine ⟨fun x b z half hkind hin hx hb => ?_, fun x b z half hkind hin hx hb => ?_, fun x b z half hkind hin hx hb => ?_,
    fun hkind hz hin => h.gives_zIndex he hkind hz hin, fun clk value hdue => ?_, fun clk hdue => ?_, fun hkind hin => ?_,
    fun hin => ?_, fun harmed hlate hdue => ?_⟩
  · obtain ⟨u, hu, ha, hb', hcount⟩ := h.gives_encoderSample_step (z := z) (half := half) he hkind hin (x := x) (b := b)
      (by simp [hx, hb])
    subst hb
    rw [quadStep_of_a hx] at hcount
    exact ⟨u, hu, ha, hb', hcount⟩
  · obtain ⟨u, hu, ha, hb', hcount⟩ := h.gives_encoderSample_step (z := z) (half := half) he hkind hin (x := x) (b := b)
      (by simp [hx, hb])
    subst hx
    rw [quadStep_of_b hb] at hcount
    exact ⟨u, hu, ha, hb', hcount⟩
  · refine ⟨_, h.gives_encoderSample_illegal he hkind hin hx hb, ?_⟩
    have hset := ((SameTiming.refl (a.setEnc e { a.enc e with a := x, b := b, z := (a.enc e).z && z })).bump
      (F.ENC_ERRORS_ILLEGAL e) 1).enc e
    have hkeep : SameAt (F.ENC_ERRORS_ILLEGAL e).off a (a.setEnc e { a.enc e with a := x, b := b, z := (a.enc e).z && z }) :=
      (SameAt.refl a _).setEnc e _ (by simp only [F.ENC_ERRORS_ILLEGAL]; omega)
    rw [hset, State.enc_setEnc_same, State.get_bump_satAdd _ _ (by simp [F.ENC_ERRORS_ILLEGAL]), hkeep.get]
    exact ⟨rfl, rfl, rfl, rfl, rfl⟩
  · obtain ⟨hread, hframe⟩ := a.frameError_nextRead (State.lt_of_readDue hdue) clk false
    exact ⟨h.gives_ssiRead hdue true value, _, h.gives_ssiRead hdue false value, hread, hframe⟩
  · obtain ⟨-, hframe⟩ := a.frameError_nextRead (State.lt_of_readDue hdue) clk true
    exact ⟨⟨_, h.gives_bissRead_none hdue, hframe⟩, fun value nW crc => h.gives_bissRead_frame hdue⟩
  · obtain ⟨henc, hfault, hstop⟩ := a.encFault_setEnc (kind := 3) { a.enc e with inputFault := true } he (by decide)
    exact ⟨_, h.gives_encInputFault he hkind hin, by rw [henc], hfault, hstop⟩
  · refine ⟨_, h.gives_encInputRecover hin, ?_⟩
    rw [State.enc_setEnc_same, State.get_fault_setEnc]
    exact ⟨rfl, rfl, rfl, rfl⟩
  · obtain ⟨henc, hfault, hstop⟩ := a.encFault_setEnc (kind := 1) { a.enc e with wdLate := true } he (by decide)
    exact ⟨_, h.gives_encStall he harmed hlate hdue, by rw [henc], hfault, hstop⟩

end Sys2Proof.Machine
end

section
/-! The rows of the tracks that commit a line and give an instant, and the pulses of the line triggers (R156 to R158,
R182). -/

namespace Sys2Proof.Machine

/-! ### Committing a clocked line (R157, R158) -/

theorem mem_insertLine_self (c : CLine) : ∀ l, c ∈ insertLine c l
  | [] => List.mem_singleton_self c
  | d :: l => by
    rw [insertLine]
    split
    · exact List.mem_cons_self
    · exact List.mem_cons_of_mem _ (mem_insertLine_self c l)

section
variable (s : State) (t : Nat)

theorem State.tracks_triggerLine (c : CLine) : (s.triggerLine t c).tracks = s.tracks := rfl

/-- The line that a track commits now. -/
def State.newLine (s : State) (line : Nat) (tl : Int) (interval : Nat) : CLine :=
  { line := line, tl := tl, interval := interval, tc := s.devTime }

/-- A track with one line more. -/
def Track.committed (x : Track) (c newest : CLine) : Track := { x with lines := insertLine c x.lines, last := some newest }

theorem State.track_commitLine (line : Nat) (tl : Int) (interval : Nat) : ∃ newest,
    (s.commitLine t line tl interval).track t = (s.track t).committed (s.newLine line tl interval) newest := by
  unfold State.commitLine
  extract_lets x c newest s1 s2
  refine ⟨newest, ?_⟩
  have h2 := ((SameTiming.refl s1).set64 (F.TRACK_LINE_LO t) (F.TRACK_LINE_HI t) newest.line).set64 (F.TRACK_TL_LO t)
    (F.TRACK_TL_HI t) (ofSigned 64 newest.tl)
  rw [State.track, State.tracks_triggerLine]
  exact (h2.track t).trans (State.track_setTrack_same _ _ _)

/-- A track that has computed and committed a line. -/
def Track.scheduled (x : Track) (c newest : CLine) : Track :=
  { x.committed c newest with nextLine := x.nextLine + 1, tPrevLine := some c.tl }

theorem State.track_scheduleLine (tl : Int) (interval : Nat) (clocked : Bool) : ∃ newest,
    (s.scheduleLine t tl interval clocked).track t =
      (s.track t).scheduled (s.newLine (s.track t).nextLine tl interval) newest := by
  obtain ⟨newest, h1⟩ := s.track_commitLine t (s.track t).nextLine tl interval
  refine ⟨newest, ?_⟩
  unfold State.scheduleLine
  extract_lets x l s1 y s2
  have h2 : s2.track t = (s.track t).scheduled (s.newLine l tl interval) newest := by
    unfold s2
    rw [State.track_setTrack_same, show y = _ from h1]
    rfl
  split
  · exact (((SameTiming.refl s2).tollLine _ _ _).track t).trans h2
  · exact h2

/-- A clocked line within LEAD is committed at its instant. -/
theorem State.track_clockLine (hlead : roundHalfUp (s.nextClocked t) - s.devTime ≤ s.leadNs t) :
    ((s.clockLine t).track t).nextLine = (s.track t).nextLine + 1 ∧
      ((s.clockLine t).track t).clockAcc = some (s.nextClocked t) ∧ ∃ interval,
        s.newLine (s.track t).nextLine (roundHalfUp (s.nextClocked t)) interval ∈ ((s.clockLine t).track t).lines := by
  unfold State.clockLine
  extract_lets x a tl interval
  rw [if_pos hlead]
  obtain ⟨newest, h⟩ := (s.setTrack t { x with clockAcc := some a }).track_scheduleLine t tl interval true
  rw [h, State.track_setTrack_same]
  exact ⟨rfl, rfl, interval, mem_insertLine_self _ _⟩

/-! ### The instant of a line (R159, R418) -/

/-- The second state keeps the last instant of a track, and a register. -/
def KeepsInstant (t off : Nat) (s u : State) : Prop :=
  (u.track t).lastInstant = (s.track t).lastInstant ∧ SameAt off s u

end

section
variable {t off : Nat} {s u v : State}

theorem KeepsInstant.refl (t off : Nat) (s : State) : KeepsInstant t off s s := ⟨rfl, .refl _ _⟩

theorem KeepsInstant.of_sameTiming (h : KeepsInstant t off s u) (htiming : SameTiming u v) (hregs : SameAt off s v) :
    KeepsInstant t off s v := by
  obtain ⟨hlast, -⟩ := h
  exact ⟨by rw [htiming.track, hlast], hregs⟩

theorem KeepsInstant.cause (h : KeepsInstant t off s u) {f : Fld} (hf : off ≠ f.off) (n : Nat) :
    KeepsInstant t off s (u.cause f n) :=
  h.of_sameTiming ((SameTiming.refl u).cause f n) (h.2.cause n hf)

theorem KeepsInstant.setTrack (h : KeepsInstant t off s u) {x : Track} (hx : x.lastInstant = (u.track t).lastInstant)
    (hoff : off ≠ (F.TRACK_TR_STATUS t).off) : KeepsInstant t off s (u.setTrack t x) := by
  obtain ⟨hlast, hregs⟩ := h
  exact ⟨by rw [State.track_setTrack_same, hx, hlast], hregs.setTrack t x hoff⟩

theorem KeepsInstant.stopTrack (h : KeepsInstant t off s u) (cause : Nat) (stop : Option Nat) (hlow : off < 0xA0000)
    (hoff : off ≠ (F.TRACK_TR_STATUS t).off) : KeepsInstant t off s (u.stopTrack t cause stop) := by
  obtain ⟨hlast, hregs⟩ := h
  refine ⟨Eq.trans ?_ hlast, hregs.stopTrack t cause stop hlow hoff⟩
  by_cases hst : (u.track t).st = 1
  · rw [State.track_stopTrack_same cause stop hst]
    rfl
  · rw [State.stopTrack_idle cause stop hst]

theorem KeepsInstant.ite {p : Prop} [Decidable p] (hu : KeepsInstant t off s u) (hv : KeepsInstant t off s v) :
    KeepsInstant t off s (if p then u else v) := by
  split
  · exact hu
  · exact hv

/-- The comparison of a monitor keeps the last instant of its track. -/
theorem KeepsInstant.monitorLine (h : KeepsInstant t off s u) (c : CLine) (hlow : off < 0x70000) :
    KeepsInstant t off s (u.monitorLine t c) := by
  have hstatus : off ≠ (F.TRACK_TR_STATUS t).off := by
    simp only [F.TRACK_TR_STATUS]
    omega
  have hint : off ≠ F.TIMING_TM_INT_STATUS_MISMATCH.off := by
    simp only [F.TIMING_TM_INT_STATUS_MISMATCH]
    omega
  unfold State.monitorLine
  split
  · exact h
  · refine .ite h ?_
    extract_lets x y s1 z s2
    have h1 : KeepsInstant t off s s1 := .ite (h.setTrack rfl hstatus) h
    split
    · exact h1
    · extract_lets d beyond
      refine .ite ?_ h1
      have h2 : KeepsInstant t off s s2 := (h1.setTrack (x := { z with mismatch := true }) rfl hstatus).cause hint _
      exact .ite h2 (h2.stopTrack _ _ (hlow.trans (by decide)) hstatus)

theorem KeepsInstant.pruneLines (h : KeepsInstant t off s u) (hlow : off < 0x70000) :
    KeepsInstant t off s (u.pruneLines t) :=
  h.setTrack rfl (by simp only [F.TRACK_TR_STATUS]; omega)

theorem SameTiming.setChannels (h : SameTiming s u) (x : Tbl GenChan) : SameTiming s { u with chans := x } := h

theorem SameTiming.pulse (h : SameTiming s u) (k : Nat) : SameTiming s (u.pulse k) := by
  refine foldl_keeps (SameTiming s) _ (fun a m ha => ?_) _ _ (h.setArrBit _ k true)
  exact .ite (((ha.setChannels _).bump _ _).cause _ _) (ha.setChannels _)

end

section
variable (s : State) (t : Nat)

/-- A pulse is seen in EV_SEEN. -/
theorem State.arrBit_setArrBit : (s.setArrBit F.DW_EV_SEEN t true).arrBit F.DW_EV_SEEN t = true := by
  rw [State.arrBit, State.setArrBit, State.setBit, State.get_set_same _ _ _ (by simp [F.DW_EV_SEEN]), bitOf,
    show (F.DW_EV_SEEN (t / 32)).width = 32 from rfl, Nat.testBit_mod_two_pow, putBit, if_pos rfl, Nat.testBit_or,
    Nat.testBit_two_pow_self]
  simp [Nat.mod_lt]

theorem SameAt.setChannels {s u : State} {off : Nat} (h : SameAt off s u) (x : Tbl GenChan) :
    SameAt off s { u with chans := x } := h

/-- In EV_SEEN a pulse sets its own bit alone. -/
theorem State.sameAt_pulse (ht : t < 32) :
    SameAt (F.DW_EV_SEEN (t / 32)).off (s.setArrBit F.DW_EV_SEEN t true) (s.pulse t) := by
  refine foldl_keeps (SameAt _ (s.setArrBit F.DW_EV_SEEN t true)) _ (fun a m ha => ?_) _ _ (.refl _ _)
  refine .ite (((ha.setChannels _).bump 1 ?_).cause 1 ?_) (ha.setChannels _)
  all_goals
    simp only [F.DW_EV_SEEN, F.DW_WAIT_LATE_TOTAL, F.DW_INT_STATUS_WAIT_LATE]
    omega

/-- After the pulse of a line, and the comparison of its monitor, the last instant stands and EV_SEEN shows the pulse. -/
theorem State.lineGiven {s : State} {tr : Nat} {c : CLine} (htr : tr < 16) (hlast : (s.track tr).lastInstant = some c) :
    ((((s.pulse tr).monitorLine tr c).pruneLines tr).track tr).lastInstant = some c ∧
      (((s.pulse tr).monitorLine tr c).pruneLines tr).arrBit F.DW_EV_SEEN tr = true := by
  have hlow : (F.DW_EV_SEEN (tr / 32)).off < 0x70000 := by
    simp only [F.DW_EV_SEEN]
    omega
  obtain ⟨hinstant, hregs⟩ := ((KeepsInstant.refl tr _ (s.pulse tr)).monitorLine c hlow).pruneLines hlow
  have hseen := (s.sameAt_pulse tr (htr.trans (by decide))).trans hregs
  constructor
  · rw [hinstant, ((SameTiming.refl s).pulse tr).track, hlast]
  · rw [← s.arrBit_setArrBit tr, State.arrBit, State.arrBit, hseen.get]

theorem Live.gives_lineInstant {s a : State} {t tr : Nat} {c : CLine} (h : Live s t a) (htr : tr < 16)
    (hactive : a.trackActive tr = true) (hdue : a.dueLine tr = some c) :
    ∃ u, Gives (.lineInstant t tr) s u ∧ (u.track tr).lastInstant = some c ∧ u.arrBit F.DW_EV_SEEN tr = true := by
  have hstep := h.gives_of_coreStep (exec_lineInstant t tr s)
  dsimp only at hstep
  rw [if_pos ⟨htr, hactive⟩, hdue] at hstep
  exact ⟨_, hstep, State.lineGiven htr (by rw [State.track_setTrack_same])⟩

/-- The pulse of a line trigger that has begun leaves the list, and its end stands. -/
theorem Live.gives_ltrigPulse {s a : State} {t n : Nat} {q : Nat × Int} (h : Live s t a) (hn : n < 4)
    (hdue : (a.gov.ltrig.get {} n).pulses.find? (fun q => decide (q.2 ≤ (a.devTime : Int))) = some q) :
    ∃ u, Gives (.ltrigPulse t n) s u ∧ (u.gov.ltrig.get {} n).pulses = (a.gov.ltrig.get {} n).pulses.erase q ∧
      (u.gov.ltrig.get {} n).until_ = max (a.gov.ltrig.get {} n).until_ (q.2 + 1000 * a.get (F.TIMING_LTRIG_WIDTH n)) := by
  have hstep := h.gives_of_coreStep (exec_ltrigPulse t n s)
  dsimp only at hstep
  rw [hdue] at hstep
  dsimp only at hstep
  rw [if_pos hn] at hstep
  refine ⟨_, hstep, ?_⟩
  dsimp only
  rw [Tbl.get_set_same]
  exact ⟨rfl, rfl⟩

theorem Live.gives_clockLineCommit {s a : State} {t tr : Nat} (h : Live s t a) (htr : tr < 16) (hst : (a.track tr).st = 1)
    (hclock : a.byClock tr = true) : Gives (.clockLineCommit t tr) s (a.clockLine tr) := by
  have hstep := h.gives_of_coreStep (exec_clockLineCommit t tr s)
  rwa [if_pos ⟨htr, hst, hclock⟩] at hstep

theorem Live.gives_schedulerEval {s a : State} {t tr e : Nat} (h : Live s t a) (htr : tr < 16) (hst : (a.track tr).st = 1)
    (hby : a.byEncoder tr = true) (henc : a.trackEnc tr = some e) : Gives (.schedulerEval t tr) s (a.schedule tr e) := by
  have hstep := h.gives_of_coreStep (exec_schedulerEval t tr s)
  rwa [if_pos ⟨htr, hst, hby⟩, henc] at hstep

end

end Sys2Proof.Machine
end

section
/-! The evaluation of the governor with its reports, outside TRACK and CLOCK (R172, R174). -/

namespace Sys2Proof.Machine

/-- The second state has the governor, the mode and the clocks of the first. -/
def SameGovernor (s u : State) : Prop := u.now = s.now ∧ u.clock = s.clock ∧ u.mode = s.mode ∧ u.gov = s.gov

section
variable {s u v : State}

theorem SameGovernor.refl (s : State) : SameGovernor s s := ⟨rfl, rfl, rfl, rfl⟩

theorem SameGovernor.set (h : SameGovernor s u) (f : Fld) (n : Nat) : SameGovernor s (u.set f n) := h

theorem SameGovernor.setChan (h : SameGovernor s u) (c : Nat) (x : Chan) : SameGovernor s (u.setChan c x) := h

theorem SameGovernor.setStream (h : SameGovernor s u) (n : Nat) (x : Stream) : SameGovernor s (u.setStream n x) := h

theorem SameGovernor.setLines (h : SameGovernor s u) (x : Lines) : SameGovernor s { u with lines := x } := h

theorem SameAt.setLines {off : Nat} (h : SameAt off s u) (x : Lines) : SameAt off s { u with lines := x } := h

end

/-! ### The reports of an evaluation (R68, R103, R134) -/

/-- The second state has the governor of the first and its control register. -/
def SameControl (s u : State) : Prop := SameGovernor s u ∧ SameAt F.TIMING_GOV_CTRL.off s u

section
variable {s u : State}

theorem SameControl.set (h : SameControl s u) {f : Fld} (n : Nat) (hf : F.TIMING_GOV_CTRL.off ≠ f.off) :
    SameControl s (u.set f n) :=
  ⟨h.1.set f n, h.2.set n hf⟩

theorem SameControl.rollBandwidth (h : SameControl s u) : SameControl s u.rollBandwidth := by
  unfold State.rollBandwidth
  extract_lets best s1
  have h1 : SameControl s s1 := by
    refine foldl_keeps (SameControl s) _ (fun b c hb => ?_) _ _ h
    obtain ⟨hgov, hregs⟩ : SameControl s ((b.set (F.CH_BW_READ c) (b.chan c).reads).set (F.CH_BW_WRITE c) (b.chan c).writes) :=
      (hb.set _ (by simp only [F.TIMING_GOV_CTRL, F.CH_BW_READ]; omega)).set _
        (by simp only [F.TIMING_GOV_CTRL, F.CH_BW_WRITE]; omega)
    exact ⟨hgov.setChan _ _, hregs.setChan _ _⟩
  exact (h1.set (f := F.CELLAR_BW_STATUS_LOAD) _ (by decide)).set (f := F.CELLAR_BW_STATUS_BUSIEST) _ (by decide)

theorem SameControl.rollLineLoad (h : SameControl s u) : SameControl s u.rollLineLoad := by
  unfold State.rollLineLoad
  extract_lets load on best s1 s2
  have h1 : SameControl s s1 := foldl_keeps (SameControl s) _
    (fun b e hb => hb.set _ (by simp only [F.TIMING_GOV_CTRL, F.LE_LOAD_LOAD]; omega)) _ _ h
  obtain ⟨hgov, hregs⟩ : SameControl s s2 :=
    (h1.set (f := F.LINE_LOAD_BUSIEST) _ (by decide)).set (f := F.LINE_LOAD_ENGINE) _ (by decide)
  exact ⟨hgov.setLines _, hregs.setLines _⟩

theorem SameControl.reportRunway (h : SameControl s u) (n : Nat) : SameControl s (u.reportRunway n) := by
  unfold State.reportRunway
  extract_lets r x m
  obtain ⟨hgov, hregs⟩ : SameControl s ((u.set (F.SN_RUNWAY_RUNWAY n) r).set (F.SN_RUNWAY_MIN_RUNWAY n) m) :=
    (h.set _ (by simp only [F.TIMING_GOV_CTRL, F.SN_RUNWAY_RUNWAY]; omega)).set _
      (by simp only [F.TIMING_GOV_CTRL, F.SN_RUNWAY_MIN_RUNWAY]; omega)
  exact ⟨hgov.setStream _ _, hregs.setStream _ _⟩

theorem SameControl.showMinRunway (h : SameControl s u) : SameControl s u.showMinRunway := by
  unfold State.showMinRunway
  extract_lets l
  clear_value l
  cases l
  all_goals
    exact (h.set (f := F.STREAM_MIN_RUNWAY_RUNWAY) _ (by decide)).set (f := F.STREAM_MIN_RUNWAY_STREAM) _ (by decide)

end

/-- The state as an evaluation has reported the loads and the runways. -/
def State.reported (s : State) : State :=
  (s.rollBandwidth.rollLineLoad.openStreams.foldl (fun (a : State) n => a.reportRunway n) s.rollBandwidth.rollLineLoad).showMinRunway

theorem State.sameControl_reported (s : State) : SameControl s s.reported :=
  (foldl_keeps (SameControl s) _ (fun _ n h => h.reportRunway n) _ _
    (SameControl.rollLineLoad (.rollBandwidth ⟨.refl s, .refl s _⟩))).showMinRunway

/-! ### The evaluation (R172, R174) -/

/-- The state in which an evaluation governs. -/
def State.evaluated (s : State) : State := s.reported.mapGov fun g => { g with lastEval := s.reported.devTime }

theorem Live.gives_governorEval {s a : State} {t : Nat} (h : Live s t a) (hgrid : a.devTime % 100000 = 0)
    (hnew : a.devTime ≠ a.gov.lastEval) : Gives (.governorEval t) s a.evaluated.govern := by
  have hstep := h.gives_of_coreStep (exec_governorEval t s)
  dsimp only at hstep
  rw [if_pos ⟨hgrid, hnew⟩] at hstep
  unfold State.evaluated State.reported State.mapGov
  exact hstep

section
variable (s : State)

theorem State.mode_evaluated : s.evaluated.mode = s.mode := by
  obtain ⟨⟨-, -, hmode, -⟩, -⟩ := s.sameControl_reported
  rw [State.evaluated, State.mapGov, hmode]

theorem State.lastEval_evaluated : s.evaluated.gov.lastEval = s.devTime := by
  obtain ⟨⟨hnow, hclock, -, -⟩, -⟩ := s.sameControl_reported
  rw [State.evaluated, State.mapGov, State.devTime, State.devTime, State.slewed, State.slewed, hnow, hclock]

theorem State.lastEval_govern : s.govern.gov.lastEval = s.gov.lastEval := by
  by_cases h : s.mode = .track ∨ s.mode = .clock
  · obtain ⟨reason, own, low, hg⟩ := State.govern_running h
    obtain ⟨-, -, heval, -⟩ := (s.showLimits s.limits s.ringPart).gov_takeP s.runningP reason own low
    rw [hg, heval, (s.sameTiming_showLimits _ _).gov]
    rfl
  · obtain ⟨-, -, heval, -⟩ := s.gov_takeP s.idleP (256 + 128 * b2n (decide (s.get F.TIMING_GOV_CTRL_HOST_CAP < 16))) 0 false
    rw [State.govern_idle h, heval]

/-- Outside TRACK and CLOCK an evaluation takes the idle value of P, for the mode and perhaps the cap of the host. -/
theorem State.p_govern_idle {s : State} (h : ¬ (s.mode = .track ∨ s.mode = .clock)) : s.govern.gov.p = s.idleP := by
  obtain ⟨hp, -⟩ := s.gov_takeP s.idleP (256 + 128 * b2n (decide (s.get F.TIMING_GOV_CTRL_HOST_CAP < 16))) 0 false
  rw [State.govern_idle h, hp]

theorem State.reason_govern_idle {s : State} (h : ¬ (s.mode = .track ∨ s.mode = .clock)) :
    s.govern.get F.TIMING_GOV_STATUS_REASON = 256 + (if s.get F.TIMING_GOV_CTRL_HOST_CAP < 16 then 128 else 0) := by
  rw [State.govern_idle h, State.get_reason_takeP]
  by_cases hcap : s.get F.TIMING_GOV_CTRL_HOST_CAP < 16
  · simp [hcap, b2n]
  · simp [hcap, b2n]

theorem State.get_evaluated {f : Fld} (hf : f.off = F.TIMING_GOV_CTRL.off) : s.evaluated.get f = s.get f := by
  obtain ⟨-, hregs⟩ := s.sameControl_reported
  rw [← hf] at hregs
  exact (hregs.setGov _).get

/-- What an evaluation on its grid does, and outside TRACK and CLOCK its P and its reasons. -/
theorem Live.governorEval_takesEffect {s a : State} {t : Nat} (h : Live s t a) (hgrid : a.devTime % 100000 = 0)
    (hnew : a.devTime ≠ a.gov.lastEval) : ∃ u, Gives (.governorEval t) s u ∧ u.gov.lastEval = a.devTime ∧
      ((a.mode = .ready ∨ a.mode = .maintain) → u.gov.p =
        min (a.get F.TIMING_GOV_CTRL_IDLE_P) (a.get F.TIMING_GOV_CTRL_HOST_CAP)) ∧
      ((a.mode = .boot ∨ a.mode = .configure ∨ a.mode = .diagnose ∨ a.mode = .halt) → u.gov.p = 0) ∧
      (a.mode ≠ .track → a.mode ≠ .clock → u.get F.TIMING_GOV_STATUS_REASON =
        256 + (if a.get F.TIMING_GOV_CTRL_HOST_CAP < 16 then 128 else 0)) := by
  have hmode := a.mode_evaluated
  have hcap := a.get_evaluated (f := F.TIMING_GOV_CTRL_HOST_CAP) rfl
  have hidle := a.get_evaluated (f := F.TIMING_GOV_CTRL_IDLE_P) rfl
  refine ⟨_, h.gives_governorEval hgrid hnew, a.evaluated.lastEval_govern.trans a.lastEval_evaluated, fun hm => ?_, fun hm => ?_,
    fun htrack hclock => ?_⟩
  · rw [State.p_govern_idle (by rw [hmode]; rcases hm with hm | hm <;> simp [hm]), State.idleP, hmode, hcap, hidle]
    rcases hm with hm | hm <;> rw [hm]
  · rw [State.p_govern_idle (by rw [hmode]; rcases hm with hm | hm | hm | hm <;> simp [hm]), State.idleP, hmode]
    rcases hm with hm | hm | hm | hm <;> rw [hm]
  · rw [State.reason_govern_idle (by rw [hmode]; simp [htrack, hclock]), hcap]

end

end Sys2Proof.Machine
end

section
/-! The end of a track and of its job: what a change of mode leaves of the tracks (R109, R168, R169, R376). -/

namespace Sys2Proof.Machine

/-- The second state has the tracks and the mode of the first. -/
def SameTracks (s u : State) : Prop := u.tracks = s.tracks ∧ u.mode = s.mode

section
variable {s u v : State}

theorem SameTracks.refl (s : State) : SameTracks s s := ⟨rfl, rfl⟩

theorem SameTracks.timing (h : SameTracks s u) (h' : SameTiming u v) : SameTracks s v := by
  obtain ⟨htracks, hmode⟩ := h
  exact ⟨h'.tracks.trans htracks, h'.mode.trans hmode⟩

theorem SameTracks.track (h : SameTracks s u) (t : Nat) : u.track t = s.track t := by
  rw [State.track, State.track, h.1]

theorem SameTracks.ite {p : Prop} [Decidable p] (hu : SameTracks s u) (hv : SameTracks s v) :
    SameTracks s (if p then u else v) := by
  split
  · exact hu
  · exact hv

theorem SameTracks.set (h : SameTracks s u) (f : Fld) (n : Nat) : SameTracks s (u.set f n) := h

theorem SameTracks.bump (h : SameTracks s u) (f : Fld) (n : Nat) : SameTracks s (u.bump f n) := h

theorem SameTracks.setBit (h : SameTracks s u) (f : Fld) (k : Nat) (b : Bool) : SameTracks s (u.setBit f k b) := h

theorem SameTracks.setArrBit (h : SameTracks s u) (f : Nat → Fld) (k : Nat) (b : Bool) : SameTracks s (u.setArrBit f k b) :=
  h

theorem SameTracks.cause (h : SameTracks s u) (f : Fld) (n : Nat) : SameTracks s (u.cause f n) :=
  h.timing ((SameTiming.refl u).cause f n)

theorem SameTracks.causeBit (h : SameTracks s u) (f : Fld) (k : Nat) : SameTracks s (u.causeBit f k) := h.cause f _

theorem SameTracks.summary (h : SameTracks s u) (k n : Nat) : SameTracks s (u.summary k n) := .ite h h

theorem SameTracks.postEvent (h : SameTracks s u) (code : Nat) (data : List Byte) : SameTracks s (u.postEvent code data) :=
  h.timing ((SameTiming.refl u).postEvent code data)

theorem SameTracks.setPort (h : SameTracks s u) (p : Nat) (x : Port) : SameTracks s (u.setPort p x) := h

theorem SameTracks.setStream (h : SameTracks s u) (n : Nat) (x : Stream) : SameTracks s (u.setStream n x) := h

theorem SameTracks.setWp (h : SameTracks s u) (p : Nat) (x : WavePort) : SameTracks s (u.setWp p x) := h

theorem SameTracks.setWatch (h : SameTracks s u) (w : Watch) : SameTracks s (u.setWatch w) := h

theorem SameTracks.setGeo (h : SameTracks s u) (g : Geo) : SameTracks s (u.setGeo g) := h

theorem SameTracks.setTri (h : SameTracks s u) (k : Nat) (c : TriChan) : SameTracks s (u.setTri k c) := h

theorem SameTracks.setLines (h : SameTracks s u) (x : Lines) : SameTracks s { u with lines := x } := h

theorem SameTracks.setHealth (h : SameTracks s u) (x : Health) : SameTracks s { u with health := x } := h

theorem SameTracks.setTherm (h : SameTracks s u) (x : Therm) : SameTracks s { u with therm := x } := h

theorem SameTracks.setCellar (h : SameTracks s u) (x : Cellar) : SameTracks s { u with cellar := x } := h

theorem SameTracks.setPeal (h : SameTracks s u) (x : Peal) : SameTracks s { u with peal := x } := h

theorem SameTracks.setFree (h : SameTracks s u) (n : Nat) : SameTracks s { u with free := n } := h

theorem SameTracks.setWaveOut (h : SameTracks s u) (x : Tbl WaveOut) : SameTracks s { u with waveOut := x } := h

theorem SameTracks.setPrepared (h : SameTracks s u) (x : List Prepared) : SameTracks s { u with prepared := x } := h

theorem SameTracks.setCommitted (h : SameTracks s u) (b : Bool) : SameTracks s { u with committed := b } := h

end

/-! ### Ports that leave the link (R221, R257) -/

section
variable {s u : State}

theorem SameTracks.portCause (h : SameTracks s u) (p bit : Nat) : SameTracks s (u.portCause p bit) :=
  ((((h.set _ _).set _ _).set _ _).setArrBit _ _ _).causeBit _ _

theorem SameTracks.portCount (h : SameTracks s u) (p k : Nat) : SameTracks s (u.portCount p k) := h

theorem SameTracks.portDropped (h : SameTracks s u) (p : Nat) : SameTracks s (u.portDropped p) :=
  (((h.bump _ _).bump _ _).portCount p 5).portCause p 7

theorem SameTracks.countOutcome (h : SameTracks s u) (k : Nat) : SameTracks s (u.countOutcome k) := by
  unfold State.countOutcome
  split
  · exact h.summary _ _
  · exact h.summary _ _
  · exact h.summary _ _
  · exact h.summary _ _
  · exact h

theorem SameTracks.logCut (h : SameTracks s u) (p line cause : Nat) : SameTracks s (u.logCut p line cause) :=
  ((((h.set _ _).set _ _).set _ _).set _ _).set _ _

theorem SameTracks.stopWave (h : SameTracks s u) (p : Nat) : SameTracks s (u.stopWave p) := by
  unfold State.stopWave
  split
  · exact h
  · split
    · exact .ite h (h.setWaveOut _)
    · exact h

theorem SameTracks.stopLines (h : SameTracks s u) (p : Nat) (cut : Option Nat) : SameTracks s (u.stopLines p cut) := by
  unfold State.stopLines
  extract_lets x d new s1 s2
  have h2 : SameTracks s s2 := by
    refine foldl_keeps (SameTracks s) _ (fun a q ha => ?_) _ _ (h.setPort _ _)
    have hb := ha.countOutcome q.2.outcome
    refine .ite ha (.ite (hb.portDropped p) (.ite ?_ hb))
    split
    · exact (hb.bump _ _).logCut _ _ _
    · exact (hb.logCut _ _ _).setFree _
  exact h2.stopWave p

theorem SameTracks.endMaint (h : SameTracks s u) (p ended : Nat) : SameTracks s (u.endMaint p ended) := by
  unfold State.endMaint
  split
  · exact h
  · extract_lets y s1 short ids w s2 busy s3
    have h1 : SameTracks s s1 := h.setPort p _
    have h3 : SameTracks s s3 := ((h1.setWatch _).set _ _).cause _ _
    exact .ite (h3.postEvent _ _) (h1.postEvent _ _)

theorem SameTracks.endMaints (h : SameTracks s u) : SameTracks s u.endMaints :=
  foldl_keeps (SameTracks s) _ (fun _ p ha => ha.endMaint p 1) _ _ h

theorem SameTracks.leavePort (h : SameTracks s u) (p : Nat) (cut : Option Nat) : SameTracks s (u.leavePort p cut) := by
  unfold State.leavePort
  extract_lets s1
  have h1 : SameTracks s s1 := (h.stopLines p cut).endMaint p 2
  exact h1.setPort _ _

theorem SameTracks.enterPort (h : SameTracks s u) (p st : Nat) : SameTracks s (u.enterPort p st) := by
  unfold State.enterPort
  extract_lets x s1 s2 s3
  have h1 : SameTracks s s1 := (h.setPort _ _).set _ _
  have h3 : SameTracks s s3 := ((h1.setArrBit _ _ _).setArrBit _ _ _).setArrBit _ _ _
  exact .ite h3 (h3.set _ _)

theorem SameTracks.uncommitPorts (h : SameTracks s u) : SameTracks s u.uncommitPorts :=
  foldl_keeps (SameTracks s) _ (fun _ p ha => .ite (.enterPort (.setPort ((ha.stopLines p none).endMaint p 1) _ _) _ _)
    (.ite (ha.setPort _ _) ha)) _ _ h

end

end Sys2Proof.Machine
end

section
/-! A change of mode leaves the tracks (R168, R169, R221, R376, R377). -/

namespace Sys2Proof.Machine

/-! ### Ports linked anew (R221, R257) -/

section
variable {s u : State}

theorem SameTracks.setLanes (h : SameTracks s u) (p lanes : Nat) : SameTracks s (u.setLanes p lanes) :=
  (h.setPort _ _).set _ _

theorem SameTracks.setFMax (h : SameTracks s u) (p f : Nat) : SameTracks s (u.setFMax p f) := (h.setPort _ _).set _ _

theorem SameTracks.setAuth (h : SameTracks s u) (p auth : Nat) : SameTracks s (u.setAuth p auth) := (h.setPort _ _).set _ _

theorem SameTracks.findFMax (h : SameTracks s u) (p : Nat) : SameTracks s (u.findFMax p) := h.setFMax _ _

theorem SameTracks.cellarBytes (h : SameTracks s u) (a n : Nat) : SameTracks s (u.cellarBytes a n).2 :=
  h.timing ((SameTiming.refl u).cellarReads _)

theorem SameTracks.setCoefs (h : SameTracks s u) (p : Nat) : SameTracks s (u.setCoefs p) := by
  unfold State.setCoefs
  extract_lets trimmed
  have h1 : SameTracks s (if trimmed then u.cellarBytes (64 * u.trimBlock 0 p) 40960 else ([], u)).2 := by
    split
    · exact h.cellarBytes _ _
    · exact h
  rcases hread : (if trimmed then u.cellarBytes (64 * u.trimBlock 0 p) 40960 else ([], u)) with ⟨bytes, s1⟩
  rw [hread] at h1
  dsimp only
  split
  · exact h1.setPort _ _
  · exact h1.setPort _ _

theorem SameTracks.refusePort (h : SameTracks s u) (p code : Nat) : SameTracks s (u.refusePort p code) := by
  unfold State.refusePort
  extract_lets s1 s2
  have h1 : SameTracks s s1 := ((h.leavePort p none).enterPort p 8).set _ _
  have h2 : SameTracks s s2 := ((h1.set _ _).set _ _).set _ _
  exact h2.portCause p 2

theorem SameTracks.queueHealth (h : SameTracks s u) (e : HealthEvent) : SameTracks s (u.queueHealth e) :=
  h.timing ((SameTiming.refl u).queueHealth e)

theorem SameTracks.limpRaise (h : SameTracks s u) (code inst : Nat) : SameTracks s (u.limpRaise code inst) :=
  h.timing ((SameTiming.refl u).limpRaise code inst)

theorem SameTracks.limpClear (h : SameTracks s u) (code inst : Nat) : SameTracks s (u.limpClear code inst) := by
  unfold State.limpClear
  refine .ite ?_ h
  extract_lets x s1 s2
  have h1 : SameTracks s s1 := h.setHealth _
  have h2 : SameTracks s s2 := .ite h1 (h1.cause _ _)
  exact h2.queueHealth _

theorem SameTracks.limpClearIf (h : SameTracks s u) (code : Nat) (p : Nat → Bool) : SameTracks s (u.limpClearIf code p) :=
  foldl_keeps (SameTracks s) _ (fun _ c ha => ha.limpClear code c.2) _ _ h

theorem SameTracks.laneLost (h : SameTracks s u) (p lane : Nat) : SameTracks s (u.laneLost p lane) :=
  (h.limpRaise _ _).portCause p 3

theorem SameTracks.laneFound (h : SameTracks s u) (p : Nat) : SameTracks s (u.laneFound p) := h.limpClearIf _ _

theorem SameTracks.portUp (h : SameTracks s u) (p : Nat) : SameTracks s (u.portUp p) := by
  unfold State.portUp
  extract_lets one s1 x th serial y s2 z s3
  have h1 : SameTracks s s1 := (h.findFMax p).enterPort p _
  have h3 : SameTracks s s3 := ((h1.setPort p _).setWp p _).portCause p 0
  exact .ite (h3.laneLost p _) (h3.laneFound p)

theorem SameTracks.queueMsgs (h : SameTracks s u) (p tag : Nat) (l : List Msg) : SameTracks s (u.queueMsgs p tag l) := by
  unfold State.queueMsgs
  extract_lets x
  exact h.setPort p _

theorem SameTracks.trimsAtLink (h : SameTracks s u) (kind p : Nat) : SameTracks s (u.trimsAtLink kind p).2 := by
  unfold State.trimsAtLink
  extract_lets loaded
  split
  · have h1 := h.cellarBytes (64 * u.trimBlock kind p) 40960
    rcases hread : u.cellarBytes (64 * u.trimBlock kind p) 40960 with ⟨l, s1⟩
    rw [hread] at h1
    exact h1
  · exact h

theorem SameTracks.loadHead (h : SameTracks s u) (p : Nat) : SameTracks s (u.loadHead p) := by
  unfold State.loadHead
  extract_lets x c waves
  have h1 := h.trimsAtLink 0 p
  rcases htime : u.trimsAtLink 0 p with ⟨t0, s1⟩
  rw [htime] at h1
  dsimp only
  have h2 := h1.trimsAtLink 1 p
  rcases hamp : s1.trimsAtLink 1 p with ⟨t1, s2⟩
  rw [hamp] at h2
  exact ((h2.setPort p _).queueMsgs p 0 _).queueMsgs p 1 _

theorem SameTracks.startLoading (h : SameTracks s u) (p : Nat) : SameTracks s (u.startLoading p) := by
  unfold State.startLoading
  extract_lets s1
  have h1 : SameTracks s s1 := (h.findFMax p).setCoefs p
  split
  · exact h1.refusePort p _
  · exact .ite (h1.portUp p) (h1.loadHead p)

theorem SameTracks.toLoading (h : SameTracks s u) (p : Nat) : SameTracks s (u.toLoading p) := by
  unfold State.toLoading
  extract_lets s1
  have h1 : SameTracks s s1 := h.enterPort p 4
  exact .ite (h1.startLoading p) h1

theorem SameTracks.startLink (h : SameTracks s u) (p : Nat) : SameTracks s (u.startLink p) := by
  unfold State.startLink
  extract_lets s1
  have h1 : SameTracks s s1 := ((h.leavePort p none).setLanes p 0).setFMax p 0
  exact .ite ((h1.setAuth p 0).toLoading p) (h1.enterPort p 1)

/-! ### Prepared changes (R337) -/

theorem SameTracks.withdrawHead (h : SameTracks s u) (p : Nat) : SameTracks s (u.withdrawHead p) := by
  unfold State.withdrawHead
  extract_lets s1
  have h1 : SameTracks s s1 := .ite (h.startLink p) h
  exact h1.setPort p _

theorem SameTracks.discardPrepared (h : SameTracks s u) (p : Prepared → Bool) : SameTracks s (u.discardPrepared p) :=
  foldl_keeps (SameTracks s) _ (fun _ _ ha => .ite (ha.withdrawHead _) ha) _ _ (h.setPrepared _)

theorem SameTracks.lapsePrepared (h : SameTracks s u) (p : Prepared → Bool) (cause : Nat) :
    SameTracks s (u.lapsePrepared p cause) :=
  foldl_keeps (SameTracks s) _ (fun _ _ ha => ha.postEvent _ _) _ _ (h.discardPrepared p)

/-! ### The firing permission (R257, R481) -/

theorem SameTracks.cutLines (h : SameTracks s u) (p : Nat) : SameTracks s (u.cutLines p) :=
  foldl_keeps (SameTracks s) _ (fun _ _ ha => .ite ha (((ha.summary _ _).bump _ _).logCut _ _ _)) _ _ ((h.setPort p _).stopWave p)

theorem SameTracks.fireFell (h : SameTracks s u) : SameTracks s u.fireFell :=
  foldl_keeps (SameTracks s) _ (fun _ p ha => ha.cutLines p) _ _ h

theorem SameTracks.markApart (h : SameTracks s u) (k : Nat) : SameTracks s (u.markApart k) := by
  unfold State.markApart
  extract_lets c apart
  exact .ite (.ite h (h.setTri k _)) ((h.setTri k _).setBit _ _ _)

theorem SameTracks.clapperCheck (h : SameTracks s u) : SameTracks s u.clapperCheck := by
  unfold State.clapperCheck
  extract_lets s1 x
  have h1 : SameTracks s s1 := h.set _ _
  exact .ite ((h1.set _ _).setPeal _) h1

theorem SameTracks.triangle (h : SameTracks s u) : SameTracks s u.triangle := by
  unfold State.triangle
  extract_lets s1 fe hs mask s2 was s3 cut bits hold s4 x s5 s6
  have h1 : SameTracks s s1 := foldl_keeps (SameTracks s) _ (fun _ k ha => .ite (ha.setTri k _) ha) _ _ h
  have h2 : SameTracks s s2 := (h1.set _ _).set _ _
  have h3 : SameTracks s s3 := (h2.set _ _).set _ _
  have h4 : SameTracks s s4 := (h3.set _ _).set _ _
  have h5 : SameTracks s s5 := .ite ((h4.setTherm _).cause _ _) h4
  have h6 : SameTracks s s6 := .ite (.fireFell (.ite h5 (h5.cause _ _))) h5
  exact (foldl_keeps (SameTracks s) _ (fun _ k ha => ha.markApart k) _ _ h6).clapperCheck

theorem SameTracks.armWatchdog (h : SameTracks s u) : SameTracks s u.armWatchdog := (h.set _ _).setTherm _

theorem SameTracks.streamEnables (h : SameTracks s u) : SameTracks s u.streamEnables := (h.set _ _).set _ _

end

end Sys2Proof.Machine
end

section
/-! The rows of the tracks and of the governor, and the end of a job (R168, R169, R376). -/

namespace Sys2Proof.Machine

/-! ### Changes of mode (R376) -/

section
variable (s : State)

theorem State.setMode_keeps_tracks (m : Mode) (cause : Nat) :
    (s.setMode m cause).tracks = s.tracks ∧ (s.setMode m cause).mode = m := by
  obtain ⟨htracks, -⟩ := (SameTracks.refl s).endMaints
  unfold State.setMode
  generalize s.endMaints = ended at htracks ⊢
  extract_lets x s1 s2 s3
  have h1 : SameTracks { ended with mode := m } s1 := (SameTracks.refl _).lapsePrepared _ 2
  have h2 : SameTracks { ended with mode := m } s2 := h1.postEvent _ _
  have h3 : SameTracks { ended with mode := m } s3 := .ite h2.armWatchdog h2
  obtain ⟨htracks', hmode⟩ := h3.streamEnables.triangle
  exact ⟨htracks'.trans htracks, hmode⟩

theorem State.uncommit_keeps_tracks (cause : Nat) :
    (s.uncommit cause).tracks = s.tracks ∧ (s.uncommit cause).mode = .configure := by
  obtain ⟨htracks, -⟩ := (SameTracks.refl s).uncommitPorts.setCommitted false
  unfold State.uncommit
  obtain ⟨htracks', hmode⟩ := ({ s.uncommitPorts with committed := false }).setMode_keeps_tracks .configure cause
  exact ⟨htracks'.trans htracks, hmode⟩

variable {s} {u : State}

theorem SameTracks.placeGeometry (h : SameTracks s u) : SameTracks s u.placeGeometry := by
  unfold State.placeGeometry
  extract_lets g s1 s2 s3
  have h3 : SameTracks s s3 := foldl_keeps (SameTracks s) _ (fun _ p ha => ha.set _ _) _ _ ((h.setGeo _).set _ _)
  exact h3.set _ _

theorem SameTracks.clearTables (h : SameTracks s u) : SameTracks s u.clearTables := by
  unfold State.clearTables
  extract_lets planes x s1 s2 w s3
  have h2 : SameTracks s s2 := (h.setLines _).set _ _
  have h3 : SameTracks s s3 := h2.setWatch _
  exact foldl_keeps (SameTracks s) _ (fun _ j ha => ha.set _ _) _ _ (h3.set _ _)

theorem SameTracks.remapCellar (h : SameTracks s u) : SameTracks s u.remapCellar := by
  unfold State.remapCellar
  extract_lets l lost x s1 s2 s3 g placed s4
  have h1 : SameTracks s s1 := h.setCellar _
  have h2 : SameTracks s s2 := (((h1.set _ _).set _ _).set _ _).set _ _
  have h3 : SameTracks s s3 := (h2.set _ _).set _ _
  have hplaced : SameTracks s placed := .ite h3.placeGeometry ((h3.setGeo _).set _ _)
  have h4 : SameTracks s s4 := hplaced.clearTables.cause _ _
  exact h4.postEvent _ _

/-- A fault that comes when no track runs stops none. -/
theorem SameTracks.encFault (h : SameTracks s u) (hidle : ∀ t < 16, (s.track t).st ≠ 1) (e kind : Nat) :
    SameTracks s (u.encFault e kind) := by
  have hrecord : SameTracks s (u.recordFault e kind) := h.timing (u.sameTiming_recordFault e kind)
  have hnone : (u.recordFault e kind).pacedBy e = [] := List.eq_nil_iff_forall_not_mem.2 fun t ht => by
    obtain ⟨hlt, hrun, -⟩ := State.mem_pacedBy.1 ht
    exact hidle t hlt (hrecord.track t ▸ hrun)
  rwa [State.encFault_eq, hnone]

theorem SameTracks.clearEncFaults (h : SameTracks s u) (hidle : ∀ t < 16, (s.track t).st ≠ 1) :
    SameTracks s u.clearEncFaults :=
  foldl_keeps (SameTracks s) _ (fun _ e ha => .ite ((ha.set _ _).encFault hidle e 3) (ha.set _ _)) _ _ h

/-- With no track running, the entry into READY leaves the tracks and ends in READY or CONFIGURE. -/
theorem State.enterReady_keeps_tracks (s : State) (hidle : ∀ t < 16, (s.track t).st ≠ 1) (cause : Nat) :
    (s.enterReady cause).tracks = s.tracks ∧ ((s.enterReady cause).mode = .ready ∨ (s.enterReady cause).mode = .configure) := by
  unfold State.enterReady
  extract_lets s1 s2
  have h1 : SameTracks s s1 := (SameTracks.refl s).clearEncFaults hidle
  obtain ⟨htracks, -⟩ : SameTracks s s2 := .ite h1.remapCellar h1
  split
  · obtain ⟨htracks', hmode⟩ := s2.setMode_keeps_tracks .ready cause
    exact ⟨htracks'.trans htracks, .inl hmode⟩
  · obtain ⟨htracks', hmode⟩ := s2.uncommit_keeps_tracks 3
    exact ⟨htracks'.trans htracks, .inr hmode⟩

end

/-! ### The end of a track and of a job (R109, R168, R169) -/

section
variable {s u : State}

theorem SameTiming.setFree (h : SameTiming s u) (n : Nat) : SameTiming s { u with free := n } := h

theorem SameTiming.jobStopped (h : SameTiming s u) (mask t : Nat) : SameTiming s (u.jobStopped mask t) :=
  (h.setFree _).postEvent _ _

theorem SameTracks.streamAtStop (h : SameTracks s u) (n : Nat) : SameTracks s (u.streamAtStop n) := by
  unfold State.streamAtStop
  extract_lets x
  exact .ite ((h.setLines _).setStream _ _) (.ite ((h.setStream _ _).cause _ _) h)

end

section
variable (s : State) (t : Nat)

/-- A track that has left STOPPING. -/
def Track.left (x : Track) : Track := { x with st := if x.cause = 0 then 0 else 3, lines := [] }

theorem Track.left_st (x : Track) : x.left.st = if x.cause = 0 then 0 else 3 := rfl

theorem Track.left_inactive (x : Track) : ¬ (x.left.st = 1 ∨ x.left.st = 2) := by
  rw [Track.left_st]
  split <;> decide

theorem State.sameTracks_leaveStopping : SameTracks (s.setTrack t (s.track t).left) (s.leaveStopping t) := by
  unfold State.leaveStopping
  extract_lets x s0 s1
  have h1 : SameTracks (s.setTrack t (s.track t).left) s1 := .ite (.refl _) ((SameTracks.refl _).cause _ _)
  exact foldl_keeps (SameTracks _) _ (fun _ n ha => ha.streamAtStop n) _ _ h1

theorem State.track_leaveStopping_same : (s.leaveStopping t).track t = (s.track t).left := by
  rw [(s.sameTracks_leaveStopping t).track, State.track_setTrack_same]

theorem State.mode_leaveStopping : (s.leaveStopping t).mode = s.mode :=
  (s.sameTracks_leaveStopping t).2.trans (State.mode_setTrack s t _)

/-- The track that has left STOPPING is not active, and the others are as before. -/
theorem State.trackActive_leaveStopping (k : Nat) :
    (s.leaveStopping t).trackActive k = (decide (k ≠ t) && s.trackActive k) := by
  rw [State.trackActive, State.trackActive, (s.sameTracks_leaveStopping t).track]
  by_cases hk : k = t
  · subst hk
    simp [Track.left_inactive]
  · simp [hk, State.track_setTrack_other]

/-- The end of a job leaves the tracks, ends the job, and ends in READY or CONFIGURE. -/
theorem State.endJob_keeps_tracks (hidle : ∀ k < 16, (s.track k).st ≠ 1) : s.endJob.tracks = s.tracks ∧ s.endJob.job = 0 ∧
    (s.endJob.mode = .ready ∨ s.endJob.mode = .configure) := by
  obtain ⟨htracks, hmode⟩ := s.enterReady_keeps_tracks hidle 1
  have hend : SameTiming { s.enterReady 1 with job := 0 } s.endJob :=
    foldl_keeps (SameTiming _) _ (fun _ k ha => .ite (ha.jobStopped _ k) ha) _ _ (.refl _)
  rw [hend.tracks, hend.job, hend.mode]
  exact ⟨htracks, rfl, hmode⟩

end

/-- A track that stops for good leaves STOPPING with no line, and the last one ends the job. -/
theorem Live.trackStopped_takesEffect {s a : State} {t tr : Nat} (h : Live s t a) (htr : tr < 16) (hst : (a.track tr).st = 2)
    (hpassed : a.stopLinePassed tr = true) :
    ∃ u, Gives (.trackStopped t tr) s u ∧ (u.track tr).st = (if (a.track tr).cause = 0 then 0 else 3) ∧ (u.track tr).lines = [] ∧
      ((a.mode = .track ∨ a.mode = .clock) → (∀ k, k < 16 → k ≠ tr → a.trackActive k = false) →
        u.job = 0 ∧ (u.mode = .ready ∨ u.mode = .configure)) := by
  have hstep := h.gives_of_coreStep (exec_trackStopped t tr s)
  dsimp only at hstep
  rw [if_pos ⟨htr, hst, hpassed⟩] at hstep
  have hleft := a.track_leaveStopping_same tr
  split at hstep
  next hlast =>
    obtain ⟨-, hall⟩ := hlast
    have hidle : ∀ k < 16, ((a.leaveStopping tr).track k).st ≠ 1 := fun k hk hrun => by
      have := List.all_eq_true.1 hall k (List.mem_range.2 hk)
      simp [State.trackActive, hrun] at this
    obtain ⟨htracks, hjob, hmode⟩ := (a.leaveStopping tr).endJob_keeps_tracks hidle
    refine ⟨_, hstep, ?_, ?_, fun _ _ => ⟨hjob, hmode⟩⟩
    all_goals
      rw [State.track, htracks, ← State.track, hleft]
      rfl
  next hmore =>
    refine ⟨_, hstep, by rw [hleft, Track.left_st], by rw [hleft, Track.left], fun hmode hothers => absurd ⟨?_, ?_⟩ hmore⟩
    · rwa [State.mode_leaveStopping]
    · refine List.all_eq_true.2 fun k hk => ?_
      rw [State.trackActive_leaveStopping]
      by_cases hne : k = tr
      · simp [hne]
      · simp [hothers k (List.mem_range.1 hk) hne]

/-- Settles O32: each row of a track, a line trigger and the governor gives its next state. -/
theorem trackCommandsTakeEffect : Obligations.TrackCommandsTakeEffect := by
  intro s a t h
  refine ⟨fun tr e htr hst hby henc => h.gives_schedulerEval htr hst hby henc, fun tr htr hst hclock hlead => ?_,
    fun tr c htr hactive hdue => h.gives_lineInstant htr hactive hdue, fun n q hn hdue => h.gives_ltrigPulse hn hdue,
    fun tr htr hst hpassed => h.trackStopped_takesEffect htr hst hpassed, fun hgrid hnew => h.governorEval_takesEffect hgrid hnew⟩
  obtain ⟨hnext, hacc, interval, hmem⟩ := a.track_clockLine tr hlead
  exact ⟨_, h.gives_clockLineCommit htr hst hclock, hnext, hacc, _, hmem, rfl, rfl, rfl, rfl⟩

end Sys2Proof.Machine
end

section
/-! Temperature scales: what a table gives at a temperature, and what an update of a module makes of its scales (R201 to
R206). -/

namespace Sys2Proof.Machine

/-! ### The scale of a table (R202) -/

/-- The linear interpolation between two points of a table. -/
def interpolated (p q : Int × Nat) (tm : Int) : Rat :=
  (p.2 : Rat) + ((tm - p.1 : Int) : Rat) / ((q.1 - p.1 : Int) : Rat) * ((q.2 : Rat) - p.2)

theorem roundHalfUp_natCast (n : Nat) : roundHalfUp (n : Rat) = n := by
  have h : (⌊(n : Rat) + 1 / 2⌋ : Int) = n := Int.floor_eq_iff.2 ⟨by push_cast; linarith, by push_cast; linarith⟩
  exact h

theorem roundHalfUp_nonneg {x : Rat} (h : 0 ≤ x) : 0 ≤ roundHalfUp x :=
  Rat.le_floor_iff.2 (by push_cast; linarith)

theorem interpolated_at_first (p q : Int × Nat) : interpolated p q p.1 = p.2 := by simp [interpolated]

/-- Between two points the interpolation is a mean of their scales, and so no less than 0. -/
theorem interpolated_nonneg {p q : Int × Nat} {tm : Int} (hlo : p.1 ≤ tm) (hhi : tm < q.1) : 0 ≤ interpolated p q tm := by
  have hspan : (0 : Rat) < ((q.1 - p.1 : Int) : Rat) := Int.cast_pos.2 (by omega)
  have hpart : (0 : Rat) ≤ ((tm - p.1 : Int) : Rat) := Int.cast_nonneg (by omega)
  have hrest : (0 : Rat) ≤ ((q.1 - tm : Int) : Rat) := Int.cast_nonneg (by omega)
  have hmean : interpolated p q tm =
      (((q.1 - tm : Int) : Rat) * p.2 + ((tm - p.1 : Int) : Rat) * q.2) / ((q.1 - p.1 : Int) : Rat) := by
    rw [interpolated]
    field_simp
    push_cast
    ring
  rw [hmean]
  positivity

section
variable {p q : Int × Nat} {r : List (Int × Nat)} {tm : Int}

theorem scaleIn_of_le_first (h : tm ≤ p.1) : scaleIn (p :: r) tm = p.2 := by
  cases r with
  | nil => rfl
  | cons q r => rw [scaleIn, if_pos h]

/-- Below the second point of a table the scale is the interpolation from the first one. -/
theorem scaleIn_of_lt_second (hlo : p.1 ≤ tm) (hhi : tm < q.1) :
    (scaleIn (p :: q :: r) tm : Int) = roundHalfUp (interpolated p q tm) := by
  by_cases hfirst : tm ≤ p.1
  · obtain rfl : tm = p.1 := le_antisymm hfirst hlo
    rw [scaleIn_of_le_first le_rfl, interpolated_at_first, roundHalfUp_natCast]
  · rw [scaleIn, if_neg hfirst, if_pos hhi]
    exact Int.toNat_of_nonneg (roundHalfUp_nonneg (interpolated_nonneg hlo hhi))

/-- From the second point of a rising table on, the first has no part in the scale. -/
theorem scaleIn_of_second_le (hrise : p.1 < q.1) (h : q.1 ≤ tm) : scaleIn (p :: q :: r) tm = scaleIn (q :: r) tm := by
  rw [scaleIn, if_neg (by omega), if_neg (by omega)]

theorem risingTemps_cons_cons : risingTemps (p :: q :: r) = true ↔ p.1 < q.1 ∧ risingTemps (q :: r) = true := by
  simp [risingTemps]

/-- The first point of a rising table is the lowest. -/
theorem first_le_of_risingTemps : ∀ {r : List (Int × Nat)} {p x : Int × Nat}, risingTemps (p :: r) = true → x ∈ p :: r → p.1 ≤ x.1
  | [], p, x, _, hx => by rw [List.mem_singleton.1 hx]
  | q :: r, p, x, hr, hx => by
    obtain ⟨hrise, hr⟩ := risingTemps_cons_cons.1 hr
    rcases List.mem_cons.1 hx with rfl | hx
    · exact le_rfl
    · exact hrise.le.trans (first_le_of_risingTemps hr hx)

/-- At or above its last temperature a rising table gives its last scale. -/
theorem scaleIn_of_last_le : ∀ {table : List (Int × Nat)}, risingTemps table = true → table.getLast? = some p → p.1 ≤ tm →
    scaleIn table tm = p.2
  | [], _, hp, _ => by simp at hp
  | [x], _, hp, _ => by
    obtain rfl : x = p := by simpa using hp
    rfl
  | x :: y :: r, hr, hp, htm => by
    obtain ⟨hrise, hr⟩ := risingTemps_cons_cons.1 hr
    rw [List.getLast?_cons_cons] at hp
    have hy : y.1 ≤ tm := (first_le_of_risingTemps hr (List.mem_of_getLast? hp)).trans htm
    rw [scaleIn_of_second_le hrise hy]
    exact scaleIn_of_last_le hr hp htm

/-- Between neighbouring points a rising table gives their interpolation, rounded half up. -/
theorem scaleIn_between : ∀ {table : List (Int × Nat)} {i : Nat}, risingTemps table = true → table[i]? = some p →
    table[i + 1]? = some q → p.1 ≤ tm → tm < q.1 → (scaleIn table tm : Int) = roundHalfUp (interpolated p q tm)
  | [], _, _, hp, _, _, _ => by simp at hp
  | [_], _, _, _, hq, _, _ => by simp at hq
  | x :: y :: r, 0, _, hp, hq, hlo, hhi => by
    obtain ⟨rfl, rfl⟩ : x = p ∧ y = q := ⟨by simpa using hp, by simpa using hq⟩
    exact scaleIn_of_lt_second hlo hhi
  | x :: y :: r, i + 1, hr, hp, hq, hlo, hhi => by
    obtain ⟨hrise, hr⟩ := risingTemps_cons_cons.1 hr
    rw [List.getElem?_cons_succ] at hp hq
    have hy : y.1 ≤ tm := (first_le_of_risingTemps hr (List.mem_of_getElem? hp)).trans hlo
    rw [scaleIn_of_second_le hrise hy]
    exact scaleIn_between hr hp hq hlo hhi

end

/-! ### The update of a module (R204 to R206) -/

/-- A fold reaches one entry of a list in a state that no entry before has changed in what `R` compares, and none after
changes the outcome. -/
theorem foldl_reaches {α β : Type} {R : α → α → Prop} (hrefl : ∀ s, R s s) (htrans : ∀ {s u v}, R s u → R u v → R s v)
    (f : α → β → α) {x : β} : ∀ {l : List β} (_ : l.Nodup) (_ : x ∈ l) (_ : ∀ y ∈ l, y ≠ x → ∀ s, R s (f s y)) (s : α),
    ∃ u, R s u ∧ R (f u x) (l.foldl f s)
  | y :: l, hl, hx, hkeep, s => by
    obtain ⟨hy, hl⟩ := List.nodup_cons.1 hl
    by_cases hyx : y = x
    · subst hyx
      refine ⟨s, hrefl s, List.foldlRecOn l f (hrefl _) fun u hu z hz => htrans hu (hkeep z (List.mem_cons_of_mem _ hz) ?_ u)⟩
      rintro rfl
      exact hy hz
    · obtain ⟨u, hu, hend⟩ := foldl_reaches hrefl htrans f hl (List.mem_of_ne_of_mem (Ne.symm hyx) hx)
        (fun z hz => hkeep z (List.mem_cons_of_mem _ hz)) (f s y)
      exact ⟨u, htrans (hkeep y List.mem_cons_self hyx s) hu, hend⟩

/-- The second state keeps the waveforms of a port, and the scale of one of them. -/
def SameScale (p v : Nat) (s u : State) : Prop := (u.wp p).waves = (s.wp p).waves ∧ (u.wp p).scale v = (s.wp p).scale v

section
variable (s : State) (w p : Nat)

@[simp] theorem State.wp_setWp_same (x : WavePort) : (s.setWp p x).wp p = x := Tbl.get_set_same _ _ _ _

theorem State.wp_setWp_other {q : Nat} (x : WavePort) (h : q ≠ p) : (s.setWp p x).wp q = s.wp q := Tbl.get_set_other _ _ _ _ h

@[simp] theorem State.waves_cause (f : Fld) (v : Nat) : (s.cause f v).waves = s.waves := by
  obtain ⟨l, hl⟩ := sendNewMsi_sent s (s.set f (s.get f ||| v))
  rw [State.cause, hl]
  rfl

/-- A push changes the scale of its waveform, and notes that it is pushed. -/
theorem State.wp_pushScale (v scale : Nat) : ∃ pushed, (s.pushScale w p v scale).wp p =
    { s.wp p with scales := (s.wp p).scales.set 32768 v scale, pushed := pushed } := by
  unfold State.pushScale
  simp only [State.wp, State.waves_set, State.waves_bump, State.waves_setWp, Tbl.get_set_same]
  exact ⟨_, rfl⟩

theorem State.scale_pushScale_same (v scale : Nat) : ((s.pushScale w p v scale).wp p).scale v = scale := by
  obtain ⟨pushed, h⟩ := s.wp_pushScale w p v scale
  rw [h, WavePort.scale, Tbl.get_set_same]

theorem State.sameScale_pushScale_other {v x : Nat} (scale : Nat) (h : v ≠ x) : SameScale p v s (s.pushScale w p x scale) := by
  obtain ⟨pushed, hwp⟩ := s.wp_pushScale w p x scale
  rw [SameScale, hwp]
  exact ⟨rfl, Tbl.get_set_other _ _ _ _ h⟩

/-- A scale is compared with the table of its waveform: the body of an update. -/
def State.rescale (s : State) (w p deadband : Nat) (tm : Int) (c : Nat × List (Int × Nat)) : State :=
  let old := (s.wp p).scale c.1
  let new := scaleIn c.2 tm
  let d := if old < new then new - old else old - new
  if ((s.wp p).wave c.1).isSome ∧ deadband ≤ d ∧ 0 < d then s.pushScale w p c.1 new else s

theorem State.updateModule_of_mean {s : State} {p : Nat} {tm : Int} (hmean : (s.port p).therm.mean s.now = some tm)
    (hlive : s.scalesLive p = true) : s.updateModule w p =
      (s.wp p).temps.cells.foldl (fun a c => a.rescale w p (s.get (F.WE_DEADBAND w)) tm c) s := by
  rw [State.updateModule, hmean]
  dsimp only
  rw [hlive]
  rfl

theorem State.updateModule_of_not_live {s : State} {p : Nat} (hlive : s.scalesLive p = false)
    (hmean : (s.port p).therm.mean s.now ≠ none) : s.updateModule w p = s := by
  obtain ⟨tm, htm⟩ := Option.ne_none_iff_exists'.1 hmean
  rw [State.updateModule, htm]
  dsimp only
  rw [hlive]
  rfl

theorem State.updateModule_of_no_mean {s : State} {p : Nat} (hmean : (s.port p).therm.mean s.now = none) (hgen : s.gen p ≠ 0) :
    s.updateModule w p = (s.bump (F.WE_TEMP_MISSING w)).cause (F.WE_INT_STATUS_TEMP_MISSING w) := by
  rw [State.updateModule, hmean]
  dsimp only
  rw [if_neg hgen]

theorem State.sameScale_rescale_other {v : Nat} (deadband : Nat) (tm : Int) {c : Nat × List (Int × Nat)} (h : v ≠ c.1) :
    SameScale p v s (s.rescale w p deadband tm c) := by
  unfold State.rescale
  extract_lets old new d
  split
  · exact s.sameScale_pushScale_other w p _ h
  · exact ⟨rfl, rfl⟩

/-- A loaded waveform takes the scale of its table when the two differ by at least DEADBAND (R204). -/
theorem State.scale_rescale_same {v : Nat} (deadband : Nat) (tm : Int) (table : List (Int × Nat))
    (hwave : ((s.wp p).wave v).isSome = true) : ((s.rescale w p deadband tm (v, table)).wp p).scale v =
      if deadband ≤ max ((s.wp p).scale v - scaleIn table tm) (scaleIn table tm - (s.wp p).scale v)
      then scaleIn table tm else (s.wp p).scale v := by
  unfold State.rescale
  dsimp only
  generalize hold : (s.wp p).scale v = old
  generalize scaleIn table tm = new
  have hdist : (if old < new then new - old else old - new) = max (old - new) (new - old) := by
    split <;> omega
  rw [hdist]
  by_cases hpush : deadband ≤ max (old - new) (new - old) ∧ 0 < max (old - new) (new - old)
  · rw [if_pos ⟨hwave, hpush⟩, if_pos hpush.1, State.scale_pushScale_same]
  · rw [if_neg fun hc => hpush hc.2, hold]
    split
    · omega
    · rfl

/-- Each loaded waveform with a table takes its own scale: the other tables of the module leave it. -/
theorem State.scale_updateModule {s : State} {p v : Nat} {tm : Int} {table : List (Int × Nat)}
    (hmean : (s.port p).therm.mean s.now = some tm) (hlive : s.scalesLive p = true)
    (hkeys : ((s.wp p).temps.cells.map (·.1)).Nodup) (hmem : (v, table) ∈ (s.wp p).temps.cells)
    (hwave : ((s.wp p).wave v).isSome = true) : ((s.updateModule w p).wp p).scale v =
      if s.get (F.WE_DEADBAND w) ≤ max ((s.wp p).scale v - scaleIn table tm) (scaleIn table tm - (s.wp p).scale v)
      then scaleIn table tm else (s.wp p).scale v := by
  rw [State.updateModule_of_mean w hmean hlive]
  obtain ⟨u, ⟨hwaves, hold⟩, -, hscale⟩ := foldl_reaches (R := SameScale p v) (fun _ => ⟨rfl, rfl⟩)
    (fun h h' => ⟨h'.1.trans h.1, h'.2.trans h.2⟩) (fun a c => a.rescale w p (s.get (F.WE_DEADBAND w)) tm c)
    (List.Nodup.of_map _ hkeys) hmem
    (fun c hc hne a => a.sameScale_rescale_other w p _ tm fun hv => hne (List.inj_on_of_nodup_map hkeys hc hmem hv.symm)) s
  rw [hscale, State.scale_rescale_same _ _ _ _ _ _ (by rwa [WavePort.wave, hwaves]), hold]

theorem State.get_updateModule_temp_missing {s : State} {p : Nat} (hmean : (s.port p).therm.mean s.now = none)
    (hgen : s.gen p ≠ 0) : (s.updateModule w p).get (F.WE_TEMP_MISSING w) =
      min (s.get (F.WE_TEMP_MISSING w) + 1) (2 ^ (F.WE_TEMP_MISSING w).width - 1) := by
  rw [State.updateModule_of_no_mean w hmean hgen,
    State.get_congr _ (State.reg_cause_other _ _ (by simp [F.WE_TEMP_MISSING, F.WE_INT_STATUS_TEMP_MISSING]))]
  exact s.get_bump_satAdd 1 (by simp [F.WE_TEMP_MISSING])

end

/-- On an HL-1 port a scale may be pushed once its input has converted since the link-up, on any other at once. -/
theorem State.scalesLive_of_read {s : State} {p : Nat}
    (h : s.gen p = 1 → s.linked p = true ∧ (s.port p).therm.readSince s.now (s.port p).since = true) : s.scalesLive p = true := by
  by_cases hgen : s.gen p = 1
  · obtain ⟨hlinked, hread⟩ := h hgen
    simp [State.scalesLive, hlinked, hread]
  · simp [State.scalesLive, hgen]

/-- Settles O37: the branches of the table, and the comparison of each waveform's scale in an update. -/
theorem scalesFollowTheTemperatureTable : Obligations.ScalesFollowTheTemperatureTable := by
  refine ⟨fun table tm hr => ⟨fun p hp htm => ?_, fun p hp htm => scaleIn_of_last_le hr hp htm,
      fun i p q hp hq hlo hhi => scaleIn_between hr hp hq hlo hhi⟩,
    fun s w p _ hlive hmean => State.updateModule_of_not_live w hlive hmean,
    fun s w p v tm table hmean hread hkeys hmem hwave =>
      State.scale_updateModule w hmean (State.scalesLive_of_read hread) hkeys hmem hwave,
    fun s w p hmean hgen => ⟨?_, State.get_updateModule_temp_missing w hmean hgen⟩⟩
  · obtain ⟨r, rfl⟩ := List.head?_eq_some_iff.1 hp
    exact scaleIn_of_le_first htm
  · rw [State.updateModule_of_no_mean w hmean hgen, State.waves_cause, State.waves_bump]

end Sys2Proof.Machine
end

section
/-! The waveform engines: what the registers that they show leave of the state, a step that changes, an update on its grid,
and an engine that is lost (R203, R217 to R220). -/

namespace Sys2Proof.Machine

/-! ### What the engines show -/

/-- A field that neither the count of a step nor the display of the steps and served ports writes: it lies outside the registers
of both engines, or in the low byte of WE_STATUS. -/
def Fld.Unshown (g : Fld) : Prop := g.off < 0x80000 ∨ 0x80100 ≤ g.off ∨ (g.off % 0x80 = 4 ∧ g.lo + g.width ≤ 8)

/-- A field of the engines above the low byte of WE_STATUS. -/
def Fld.Shown (f : Fld) : Prop :=
  f.lo + f.width ≤ 32 ∧ 0x80000 ≤ f.off ∧ f.off < 0x80100 ∧ (f.off % 0x80 = 4 → 8 ≤ f.lo)

theorem Fld.Shown.apart {f g : Fld} (hf : f.Shown) (hg : g.Unshown) : f.apart g := by
  obtain ⟨-, hlo, hhi, hstatus⟩ := hf
  by_cases hoff : f.off = g.off
  · obtain hg | hg | ⟨hg, hwidth⟩ := hg
    · omega
    · omega
    · exact .inr (.inr (hwidth.trans (hstatus (hoff ▸ hg))))
  · exact .inl hoff

/-- The second state has the timing and the health of the first, and its fields but those that the engines show. -/
def SameRest (s u : State) : Prop :=
  SameTiming s u ∧ u.health = s.health ∧ ∀ g : Fld, g.Unshown → u.get g = s.get g

/-- The same, with the waveform data of a port. -/
def SameModule (p : Nat) (s u : State) : Prop := SameRest s u ∧ u.wp p = s.wp p

section
variable {s u v : State} {p : Nat}

theorem SameTiming.trans (h : SameTiming s u) (h' : SameTiming u v) : SameTiming s v := by
  obtain ⟨h1, h2, h3, h4, h5, h6, h7, h8, h9, h10, h11⟩ := h
  obtain ⟨k1, k2, k3, k4, k5, k6, k7, k8, k9, k10, k11⟩ := h'
  exact ⟨k1.trans h1, k2.trans h2, k3.trans h3, k4.trans h4, k5.trans h5, k6.trans h6, k7.trans h7, k8.trans h8, k9.trans h9,
    k10.trans h10, k11.trans h11⟩

theorem SameRest.timing (h : SameRest s u) : SameTiming s u := h.1
theorem SameRest.health (h : SameRest s u) : u.health = s.health := h.2.1
theorem SameRest.get (h : SameRest s u) {g : Fld} (hg : g.Unshown) : u.get g = s.get g := h.2.2 g hg

theorem SameRest.refl (s : State) : SameRest s s := ⟨.refl s, rfl, fun _ _ => rfl⟩

theorem SameRest.trans (h : SameRest s u) (h' : SameRest u v) : SameRest s v :=
  ⟨h.timing.trans h'.timing, h'.health.trans h.health, fun _ hg => (h'.get hg).trans (h.get hg)⟩

theorem SameRest.set (h : SameRest s u) {f : Fld} (hf : f.Shown) (n : Nat) : SameRest s (u.set f n) :=
  ⟨h.timing.set f n, h.health, fun _ hg => (u.get_set_apart n hf.1 (hf.apart hg)).trans (h.get hg)⟩

theorem SameRest.setWp (h : SameRest s u) (q : Nat) (x : WavePort) : SameRest s (u.setWp q x) := h

theorem SameModule.rest (h : SameModule p s u) : SameRest s u := h.1
theorem SameModule.wp (h : SameModule p s u) : u.wp p = s.wp p := h.2

theorem SameModule.refl (p : Nat) (s : State) : SameModule p s s := ⟨.refl s, rfl⟩

theorem SameModule.trans (h : SameModule p s u) (h' : SameModule p u v) : SameModule p s v :=
  ⟨h.rest.trans h'.rest, h'.wp.trans h.wp⟩

theorem SameModule.set (h : SameModule p s u) {f : Fld} (hf : f.Shown) (n : Nat) : SameModule p s (u.set f n) :=
  ⟨h.rest.set hf n, h.wp⟩

theorem SameModule.cause (h : SameModule p s u) {f : Fld} (hf : f.Shown) (n : Nat) : SameModule p s (u.cause f n) := by
  obtain ⟨l, hl⟩ := sendNewMsi_sent u (u.set f (u.get f ||| n))
  rw [State.cause, hl]
  exact h.set hf _

theorem SameModule.setWp (h : SameModule p s u) {q : Nat} (x : WavePort) (hq : p ≠ q) : SameModule p s (u.setWp q x) :=
  ⟨h.rest.setWp q x, (u.wp_setWp_other q x hq).trans h.wp⟩

/-- The display of steps and served ports writes the registers that it shows them in. -/
theorem SameModule.showWaves (h : SameModule p s u) : SameModule p s u.showWaves := by
  unfold State.showWaves
  refine List.foldlRecOn _ _ h fun a ha w hw => ?_
  have hw : w < 2 := by
    rcases List.mem_cons.1 hw with rfl | hw
    · decide
    · rw [List.mem_singleton.1 hw]
      decide
  extract_lets ports s1 s2 best
  have h1 : SameModule p s s1 := List.foldlRecOn _ _ ha fun b hb k hk => hb.set (by
    have := List.mem_range.1 hk
    simp only [Fld.Shown, F.WE_SERVED]
    omega) _
  have h2 : SameModule p s s2 := List.foldlRecOn _ _ h1 fun b hb k hk => hb.set (by
    have := List.mem_range.1 hk
    simp only [Fld.Shown, F.WE_STEP]
    omega) _
  refine ((h2.set ?_ _).set ?_ _).set ?_ _
  all_goals
    simp only [Fld.Shown, F.WE_STATUS_SERVED_COUNT, F.WE_STEP_MAX_STEP, F.WE_STEP_MAX_PORT]
    omega

end

/-! ### Steps (R217) -/

section
variable (s : State) {w : Nat} (p : Nat)

/-- A step that changes is counted and shown. -/
theorem State.sameModule_setStep (hw : w < 2) (q k : Nat) :
    SameModule p (s.setWp q { s.wp q with step := k }) (s.setStep w q k) := by
  unfold State.setStep
  extract_lets x s1
  split
  next hsame =>
    refine ⟨.refl s, ?_⟩
    by_cases hq : p = q
    · subst hq
      rw [State.wp_setWp_same, ← hsame]
    · rw [State.wp_setWp_other _ _ _ hq]
  next =>
    have h1 : SameModule p (s.setWp q { s.wp q with step := k }) s1 := .showWaves (.set (.refl _ _)
      (by simp only [Fld.Shown, F.WE_STEP_CHANGES]; omega) _)
    split
    all_goals
      refine h1.cause ?_ _
      simp only [Fld.Shown, F.WE_INT_STATUS_STEP_UP, F.WE_INT_STATUS_STEP_DOWN]
      omega

theorem State.step_setStep_same (hw : w < 2) (k : Nat) : ((s.setStep w p k).wp p).step = k := by
  rw [(s.sameModule_setStep p hw p k).wp, State.wp_setWp_same]

theorem State.sameModule_setStep_other (hw : w < 2) {q : Nat} (k : Nat) (hq : p ≠ q) : SameModule p s (s.setStep w q k) :=
  ((SameModule.refl p s).setWp _ hq).trans (s.sameModule_setStep p hw q k)

end

/-! ### An update on its grid (R203, R219) -/

section
variable {s a : State} {t p w : Nat}

theorem State.waves_pulse (s : State) (k : Nat) : (s.pulse k).waves = s.waves := by
  refine foldl_keeps (fun u : State => u.waves = s.waves) _ (fun u m hu => ?_) _ _ rfl
  dsimp only
  split
  · rw [State.waves_cause, State.waves_bump, hu]
  · exact hu

theorem State.lt_of_waveServer (hp : p < 128) (hw : s.waveServer p = some w) : w < 2 := by
  unfold State.waveServer at hw
  split at hw
  · cases hw
    omega
  · split at hw
    · cases hw
      omega
    · cases hw

/-- What engine `w` notes of the update of a port that took `ns`: its time, the event line at the end of a half, and the pass
that ends with port `last`. -/
def State.noteUpdate (s : State) (w p ns last : Nat) : State :=
  let s2 := s.set (F.WE_PASS_TIME_MAX w) (max (s.get (F.WE_PASS_TIME_MAX w)) (min (ns / 10) 0xFFFFFFFF))
  let s3 := if p % 64 = 63 then s2.pulse (28 + w) else s2
  if p = last then s3.bump (F.WE_PASSES w) else s3

theorem State.wp_noteUpdate (s : State) (w p ns last q : Nat) : (s.noteUpdate w p ns last).wp q = s.wp q := by
  unfold State.noteUpdate
  extract_lets s2 s3
  have h3 : s3.waves = s.waves := by
    unfold s3
    split
    · exact s2.waves_pulse _
    · rfl
  split
  all_goals rw [State.wp, State.wp, ← h3]
  rw [State.waves_bump]

/-- The pulse that ends a half is seen in EV_SEEN. -/
theorem State.arrBit_noteUpdate (s : State) {w p : Nat} (ns last : Nat) (hw : w < 2) (hlast : p % 64 = 63) :
    (s.noteUpdate w p ns last).arrBit F.DW_EV_SEEN (28 + w) = true := by
  unfold State.noteUpdate
  extract_lets s2 s3
  have h3 : SameAt (F.DW_EV_SEEN ((28 + w) / 32)).off (s2.setArrBit F.DW_EV_SEEN (28 + w) true) s3 := by
    unfold s3
    rw [if_pos hlast]
    exact s2.sameAt_pulse _ (by omega)
  have hseen := s2.arrBit_setArrBit (28 + w)
  split
  · have hpass := h3.bump (f := F.WE_PASSES w) 1 (by simp only [F.DW_EV_SEEN, F.WE_PASSES]; omega)
    rwa [State.arrBit, hpass.get]
  · rwa [State.arrBit, h3.get]

/-- An update at the place of its port in the schedule pushes the scales, and pulses the event line at the end of a half. -/
theorem Live.waveTempUpdate_takesEffect (h : Live s t a) (ns : Nat) (hp : p < 128) (hw : a.waveServer p = some w)
    (hgrid : a.devTime % (a.updateGrid w p).1 = (a.updateGrid w p).2) :
    ∃ u, Gives (.waveTempUpdate t p ns) s u ∧ u.wp p = (a.updateModule w p).wp p ∧
      (p % 64 = 63 → u.arrBit F.DW_EV_SEEN (28 + w) = true) := by
  have hstep := h.gives_of_coreStep (exec_waveTempUpdate t p ns s)
  dsimp only at hstep
  rw [hw] at hstep
  dsimp only at hstep
  rw [if_pos ⟨hp, hgrid⟩] at hstep
  exact ⟨(a.updateModule w p).noteUpdate w p ns (if a.waveSole w then 127 else 64 * w + 63), hstep,
    State.wp_noteUpdate _ _ _ _ _ _, fun hlast => State.arrBit_noteUpdate _ _ _ (State.lt_of_waveServer hp hw) hlast⟩

end

/-! ### The loss of an engine (R218 to R220) -/

/-- The state in which an engine shows that it is lost to an overrun, with its limp condition. -/
def State.loseWaveEngine (s : State) (w : Nat) : State :=
  ((((s.set (F.WE_STATUS_STATE w) 3).set (F.WE_STATUS_OFF_CAUSE w) 0).set (F.WE_STATUS_TAKEOVER w) 0).cause
    (F.WE_INT_STATUS_OFFLINE w)).limpRaise 5 w

section
variable (s : State) {w : Nat}

theorem State.loseWaveEngine_shows (hw : w < 2) : (s.loseWaveEngine w).get (F.WE_STATUS_STATE w) = 3 ∧
    (s.loseWaveEngine w).get (F.WE_STATUS_OFF_CAUSE w) = 0 ∧ (5, w) ∈ (s.loseWaveEngine w).health.limps := by
  have hrest : SameAt (F.WE_STATUS w).off
      (((s.set (F.WE_STATUS_STATE w) 3).set (F.WE_STATUS_OFF_CAUSE w) 0).set (F.WE_STATUS_TAKEOVER w) 0) (s.loseWaveEngine w) :=
    .limpRaise (.cause (.refl _ _) _ (by simp only [F.WE_STATUS, F.WE_INT_STATUS_OFFLINE]; omega)) _ _
      (by simp only [F.WE_STATUS]; omega)
  have hcause : (F.WE_STATUS_OFF_CAUSE w).lo + (F.WE_STATUS_OFF_CAUSE w).width ≤ 32 := by simp [F.WE_STATUS_OFF_CAUSE]
  have htake : (F.WE_STATUS_TAKEOVER w).lo + (F.WE_STATUS_TAKEOVER w).width ≤ 32 := by simp [F.WE_STATUS_TAKEOVER]
  refine ⟨(SameAt.get (f := F.WE_STATUS_STATE w) hrest).trans ?_, (SameAt.get (f := F.WE_STATUS_OFF_CAUSE w) hrest).trans ?_,
    State.mem_limps_limpRaise _ _ _⟩
  · rw [State.get_set_apart _ _ htake (.inr (.inr (by simp [F.WE_STATUS_STATE, F.WE_STATUS_TAKEOVER]))),
      State.get_set_apart _ _ hcause (.inr (.inr (by simp [F.WE_STATUS_STATE, F.WE_STATUS_OFF_CAUSE]))),
      State.get_set_same _ _ _ (by simp [F.WE_STATUS_STATE])]
    rfl
  · rw [State.get_set_apart _ _ htake (.inr (.inr (by simp [F.WE_STATUS_OFF_CAUSE, F.WE_STATUS_TAKEOVER]))),
      State.get_set_same _ _ _ hcause]
    rfl

/-- Beside its own status and interrupt registers and the HEALTH block, an engine that is lost shows nothing. -/
theorem State.get_loseWaveEngine_other {f : Fld} (hlow : f.off < 0xE0000) (hstatus : f.off ≠ (F.WE_STATUS w).off)
    (hint : f.off ≠ (F.WE_INT_STATUS w).off) : (s.loseWaveEngine w).get f = s.get f := by
  have hmarks := (((SameAt.refl s f.off).set (f := F.WE_STATUS_STATE w) 3 hstatus).set (f := F.WE_STATUS_OFF_CAUSE w) 0 hstatus).set
    (f := F.WE_STATUS_TAKEOVER w) 0 hstatus
  exact ((hmarks.cause (f := F.WE_INT_STATUS_OFFLINE w) 1 hint).limpRaise 5 w hlow).get

end

section
variable {s u a : State} {t w p : Nat}

theorem State.waveOn_of_offline (h : s.get (F.WE_STATUS_STATE w) = 3) : s.waveOn w = false := by simp [State.waveOn, h]

theorem State.not_offline_of_waveOn (h : s.waveOn w = true) : s.get (F.WE_STATUS_STATE w) ≠ 3 := fun h3 =>
  absurd (State.waveOn_of_offline h3) (by simp [h])

/-- While one engine alone is online it serves every port. -/
theorem State.waveServer_of_sole (hw : w < 2) (hp : p < 128) (hon : s.waveOn (1 - w) = true) (hoff : s.waveOn w = false) :
    s.waveServer p = some (1 - w) := by
  unfold State.waveServer
  obtain hhalf | hhalf : p / 64 = w ∨ p / 64 = 1 - w := by omega
  · rw [hhalf, hoff, hon]
    rfl
  · rw [hhalf, hon]
    rfl

/-- The fields of WE_STATUS below SERVED_COUNT are not shown anew. -/
theorem unshown_status (w : Nat) : (F.WE_STATUS_STATE w).Unshown ∧ (F.WE_STATUS_OFF_CAUSE w).Unshown ∧
    (F.WE_STATUS_TAKEOVER w).Unshown := by
  simp only [Fld.Unshown, F.WE_STATUS_STATE, F.WE_STATUS_OFF_CAUSE, F.WE_STATUS_TAKEOVER]
  omega

theorem SameRest.waveOn (h : SameRest s u) (w : Nat) : u.waveOn w = s.waveOn w := by
  obtain ⟨hstate, -⟩ := unshown_status w
  rw [State.waveOn, State.waveOn, h.get hstate]

theorem State.get_loseWaveEngine_status_other (s : State) (hw : w < 2) :
    (s.loseWaveEngine w).get (F.WE_STATUS_STATE (1 - w)) = s.get (F.WE_STATUS_STATE (1 - w)) :=
  s.get_loseWaveEngine_other (by simp only [F.WE_STATUS_STATE]; omega) (by simp only [F.WE_STATUS_STATE, F.WE_STATUS]; omega)
    (by simp only [F.WE_STATUS_STATE, F.WE_INT_STATUS]; omega)

theorem State.waveOn_loseWaveEngine_other (s : State) (hw : w < 2) : (s.loseWaveEngine w).waveOn (1 - w) = s.waveOn (1 - w) := by
  rw [State.waveOn, State.waveOn, s.get_loseWaveEngine_status_other hw]

/-- An online engine that is lost to an overrun: the other takes over if it is online; if it is offline too, every module that
is configured steps to 8 (R218 to R220). -/
theorem State.waveOffline_overrun (s : State) (hw : w < 2) (hon : s.waveOn w = true) : s.waveOffline w 0 =
    if (s.loseWaveEngine w).waveOn (1 - w) then
      (((s.loseWaveEngine w).set (F.WE_STATUS_TAKEOVER (1 - w)) 1).cause (F.WE_INT_STATUS_TAKEOVER (1 - w))).showWaves
    else if (s.loseWaveEngine w).get (F.WE_STATUS_STATE (1 - w)) = 3 then
      (((List.range 128).filter (fun p => decide ((s.loseWaveEngine w).gen p ≠ 0))).foldl
        (fun (a : State) p => a.setStep (p / 64) p 8) (s.loseWaveEngine w)).showWaves
    else (s.loseWaveEngine w).showWaves := by
  have hnot := State.not_offline_of_waveOn hon
  unfold State.waveOffline
  rw [if_neg (by omega)]
  rfl

/-- Every step that is set leaves the rest of the state, whatever the ports. -/
theorem State.sameRest_steps (s : State) {l : List Nat} (hl : ∀ q ∈ l, q < 128) (k : Nat) :
    SameRest s (l.foldl (fun (a : State) q => a.setStep (q / 64) q k) s) :=
  List.foldlRecOn l _ (.refl s) fun a ha q hq => by
    have := hl q hq
    exact ha.trans (a.sameModule_setStep q (by omega) q k).rest

/-- Every port of a list that is set to a step has it then. -/
theorem State.step_steps (s : State) {l : List Nat} (hl : ∀ q ∈ l, q < 128) (hnodup : l.Nodup) (hp : p ∈ l) (k : Nat) :
    ((l.foldl (fun (a : State) q => a.setStep (q / 64) q k) s).wp p).step = k := by
  obtain ⟨u, -, -, hend⟩ := foldl_reaches (R := SameModule p) (.refl p) SameModule.trans
    (fun (a : State) q => a.setStep (q / 64) q k) hnodup hp
    (fun q hq hne a => a.sameModule_setStep_other p (by have := hl q hq; omega) k (Ne.symm hne)) s
  rw [hend]
  exact State.step_setStep_same _ _ (by have := hl p hp; omega) _

/-- An engine shows that it was lost to an overrun. -/
def State.Overrun (s : State) (w : Nat) : Prop :=
  s.get (F.WE_STATUS_STATE w) = 3 ∧ s.get (F.WE_STATUS_OFF_CAUSE w) = 0 ∧ (5, w) ∈ s.health.limps

theorem State.Overrun.sameRest (h : s.Overrun w) (hrest : SameRest s u) : u.Overrun w := by
  obtain ⟨hstate, hcause, hlimp⟩ := h
  obtain ⟨hustate, hucause, -⟩ := unshown_status w
  exact ⟨(hrest.get hustate).trans hstate, (hrest.get hucause).trans hcause, hrest.health ▸ hlimp⟩

/-- The other engine takes over the ports of one that is lost. -/
theorem State.overrun_takenOver (s : State) (hw : w < 2) (hon : s.waveOn w = true) (hother : s.waveOn (1 - w) = true) :
    (s.waveOffline w 0).Overrun w ∧ (s.waveOffline w 0).get (F.WE_STATUS_TAKEOVER (1 - w)) = 1 ∧
      ∀ p, p < 128 → (s.waveOffline w 0).waveServer p = some (1 - w) := by
  have hapart : (F.WE_STATUS w).off ≠ (F.WE_STATUS_TAKEOVER (1 - w)).off := by
    simp only [F.WE_STATUS, F.WE_STATUS_TAKEOVER]
    omega
  have htake : (F.WE_STATUS_TAKEOVER (1 - w)).lo + (F.WE_STATUS_TAKEOVER (1 - w)).width ≤ 32 := by simp [F.WE_STATUS_TAKEOVER]
  rw [s.waveOffline_overrun hw hon, if_pos (by rwa [s.waveOn_loseWaveEngine_other hw])]
  generalize hx : (s.loseWaveEngine w).set (F.WE_STATUS_TAKEOVER (1 - w)) 1 = x
  obtain ⟨hstate, hcause, hlimp⟩ := s.loseWaveEngine_shows hw
  have hlost : x.Overrun w := by
    have hkeep : SameAt (F.WE_STATUS w).off (s.loseWaveEngine w) x := hx ▸ (SameAt.refl _ _).set 1 hapart
    exact ⟨(SameAt.get (f := F.WE_STATUS_STATE w) hkeep).trans hstate,
      (SameAt.get (f := F.WE_STATUS_OFF_CAUSE w) hkeep).trans hcause, hx ▸ hlimp⟩
  have hone : x.get (F.WE_STATUS_TAKEOVER (1 - w)) = 1 := by
    rw [← hx]
    exact State.get_set_same _ _ _ htake
  have hxon : x.waveOn (1 - w) = true := by
    rw [← hother, ← s.waveOn_loseWaveEngine_other hw, ← hx, State.waveOn, State.waveOn,
      State.get_set_apart _ _ htake (.inr (.inr (by simp [F.WE_STATUS_STATE, F.WE_STATUS_TAKEOVER])))]
  have hrest := ((SameModule.refl 0 x).cause (f := F.WE_INT_STATUS_TAKEOVER (1 - w))
    (by simp only [Fld.Shown, F.WE_INT_STATUS_TAKEOVER]; omega) 1).showWaves.rest
  obtain ⟨-, -, hshown⟩ := unshown_status (1 - w)
  obtain ⟨hstate, hcause, hlimp⟩ := hlost.sameRest hrest
  exact ⟨⟨hstate, hcause, hlimp⟩, (hrest.get hshown).trans hone, fun p hp =>
    State.waveServer_of_sole hw hp ((hrest.waveOn _).trans hxon) (State.waveOn_of_offline hstate)⟩

/-- With both engines offline every configured module steps to 8. -/
theorem State.overrun_alone (s : State) (hw : w < 2) (hon : s.waveOn w = true) (hother : s.waveOn (1 - w) = false) :
    (s.waveOffline w 0).Overrun w ∧ (s.get (F.WE_STATUS_STATE (1 - w)) = 3 →
      ∀ p, p < 128 → s.gen p ≠ 0 → ((s.waveOffline w 0).wp p).step = 8) := by
  rw [s.waveOffline_overrun hw hon, if_neg (by simp [s.waveOn_loseWaveEngine_other hw, hother])]
  have hlost : (s.loseWaveEngine w).Overrun w := s.loseWaveEngine_shows hw
  split
  next =>
    generalize hlist : (List.range 128).filter (fun p => decide ((s.loseWaveEngine w).gen p ≠ 0)) = l
    have hl : ∀ q ∈ l, q < 128 := fun q hq => by
      rw [← hlist] at hq
      exact List.mem_range.1 (List.mem_filter.1 hq).1
    refine ⟨(hlost.sameRest (State.sameRest_steps _ hl 8)).sameRest (SameModule.refl 0 _).showWaves.rest, fun _ p hp hgen => ?_⟩
    have hmem : p ∈ l := by
      rw [← hlist, List.mem_filter]
      refine ⟨List.mem_range.2 hp, decide_eq_true ?_⟩
      rwa [State.gen, State.get_loseWaveEngine_other _ (by simp only [F.HP_CTRL_GEN]; omega)
        (by simp only [F.HP_CTRL_GEN, F.WE_STATUS]; omega) (by simp only [F.HP_CTRL_GEN, F.WE_INT_STATUS]; omega)]
    rw [(SameModule.refl p _).showWaves.wp]
    exact State.step_steps _ hl (hlist ▸ List.nodup_range.filter _) hmem 8
  next hnot => exact ⟨hlost.sameRest (SameModule.refl 0 _).showWaves.rest, fun h3 => absurd
    ((s.get_loseWaveEngine_status_other hw).trans h3) hnot⟩

/-- An engine that is online and does not finish its update in time goes offline (R218 to R220). -/
theorem Live.waveEngineOverrun_takesEffect (h : Live s t a) (hw : w < 2) (hon : a.waveOn w = true) :
    ∃ u, Gives (.waveEngineOverrun t w) s u ∧ u.get (F.WE_STATUS_STATE w) = 3 ∧ u.get (F.WE_STATUS_OFF_CAUSE w) = 0 ∧
      (5, w) ∈ u.health.limps ∧
      (a.waveOn (1 - w) = true → u.get (F.WE_STATUS_TAKEOVER (1 - w)) = 1 ∧ ∀ p, p < 128 → u.waveServer p = some (1 - w)) ∧
      (a.get (F.WE_STATUS_STATE (1 - w)) = 3 → ∀ p, p < 128 → a.gen p ≠ 0 → (u.wp p).step = 8) := by
  have hstep := h.gives_of_coreStep (exec_waveEngineOverrun t w s)
  rw [if_pos hon] at hstep
  cases hother : a.waveOn (1 - w) with
  | true =>
    obtain ⟨⟨hstate, hcause, hlimp⟩, htaken⟩ := a.overrun_takenOver hw hon hother
    exact ⟨_, hstep, hstate, hcause, hlimp, fun _ => htaken, fun h3 => absurd h3 (State.not_offline_of_waveOn hother)⟩
  | false =>
    obtain ⟨⟨hstate, hcause, hlimp⟩, hsteps⟩ := a.overrun_alone hw hon hother
    exact ⟨_, hstep, hstate, hcause, hlimp, fun hc => absurd hc (by simp), hsteps⟩

end

end Sys2Proof.Machine
end

section
/-! The evaluation of the power steps (R216). It reads TRACK_RATED at the track that a stream names: within the 16 tracks every
module takes the step of the state before the evaluation; no condition of the state keeps a stream within them. -/

namespace Sys2Proof.Machine

/-! ### One module after the other -/

section
variable {s u a : State} {t w window p : Nat}

theorem SameTiming.devTime (h : SameTiming s u) : u.devTime = s.devTime := by
  rw [State.devTime, State.devTime, State.slewed, State.slewed, h.now, h.clock]

theorem SameTiming.portTrack (h : SameTiming s u) (p : Nat) : u.portTrack p = s.portTrack p := by
  obtain ⟨-, -, -, -, -, -, -, -, -, hgeo, hstreams⟩ := h
  have hstream : u.stream = s.stream := funext fun n => by rw [State.stream, State.stream, hstreams]
  have hopen : u.openStreams = s.openStreams := by rw [State.openStreams, State.openStreams, hstream]
  have hof : u.streamOf = s.streamOf := funext fun r => by rw [State.streamOf, State.streamOf, hopen, hstream]
  rw [State.portTrack, State.portTrack, hgeo, hof, hstream]

theorem SameRest.firedLines (h : SameRest s u) (p window : Nat) : u.firedLines p window = s.firedLines p window := by
  have hfire : u.flag F.THERM_TRI_STATUS_FIRE_EN = s.flag F.THERM_TRI_STATUS_FIRE_EN := by
    rw [State.flag, State.flag, h.get (.inr (.inl (by decide)))]
  rw [State.firedLines, State.firedLines, h.timing.port, h.timing.devTime, hfire]

/-- The rated rate of one of the 16 tracks stands outside the registers of the engines. -/
theorem SameRest.rated (h : SameRest s u) {tr : Nat} (htr : tr < 16) : u.get (F.TRACK_RATED tr) = s.get (F.TRACK_RATED tr) :=
  h.get (.inl (by simp only [F.TRACK_RATED]; omega))

/-- The evaluation of a module leaves the other modules. -/
theorem State.sameModule_evalModule_other (s : State) (hw : w < 2) {q : Nat} (hq : p ≠ q) :
    SameModule p s (s.evalModule w window q) := by
  unfold State.evalModule
  extract_lets l
  split
  · exact .refl p s
  · split
    · exact .refl p s
    · exact ((SameModule.refl p s).setWp _ hq).trans (State.sameModule_setStep_other _ p hw _ hq)

/-- The step of a module on a track after an evaluation: what its lines in the window consumed, at the rated rate, against its
limit. -/
def State.stepAfter (s : State) (window p tr : Nat) : Nat :=
  nextStep (s.wp p).step
    ((((s.firedLines p window).map (·.energy)).sum : Nat) / ((s.firedLines p window).length : Rat) *
      (s.get (F.TRACK_RATED tr) : Rat) / 16)
    ((s.wp p).powerLimit (s.port p).therm.ktFetch)

theorem State.step_evalModule_same (s : State) {tr : Nat} (hw : w < 2) (htrack : s.portTrack p = some tr)
    (hfired : s.firedLines p window ≠ []) : ((s.evalModule w window p).wp p).step = s.stepAfter window p tr := by
  unfold State.evalModule
  extract_lets l
  rw [htrack]
  dsimp only
  rw [if_neg hfired, State.step_setStep_same _ _ hw, State.stepAfter, List.sum_eq_foldl]

theorem SameModule.stepAfter (h : SameModule p s u) (window : Nat) {tr : Nat} (htr : tr < 16) :
    u.stepAfter window p tr = s.stepAfter window p tr := by
  rw [State.stepAfter, State.stepAfter, h.rest.firedLines, h.rest.rated htr, h.rest.timing.port, h.wp]

/-! ### The row (R216, R219) -/

/-- Every module that an engine serves, with a power ceiling, evaluated in order. -/
def State.evalModules (s : State) (w window : Nat) : State :=
  ((s.wavePorts w).filter (fun p => decide ((s.wp p).powerMax ≠ 0))).foldl (fun (a : State) p => a.evalModule w window p) s

/-- The window of an evaluation in ns (R216, R219). -/
def State.evalWindow (s : State) (w : Nat) : Nat := if s.waveSole w then 2000000 else 1000000

theorem State.step_evalModules (s : State) {tr : Nat} (hw : w < 2) (hp : p < 128) (hserved : s.waveServer p = some w)
    (hpower : (s.wp p).powerMax ≠ 0) (htrack : s.portTrack p = some tr) (htr : tr < 16) (hfired : s.firedLines p window ≠ []) :
    ((s.evalModules w window).wp p).step = s.stepAfter window p tr := by
  have hmem : p ∈ (s.wavePorts w).filter (fun p => decide ((s.wp p).powerMax ≠ 0)) := by
    simp [State.wavePorts, hp, hserved, hpower]
  have hnodup : (s.wavePorts w).Nodup := List.nodup_range.filter _
  obtain ⟨u, hu, -, hwp⟩ := foldl_reaches (R := SameModule p) (.refl p) SameModule.trans
    (fun (a : State) q => a.evalModule w window q) (hnodup.filter _) hmem
    (fun q _ hne a => a.sameModule_evalModule_other hw (Ne.symm hne)) s
  have hstep := u.step_evalModule_same hw (window := window) ((hu.rest.timing.portTrack p).trans htrack) (by rwa [hu.rest.firedLines])
  rw [State.evalModules, hwp, hstep, hu.stepAfter window htr]

theorem Live.gives_powerStepEval (h : Live s t a) (hon : a.waveOn w = true) (hgrid : a.devTime % a.evalWindow w = 0) :
    Gives (.powerStepEval t w) s (a.evalModules w (a.evalWindow w)) := by
  have hstep := h.gives_of_coreStep (exec_powerStepEval t w s)
  dsimp only at hstep
  rwa [← State.evalWindow, if_pos ⟨hon, hgrid⟩] at hstep

/-- Every module served, with a power ceiling, lines in the window and a track, takes its next step. -/
theorem Live.powerStepEval_takesEffect (h : Live s t a) (hw : w < 2) (hon : a.waveOn w = true)
    (hgrid : a.devTime % a.evalWindow w = 0) : ∃ u, Gives (.powerStepEval t w) s u ∧
      ∀ p tr, p < 128 → tr < 16 → a.waveServer p = some w → (a.wp p).powerMax ≠ 0 → a.portTrack p = some tr →
        a.firedLines p (a.evalWindow w) ≠ [] → (u.wp p).step = a.stepAfter (a.evalWindow w) p tr :=
  ⟨_, h.gives_powerStepEval hon hgrid, fun _ _ hp htr hserved hpower htrack hfired =>
    a.step_evalModules hw hp hserved hpower htrack htr hfired⟩

/-- What a command gives is the same whenever it is given, but for the queue. -/
theorem Gives.wp_eq {c : Instr} {v : State} (hu : Gives c s u) (hv : Gives c s v) (p : Nat) : u.wp p = v.wp p := by
  have hnext : s.keepQueue u = s.keepQueue v := Host.Outcome.next.inj (Eq.trans (Eq.symm hu) hv)
  rw [State.wp, ← State.waves_keepQueue s u, hnext, State.waves_keepQueue, State.wp]

end

/-! ### A stream of no track -/

/-- A line that fired 1 µs ago, and consumed 10 kJ. -/
def greedyLine : PortLine := { f := 999000, tl := 999000, energy := 10 ^ 15, started := true }

/-- Both engines are online. The stream of the modules 112 and 113 names track 0x403, whose TRACK_RATED would stand where engine 1
shows the steps of the ports 112 to 119. Module 112 stands at step 2, which that register does not show yet. -/
def trackless : State :=
  { (State.reset.set (F.WE_STATUS_STATE 0) 1).set (F.WE_STATUS_STATE 1) 1 with
    core := .run
    now := 1000000
    geo := { rows := [{ port := 112 }, { port := 113 }] }
    streams := ⟨[(0, { st := 1, bind := { track := 0x403, planeMask := 1 } })]⟩
    ports := ⟨[(112, { lines := [greedyLine] }), (113, { lines := [greedyLine] })]⟩
    waves := ⟨[(112, { powerMax := 1, step := 2 }), (113, { powerMax := 1 })]⟩ }

/-- Before the evaluation the rated rate reads 0, which asks for no step. -/
theorem stepAfter_trackless : (trackless.advance 1000000).stepAfter 1000000 113 0x403 = 0 := by decide +kernel

/-- Module 112 steps to 1 first; module 113 then reads that step as its rated rate. -/
theorem step_evalModules_trackless : (((trackless.advance 1000000).evalModules 1 1000000).wp 113).step = 8 := by decide +kernel

theorem trackless_evaluates : (trackless.advance 1000000).waveOn 1 = true ∧ (trackless.advance 1000000).evalWindow 1 = 1000000 ∧
    (trackless.advance 1000000).devTime % 1000000 = 0 ∧ (trackless.advance 1000000).waveServer 113 = some 1 ∧
    ((trackless.advance 1000000).wp 113).powerMax ≠ 0 ∧ (trackless.advance 1000000).portTrack 113 = some 0x403 ∧
    (trackless.advance 1000000).firedLines 113 1000000 ≠ [] := by decide +kernel

/-- Refutes O39: where a stream names a track above 15, its TRACK_RATED can stand in the registers of an engine, and the step of
one module, once it is shown, changes the demand of the next. What holds of the rows, and of POWER_STEP_EVAL within the 16 tracks,
is `Live.waveTempUpdate_takesEffect`, `Live.waveEngineOverrun_takesEffect` and `Live.powerStepEval_takesEffect`. -/
theorem not_waveEngineCommandsTakeEffect : ¬ Obligations.WaveEngineCommandsTakeEffect := by
  intro h
  have hlive : Live trackless 1000000 (trackless.advance 1000000) := ⟨rfl, rfl⟩
  obtain ⟨hon, hwindow, hgrid, hserved, hpower, htrack, hfired⟩ := trackless_evaluates
  have hrun := hlive.gives_powerStepEval hon (hwindow ▸ hgrid)
  obtain ⟨-, -, heval⟩ := h _ _ _ hlive
  rw [← hwindow] at hgrid hfired
  obtain ⟨u, hgives, hsteps⟩ := heval 1 (by decide) hon hgrid
  have hzero : (u.wp 113).step = (trackless.advance 1000000).stepAfter ((trackless.advance 1000000).evalWindow 1) 113 0x403 :=
    hsteps 113 0x403 (by decide) hserved hpower htrack hfired
  rw [hgives.wp_eq hrun, hwindow, step_evalModules_trackless, stepAfter_trackless] at hzero
  exact absurd hzero (by decide)

end Sys2Proof.Machine
end

section
/-! The sequenced frames that a head port receives: what is owed for a frame by its SEQ (R239). -/

namespace Sys2Proof.Machine

/-! ### Arrivals and what is owed for them -/

section
variable (s : State) (p : Nat)

@[simp] theorem State.port_noteRx : (s.noteRx p).port p = { s.port p with lastRx := s.now } := s.port_setPort_same p _

theorem State.port_noteRx_other {k : Nat} (h : k ≠ p) : (s.noteRx p).port k = s.port k := s.port_setPort_other _ h

@[simp] theorem State.inSeq_oweAck : ((s.oweAck p).port p).inSeq = (s.port p).inSeq := by
  rw [State.oweAck, State.port_setPort_same]

@[simp] theorem State.nakOut_oweAck : ((s.oweAck p).port p).nakOut = (s.port p).nakOut := by
  rw [State.oweAck, State.port_setPort_same]

/-- An ACK that comes to be owed takes the place of every earlier one. -/
@[simp] theorem State.ack_mem_owed_oweAck {q : Nat} :
    Msg.ack q ∈ ((s.oweAck p).port p).owed ↔ q = ((s.port p).inSeq + 65535) % 65536 := by
  rw [State.oweAck, State.port_setPort_same]
  simp

theorem State.port_oweAck_other {k : Nat} (h : k ≠ p) : (s.oweAck p).port k = s.port k := s.port_setPort_other _ h

/-- A NAK is owed once. -/
theorem State.port_oweNak : (s.oweNak p).port p = { s.port p with
    nakOut := true, owed := (s.port p).owed ++ (if (s.port p).nakOut then [] else [.nak (s.port p).inSeq]) } := by
  unfold State.oweNak
  extract_lets x
  split
  next h => simp [← h, x]
  next => simp [x]

@[simp] theorem State.regs_oweNak : (s.oweNak p).regs = s.regs := by
  unfold State.oweNak
  extract_lets x
  exact (apply_ite State.regs _ _ _).trans (ite_self _)

end

/-! ### The three cases of R239 -/

/-- The port takes the frame that it expects. -/
def State.takeNext (s : State) (p : Nat) : State :=
  ((s.noteRx p).setPort p { (s.noteRx p).port p with inSeq := ((s.port p).inSeq + 1) % 65536, nakOut := false }).oweAck p

section
variable (s : State) (p : Nat)

theorem State.inSeq_takeNext : ((s.takeNext p).port p).inSeq = ((s.port p).inSeq + 1) % 65536 := by simp [State.takeNext]

theorem State.nakOut_takeNext : ((s.takeNext p).port p).nakOut = false := by simp [State.takeNext]

/-- The frame taken is the one before the frame expected next. -/
theorem State.ack_mem_owed_takeNext {q : Nat} (h : (s.port p).inSeq < 65536) :
    Msg.ack q ∈ ((s.takeNext p).port p).owed ↔ q = (s.port p).inSeq := by
  have hlast : (((s.port p).inSeq + 1) % 65536 + 65535) % 65536 = (s.port p).inSeq := by omega
  rw [State.takeNext, State.ack_mem_owed_oweAck, State.port_setPort_same, hlast]

theorem State.port_takeNext_other {k : Nat} (h : k ≠ p) : (s.takeNext p).port k = s.port k := by
  rw [State.takeNext, State.port_oweAck_other _ _ h, State.port_setPort_other _ _ h, State.port_noteRx_other _ _ h]

/-- A frame taken shows in no register and sends nothing yet. -/
theorem State.takeNext_keeps : (s.takeNext p).regs = s.regs ∧ (s.takeNext p).sent = s.sent := by
  simp [State.takeNext, State.oweAck, State.noteRx]

end

section
variable {s : State} {p seq : Nat} (f : State → State)

theorem State.headIn_expected (h : s.auxRx p = true) : s.headIn p (s.port p).inSeq f = f (s.takeNext p) := by
  simp [State.headIn, h, State.takeNext]

theorem State.headIn_duplicate (h : s.auxRx p = true) (hne : seq ≠ (s.port p).inSeq)
    (hd : ((s.port p).inSeq + 65536 - seq) % 65536 ≤ 32768) : s.headIn p seq f = (s.noteRx p).oweAck p := by
  simp [State.headIn, h, hne, hd]

theorem State.headIn_gap (h : s.auxRx p = true) (hg : 32768 < ((s.port p).inSeq + 65536 - seq) % 65536) :
    s.headIn p seq f = (s.noteRx p).oweNak p := by
  have hne : seq ≠ (s.port p).inSeq := fun heq => by
    subst heq
    simp at hg
  simp [State.headIn, h, hne, not_le.2 hg]

end

/-- Settles O43, by the three cases of R239. -/
theorem sequencedFramesAreTakenInOrder : Obligations.SequencedFramesAreTakenInOrder := by
  intro s p seq f haux _ hin
  refine ⟨fun heq => ?_, fun hne hd => ?_, fun hg => ?_⟩
  · subst heq
    have hack : ∀ q, Msg.ack q ∈ ((s.takeNext p).port p).owed ↔ q = (s.port p).inSeq := fun q => s.ack_mem_owed_takeNext p hin
    exact ⟨s.takeNext p, State.headIn_expected f haux, s.inSeq_takeNext p, s.nakOut_takeNext p, (hack _).2 rfl,
      fun q => (hack q).1, fun k hk => s.port_takeNext_other p hk, s.takeNext_keeps p⟩
  · rw [State.headIn_duplicate f haux hne hd, State.inSeq_oweAck, State.nakOut_oweAck, State.ack_mem_owed_oweAck, State.port_noteRx]
    exact ⟨rfl, rfl, rfl, rfl⟩
  · rw [State.headIn_gap f haux hg, State.port_oweNak, State.port_noteRx, State.regs_oweNak]
    exact ⟨rfl, rfl, rfl, rfl⟩

end Sys2Proof.Machine
end

section
/-! The registers of the head ports: what events, lines that stop and ports that leave their links change of them (R229, R257,
R348, R394). -/

namespace Sys2Proof.Machine

/-! ### Events and the Pantry (R348, R394) -/

section
variable {s u : State} {off : Nat} (hlow : 0x20000 ≤ off) (hhigh : off < 0xA0000)
include hlow hhigh

theorem SameAt.touchBank (h : SameAt off s u) (b : Nat) : SameAt off s (u.touchBank b) := by
  unfold State.touchBank
  refine .ite h ?_
  extract_lets x s1
  have h1 : SameAt off s s1 := h
  exact .ite h1 ((h1.set _ (by simp only [F.BK_STATUS_REST]; omega)).bump _ (by simp only [F.PANTRY_WAKE_TOTAL]; omega))

theorem SameAt.checkWord (h : SameAt off s u) (w : Nat) (patrol : Bool) : SameAt off s (u.checkWord w patrol).2 := by
  have hne : ∀ x, 0xA0000 ≤ x → off ≠ x := fun x hx => by omega
  unfold State.checkWord
  extract_lets m b s1 s2 s3
  split
  · exact h
  split
  · have hp : SameAt off s { u with perr := u.perr.set 0 w 0 } := h
    have h1 : SameAt off s s1 := (hp.bump _ (hne _ (by simp only [F.BK_ERR_CORR]; omega))).bump _ (hne _ (by decide))
    exact (h1.cause _ (hne _ (by decide))).summary _ _ (by omega)
  · have h2 : SameAt off s s2 := ((h.bump _ (hne _ (by simp only [F.BK_ERR_UNCORR]; omega))).bump _ (hne _ (by decide))).set _
      (hne _ (by decide))
    have h3 : SameAt off s s3 := ((h2.set _ (hne _ (by decide))).set _ (hne _ (by decide))).set _ (hne _ (by decide))
    exact (h3.cause _ (hne _ (by decide))).summary _ _ (by omega)

theorem SameAt.mergeWord (h : SameAt off s u) (w : Nat) : SameAt off s (u.mergeWord w).2 := by
  have hc := h.checkWord hlow hhigh w false
  unfold State.mergeWord
  exact .ite hc hc

theorem SameAt.pwrite (h : SameAt off s u) (a : Nat) (l : List Byte) : SameAt off s (u.pwrite a l) := by
  unfold State.pwrite State.pwriteCheck
  split
  · exact h
  · extract_lets e part
    have hwords := foldl_keeps (fun r : Bool × State => SameAt off s r.2)
      (fun r w => ((r.2.mergeWord w).1 || r.1, (r.2.mergeWord w).2)) (fun r w hr => hr.mergeWord hlow hhigh w) part
      (false, u.touchBank (bankOf a)) (h.touchBank hlow hhigh _)
    exact hwords

theorem SameAt.writeEvent (h : SameAt off s u) (code time : Nat) (data : List Byte) :
    SameAt off s (u.writeEvent code time data) :=
  .cause (.set (.pwrite hlow hhigh h _ _) _ (by simp only [F.PORCH_EV_WRITE]; omega)) _
    (by simp only [F.PORCH_EV_INT_STATUS_RECORD]; omega)

theorem SameAt.flushLost (h : SameAt off s u) : SameAt off s u.flushLost := by
  have hw := h.writeEvent hlow hhigh 0xF u.devTime (leBytes 4 u.evLostPend)
  exact .ite hw h

/-- An event is counted in the registers of the porches and of the Pantry alone. -/
theorem SameAt.postEventAt (h : SameAt off s u) (code time : Nat) (data : List Byte) :
    SameAt off s (u.postEventAt code time data) := by
  have hf := h.flushLost hlow hhigh
  have hlost := (hf.bump (f := F.PORCH_EV_LOST) 1 (by simp only [F.PORCH_EV_LOST]; omega)).cause
    (f := F.PORCH_EV_INT_STATUS_LOST) 1 (by simp only [F.PORCH_EV_INT_STATUS_LOST]; omega)
  exact .ite (.ite (hf.writeEvent hlow hhigh _ _ _) hlost) h

theorem SameAt.postEvent (h : SameAt off s u) (code : Nat) (data : List Byte) : SameAt off s (u.postEvent code data) :=
  h.postEventAt hlow hhigh _ _ _

end

/-! ### Counts and causes of a port -/

section
variable {s u : State} {off : Nat}

theorem SameTiming.portCause (h : SameTiming s u) (p bit : Nat) : SameTiming s (u.portCause p bit) :=
  ((((h.set _ _).set _ _).set _ _).setArrBit _ _ _).causeBit _ _

theorem SameAt.setFree (h : SameAt off s u) (n : Nat) : SameAt off s { u with free := n } := h

theorem SameAt.portCount (h : SameAt off s u) (p k : Nat) : SameAt off s (u.portCount p k) := h

theorem SameAt.portCause (h : SameAt off s u) (p bit : Nat) (hoff : off < 0x61000) : SameAt off s (u.portCause p bit) := by
  have hne : ∀ x, 0x61000 ≤ x → off ≠ x := fun x hx => by omega
  exact .causeBit (.setArrBit (.set (.set (.set h _ (hne _ (by decide))) _ (hne _ (by decide))) _ (hne _ (by decide))) _ _
    (hne _ (by simp only [F.HEADPORT_FAULT_PEND]; omega))) _ (hne _ (by decide))

theorem SameAt.countOutcome (h : SameAt off s u) (k : Nat) (hoff : off < 0xE0000) : SameAt off s (u.countOutcome k) := by
  unfold State.countOutcome
  split
  · exact h.summary _ _ hoff
  · exact h.summary _ _ hoff
  · exact h.summary _ _ hoff
  · exact h.summary _ _ hoff
  · exact h

theorem SameAt.stopWave (h : SameAt off s u) (p : Nat) : SameAt off s (u.stopWave p) := by
  unfold State.stopWave
  split
  · exact h
  · split
    · exact .ite h h
    · exact h

end

/-! ### A port that leaves its link (R226, R229, R257) -/

/-- A register of the ports other than STATUS and LINE_ERR of port `p`. -/
def PortWord (p off : Nat) : Prop :=
  0x60000 ≤ off ∧ off < 0x61000 ∧ off ≠ (F.HP_STATUS p).off ∧ off ≠ (F.HP_LINE_ERR p).off

section
variable {s u : State} {p off : Nat} (hw : PortWord p off)
include hw

theorem SameAt.portDropped (h : SameAt off s u) : SameAt off s (u.portDropped p) := by
  obtain ⟨-, hhigh, -, hline⟩ := hw
  have hcounts := ((h.bump (f := F.HP_LINE_ERR_DROPPED p) 1 hline).bump (f := F.HEADPORT_DROPPED_TOTAL) 1
    (by simp only [F.HEADPORT_DROPPED_TOTAL]; omega)).portCount p 5
  exact hcounts.portCause p 7 hhigh

theorem SameAt.logCut (h : SameAt off s u) (q line cause : Nat) : SameAt off s (u.logCut q line cause) := by
  have hne : ∀ x, 0x61000 ≤ x → off ≠ x := fun x hx => by have := hw.2.1; omega
  refine .set (.set (.set (.set (.set h _ ?_) _ ?_) _ ?_) _ ?_) _ ?_ <;> exact hne _ (by decide)

theorem SameAt.stopLines (h : SameAt off s u) (cut : Option Nat) : SameAt off s (u.stopLines p cut) := by
  unfold State.stopLines
  extract_lets x d new s1 s2
  have h2 : SameAt off s s2 := by
    refine foldl_keeps (SameAt off s) _ (fun a q ha => ?_) _ _ (h.setPort p _)
    have hb := ha.countOutcome q.2.outcome (hw.2.1.trans (by decide))
    refine .ite ha (.ite (hb.portDropped hw) (.ite ?_ hb))
    split
    · exact (hb.bump _ (by have := hw.2.1; simp only [F.THERM_HEAD_CUT_TOTAL]; omega)).logCut hw _ _ _
    · exact (hb.logCut hw _ _ _).setFree _
  exact h2.stopWave p

omit hw in
theorem SameAt.endMaint (h : SameAt off s u) (ended : Nat) (hlow : 0x20000 ≤ off) (hhigh : off < 0x90000) :
    SameAt off s (u.endMaint p ended) := by
  unfold State.endMaint
  split
  · exact h
  · extract_lets y s1 short ids w s2 busy s3
    have h1 : SameAt off s s1 := h.setPort p _
    have h2 : SameAt off s s2 := h1
    have h3 : SameAt off s s3 := (h2.set _ (by simp only [F.WATCH_STATUS_LEARN_BUSY]; omega)).cause _
      (by simp only [F.WATCH_INT_STATUS_LEARN_DONE]; omega)
    exact .ite (h3.postEvent hlow (by omega) _ _) (h1.postEvent hlow (by omega) _ _)

theorem SameAt.leavePort (h : SameAt off s u) (cut : Option Nat) : SameAt off s (u.leavePort p cut) := by
  obtain ⟨hlow, hhigh, -⟩ := id hw
  exact ((h.stopLines hw cut).endMaint 2 (by omega) (by omega)).setPort p _

theorem SameAt.enterPort (h : SameAt off s u) (st : Nat) : SameAt off s (u.enterPort p st) := by
  obtain ⟨-, hhigh, hstatus, -⟩ := hw
  unfold State.enterPort
  extract_lets x s1 s2 s3
  have h1 : SameAt off s s1 := (h.setPort p _).set _ hstatus
  have h3 : SameAt off s s3 := ((h1.setArrBit _ _ (by simp only [F.HEADPORT_UP]; omega)).setArrBit _ _
    (by simp only [F.HEADPORT_DEGRADED]; omega)).setArrBit _ _ (by simp only [F.HEADPORT_REFUSED]; omega)
  exact .ite h3 (h3.set _ hstatus)

/-- A link that goes down counts itself alone in the registers of the ports but STATUS and LINE_ERR (R241). -/
theorem SameAt.portDown_uncounted (h : SameAt off s u) (cut : Option Nat) : SameAt off s (u.portDown p false cut) :=
  ((h.leavePort hw cut).enterPort hw 7).portCause p 1 hw.2.1

end

end Sys2Proof.Machine
end

section
/-! The frames that a head port sends, and their acknowledgements (R238 to R242, R244). -/

namespace Sys2Proof.Machine

/-! ### Counters of a link (R240, R241) -/

section
variable (s : State) (p : Nat)

@[simp] theorem State.port_portCount (k : Nat) : (s.portCount p k).port p =
    { s.port p with counts := (s.port p).counts.set k (satAdd 32 ((s.port p).counts.getD k 0) 1) } := s.port_setPort_same p _

@[simp] theorem State.port_bump (f : Fld) (n : Nat) : (s.bump f n).port p = s.port p := rfl

@[simp] theorem State.port_summary (k n : Nat) : (s.summary k n).port p = s.port p := ((SameTiming.refl s).summary k n).port p

/-- A counted event of a link changes of its port the counts of HEAD_QUERY alone. -/
theorem State.port_linkErr (k : Nat) :
    (s.linkErr p k).port p = { s.port p with counts := ((s.linkErr p k).port p).counts } := by
  unfold State.linkErr
  split
  all_goals simp only [State.port_portCount, State.port_bump, State.port_summary]

/-- The field of HP_LINK_ERR that counts an event of a link. -/
def linkErrFld (p : Nat) : Nat → Fld
  | 0 => F.HP_LINK_ERR_RETRY p
  | 1 => F.HP_LINK_ERR_NAK p
  | 2 => F.HP_LINK_ERR_TIMEOUT p
  | _ => F.HP_LINK_ERR_DOWN p

theorem linkErrFld_off (k : Nat) : (linkErrFld p k).off = (F.HP_LINK_ERR p).off := by
  unfold linkErrFld
  split <;> rfl

theorem linkErrFld_width (k : Nat) : (linkErrFld p k).width = 8 ∧ (linkErrFld p k).lo + (linkErrFld p k).width ≤ 32 := by
  unfold linkErrFld
  split <;> exact ⟨rfl, Nat.le_of_ble_eq_true rfl⟩

theorem linkErrFld_apart {k : Nat} (hk : k < 3) : (linkErrFld p 3).apart (linkErrFld p k) := by
  refine .inr (.inr ?_)
  match k, hk with
  | 0, _ => exact Nat.le_of_ble_eq_true rfl
  | 1, _ => exact Nat.le_of_ble_eq_true rfl
  | 2, _ => exact Nat.le_of_ble_eq_true rfl

variable {p} (hp : p < 128)
include hp

theorem portWord_linkErr : PortWord p (F.HP_LINK_ERR p).off := by
  simp only [PortWord, F.HP_LINK_ERR, F.HP_STATUS, F.HP_LINE_ERR]
  omega

/-- In HP_LINK_ERR an event of a link counts in its own field alone. -/
theorem State.sameAt_linkErr (k : Nat) : SameAt (F.HP_LINK_ERR p).off (s.bump (linkErrFld p k)) (s.linkErr p k) := by
  have hne : ∀ x, 0x61000 ≤ x → (F.HP_LINK_ERR p).off ≠ x := fun x hx => by
    simp only [F.HP_LINK_ERR]
    omega
  have hlow : (F.HP_LINK_ERR p).off < 0xE0000 := by
    simp only [F.HP_LINK_ERR]
    omega
  match k with
  | 0 => exact ((SameAt.refl _ _).bump (f := F.HEADPORT_RETRY_TOTAL) _ (hne _ (by decide))).portCount _ _
  | 1 => exact ((SameAt.refl _ _).bump (f := F.HEADPORT_NAK_TOTAL) _ (hne _ (by decide))).portCount _ _
  | 2 => exact ((SameAt.refl _ _).bump (f := F.HEADPORT_TIMEOUT_TOTAL) _ (hne _ (by decide))).portCount _ _
  | _ + 3 => exact (((SameAt.refl _ _).bump (f := F.HEADPORT_LINK_DOWN_TOTAL) _ (hne _ (by decide))).summary _ _ hlow).portCount _ _

theorem State.get_linkErr_same (k : Nat) : (s.linkErr p k).get (linkErrFld p k) = min (s.get (linkErrFld p k) + 1) 255 := by
  obtain ⟨hwidth, hfit⟩ := linkErrFld_width p k
  have h := s.sameAt_linkErr hp k
  rw [← linkErrFld_off p k] at h
  rw [h.get, State.get_bump_satAdd _ _ hfit, satAdd, hwidth]
  rfl

theorem State.get_linkErr_down {k : Nat} (hk : k < 3) : (s.linkErr p 3).get (linkErrFld p k) = s.get (linkErrFld p k) := by
  have h := s.sameAt_linkErr hp 3
  rw [← linkErrFld_off p k] at h
  rw [h.get]
  exact s.get_set_apart _ (linkErrFld_width p 3).2 (linkErrFld_apart p hk)

end

/-! ### A link that goes down (R241) -/

section
variable (s : State) {p : Nat}

theorem State.port_enterPort (st : Nat) : (s.enterPort p st).port p = { s.port p with st := st, since := s.now } := by
  unfold State.enterPort
  extract_lets x s1 s2 s3
  have h1 : s1.port p = { x with st := st, since := s.now } := s.port_setPort_same p _
  have h3 : SameTiming s1 s3 := (((SameTiming.refl s1).setArrBit _ _ _).setArrBit _ _ _).setArrBit _ _ _
  exact ((SameTiming.ite h3 (h3.set _ _)).port p).trans h1

/-- A port that goes down is in state DOWN, whatever is counted of it. -/
theorem State.st_portDown (counted : Bool) (cut : Option Nat) : ((s.portDown p counted cut).port p).st = 7 := by
  unfold State.portDown
  extract_lets s1
  have h1 : (s1.port p).st = 7 := by
    rw [((SameTiming.refl _).portCause p 1).port, State.port_enterPort]
  split
  · rw [s1.port_linkErr p 3]
    exact h1
  · exact h1

theorem State.linkDown_linked (hst : 2 ≤ (s.port p).st ∧ (s.port p).st ≤ 6) :
    s.linkDown p = (s.portDown p false none).linkErr p 3 := by
  rw [State.linkDown, if_pos hst]
  rfl

theorem State.st_linkDown (hst : 2 ≤ (s.port p).st ∧ (s.port p).st ≤ 6) : ((s.linkDown p).port p).st = 7 := by
  rw [State.linkDown, if_pos hst]
  exact s.st_portDown true none

/-- A link that goes down leaves the counts of resends, NAKs and expiries. -/
theorem State.get_linkDown (hp : p < 128) {k : Nat} (hk : k < 3) :
    (s.linkDown p).get (linkErrFld p k) = s.get (linkErrFld p k) := by
  by_cases hst : 2 ≤ (s.port p).st ∧ (s.port p).st ≤ 6
  · have h := SameAt.portDown_uncounted (portWord_linkErr hp) (.refl s _) none
    rw [← linkErrFld_off p k] at h
    rw [s.linkDown_linked hst, State.get_linkErr_down _ hp hk, h.get]
  · rw [State.linkDown, if_neg hst]

end

/-! ### Failures (R240, R241) -/

/-- A port whose frame `seq` has failed: the frame, if it is held, waits to be resent with every later one. -/
def Port.failed (x : Port) (seq : Nat) : Port :=
  { (if x.replay.any (fun f => decide (f.seq = seq)) then x.resendFrom seq else x) with failures := x.failures + 1 }

theorem Port.failed_of_held {x : Port} {seq : Nat} (h : x.replay.any (fun f => decide (f.seq = seq)) = true) :
    (x.failed seq).replay = x.replay.map (fun f => if ackCovers f.seq seq then { f with resend := true } else f) := by
  rw [Port.failed, if_pos h]
  rfl

theorem Port.failed_keeps (x : Port) (seq : Nat) : (x.failed seq).st = x.st ∧ (x.failed seq).failures = x.failures + 1 := by
  unfold Port.failed
  split <;> exact ⟨rfl, rfl⟩

section
variable (s : State) {p : Nat} (seq : Nat)

theorem State.linkFailure_early (hf : (s.port p).failures < 7) (hr : ∀ f ∈ (s.port p).replay, f.retries < 4) :
    s.linkFailure p seq = s.setPort p ((s.port p).failed seq) := by
  have hworn : ((s.port p).replay.any fun f => decide (f.seq = seq ∧ 4 ≤ f.retries)) = false := by
    simp only [List.any_eq_false, decide_eq_true_eq, not_and]
    exact fun f hmem _ => not_le.2 (hr f hmem)
  have hfew : ¬ 8 ≤ (s.port p).failures + 1 := by omega
  simp only [State.linkFailure, hworn, hfew]
  rfl

theorem State.linkFailure_eighth (hf : 7 ≤ (s.port p).failures) :
    s.linkFailure p seq = (s.setPort p ((s.port p).failed seq)).linkDown p := by
  have hmany : 8 ≤ (s.port p).failures + 1 := by omega
  simp only [State.linkFailure, hmany, or_true, if_true]
  rfl

theorem State.get_linkFailure (hp : p < 128) {k : Nat} (hk : k < 3) :
    (s.linkFailure p seq).get (linkErrFld p k) = s.get (linkErrFld p k) := by
  unfold State.linkFailure
  extract_lets x worn held y s1
  split
  · exact s1.get_linkDown hp hk
  · rfl

theorem State.st_linkFailure (hst : 2 ≤ (s.port p).st ∧ (s.port p).st ≤ 6) (hf : 7 ≤ (s.port p).failures) :
    ((s.linkFailure p seq).port p).st = 7 := by
  rw [s.linkFailure_eighth seq hf]
  refine State.st_linkDown _ ?_
  rwa [State.port_setPort_same, ((s.port p).failed_keeps seq).1]

end

end Sys2Proof.Machine
end

section
/-! The rows of the frames that a head port sends, and of their acknowledgements (R238 to R242, R244). -/

namespace Sys2Proof.Machine

/-! ### Transmission (R238, R244) -/

/-- Two states agree in the queue of lines, the next SEQ and the replay buffer of a port. -/
def SameOut (p : Nat) (s u : State) : Prop :=
  (u.port p).lineQ = (s.port p).lineQ ∧ (u.port p).outSeq = (s.port p).outSeq ∧ (u.port p).replay = (s.port p).replay

section
variable {s u : State} {p : Nat}

theorem SameOut.refl (p : Nat) (s : State) : SameOut p s s := ⟨rfl, rfl, rfl⟩

theorem SameOut.timing {v : State} (h : SameOut p s u) (h' : SameTiming u v) : SameOut p s v := by
  rw [SameOut, h'.port]
  exact h

theorem SameOut.setPort (h : SameOut p s u) {x : Port} (hq : x.lineQ = (u.port p).lineQ) (hs : x.outSeq = (u.port p).outSeq)
    (hr : x.replay = (u.port p).replay) : SameOut p s (u.setPort p x) := by
  rw [SameOut, State.port_setPort_same, hq, hs, hr]
  exact h

theorem SameOut.ite {v : State} {c : Prop} [Decidable c] (hu : SameOut p s u) (hv : SameOut p s v) :
    SameOut p s (if c then u else v) := by
  split
  · exact hu
  · exact hv

theorem SameOut.portCount (h : SameOut p s u) (k : Nat) : SameOut p s (u.portCount p k) := h.setPort rfl rfl rfl

theorem SameOut.putFrame (h : SameOut p s u) (bytes : List Byte) : SameOut p s (u.putFrame p bytes) := by
  have hport : SameOut p s (u.setPort p { u.port p with busyUntil := (u.now : Int) + (u.wireTime p bytes.length).ceil }) :=
    h.setPort rfl rfl rfl
  exact hport.timing ((SameTiming.refl _).emit _)

theorem SameOut.blankLine (h : SameOut p s u) (line : Nat) (row : Option Nat) : SameOut p s (u.blankLine p line row) := by
  unfold State.blankLine
  extract_lets x fix fresh s1
  have hfix : SameOut p s (u.setPort p { x with lines := x.lines.map fix }) := h.setPort rfl rfl rfl
  have h1 : SameOut p s s1 := hfix.timing ((SameTiming.refl _).portCause p 4)
  exact .ite ((h1.timing (((SameTiming.refl _).bump _ _).bump _ _)).portCount 4) h1

/-- A frame that is sent for the first time joins the replay buffer. -/
theorem State.transmit_first (s : State) (p : Nat) (f : OutFrame) : ∃ g : OutFrame, g.seq = f.seq ∧ g.resend = false ∧
    ((s.transmit p f false).port p).lineQ = (s.port p).lineQ ∧ ((s.transmit p f false).port p).outSeq = (s.port p).outSeq ∧
      ((s.transmit p f false).port p).replay = (s.port p).replay ++ [g] := by
  unfold State.transmit
  extract_lets miss blank msg bytes s1 done x s2 s3
  obtain ⟨hq, hs, hr⟩ : SameOut p s s1 := (SameOut.refl p s).putFrame bytes
  have hsent : ∀ {u}, SameOut p s3 u → (u.port p).lineQ = (s.port p).lineQ ∧ (u.port p).outSeq = (s.port p).outSeq ∧
      (u.port p).replay = (s.port p).replay ++ [done] := fun ⟨hq', hs', hr'⟩ => by
    simp [hq', hs', hr', s3, s2, x, hq, hs, hr]
  refine ⟨done, rfl, rfl, ?_⟩
  split
  · split
    · exact hsent ((SameOut.refl p s3).blankLine _ _)
    · exact hsent (.refl p s3)
  · exact hsent (.refl p s3)

/-- A new frame takes the next SEQ. -/
theorem State.sendNew_sends (s : State) (p : Nat) (f : OutFrame) : ∃ g : OutFrame, g.seq = (s.port p).outSeq ∧ g.resend = false ∧
    ((s.sendNew p f).port p).lineQ = (s.port p).lineQ ∧ ((s.sendNew p f).port p).outSeq = ((s.port p).outSeq + 1) % 65536 ∧
      ((s.sendNew p f).port p).replay = (s.port p).replay ++ [g] := by
  unfold State.sendNew
  extract_lets x waits
  have h := State.transmit_first (s.setPort p { x with outSeq := (x.outSeq + 1) % 65536, waits := waits }) p { f with seq := x.outSeq }
  rwa [State.port_setPort_same] at h

end

section
variable (s : State) {p : Nat}

theorem State.owed_putFrame (bytes : List Byte) : ((s.putFrame p bytes).port p).owed = (s.port p).owed := by
  rw [State.putFrame, ((SameTiming.refl _).emit _).port, State.port_setPort_same]

theorem State.sendFrame_owed {q : Nat} {rest : List Msg} (h : (s.port p).owed = .ack q :: rest) :
    s.sendFrame p = (s.setPort p { s.port p with owed := rest }).putFrame p (frameBytes 16 q false []) := by
  unfold State.sendFrame
  simp only [h]
  rfl

/-- A port that has nothing to resend. -/
def State.noReplay (s : State) (p : Nat) : State := s.setPort p { s.port p with replayOn := false }

/-- A port that has taken the next frame of its line queue, with nothing to resend. -/
def State.takeLine (s : State) (p : Nat) (rest : List OutFrame) : State :=
  (s.noReplay p).setPort p { (s.noReplay p).port p with lineQ := rest }

theorem State.replayFull_noReplay : (s.noReplay p).replayFull p = s.replayFull p := by
  simp only [State.replayFull, State.noReplay, State.port_setPort_same]
  rfl

theorem State.lineReady_noReplay : (s.noReplay p).lineReady p = s.lineReady p := by
  simp only [State.lineReady, State.noReplay, State.port_setPort_same]
  rfl

theorem State.takeLine_sends (rest : List OutFrame) : ((s.takeLine p rest).port p).lineQ = rest ∧
    ((s.takeLine p rest).port p).outSeq = (s.port p).outSeq ∧ ((s.takeLine p rest).port p).replay = (s.port p).replay := by
  simp only [State.takeLine, State.noReplay, State.port_setPort_same, and_self]

/-- With nothing owed and nothing to resend, and room in the replay buffer, the next frame of the line queue goes. -/
theorem State.sendFrame_line {f : OutFrame} {rest : List OutFrame} (howed : (s.port p).owed = []) (hghosts : (s.port p).ghosts = [])
    (hresend : (s.port p).replay.find? (·.resend) = none) (hroom : s.replayFull p = false) (hready : s.lineReady p = true)
    (hline : (s.port p).lineQ = f :: rest) : s.sendFrame p = (s.takeLine p rest).sendNew p f := by
  unfold State.sendFrame
  extract_lets x
  rw [howed, hghosts, hresend]
  change (if (s.noReplay p).replayFull p = true then s.noReplay p else _) = _
  rw [State.replayFull_noReplay, hroom, if_neg Bool.false_ne_true]
  change (if (s.noReplay p).lineReady p = true then _ else _) = _
  rw [State.lineReady_noReplay, hready, if_pos rfl, hline]
  rfl

end

/-! ### Acknowledgement (R239, R242) -/

/-- An ACK releases the frames that it covers. -/
theorem State.takeAck_releases (s : State) (p seq : Nat) : ((s.takeAck p seq).port p).lastRx = (s.port p).lastRx ∧
    ((s.takeAck p seq).port p).replay = (s.port p).replay.filter (fun f => !ackCovers seq f.seq) ∧
      ((s.port p).replay.any (fun f => ackCovers seq f.seq) = true → ((s.takeAck p seq).port p).failures = 0) := by
  unfold State.takeAck
  extract_lets x hit s1
  split
  next hnone =>
    have hfree : ∀ f ∈ x.replay, ¬ ackCovers seq f.seq = true := List.filter_eq_nil_iff.1 hnone
    refine ⟨rfl, (List.filter_eq_self.2 fun f hf => ?_).symm, fun hany => ?_⟩
    · rw [Bool.eq_false_iff.2 (hfree f hf), Bool.not_false]
    · obtain ⟨f, hf, hcov⟩ := List.any_eq_true.1 hany
      exact absurd hcov (hfree f hf)
  next =>
    have h1 : (s1.port p).lastRx = x.lastRx ∧ (s1.port p).replay = x.replay.filter (fun f => !ackCovers seq f.seq) ∧
        (s1.port p).failures = 0 := by
      simp only [s1, State.port_setPort_same, and_self]
    obtain ⟨hrx, hreplay, hfail⟩ := h1
    split
    · simp only [State.port_portCount, State.port_bump]
      exact ⟨hrx, hreplay, fun _ => hfail⟩
    · exact ⟨hrx, hreplay, fun _ => hfail⟩

/-! ### Resends and expiry (R240) -/

/-- A frame that waits for a resend from `seq` on and has this SEQ is marked. -/
theorem resend_of_seq {l : List OutFrame} {seq : Nat} {g : OutFrame}
    (hg : g ∈ l.map (fun f => if ackCovers f.seq seq then { f with resend := true } else f)) (hseq : g.seq = seq) :
    g.resend = true := by
  obtain ⟨f, -, rfl⟩ := List.mem_map.1 hg
  split at hseq
  next hcov => rw [if_pos hcov]
  next hcov =>
    refine absurd ?_ hcov
    rw [hseq, ackCovers, decide_eq_true_eq, Nat.add_sub_cancel_left]
    decide

/-- A port whose frame `seq` has expired. -/
def State.expire (s : State) (p seq : Nat) : State :=
  let x := s.port p
  s.setPort p { x with replay := x.replay.map (fun g => if g.seq = seq then { g with expired := true } else g) }

theorem State.port_expire (s : State) (p seq : Nat) : (s.expire p seq).port p = { s.port p with
    replay := (s.port p).replay.map (fun g => if g.seq = seq then { g with expired := true } else g) } := s.port_setPort_same p _

/-- The expiry of frames leaves their SEQ and the number of their retries. -/
theorem expired_keeps {l : List OutFrame} {seq : Nat} {g : OutFrame}
    (hg : g ∈ l.map (fun g => if g.seq = seq then { g with expired := true } else g)) :
    ∃ f ∈ l, g.seq = f.seq ∧ g.retries = f.retries := by
  obtain ⟨f, hf, rfl⟩ := List.mem_map.1 hg
  refine ⟨f, hf, ?_⟩
  split <;> exact ⟨rfl, rfl⟩

/-- A frame that is held is held after its expiry. -/
theorem any_expired {l : List OutFrame} {f : OutFrame} (hf : f ∈ l) :
    (l.map (fun g => if g.seq = f.seq then { g with expired := true } else g)).any (fun g => decide (g.seq = f.seq)) = true := by
  refine List.any_eq_true.2 ⟨{ f with expired := true }, List.mem_map.2 ⟨f, hf, if_pos rfl⟩, ?_⟩
  simp

/-! ### The commands -/

theorem State.auxRx_linked {s : State} {p : Nat} (h : s.auxRx p = true) : 2 ≤ (s.port p).st ∧ (s.port p).st ≤ 6 := by
  simp only [State.auxRx, Bool.and_eq_true, decide_eq_true_eq] at h
  obtain ⟨⟨⟨-, hst⟩, -⟩, -⟩ := h
  exact hst

/-- The state after an event `k` of a link and the failure of frame `seq` in it. -/
def State.failAfter (s : State) (p k seq : Nat) : State := (s.linkErr p k).linkFailure p seq

section
variable (s : State) {p : Nat} (k seq : Nat)

theorem State.get_failAfter (hp : p < 128) (hk : k < 3) :
    (s.failAfter p k seq).get (linkErrFld p k) = min (s.get (linkErrFld p k) + 1) 255 := by
  rw [State.failAfter, State.get_linkFailure _ seq hp hk, State.get_linkErr_same s hp]

theorem State.st_failAfter (hst : 2 ≤ (s.port p).st ∧ (s.port p).st ≤ 6) (hf : 7 ≤ (s.port p).failures) :
    ((s.failAfter p k seq).port p).st = 7 := by
  have h := s.port_linkErr p k
  refine State.st_linkFailure _ seq ?_ ?_
  · rw [h]
    exact hst
  · rw [h]
    exact hf

/-- Before the eighth failure the link stays up, and the frame waits to be resent with every later one. -/
theorem State.failAfter_early (hf : (s.port p).failures < 7) (hr : ∀ f ∈ (s.port p).replay, f.retries < 4) :
    ((s.failAfter p k seq).port p).failures = (s.port p).failures + 1 ∧
      ((s.port p).replay.any (fun f => decide (f.seq = seq)) = true → ((s.failAfter p k seq).port p).replay =
        (s.port p).replay.map (fun f => if ackCovers f.seq seq then { f with resend := true } else f)) := by
  have h := s.port_linkErr p k
  have hfail : ((s.linkErr p k).port p).failures = (s.port p).failures := by rw [h]
  have hreplay : ((s.linkErr p k).port p).replay = (s.port p).replay := by rw [h]
  rw [State.failAfter, State.linkFailure_early _ seq (hfail.trans_lt hf) (hreplay ▸ hr), State.port_setPort_same,
    ← hreplay, ← hfail]
  exact ⟨(Port.failed_keeps _ seq).2, Port.failed_of_held⟩

end

section
variable {s a : State} {t p : Nat} (hlive : Live s t a)
include hlive

theorem Live.gives_frameTransmit (hp : p < 128) (hst : 2 ≤ (a.port p).st) (hst' : (a.port p).st ≤ 6)
    (hgen : a.gen p = 2 ∨ a.gen p = 3) (hen : a.flag F.HEADPORT_HEADS_CTRL_LINK_EN = true) (hfree : (a.port p).busyUntil ≤ (a.now : Int)) :
    Gives (.frameTransmit t p) s (a.sendFrame p) := by
  have hstep := hlive.gives_of_coreStep (exec_frameTransmit t p s)
  dsimp only at hstep
  rwa [if_pos ⟨hp, hst, hst', hgen, hen, hfree⟩] at hstep

theorem Live.gives_headAckRx (seq : Nat) (hrx : a.auxRx p = true) :
    Gives (.headAckRx t p seq) s ((a.noteRx p).takeAck p seq) := by
  have hstep := hlive.gives_of_coreStep (exec_headAckRx t p seq s)
  rwa [if_pos hrx] at hstep

theorem Live.gives_headNakRx (seq : Nat) (hrx : a.auxRx p = true) :
    Gives (.headNakRx t p seq) s ((a.noteRx p).failAfter p 1 seq) := by
  have hstep := hlive.gives_of_coreStep (exec_headNakRx t p seq s)
  rwa [if_pos hrx] at hstep

theorem Live.gives_headAckTimeout {f : OutFrame} (hrx : a.auxRx p = true) (hf : a.expiredFrame p = some f) :
    Gives (.headAckTimeout t p) s ((a.expire p f.seq).failAfter p 2 f.seq) := by
  have hstep := hlive.gives_of_coreStep (exec_headAckTimeout t p s)
  dsimp only at hstep
  rwa [if_pos hrx, hf] at hstep

theorem Live.gives_headFrameDiscard (hrx : a.auxRx p = true) :
    Gives (.headFrameDiscard t p none) s ((a.noteRx p).oweNak p) := by
  have hstep := hlive.gives_of_coreStep (exec_headFrameDiscard t p none s)
  dsimp only at hstep
  rwa [if_pos hrx] at hstep

end

/-- Settles O41: each row runs as its own function of the state that the dues leave. An acknowledgement that is owed, or the
front of the line queue, is what `sendFrame` sends; an ACK filters the replay buffer; a NAK and an expired timer
count in their own field of HP_LINK_ERR, which a link that goes down leaves, and are one `linkFailure` of the frame. -/
theorem headFrameCommandsTakeEffect : Obligations.HeadFrameCommandsTakeEffect := by
  intro s a t p hlive hp
  refine ⟨?_, ?_, ?_, ?_, ?_, ?_⟩
  · intro q rest hst hst' hgen hen hfree howed
    refine ⟨_, hlive.gives_frameTransmit hp hst hst' hgen hen hfree, ?_⟩
    rw [a.sendFrame_owed howed]
    refine ⟨?_, rfl⟩
    rw [State.owed_putFrame, State.port_setPort_same]
  · intro f rest hst hst' hgen hen hfree howed hghosts hresend hroom hready hline
    obtain ⟨hq, hseq, hreplay⟩ := a.takeLine_sends (p := p) rest
    obtain ⟨g, hgseq, hgresend, hsend⟩ := (a.takeLine p rest).sendNew_sends p f
    rw [hq, hseq, hreplay] at hsend
    rw [hseq] at hgseq
    obtain ⟨hq', hseq', hreplay'⟩ := hsend
    refine ⟨_, g, hlive.gives_frameTransmit hp hst hst' hgen hen hfree, ?_⟩
    rw [a.sendFrame_line howed hghosts hresend hroom hready hline]
    exact ⟨hq', hseq', hreplay', hgseq, hgresend⟩
  · intro seq hrx
    refine ⟨_, hlive.gives_headAckRx seq hrx, ?_⟩
    have h := (a.noteRx p).takeAck_releases p seq
    rwa [State.port_noteRx] at h
  · intro seq hrx
    have hport := a.port_noteRx p
    refine ⟨_, hlive.gives_headNakRx seq hrx, (a.noteRx p).get_failAfter 1 seq hp (by decide), fun hf => ?_, fun hf hr => ?_⟩
    · refine State.st_failAfter _ 1 seq ?_ ?_
      · rw [hport]
        exact State.auxRx_linked hrx
      · rw [hport]
        exact hf
    · have h := (a.noteRx p).failAfter_early (p := p) 1 seq
      rw [hport] at h
      exact h hf hr
  · intro f hrx hf
    have hport := a.port_expire p f.seq
    have hmem : f ∈ (a.port p).replay := List.mem_of_find?_eq_some hf
    refine ⟨_, hlive.gives_headAckTimeout hrx hf, (a.expire p f.seq).get_failAfter 2 f.seq hp (by decide), fun hf => ?_,
      fun hf hr => ?_⟩
    · refine State.st_failAfter _ 2 f.seq ?_ ?_
      · rw [hport]
        exact State.auxRx_linked hrx
      · rw [hport]
        exact hf
    · have h := (a.expire p f.seq).failAfter_early (p := p) 2 f.seq
      rw [hport] at h
      obtain ⟨hfail, hreplay⟩ := h hf fun g hg => by
        obtain ⟨g', hg', -, hretries⟩ := expired_keeps hg
        exact hretries ▸ hr g' hg'
      refine ⟨hfail, fun g hg hseq => ?_⟩
      rw [hreplay (any_expired hmem)] at hg
      exact resend_of_seq hg hseq
  · intro hrx
    refine ⟨_, hlive.gives_headFrameDiscard hrx, ?_⟩
    rw [State.port_oweNak, State.port_noteRx]
    exact ⟨rfl, rfl⟩

end Sys2Proof.Machine
end

section
/-! The line that a port fetches next (R164, R229). -/

namespace Sys2Proof.Machine

/-! ### The place of a port in its track -/

/-- Two states agree in the state of a port, in the last line it fetched and in its maintenance activity. -/
def SamePlace (p : Nat) (s u : State) : Prop :=
  (u.port p).st = (s.port p).st ∧ (u.port p).fetched = (s.port p).fetched ∧ (u.port p).maint = (s.port p).maint

section
variable {s u v : State} {p : Nat}

theorem SamePlace.refl (p : Nat) (s : State) : SamePlace p s s := ⟨rfl, rfl, rfl⟩

theorem SamePlace.timing (h : SamePlace p s u) (h' : SameTiming u v) : SamePlace p s v := by
  rw [SamePlace, h'.port]
  exact h

theorem SamePlace.setPort (h : SamePlace p s u) {x : Port} (hst : x.st = (u.port p).st) (hf : x.fetched = (u.port p).fetched)
    (hm : x.maint = (u.port p).maint) : SamePlace p s (u.setPort p x) := by
  rw [SamePlace, State.port_setPort_same, hst, hf, hm]
  exact h

theorem SamePlace.ite {c : Prop} [Decidable c] (hu : SamePlace p s u) (hv : SamePlace p s v) :
    SamePlace p s (if c then u else v) := by
  split
  · exact hu
  · exact hv

theorem SamePlace.setStream (h : SamePlace p s u) (n : Nat) (x : Stream) : SamePlace p s (u.setStream n x) := h

theorem SamePlace.setTrack (h : SamePlace p s u) (t : Nat) (x : Track) : SamePlace p s (u.setTrack t x) := h

theorem SamePlace.setChan (h : SamePlace p s u) (c : Nat) (x : Chan) : SamePlace p s (u.setChan c x) := h

theorem SamePlace.setCodeword (h : SamePlace p s u) (b : Nat) (w : Codeword) : SamePlace p s (u.setCodeword b w) := h

theorem SamePlace.recordLine (h : SamePlace p s u) (g : Ring) (x : StoredLine) : SamePlace p s (u.recordLine g x) := h

/-! ### What a line makes due (R99, R104, R295) -/

theorem SamePlace.streamFault (h : SamePlace p s u) (n kind plane desc line k : Nat) :
    SamePlace p s (u.streamFault n kind plane desc line k) := by
  unfold State.streamFault
  extract_lets x r log s1 s2 s3 s4
  have h1 : SamePlace p s s1 := h
  have h2 : SameTiming s1 s2 := by
    unfold s2
    split
    · exact (SameTiming.refl s1).bump _ _
    · exact .refl s1
  have h4 : SameTiming s1 s4 := .cause (.set (.set (.set (.set (.set (.set (.setArrBit h2 _ _ _) _ _) _ _) _ _) _ _) _ _) _ _) _ _
  exact h1.timing (.ite (h4.cause _ _) h4)

theorem SamePlace.declareUnderrun (h : SamePlace p s u) (n plane w : Nat) : SamePlace p s (u.declareUnderrun n plane w) := by
  unfold State.declareUnderrun
  extract_lets x line s1 ports s2 s3
  have h1 : SamePlace p s s1 := h
  have h2 : SamePlace p s s2 := (h1.timing ((SameTiming.refl s1).bump _ _)).setStream n _
  have h3 : SamePlace p s s3 := h2.timing ((((SameTiming.refl s2).bump _ _).summary _ _).cause _ _)
  have hfree : SamePlace p s { s3 with free := s3.free + 1 } := h3
  exact hfree.streamFault _ _ _ _ _ _

theorem SamePlace.cellarWrite (h : SamePlace p s u) (b : Nat) (bytes : List Byte) : SamePlace p s (u.cellarWrite b bytes) := by
  unfold State.cellarWrite
  split
  next => exact h
  next c _ =>
    split
    · extract_lets ch overtakes s1 s2
      have h1 : SamePlace p s s1 := h.setChan c _
      have h2 : SamePlace p s s2 := .ite (h1.timing ((SameTiming.refl s1).bump _ _)) h1
      exact h2.setCodeword b _
    · exact h.timing (((SameTiming.refl u).bump _ _).bump _ _)

theorem SamePlace.voidSlot (h : SamePlace p s u) (w : Nat) (r : RowEntry) : SamePlace p s (u.voidSlot w r) := by
  unfold State.voidSlot
  split <;> exact h

theorem SamePlace.writeBlank (h : SamePlace p s u) (w : Nat) (rows : List RowEntry) : SamePlace p s (u.writeBlank w rows) := by
  refine foldl_keeps (SamePlace p s) _ (fun a r ha => ?_) _ _ h
  split
  next => exact ha
  next g _ =>
    extract_lets s1
    have h1 : SamePlace p s s1 := foldl_keeps (SamePlace p s) _ (fun _ _ hb => hb.cellarWrite _ zeroBlock) _ _ ha
    exact h1.recordLine g _

/-- A track that stops withdraws lines of its ports. -/
theorem SamePlace.stopTrack (h : SamePlace p s u) (t cause : Nat) (stop : Option Nat) : SamePlace p s (u.stopTrack t cause stop) := by
  by_cases hrun : (u.track t).st = 1
  · obtain ⟨ports, trig, hports, htiming, -⟩ := State.stopTrack_running cause stop hrun
    have hstopped : SamePlace p s (u.afterStop t cause stop ports trig) := by
      have hport : (u.afterStop t cause stop ports trig).port p =
          if p ∈ u.trackPorts t then (u.port p).withdraw t stop else u.port p :=
        hports p
      rw [SamePlace, hport]
      split <;> exact h
    exact hstopped.timing htiming
  · rwa [State.stopTrack_idle cause stop hrun]

theorem SamePlace.underrunAt (h : SamePlace p s u) (n plane w t line : Nat) : SamePlace p s (u.underrunAt n plane w t line) := by
  unfold State.underrunAt
  extract_lets d rows s1 s2
  have h1 : SamePlace p s s1 :=
    foldl_keeps (SamePlace p s) _ (fun _ r ha => ha.voidSlot w r) _ _ (h.declareUnderrun n plane w)
  have h2 : SamePlace p s s2 := h1.writeBlank w _
  exact .ite (h2.stopTrack _ _ _) h2

theorem SamePlace.noteRunway (h : SamePlace p s u) (n : Nat) : SamePlace p s (u.noteRunway n) := .ite (h.setStream _ _) h

theorem SamePlace.postMarkers (h : SamePlace p s u) (n plane w : Nat) (tl : Int) : SamePlace p s (u.postMarkers n plane w tl) := by
  unfold State.postMarkers
  extract_lets x due s1
  have h1 : SamePlace p s s1 := h
  exact foldl_keeps (SamePlace p s) _ (fun a m ha => ha.timing ((SameTiming.refl a).postEventAt _ _ _)) _ _ h1

theorem SamePlace.rowDue (h : SamePlace p s u) (t line : Nat) (tl : Int) (r : RowEntry) : SamePlace p s (u.rowDue t line tl r) := by
  unfold State.rowDue
  split
  · exact h
  · split
    · exact h
    · refine .ite ?_ h
      extract_lets s1 x s2 s3
      have h2 : SamePlace p s s2 := (h.postMarkers _ _ _ _ : SamePlace p s s1)
      have h3 : SamePlace p s s3 := h2.noteRunway _
      exact .ite (h3.underrunAt _ _ _ _ _) h3

theorem SamePlace.dropMissing (h : SamePlace p s u) (t line : Nat) : SamePlace p s (u.dropMissing t line) := by
  unfold State.dropMissing
  extract_lets x l n s1
  have h1 : SamePlace p s s1 := h.setTrack t _
  have hmissed : SameTiming s1 (s1.bump F.PEAL_TOLL_MISS n) := (SameTiming.refl s1).bump _ _
  have hcause := (((hmissed.set F.PEAL_LAST_EVENT_CAUSE 8).set F.PEAL_LAST_EVENT_VALID 1).set F.PEAL_LAST_EVENT_ID
    s1.masterId).causeBit ⟨F.PEAL_INT_STATUS_PORT_DOWN.off, 0, 32⟩ 8
  exact .ite h (h1.timing (hcause.summary 1 n))

/-! ### What a line that is fetched sends (R165 to R167, R229, R244, R254) -/

theorem SamePlace.setWp (h : SamePlace p s u) (q : Nat) (x : WavePort) : SamePlace p s (u.setWp q x) := h

theorem SamePlace.queueLine (h : SamePlace p s u) (line : Nat) (f : Int) (interval : Nat) (rows : List (RowEntry × Int × List Nat)) :
    SamePlace p s (u.queueLine p line f interval rows) := by
  refine .setWp (.setPort h ?_ ?_ ?_) _ _ <;> rfl

theorem SamePlace.queueMsgs (h : SamePlace p s u) (tag : Nat) (l : List Msg) : SamePlace p s (u.queueMsgs p tag l) :=
  h.setPort rfl rfl rfl

theorem SamePlace.addDrops (h : SamePlace p s u) (n : Nat) : SamePlace p s (u.addDrops p n) := by
  have hsend : ∀ {v : State}, SamePlace p s v → SamePlace p s (v.sendUsage p) := fun hv => by
    unfold State.sendUsage
    refine .ite (.queueMsgs (.setPort hv ?_ ?_ ?_) _ _) hv <;> rfl
  refine hsend (.setPort h ?_ ?_ ?_) <;> rfl

theorem SamePlace.sendLine (h : SamePlace p s u) (t line : Nat) (tl f : Int) (interval outcome : Nat) (maint : Bool)
    (rows : List (RowEntry × List Nat)) : SamePlace p s (u.sendLine p t line tl f interval outcome maint rows) := by
  unfold State.sendLine
  extract_lets timed at_ first last x wp some_ wave waveEnd l drops s1 s2
  have h1 : SamePlace p s s1 := h.setPort rfl rfl rfl
  have h2 : SamePlace p s s2 := .ite (h1.setWp _ _) (h1.queueLine _ _ _ _)
  exact .ite (h2.addDrops _) h2

theorem SamePlace.rememberDropped (h : SamePlace p s u) (t : Nat) (c : CLine) : SamePlace p s (u.rememberDropped p t c) :=
  h.setPort rfl rfl rfl

theorem SamePlace.portDropped (h : SamePlace p s u) : SamePlace p s (u.portDropped p) := by
  have hcounts : SamePlace p s (((u.bump (F.HP_LINE_ERR_DROPPED p)).bump F.HEADPORT_DROPPED_TOTAL).portCount p 5) :=
    (h.timing (((SameTiming.refl u).bump _ _).bump _ _)).setPort rfl rfl rfl
  exact hcounts.timing ((SameTiming.refl _).portCause p 7)

theorem SamePlace.overspeed (h : SamePlace p s u) (t : Nat) (dropped : Bool) : SamePlace p s (u.overspeed t dropped) := by
  rw [SamePlace, State.port, State.ports_overspeed]
  exact h

theorem SamePlace.fetchLine (h : SamePlace p s u) (t : Nat) (c : CLine) : SamePlace p s (u.fetchLine p t c) := by
  unfold State.fetchLine
  extract_lets f late slack s1
  split
  · exact ((h.overspeed t true).timing ((SameTiming.refl _).summary 1 1)).rememberDropped t c
  · have h1 : SamePlace p s s1 := .ite (h.overspeed t false) h
    have h2 := h1.timing ((SameFetch.refl s1).fetchRows c.line (s1.geo.portRows p)).1
    generalize s1.fetchRows c.line (s1.geo.portRows p) = fetch at h2 ⊢
    obtain ⟨⟨rows, blank, src⟩, s2⟩ := fetch
    have h3 : SamePlace p s (if src then s2.bump F.WATCH_QC_LINES else s2) := .ite (h2.timing ((SameTiming.refl s2).bump _ _)) h2
    exact h3.sendLine t c.line c.tl f c.interval _ false rows

end

/-! ### PORT_FETCH -/

/-- A port that has marked its next line fetched, once a refusal that is due has refused it. -/
def State.markFetched (s : State) (p : Nat) (c : CLine) : State :=
  let s1 := if (s.port p).usage.refuseDue then s.refusePort p 8 else s
  let x := s1.port p
  s1.setPort p { x with fetched := some c.line, therm := { x.therm with ktFetch := x.therm.kt } }

/-- The state in which the port sends or drops its line: what the line makes due has been done. -/
def State.fetchDues (s : State) (p t : Nat) (c : CLine) : State :=
  let s3 := (s.markFetched p c).dropMissing t c.line
  (s3.geo.portRows p).foldl (fun (a : State) r => a.rowDue t c.line c.tl r) s3

/-- The line of the fetch is sent on a linked port, and Dropped on another. -/
def State.fetchNext (s : State) (p t : Nat) (c : CLine) : State :=
  let s4 := s.fetchDues p t c
  (if s4.linked p then s4.fetchLine p t c else ((s4.portDropped p).summary 1).rememberDropped p t c).pruneLines t

section
variable {s a : State} {t p tr : Nat} {c : CLine}

theorem Live.gives_portFetch (h : Live s t a) (hp : p < 128) (htr : a.portTrack p = some tr) (hactive : a.trackActive tr = true)
    (hnext : a.nextFetch p tr = some c) : Gives (.portFetch t p) s (a.fetchNext p tr c) := by
  have hstep := h.gives_of_coreStep (exec_portFetch t p s)
  dsimp only at hstep
  rw [htr] at hstep
  dsimp only at hstep
  rwa [if_pos ⟨hp, hactive⟩, hnext] at hstep

variable (a p tr c)

theorem State.samePlace_fetchDues : SamePlace p (a.markFetched p c) (a.fetchDues p tr c) := by
  have h3 : SamePlace p (a.markFetched p c) ((a.markFetched p c).dropMissing tr c.line) := (SamePlace.refl p _).dropMissing tr c.line
  exact foldl_keeps (SamePlace p (a.markFetched p c)) _ (fun _ r ha => ha.rowDue tr c.line c.tl r) _ _ h3

theorem State.samePlace_fetchNext : SamePlace p (a.markFetched p c) (a.fetchNext p tr c) := by
  have h4 := a.samePlace_fetchDues p tr c
  have h5 := (h4.portDropped.timing ((SameTiming.refl _).summary 1 1)).rememberDropped tr c
  exact (SamePlace.ite (h4.fetchLine tr c) h5).setTrack tr _

/-- The next line is marked fetched. -/
theorem State.fetched_fetchNext : ((a.fetchNext p tr c).port p).fetched = some c.line := by
  obtain ⟨-, hfetched, -⟩ := a.samePlace_fetchNext p tr c
  rw [hfetched, State.markFetched, State.port_setPort_same]

variable {p}

theorem State.linked_fetchDues (hrefuse : (a.port p).usage.refuseDue = false) : (a.fetchDues p tr c).linked p = a.linked p := by
  obtain ⟨hst, -, -⟩ := a.samePlace_fetchDues p tr c
  rw [State.linked, State.linked, hst, State.markFetched, State.port_setPort_same, hrefuse]
  rfl

theorem State.get_portDropped (hp : p < 128) :
    (a.portDropped p).get (F.HP_LINE_ERR_DROPPED p) = min (a.get (F.HP_LINE_ERR_DROPPED p) + 1) 65535 := by
  have hlow : (F.HP_LINE_ERR_DROPPED p).off < 0x61000 := by
    simp only [F.HP_LINE_ERR_DROPPED]
    omega
  have hcounts := (((SameAt.refl (a.bump (F.HP_LINE_ERR_DROPPED p)) (F.HP_LINE_ERR_DROPPED p).off).bump
    (f := F.HEADPORT_DROPPED_TOTAL) 1 (by simp only [F.HEADPORT_DROPPED_TOTAL]; omega)).portCount p 5).portCause p 7 hlow
  rw [State.portDropped, hcounts.get, State.get_bump_satAdd _ _ (Nat.le_of_ble_eq_true rfl)]
  rfl

/-- A line that is fetched on a port that is not linked counts once as Dropped, besides what the line makes due. -/
theorem State.dropped_fetchNext (hp : p < 128) (hlink : a.linked p = false) (hrefuse : (a.port p).usage.refuseDue = false) :
    (a.fetchNext p tr c).get (F.HP_LINE_ERR_DROPPED p) = min ((a.fetchDues p tr c).get (F.HP_LINE_ERR_DROPPED p) + 1) 65535 := by
  have hoff : (F.HP_LINE_ERR_DROPPED p).off < 0x61000 := by
    simp only [F.HP_LINE_ERR_DROPPED]
    omega
  have hunlinked : ¬ (a.fetchDues p tr c).linked p = true := by
    rw [a.linked_fetchDues tr c hrefuse, hlink]
    exact Bool.false_ne_true
  have hsame : SameAt (F.HP_LINE_ERR_DROPPED p).off ((a.fetchDues p tr c).portDropped p) (a.fetchNext p tr c) := by
    unfold State.fetchNext
    extract_lets s4
    rw [if_neg hunlinked]
    exact (((SameAt.refl _ _).summary 1 1 (by omega)).setPort p _).setTrack tr _ (by simp only [F.TRACK_TR_STATUS]; omega)
  rw [hsame.get, State.get_portDropped _ hp]

end

end Sys2Proof.Machine
end

section
/-! The rows that shift, latch, strobe and fire the lines of a head port (R230 to R232, R236, R247, R257), and the
refutation of O42. -/

namespace Sys2Proof.Machine

/-! ### A line of a port replaced -/

theorem State.mem_setLine {s : State} {p : Nat} {old : PortLine} (new : PortLine) (h : old ∈ (s.port p).lines) :
    new ∈ ((s.setLine p old new).port p).lines := by
  rw [State.setLine, State.port_setPort_same]
  exact List.mem_map.2 ⟨old, h, if_pos rfl⟩

/-! ### Lines that are settled (R247) -/

/-- A line over without its firing. -/
def PortLine.drop (l : PortLine) : PortLine := { l with started := true, ended := true, outcome := 4 }

/-- A line that is settled: Dropped where it is barred or its FIRE_AT went unheard. -/
def PortLine.settled (d : Int) (fe : Bool) (waits : List Nat) (l : PortLine) : PortLine :=
  if l.barred d fe || l.unheard d waits then l.drop else l.settle d fe

section
variable (s : State) (p : Nat) (d : Int) (fe : Bool) (waits : List Nat)

theorem State.settleLine_fst (l : PortLine) : (s.settleLine p d fe waits l).1 = l.settled d fe waits := by
  unfold State.settleLine PortLine.settled
  cases hbar : l.barred d fe
  · cases hunheard : l.unheard d waits
    · rfl
    · rfl
  · rfl

theorem State.settleLines_fst (l : List PortLine) : (s.settleLines p d fe waits l).1 = l.map (PortLine.settled d fe waits) := by
  induction l generalizing s with
  | nil => rfl
  | cons l r ih =>
    rw [List.map_cons, ← s.settleLine_fst p d fe waits l, ← ih (s.settleLine p d fe waits l).2]
    rfl

end

/-! ### What a latch and a strobe send (R210, R231, R236) -/

/-- A line latched on an HL-1 port, before its waveform. -/
def State.latched (s : State) (p : Nat) (l : PortLine) : State :=
  let s1 := s.setLine p l { l with latched := true }
  (s1.setPort p { s1.port p with latchEnd := l.first + (s1.port p).latchNs }).emit (.latch p l.first)

/-- A line latched on an HL-1 port; its waveform starts with it. -/
def State.latchLine (s : State) (p : Nat) (l : PortLine) : State :=
  let s2 := s.latched p l
  match l.wave, s2.wpBound p with
  | some (w, scale), some n => (match (s2.wp p).wave w with
    | some v => s2.startWave n w scale v l.first
    | none => s2)
  | _, _ => s2

theorem State.latched_latches {a : State} {p : Nat} {l : PortLine} (hl : l ∈ (a.port p).lines) :
    (a.latched p l).sent = .latch p l.first :: a.sent ∧ { l with latched := true } ∈ ((a.latched p l).port p).lines ∧
      ((a.latched p l).port p).latchEnd = l.first + (a.port p).latchNs := by
  have hns : ((a.setLine p l { l with latched := true }).port p).latchNs = (a.port p).latchNs := by
    rw [State.setLine, State.port_setPort_same]
  refine ⟨?_, ?_⟩
  · rw [State.latched, State.sent_emit, State.sent_setPort, State.setLine, State.sent_setPort]
  · rw [State.latched, ((SameTiming.refl _).emit _).port, State.port_setPort_same]
    dsimp only
    exact ⟨State.mem_setLine { l with latched := true } hl, congrArg (fun n : Nat => l.first + n) hns⟩

/-- A waveform that starts leaves the ports, and what has been sent, as they are. -/
theorem State.startWave_keeps (s : State) (n w scale : Nat) (v : Wave) (time : Int) (p : Nat) :
    (s.startWave n w scale v time).sent = s.sent ∧ (s.startWave n w scale v time).port p = s.port p := by
  unfold State.startWave
  extract_lets o s1
  have h1 : s1.sent = s.sent ∧ s1.port p = s.port p := ⟨rfl, rfl⟩
  rwa [State.sent_bump, State.sent_set, (((SameTiming.refl s1).set _ _).bump _ _).port]

theorem State.latchLine_keeps (s : State) (p : Nat) (l : PortLine) :
    (s.latchLine p l).sent = (s.latched p l).sent ∧ (s.latchLine p l).port p = (s.latched p l).port p := by
  unfold State.latchLine
  extract_lets s2
  split
  · split
    · exact s2.startWave_keeps _ _ _ _ _ p
    · exact ⟨rfl, rfl⟩
  · exact ⟨rfl, rfl⟩

/-- The device time at which the strobe of a row instant is due. -/
def State.strobeDue (s : State) (p : Nat) (i : Int) : Int :=
  let latency := match (s.port p).desc with
    | some d => d.latency
    | none => 0
  i - (s.port p).delta - latency

/-- A strobe of the rows that fire at instant `i` of a line, as HL2_FIRE_STROBE sends it. -/
def State.strobeLine (s : State) (p : Nat) (l : PortLine) (i : Int) : State :=
  let x := s.port p
  let due := s.strobeDue p i
  let start := max due x.strobeEnd
  let slip := decide (due < start)
  let mask := ((l.rows.filter (fun r => decide (r.2.1 = i))).map (fun r => 2 ^ r.1)).foldl (· + ·) 0
  let l1 := { l with strobes := i :: l.strobes, outcome := if slip && decide (l.outcome = 1) then 2 else l.outcome }
  let s1 := s.setLine p l l1
  let s2 := (s1.setPort p { s1.port p with strobeEnd := start + 100000 / (s.mbaud p : Int) }).emit
    (.strobe p start (l.line % 256) mask)
  if slip then (((s2.bump F.HEADPORT_STROBE_SLIP).portCount p 7).portCause p 6) else s2

/-- A cause sends messages beside what has been sent. -/
theorem State.sent_suffix_causeBit (s : State) (f : Fld) (k : Nat) : s.sent <:+ (s.causeBit f k).sent := by
  have hsend : ∀ (u : State) (v : Nat), s.sent <:+ u.sent → s.sent <:+ (u.sendMsi v).sent := fun u v hu => by
    unfold State.sendMsi
    split
    · exact hu
    · exact hu.trans (List.suffix_cons _ _)
  refine foldl_keeps (fun u : State => s.sent <:+ u.sent) _ (fun u v hu => ?_) _ _ List.suffix_rfl
  split
  · exact hsend u v hu
  · exact hu

theorem State.sent_suffix_portCause (s : State) (p k : Nat) : s.sent <:+ (s.portCause p k).sent := by
  unfold State.portCause
  extract_lets s1
  have h1 : (s1.setArrBit F.HEADPORT_FAULT_PEND p true).sent = s.sent := by
    simp only [State.setArrBit, State.sent_setBit, s1, State.sent_set]
  rw [← h1]
  exact State.sent_suffix_causeBit _ _ k

theorem State.sent_portCount (s : State) (p k : Nat) : (s.portCount p k).sent = s.sent := rfl

theorem State.strobe_mem_sent (s : State) (p : Nat) (l : PortLine) (i : Int) :
    .strobe p (max (s.strobeDue p i) (s.port p).strobeEnd) (l.line % 256)
      (((l.rows.filter (fun r => decide (r.2.1 = i))).map (fun r => 2 ^ r.1)).sum) ∈ (s.strobeLine p l i).sent := by
  rw [List.sum_eq_foldl]
  unfold State.strobeLine
  extract_lets x due start slip mask l1 s1 y s2
  have h2 : .strobe p start (l.line % 256) mask ∈ s2.sent := List.mem_cons_self
  have hcounted : ((s2.bump F.HEADPORT_STROBE_SLIP).portCount p 7).sent = s2.sent := by
    rw [State.sent_portCount, State.sent_bump]
  split
  · exact (State.sent_suffix_portCause _ p 6).mem (hcounted ▸ h2)
  · exact h2

/-! ### The commands -/

section
variable {s a : State} {t p : Nat} (h : Live s t a)
include h

/-- Every line that is late and whose FIRE_AT no ACK covers is Dropped, in its place. -/
theorem Live.fireAtUnacked_drops (hgen : a.gen p = 3)
    (hany : (a.port p).lines.any (PortLine.unheard (a.devTime + 1) (a.port p).unacked) = true) :
    ∃ u, Gives (.fireAtUnacked t p) s u ∧ (u.port p).lines.length = (a.port p).lines.length ∧
      ∀ l ∈ (a.port p).lines, l.unheard (a.devTime + 1) (a.port p).unacked = true → l.drop ∈ (u.port p).lines := by
  have hstep := h.gives_of_coreStep (exec_fireAtUnacked t p s)
  dsimp only at hstep
  rw [if_pos ⟨hgen, hany⟩] at hstep
  refine ⟨_, hstep, ?_⟩
  rw [State.port_setPort_same, State.settleLines_fst]
  refine ⟨List.length_map _, fun l hl hunheard => List.mem_map.2 ⟨l, hl, ?_⟩⟩
  rw [PortLine.settled, hunheard, Bool.or_true, if_pos rfl]

theorem Live.hl1ShiftStart_shifts {l : PortLine} (hl : (a.port p).lines.find? (fun l => !l.shifted && decide (l.outcome < 4)) = some l)
    (hgen : a.gen p = 1) (hlink : a.linked p = true)
    (hdue : max (l.first - a.shiftNs p - 40) ((a.port p).latchEnd + 20) ≤ (a.devTime : Int)) :
    ∃ u, Gives (.hl1ShiftStart t p) s u ∧ u.sent = .shift p (a.shiftBits p l) :: a.sent ∧
      { l with shifted := true } ∈ (u.port p).lines := by
  have hstep := h.gives_of_coreStep (exec_hl1ShiftStart t p s)
  dsimp only at hstep
  rw [hl] at hstep
  dsimp only at hstep
  rw [if_pos ⟨hgen, hlink, hdue⟩] at hstep
  refine ⟨_, hstep, rfl, ?_⟩
  rw [((SameTiming.refl _).emit _).port]
  exact State.mem_setLine _ (List.mem_of_find?_eq_some hl)

theorem Live.hl1Latch_latches {l : PortLine}
    (hl : (a.port p).lines.find? (fun l => l.shifted && !l.latched && decide (l.outcome < 4)) = some l) (hgen : a.gen p = 1)
    (hlink : a.linked p = true) (hdue : l.first ≤ (a.devTime : Int)) :
    ∃ u, Gives (.hl1Latch t p) s u ∧ { l with latched := true } ∈ (u.port p).lines ∧
      (a.flag F.THERM_TRI_STATUS_FIRE_EN = true → u.sent = .latch p l.first :: a.sent ∧
        (u.port p).latchEnd = l.first + (a.port p).latchNs) ∧
      (a.flag F.THERM_TRI_STATUS_FIRE_EN = false → u.sent = a.sent) := by
  have hmem := List.mem_of_find?_eq_some hl
  have hstep := h.gives_of_coreStep (exec_hl1Latch t p s)
  dsimp only at hstep
  rw [hl] at hstep
  dsimp only at hstep
  rw [if_pos ⟨hgen, hlink, hdue⟩] at hstep
  cases hfire : a.flag F.THERM_TRI_STATUS_FIRE_EN
  · rw [hfire, if_neg Bool.false_ne_true] at hstep
    exact ⟨_, hstep, State.mem_setLine _ hmem, fun hf => absurd hf (by decide), fun _ => rfl⟩
  · rw [hfire, if_pos rfl] at hstep
    obtain ⟨hsent, hport⟩ := a.latchLine_keeps p l
    obtain ⟨hlatch, hlatched, hend⟩ := State.latched_latches hmem
    rw [← hsent] at hlatch
    rw [← hport] at hlatched hend
    exact ⟨a.latchLine p l, hstep, hlatched, fun _ => ⟨hlatch, hend⟩, fun hf => absurd hf (by decide)⟩

theorem Live.hl2FireStrobe_strobes {l : PortLine} {i : Int} (hnext : a.nextStrobe p = some (l, i)) (hgen : a.gen p = 2)
    (hlink : a.linked p = true) (hdue : a.strobeDue p i ≤ (a.devTime : Int)) :
    ∃ u, Gives (.hl2FireStrobe t p) s u ∧
      (a.flag F.THERM_TRI_STATUS_FIRE_EN = true → .strobe p (max (a.strobeDue p i) (a.port p).strobeEnd) (l.line % 256)
        (((l.rows.filter (fun r => decide (r.2.1 = i))).map (fun r => 2 ^ r.1)).sum) ∈ u.sent) ∧
      (a.flag F.THERM_TRI_STATUS_FIRE_EN = false → u.sent = a.sent) := by
  have hstep := h.gives_of_coreStep (exec_hl2FireStrobe t p s)
  dsimp only at hstep
  rw [hnext] at hstep
  dsimp only at hstep
  rw [if_pos ⟨hgen, hlink, hdue⟩] at hstep
  cases hfire : a.flag F.THERM_TRI_STATUS_FIRE_EN
  · rw [hfire, if_neg Bool.false_ne_true] at hstep
    exact ⟨_, hstep, fun hf => absurd hf (by decide), fun _ => rfl⟩
  · rw [hfire, if_pos rfl] at hstep
    exact ⟨a.strobeLine p l i, hstep, fun _ => a.strobe_mem_sent p l i, fun hf => absurd hf (by decide)⟩

end

/-! ### Maintenance firings (R256, R257) -/

/-- An activity that is over leaves its port. -/
theorem State.maint_endMaint (s : State) (p ended : Nat) : ((s.endMaint p ended).port p).maint = none := by
  unfold State.endMaint
  split
  next hnone => exact hnone
  next m _ =>
    extract_lets x s1 short ids w s2 busy s3
    have h1 : (s1.port p).maint = none := by rw [State.port_setPort_same]
    have h3 : (s3.port p).maint = none := by
      rw [(((SameTiming.refl s2).set _ _).cause _ _).port]
      exact h1
    split
    · rwa [((SameTiming.refl s3).postEvent _ _).port]
    · rwa [((SameTiming.refl s1).postEvent _ _).port]

/-- The next firing of an activity, sent to the head. -/
def State.fireMaint (s : State) (p : Nat) (m : Maint) : State :=
  let time : Int := m.startAt + roundHalfUp ((m.fired * 1000000000 : Nat) / (max m.rate 1 : Rat))
  let interval := (roundHalfUp ((65536000000000 : Rat) / (max m.rate 1 : Rat))).toNat
  let ((rows, src), s1) := s.maintRows p m
  let s2 := if src then s1.bump F.WATCH_QC_LINES else s1
  let x := s2.port p
  let s3 := s2.setPort p { x with
    maint := some { m with fired := m.fired + 1 }, therm := { x.therm with ktFetch := x.therm.kt } }
  let f := s3.earliest p interval time
  let s4 := s3.sendLine p 0 m.fired f f interval 1 true rows
  if m.kind = 3 then s4.set F.WATCH_LEARN_STATUS_FIRINGS (m.fired + 1) else s4

theorem State.maint_fireMaint (s : State) (p : Nat) (m : Maint) :
    ((s.fireMaint p m).port p).maint = some { m with fired := m.fired + 1 } := by
  unfold State.fireMaint
  extract_lets time interval
  split
  next rows src s1 _ =>
    extract_lets s2 x therm s3 f s4
    have h3 : (s3.port p).maint = some { m with fired := m.fired + 1 } := by rw [State.port_setPort_same]
    have h4 : SamePlace p s3 s4 := (SamePlace.refl p s3).sendLine 0 m.fired f f interval 1 true rows
    obtain ⟨-, -, hmaint⟩ : SamePlace p s3 (if m.kind = 3 then s4.set F.WATCH_LEARN_STATUS_FIRINGS (m.fired + 1) else s4) :=
      .ite (h4.timing ((SameTiming.refl s4).set _ _)) h4
    exact hmaint.trans h3

section
variable {s a : State} {t p : Nat} (h : Live s t a)
include h

/-- After the last firing of an activity the activity ends. -/
theorem Live.maintFiring_ends {m : Maint} (hm : (a.port p).maint = some m) (hlast : m.total ≤ m.fired)
    (hprev : (a.port p).fPrev = none) : ∃ u, Gives (.maintFiring t p) s u ∧ (u.port p).maint = none := by
  have hstep := h.gives_of_coreStep (exec_maintFiring t p s)
  dsimp only at hstep
  rw [hm] at hstep
  dsimp only at hstep
  rw [if_pos hlast, hprev] at hstep
  exact ⟨a.endMaint p 0, hstep, a.maint_endMaint p 0⟩

theorem Live.maintFiring_fires {m : Maint} (hm : (a.port p).maint = some m) (hmore : m.fired < m.total) (hlink : a.linked p = true)
    (hdue : m.startAt + roundHalfUp ((m.fired * 1000000000 : Nat) / (max m.rate 1 : Rat)) - 200000 ≤ (a.devTime : Int)) :
    ∃ u, Gives (.maintFiring t p) s u ∧ (u.port p).maint = some { m with fired := m.fired + 1 } := by
  have hstep := h.gives_of_coreStep (exec_maintFiring t p s)
  dsimp only at hstep
  rw [hm] at hstep
  dsimp only at hstep
  rw [if_neg (not_le.2 hmore), if_pos ⟨hlink, hdue⟩] at hstep
  exact ⟨a.fireMaint p m, hstep, a.maint_fireMaint p m⟩

end

/-! ### A channel of the cellar that is no channel -/

/-- What a command leaves in a register is the same whenever it is given. -/
theorem Gives.get_eq {c : Instr} {s u v : State} (hu : Gives c s u) (hv : Gives c s v) (f : Fld) : u.get f = v.get f := by
  have hnext : s.keepQueue u = s.keepQueue v := Host.Outcome.next.inj (Eq.trans (Eq.symm hu) hv)
  have hregs : u.regs = v.regs := by rw [← State.regs_keepQueue s u, hnext, State.regs_keepQueue]
  rw [State.get, State.reg, hregs, State.get, State.reg]

/-- The layout of the cellar names channel 1024, whose CH_BLANK would stand where port 1 shows HP_LINE_ERR; BLANK of that port is
full. Row 0 of port 1 fires a line before row 1, into whose slot an underrun writes it blank. -/
def strayChannel : State :=
  { State.reset.set (F.HP_LINE_ERR_BLANK 1) 65535 with
    core := .run
    geo := { rows := [{ port := 1 }, { port := 1, row := 1, delay := 1 }]
             rings := [{ port := 1, row := 1, depth := 1, slot := 1 }] }
    streams := ⟨[(0, { st := 1, bind := { track := 2, planeMask := 1, columnCount := 1 } })]⟩
    tracks := ⟨[(2, { st := 1, lines := [{}] })]⟩
    cellar := { layout := [1024] } }

theorem strayChannel_evaluates : (strayChannel.advance 0).portTrack 1 = some 2 ∧ (strayChannel.advance 0).trackActive 2 = true ∧
    (strayChannel.advance 0).nextFetch 1 2 = some {} ∧ (strayChannel.advance 0).linked 1 = false ∧
    ((strayChannel.advance 0).port 1).usage.refuseDue = false ∧ (strayChannel.advance 0).get (F.HP_LINE_ERR_DROPPED 1) = 0 := by
  decide +kernel

/-- The discarded write of the blank line carries from BLANK into DROPPED, and the line Dropped counts there as well. -/
theorem dropped_strayChannel : ((strayChannel.advance 0).fetchNext 1 2 {}).get (F.HP_LINE_ERR_DROPPED 1) = 2 := by decide +kernel

/-- Refutes O42: where the layout of the cellar names a channel above 11, a discarded write of an underrun can count in HP_LINE_ERR
of the port that fetches, besides the line that is Dropped. What holds of PORT_FETCH is `Live.gives_portFetch` with
`State.fetched_fetchNext` and `State.dropped_fetchNext`; the other clauses hold as they stand: `Live.fireAtUnacked_drops`,
`Live.hl1ShiftStart_shifts`, `Live.hl1Latch_latches`, `Live.hl2FireStrobe_strobes`, `Live.maintFiring_ends` and
`Live.maintFiring_fires`. -/
theorem not_headFiringCommandsTakeEffect : ¬ Obligations.HeadFiringCommandsTakeEffect := by
  intro h
  have hlive : Live strayChannel 0 (strayChannel.advance 0) := ⟨rfl, rfl⟩
  obtain ⟨htrack, hactive, hnext, hlink, hrefuse, hzero⟩ := strayChannel_evaluates
  obtain ⟨hfetch, -⟩ := h _ _ _ 1 hlive (by decide)
  obtain ⟨u, hgives, -, hcount⟩ := hfetch 2 {} htrack hactive hnext
  have hone := hcount hlink hrefuse
  rw [hgives.get_eq (hlive.gives_portFetch (by decide) htrack hactive hnext), dropped_strayChannel, hzero] at hone
  exact absurd hone (by decide)

end Sys2Proof.Machine
end

section
/-! The fields of the ring's registers, and what becomes of a frame on a Peal port (R281, R283, R284). -/

namespace Sys2Proof.Machine

/-! ### One field of a register -/

/-- A field shares no bit with the fields of a list, which lie in their registers. -/
def Fld.clearOf (g : Fld) (l : List Fld) : Bool :=
  l.all fun f => decide (f.lo + f.width ≤ 32) &&
    (decide (f.off ≠ g.off) || decide (f.lo + f.width ≤ g.lo) || decide (g.lo + g.width ≤ f.lo))

theorem Fld.apart_of_clearOf {g f : Fld} {l : List Fld} (h : g.clearOf l = true) (hf : f ∈ l) :
    f.lo + f.width ≤ 32 ∧ f.apart g := by
  have := List.all_eq_true.1 h f hf
  simp only [Bool.and_eq_true, Bool.or_eq_true, decide_eq_true_eq] at this
  obtain ⟨hfit, (hoff | hbelow) | habove⟩ := this
  exacts [⟨hfit, .inl hoff⟩, ⟨hfit, .inr (.inl hbelow)⟩, ⟨hfit, .inr (.inr habove)⟩]

theorem Fld.clearOf_mono {g : Fld} {l m : List Fld} (h : g.clearOf m = true) (hl : l ⊆ m) : g.clearOf l = true :=
  List.all_eq_true.2 fun f hf => List.all_eq_true.1 h f (hl hf)

/-- A field has the same value in two states. -/
def SameField (g : Fld) (s u : State) : Prop := u.get g = s.get g

section
variable {g : Fld} {s u v : State}

theorem SameField.refl (g : Fld) (s : State) : SameField g s s := rfl

theorem SameField.get (h : SameField g s u) : u.get g = s.get g := h

theorem SameField.of_regs (h : SameField g s u) (hregs : v.regs = u.regs) : SameField g s v :=
  (State.get_congr u (State.reg_congr hregs _)).trans h

theorem SameField.ite {p : Prop} [Decidable p] (hu : SameField g s u) (hv : SameField g s v) :
    SameField g s (if p then u else v) := by
  split
  · exact hu
  · exact hv

section
variable {f : Fld} {l : List Fld} (h : SameField g s u) (hg : g.clearOf l = true) (hf : f ∈ l)
include h hg hf

theorem SameField.set (n : Nat) : SameField g s (u.set f n) := by
  obtain ⟨hfit, hapart⟩ := Fld.apart_of_clearOf hg hf
  exact (u.get_set_apart n hfit hapart).trans h

theorem SameField.bump (n : Nat) : SameField g s (u.bump f n) := h.set hg hf _

theorem SameField.cause (n : Nat) : SameField g s (u.cause f n) :=
  (h.set hg hf _).of_regs (sendNewMsi_frame _ _).1

theorem SameField.causeBit (k : Nat) : SameField g s (u.causeBit f k) := h.cause hg hf _

end

/-- A counter counts one more, saturating at its width. -/
theorem State.get_bump_one (s : State) (f : Fld) (hf : f.lo + f.width ≤ 32) :
    (s.bump f).get f = min (s.get f + 1) (2 ^ f.width - 1) := s.get_bump_satAdd 1 hf

end

/-! ### The registers of the two ports -/

/-- The registers of a port in which the frames that it sends are counted. -/
def sendFlds (k : Nat) : List Fld := [F.PP_TX_FRAMES k, F.PP_TX_BYTES k, F.PP_TUNNEL_TX k, F.PP_FORWARDED k]

/-- The registers of a port in which the arrival of a frame is shown. -/
def arriveFlds (k : Nat) : List Fld := [F.PP_RX_FRAMES k, F.PP_RX_BYTES k, F.PP_TOLL_RX k, F.PP_CHIME_RX k, F.PP_PACE_RX k,
  F.PP_SYNC_RX k, F.PP_TUNNEL_RX k, F.PP_DISCOVER_RX k, F.PP_STATUS_RX k, F.PP_LAST_RX_TIME k, F.PP_NEIGHBOUR_VALID k,
  F.PP_NEIGHBOUR_ID k]

/-- The registers in which the frames of both ports are shown. -/
def portFlds : List Fld := sendFlds 0 ++ sendFlds 1 ++ arriveFlds 0 ++ arriveFlds 1

theorem sendFlds_subset {k : Nat} (hk : k < 2) : sendFlds k ⊆ portFlds := by
  interval_cases k <;> decide

theorem arriveFlds_subset {k : Nat} (hk : k < 2) : arriveFlds k ⊆ portFlds := by
  interval_cases k <;> decide

/-- The frames of the ring are shown in registers of the ring alone. -/
theorem clearOf_portFlds_of_low {g : Fld} (h : g.off < 0xA0000) : g.clearOf portFlds = true := by
  have hports : ∀ f ∈ portFlds, f.lo + f.width ≤ 32 ∧ 0xA0000 ≤ f.off := by decide
  refine List.all_eq_true.2 fun f hf => ?_
  obtain ⟨hfit, hoff⟩ := hports f hf
  simp only [hfit, decide_true, Bool.true_and, Bool.or_eq_true, decide_eq_true_eq]
  exact .inl (.inl (by omega))

theorem State.lt_of_pealOn {s : State} {k : Nat} (h : s.pealOn k = true) : k < 2 := by
  simp only [State.pealOn, Bool.and_eq_true, decide_eq_true_eq] at h
  exact h.1.1

/-! ### Updates of registers alone -/

/-- Two states differ in their registers alone. -/
def OnlyRegs (s u : State) : Prop := ∃ r, u = { s with regs := r }

section
variable {s u v : State}

theorem OnlyRegs.refl (s : State) : OnlyRegs s s := ⟨s.regs, rfl⟩

theorem OnlyRegs.trans (h : OnlyRegs s u) (h' : OnlyRegs u v) : OnlyRegs s v := by
  obtain ⟨r, rfl⟩ := h
  obtain ⟨x, rfl⟩ := h'
  exact ⟨x, rfl⟩

theorem OnlyRegs.set (h : OnlyRegs s u) (f : Fld) (n : Nat) : OnlyRegs s (u.set f n) := by
  obtain ⟨r, rfl⟩ := h
  exact ⟨_, rfl⟩

theorem OnlyRegs.bump (h : OnlyRegs s u) (f : Fld) (n : Nat) : OnlyRegs s (u.bump f n) := h.set _ _

theorem OnlyRegs.ite {p : Prop} [Decidable p] (hu : OnlyRegs s u) (hv : OnlyRegs s v) : OnlyRegs s (if p then u else v) := by
  split
  · exact hu
  · exact hv

theorem OnlyRegs.emit (h : OnlyRegs s u) (o : Out) : OnlyRegs (s.emit o) (u.emit o) := by
  obtain ⟨r, rfl⟩ := h
  exact ⟨r, rfl⟩

theorem OnlyRegs.sent (h : OnlyRegs s u) : u.sent = s.sent := by
  obtain ⟨r, rfl⟩ := h
  rfl

theorem OnlyRegs.peal (h : OnlyRegs s u) : u.peal = s.peal := by
  obtain ⟨r, rfl⟩ := h
  rfl

theorem OnlyRegs.timing (h : OnlyRegs s u) : SameTiming s u := by
  obtain ⟨r, rfl⟩ := h
  exact .refl s

end

/-! ### A frame that leaves a port (R283) -/

section
variable (s : State) (k : Nat) (f : PealFrame)

/-- A frame that is sent is counted in registers. -/
theorem State.pealSend_counts : OnlyRegs (s.emit (.peal k f)) (s.pealSend k f) :=
  .ite (((OnlyRegs.refl _).bump _ _).bump _ _ |>.bump _ _) (((OnlyRegs.refl _).bump _ _).bump _ _)

@[simp] theorem State.sent_pealSend : (s.pealSend k f).sent = .peal k f :: s.sent := (s.pealSend_counts k f).sent

@[simp] theorem State.peal_pealSend : (s.pealSend k f).peal = s.peal := (s.pealSend_counts k f).peal

theorem SameField.pealSend {g : Fld} {s u : State} (h : SameField g s u) (hg : g.clearOf (sendFlds k) = true) :
    SameField g s (u.pealSend k f) := by
  have hsent : SameField g s (u.emit (.peal k f)) := h
  have hcount := (hsent.bump hg (f := F.PP_TX_FRAMES k) (by simp [sendFlds]) 1).bump hg (f := F.PP_TX_BYTES k)
    (by simp [sendFlds]) (frameUnits f)
  exact .ite (hcount.bump hg (by simp [sendFlds]) _) hcount

end

/-! ### A frame that arrives (R284) -/

section
variable (s : State) (k : Nat) (f : PealFrame)

/-- A port remembers when its last frame came. -/
def State.heard (s : State) (k : Nat) : State := s.setPeal1 k { s.peal1 k with lastRx := s.now }

theorem OnlyRegs.heard {s u : State} (h : OnlyRegs s u) (k : Nat) : OnlyRegs (s.heard k) (u.heard k) := by
  obtain ⟨r, rfl⟩ := h
  exact ⟨r, rfl⟩

/-- The arrival of a frame is shown in registers, and remembered as the last one of its port. -/
theorem State.pealArrived_shows : OnlyRegs (s.heard k) (s.pealArrived k f) := by
  unfold State.pealArrived
  extract_lets s1 s2 s3 s4
  have h1 : OnlyRegs s s1 := ((OnlyRegs.refl s).bump _ _).bump _ _
  have h2 : OnlyRegs s s2 := by
    unfold s2
    split
    · exact h1.bump _ _
    · exact h1
  have h3 : OnlyRegs s s3 := (h2.set _ _).set _ _
  have h4 : OnlyRegs s s4 := .ite (h3.set _ _) h3
  rw [← h4.timing.now]
  exact h4.heard k

theorem SameField.pealArrived {g : Fld} {s u : State} (h : SameField g s u) (hg : g.clearOf (arriveFlds k) = true) :
    SameField g s (u.pealArrived k f) := by
  unfold State.pealArrived
  extract_lets s1 s2 s3 s4
  have h1 : SameField g s s1 := (h.bump hg (by simp [arriveFlds]) _).bump hg (by simp [arriveFlds]) _
  have h2 : SameField g s s2 := by
    unfold s2
    split
    next c hc =>
      refine h1.bump hg ?_ _
      unfold rxCounter at hc
      split at hc <;> simp only [Option.some.injEq, reduceCtorEq] at hc <;> subst hc <;> simp [arriveFlds]
    · exact h1
  have h3 : SameField g s s3 := (h2.set hg (by simp [arriveFlds]) _).set hg (by simp [arriveFlds]) _
  have h4 : SameField g s s4 := .ite (h3.set hg (by simp [arriveFlds]) _) h3
  exact h4

/-- What a frame is told from stands in the device's ID, in the tracks and among the SEQs of former frames. -/
theorem State.classify_congr {s u : State} (hid : u.deviceId = s.deviceId) (htracks : u.tracks = s.tracks)
    (hseq : u.peal.seqIn = s.peal.seqIn) : u.classify f = s.classify f := by
  rw [State.classify, State.classify, State.pealDup, State.pealDup, State.seqOld, State.seqOld, hid, htracks, hseq]

theorem State.classify_pealArrived (hk : k < 2) : (s.pealArrived k f).classify f = s.classify f := by
  have hid : SameField F.PEAL_DEVICE_ID_ID s (s.pealArrived k f) := SameField.pealArrived k f (.refl _ s)
    (Fld.clearOf_mono (by decide : F.PEAL_DEVICE_ID_ID.clearOf portFlds = true) (arriveFlds_subset hk))
  have harrive := s.pealArrived_shows k f
  exact State.classify_congr f hid harrive.timing.tracks (congrArg Peal.seqIn harrive.peal :)

/-- A frame is handled on its port: it comes to a device in service, and is LOCAL or the port is UP. -/
def State.Handles (s : State) (k : Nat) (f : PealFrame) : Prop := s.pealOn k = true ∧ (f.flags = 1 ∨ s.pealUp k = true)

theorem State.pealReceive_idle (use : State → State) (h : s.pealOn k = false ∨ (f.flags ≠ 1 ∧ s.pealUp k = false)) :
    s.pealReceive k f use = s := by
  refine if_pos ?_
  obtain hoff | ⟨hflags, hup⟩ := h
  · simp [hoff]
  · simp [hflags, hup]

/-- The SEQ of a frame is remembered as the last of its source and type. -/
def State.recall (s : State) (f : PealFrame) : State :=
  { s with peal := { s.peal with seqIn := s.peal.seqIn.set none (seqKey f) (some f.seq) } }

/-- What has become of a frame that is neither discarded nor LOCAL before it is consumed. -/
def State.passOn (s : State) (k : Nat) (f : PealFrame) : State := ((s.pealArrived k f).recall f).pealForward k f

variable {s k f} (hh : s.Handles k f) (use : State → State)
include hh

theorem State.Handles.not_idle : ¬ (!s.pealOn k || (decide (f.flags ≠ 1) && !s.pealUp k)) = true := by
  obtain ⟨hon, hflags | hup⟩ := hh
  · simp [hon, hflags]
  · simp [hon, hup]

/-- A frame that is taken is used, or passed on and used where it is consumed. -/
theorem State.Handles.takes {c : Bool} (hc : s.classify f = .taken c) : s.pealReceive k f use =
    if c then use (if f.flags = 1 then s.pealArrived k f else s.passOn k f)
    else (if f.flags = 1 then s.pealArrived k f else s.passOn k f) := by
  unfold State.pealReceive
  rw [if_neg hh.not_idle]
  dsimp only
  rw [State.classify_pealArrived s k f (State.lt_of_pealOn hh.1), hc]
  rfl

/-- A frame that is discarded is counted, whatever consuming it would do. -/
theorem State.Handles.drops {r : Received} (hc : s.classify f = r) (hr : ∀ c, r ≠ .taken c) :
    s.pealReceive k f use = (s.pealArrived k f).pealDiscard k f r := by
  unfold State.pealReceive
  rw [if_neg hh.not_idle]
  dsimp only
  rw [State.classify_pealArrived s k f (State.lt_of_pealOn hh.1), hc]
  cases r with
  | taken c => exact absurd rfl (hr c)
  | format => rfl
  | loop => rfl
  | dup => rfl

end

/-! ### The classes of frames -/

section
variable {s : State} {f : PealFrame}

theorem State.classify_format (h : frameOk f = false) : s.classify f = .format := by simp [State.classify, h]

theorem State.classify_local (hok : frameOk f = true) (hflags : f.flags = 1) : s.classify f = .taken true := by
  simp [State.classify, hok, hflags]

theorem State.classify_loop (hok : frameOk f = true) (hflags : f.flags = 0) (hsrc : f.src = s.deviceId) :
    s.classify f = .loop := by simp [State.classify, hok, hflags, hsrc]

theorem State.classify_dup (hok : frameOk f = true) (hflags : f.flags = 0) (hsrc : f.src ≠ s.deviceId)
    (hdup : s.pealDup f = true) : s.classify f = .dup := by simp [State.classify, hok, hflags, hsrc, hdup]

theorem Arrives.classify {k : Nat} (h : Arrives s k f) :
    s.classify f = .taken (decide (f.dst = 0xFFFF) || decide (f.dst = s.deviceId)) := by
  obtain ⟨-, -, hok, hflags, hsrc, hdup⟩ := h
  simp [State.classify, hok, hflags, hsrc, hdup]

theorem Arrives.handles {k : Nat} (h : Arrives s k f) : s.Handles k f := ⟨h.1, .inr h.2.1⟩

theorem LocalFrame.handles {k : Nat} (h : LocalFrame s k f) : s.Handles k f := ⟨h.1, .inl h.2.2⟩

end

/-! ### Frames that are discarded -/

/-- The counter of a class of frames that are discarded. -/
def discardFld (k : Nat) : Received → Fld
  | .format => F.PP_FORMAT_ERR k
  | .loop => F.PP_LOOP_DISCARD k
  | _ => F.PP_DUP_DISCARD k

/-- The registers beside the counters in which a frame that is discarded is shown. -/
def discardNotes (k : Nat) : List Fld :=
  [F.PP_LAST_ERR_KIND k, F.PP_LAST_ERR_VALID k, F.PP_LAST_ERR_SRC k, F.PEAL_TOLL_DUP, F.PEAL_TOLL_LATE]

section
variable (s : State) {k : Nat} (f : PealFrame) (r : Received)

/-- A frame that is discarded shows in registers alone. -/
theorem State.pealDiscard_shows : OnlyRegs s (s.pealDiscard k f r) := by
  have h := OnlyRegs.refl s
  cases r with
  | taken c => exact h
  | format => exact (((h.bump _ _).set _ _).set _ _).set _ _
  | loop => exact (((h.bump _ _).set _ _).set _ _).set _ _
  | dup => exact .ite (.ite (((h.bump _ _).bump _ _).bump _ _) ((h.bump _ _).bump _ _)) (h.bump _ _)

variable {r} (hk : k < 2) (hr : ∀ c, r ≠ .taken c)
include hk hr

theorem clearOf_discardFld : (discardFld k r).clearOf (arriveFlds k) = true ∧ (discardFld k r).clearOf (discardNotes k) = true := by
  cases r with
  | taken c => exact absurd rfl (hr c)
  | format => interval_cases k <;> decide
  | loop => interval_cases k <;> decide
  | dup => interval_cases k <;> decide

/-- A frame that is discarded counts in the counter of its class. -/
theorem State.get_pealDiscard : ((s.pealArrived k f).pealDiscard k f r).get (discardFld k r) =
    min (s.get (discardFld k r) + 1) (2 ^ (discardFld k r).width - 1) := by
  obtain ⟨harrive, hnotes⟩ := clearOf_discardFld hk hr
  have hfit : (discardFld k r).lo + (discardFld k r).width ≤ 32 := by cases r <;> exact le_refl 32
  have hcount : SameField (discardFld k r) ((s.pealArrived k f).bump (discardFld k r)) ((s.pealArrived k f).pealDiscard k f r) := by
    have h := SameField.refl (discardFld k r) ((s.pealArrived k f).bump (discardFld k r))
    have herr : ∀ kind src, SameField (discardFld k r) ((s.pealArrived k f).bump (discardFld k r))
        (((s.pealArrived k f).bump (discardFld k r)).pealError k kind src) := fun kind src =>
      ((h.set hnotes (by simp [discardNotes]) _).set hnotes (by simp [discardNotes]) _).set hnotes (by simp [discardNotes]) _
    have hdup := h.bump hnotes (f := F.PEAL_TOLL_DUP) (by simp [discardNotes]) 1
    have hlate := hdup.bump hnotes (f := F.PEAL_TOLL_LATE) (by simp [discardNotes]) 1
    cases r with
    | taken c => exact absurd rfl (hr c)
    | format => exact herr 2 f.src
    | loop => exact herr 3 f.src
    | dup => exact .ite (.ite hlate hdup) h
  rw [hcount.get, State.get_bump_one _ _ hfit, (SameField.pealArrived k f (.refl _ s) harrive).get]

end

section
variable {s : State} {k : Nat} {f : PealFrame} (hh : s.Handles k f) (use : State → State)
include hh

/-- A frame that is discarded is neither used nor forwarded, and counts in the counter of its class (R284). -/
theorem State.Handles.discards {r : Received} (hc : s.classify f = r) (hr : ∀ c, r ≠ .taken c) :
    (s.pealReceive k f use).sent = s.sent ∧ (s.pealReceive k f use).tracks = s.tracks ∧
      (s.pealReceive k f use).get (discardFld k r) = min (s.get (discardFld k r) + 1) (2 ^ (discardFld k r).width - 1) := by
  rw [hh.drops use hc hr]
  have harrive := s.pealArrived_shows k f
  have hdiscard := (s.pealArrived k f).pealDiscard_shows (k := k) f r
  exact ⟨hdiscard.sent.trans harrive.sent, hdiscard.timing.tracks.trans harrive.timing.tracks,
    s.get_pealDiscard f (State.lt_of_pealOn hh.1) hr⟩

end

/-! ### Frames that are taken -/

section
variable {s : State} {k : Nat} {f : PealFrame}

/-- A frame leaves the other port when that is UP and the frame is not for this device alone. -/
def State.forwards (s : State) (k : Nat) (f : PealFrame) : Bool := s.pealUp (1 - k) && decide (f.dst ≠ s.deviceId)

/-- The state with a frame sent on the other port of the one on which it came, where it leaves. -/
def State.relay (s : State) (k : Nat) (f : PealFrame) (leaves : Bool) : State :=
  if leaves then s.emit (.peal (1 - k) { f with hops := (f.hops + 1) % 65536 }) else s

/-- A frame that is forwarded is counted in registers. -/
theorem State.pealForward_counts (s : State) (k : Nat) (f : PealFrame) :
    OnlyRegs (s.relay k f (s.forwards k f)) (s.pealForward k f) := by
  unfold State.relay State.pealForward State.forwards
  dsimp only
  split
  · exact (s.pealSend_counts _ _).bump _ _
  · exact .refl s

theorem OnlyRegs.relay {u : State} (h : OnlyRegs s u) (leaves : Bool) : OnlyRegs (s.relay k f leaves) (u.relay k f leaves) := by
  unfold State.relay
  split
  · exact h.emit _
  · exact h

theorem OnlyRegs.recall {u : State} (h : OnlyRegs s u) : OnlyRegs (s.recall f) (u.recall f) := by
  obtain ⟨r, rfl⟩ := h
  exact ⟨r, rfl⟩

theorem SameField.pealForward {g : Fld} {s u : State} (h : SameField g s u) (hg : g.clearOf (sendFlds (1 - k)) = true) :
    SameField g s (u.pealForward k f) :=
  .ite ((SameField.pealSend (1 - k) _ h hg).bump hg (by simp [sendFlds]) _) h

/-- Frames are shown in no other registers than those of the ports. -/
theorem SameField.passOn {g : Fld} {s u : State} (h : SameField g s u) (hk : k < 2) (hg : g.clearOf portFlds = true) :
    SameField g s (u.passOn k f) := by
  have harrive : SameField g s ((u.pealArrived k f).recall f) :=
    h.pealArrived k f (Fld.clearOf_mono hg (arriveFlds_subset hk))
  exact harrive.pealForward (Fld.clearOf_mono hg (sendFlds_subset (by omega)))

/-- A frame that is passed on is remembered, and leaves the other port; beside that registers show it. -/
theorem State.passOn_shows (hk : k < 2) : OnlyRegs (((s.heard k).recall f).relay k f (s.forwards k f)) (s.passOn k f) := by
  have harrive := (s.pealArrived_shows k f).recall (f := f)
  have hsame : ∀ g, g.clearOf portFlds = true → SameField g s ((s.pealArrived k f).recall f) := fun g hg =>
    SameField.pealArrived k f (.refl g s) (Fld.clearOf_mono hg (arriveFlds_subset hk))
  have hforwards : ((s.pealArrived k f).recall f).forwards k f = s.forwards k f := by
    have hup : SameField (F.PP_STATUS_STATE (1 - k)) s ((s.pealArrived k f).recall f) :=
      hsame _ (by interval_cases k <;> decide)
    have hid : SameField F.PEAL_DEVICE_ID_ID s ((s.pealArrived k f).recall f) := hsame _ (by decide)
    rw [State.forwards, State.forwards, State.pealUp, State.pealUp, State.deviceId, State.deviceId, hup.get,
      hid.get]
  have hpass := ((s.pealArrived k f).recall f).pealForward_counts k f
  rw [hforwards] at hpass
  exact (harrive.relay _).trans hpass

section
variable (s : State) (k : Nat) (f : PealFrame) (leaves : Bool)

theorem State.sent_relay : (s.relay k f leaves).sent =
    if leaves = true then .peal (1 - k) { f with hops := (f.hops + 1) % 65536 } :: s.sent else s.sent := by
  cases leaves <;> rfl

theorem State.peal_relay : (s.relay k f leaves).peal = s.peal := by cases leaves <;> rfl

theorem SameTiming.relay {u : State} (h : SameTiming s u) : SameTiming s (u.relay k f leaves) := .ite h h

theorem SameTiming.recall {u : State} (h : SameTiming s u) : SameTiming s (u.recall f) := h

theorem SameTiming.heard {u : State} (h : SameTiming s u) : SameTiming s (u.heard k) := h

theorem State.sent_passOn (hk : k < 2) : (s.passOn k f).sent =
    if s.pealUp (1 - k) = true ∧ f.dst ≠ s.deviceId then .peal (1 - k) { f with hops := (f.hops + 1) % 65536 } :: s.sent
    else s.sent := by
  have hsent : ((s.heard k).recall f).sent = s.sent := rfl
  have hforwards : s.forwards k f = true ↔ s.pealUp (1 - k) = true ∧ f.dst ≠ s.deviceId := by simp [State.forwards]
  rw [(s.passOn_shows hk).sent, State.sent_relay, hsent]
  simp only [hforwards]

theorem State.timing_passOn (hk : k < 2) : SameTiming s (s.passOn k f) :=
  (((SameTiming.refl s).heard s k).recall s f).relay s k f _ |>.trans (s.passOn_shows hk).timing

/-- What the engine of the ring remembers of a frame that is passed on. -/
theorem State.peal_passOn (hk : k < 2) : (s.passOn k f).peal = ((s.heard k).recall f).peal := by
  rw [(s.passOn_shows hk).peal, State.peal_relay]

end

/-- A LOCAL frame is used after its arrival. -/
theorem LocalFrame.receives (h : LocalFrame s k f) (use : State → State) : s.pealReceive k f use = use (s.pealArrived k f) := by
  obtain ⟨-, hok, hflags⟩ := id h
  rw [h.handles.takes use (State.classify_local hok hflags), if_pos rfl, if_pos hflags]

theorem Arrives.not_local (h : Arrives s k f) : ¬ f.flags = 1 := by
  obtain ⟨-, -, -, hflags, -⟩ := h
  rw [hflags]
  decide

/-- A frame that is for this device or for all is passed on and used. -/
theorem Arrives.receives (h : Arrives s k f) (hm : Meant s f) (use : State → State) :
    s.pealReceive k f use = use (s.passOn k f) := by
  rw [h.handles.takes use h.classify, if_neg h.not_local]
  exact if_pos (by simpa [Meant] using hm)

/-- A frame that is for another device is passed on. -/
theorem Arrives.passes (h : Arrives s k f) (hm : ¬ Meant s f) (use : State → State) : s.pealReceive k f use = s.passOn k f := by
  rw [h.handles.takes use h.classify, if_neg h.not_local]
  exact if_neg (by simpa [Meant] using hm)

end

/-- Settles O47: the order of R284, one class of frames after the other. -/
theorem pealFramesAreHandledInOrder : Obligations.PealFramesAreHandledInOrder := by
  intro s k f use
  refine ⟨s.pealReceive_idle k f use, fun hon hport => ?_⟩
  have hh : s.Handles k f := ⟨hon, hport⟩
  refine ⟨fun hok => ?_, fun hok hflags => ?_, fun hok hflags hsrc => ?_, fun hok hflags hsrc hdup => ?_, fun h => ?_⟩
  · obtain ⟨hsent, -, hcount⟩ := hh.discards use (State.classify_format hok) (by simp)
    exact ⟨hsent, hcount⟩
  · have harrive := s.pealArrived_shows k f
    exact ⟨_, LocalFrame.receives ⟨hon, hok, hflags⟩ use, harrive.sent, harrive.timing.tracks⟩
  · obtain ⟨hsent, -, hcount⟩ := hh.discards use (State.classify_loop hok hflags hsrc) (by simp)
    exact ⟨hsent, hcount⟩
  · exact hh.discards use (State.classify_dup hok hflags hsrc hdup) (by simp)
  · have hk := State.lt_of_pealOn hon
    refine ⟨s.passOn k f, (s.timing_passOn k f hk).tracks, ?_, fun hm => h.receives hm use, fun hm => h.passes hm use,
      s.sent_passOn k f hk⟩
    rw [s.peal_passOn k f hk]
    exact Tbl.get_set_same _ _ _ _

end Sys2Proof.Machine
end

section
/-! What the operations of the ring leave: causes and events, the reference port, limp conditions, and frames that this device
sends (R283, R290, R293, R348, R394, R491). -/

namespace Sys2Proof.Machine

/-! ### Operations outside the ring -/

/-- The ring is the same in two states: its engine, and the registers of its block. -/
def SameRing (s u : State) : Prop := u.peal = s.peal ∧ ∀ off, 0xA0000 ≤ off → off < 0xA0180 → u.reg off = s.reg off

section
variable {s u v : State}

theorem SameRing.refl (s : State) : SameRing s s := ⟨rfl, fun _ _ _ => rfl⟩

/-- What holds of a field of the ring still holds after what leaves the ring. -/
theorem SameField.sameRing {g : Fld} (h : SameField g s u) (hring : SameRing u v)
    (hg : (decide (0xA0000 ≤ g.off) && decide (g.off < 0xA0180)) = true) : SameField g s v := by
  simp only [Bool.and_eq_true, decide_eq_true_eq] at hg
  exact (State.get_congr u (hring.2 g.off hg.1 hg.2)).trans h

theorem SameRing.ite {p : Prop} [Decidable p] (hu : SameRing s u) (hv : SameRing s v) : SameRing s (if p then u else v) := by
  split
  · exact hu
  · exact hv

theorem SameRing.set (h : SameRing s u) {f : Fld} (n : Nat) (hf : f.off < 0xA0000 ∨ 0xA0180 ≤ f.off) :
    SameRing s (u.set f n) :=
  ⟨h.1, fun off hlow hhigh => (u.reg_set_other n (by omega)).trans (h.2 off hlow hhigh)⟩

theorem SameRing.bump (h : SameRing s u) {f : Fld} (n : Nat) (hf : f.off < 0xA0000 ∨ 0xA0180 ≤ f.off) :
    SameRing s (u.bump f n) := h.set _ hf

@[simp] theorem State.peal_cause (s : State) (f : Fld) (n : Nat) : (s.cause f n).peal = s.peal := by
  obtain ⟨l, hl⟩ := sendNewMsi_sent s (s.set f (s.get f ||| n))
  rw [State.cause, hl]
  rfl

theorem SameRing.cause (h : SameRing s u) {f : Fld} (n : Nat) (hf : f.off < 0xA0000 ∨ 0xA0180 ≤ f.off) :
    SameRing s (u.cause f n) :=
  ⟨(u.peal_cause f n).trans h.1, fun off hlow hhigh => (u.reg_cause_other n (by omega)).trans (h.2 off hlow hhigh)⟩

theorem SameRing.summary (h : SameRing s u) (k n : Nat) : SameRing s (u.summary k n) :=
  .ite h (h.bump n (.inr (by simp only [F.HEALTH_SUMMARY]; omega)))

theorem SameRing.setHealth (h : SameRing s u) (x : Health) : SameRing s { u with health := x } := h

theorem SameRing.queueHealth (h : SameRing s u) (e : HealthEvent) : SameRing s (u.queueHealth e) :=
  .ite (h.setHealth _) ((h.bump _ (.inr (by decide))).cause _ (.inr (by decide)))

theorem SameRing.limpRaise (h : SameRing s u) (code inst : Nat) : SameRing s (u.limpRaise code inst) := by
  unfold State.limpRaise
  extract_lets new x s1 s2 s3 s4
  have h1 : SameRing s s1 := h.setHealth _
  have h3 : SameRing s s3 := ((h1.set _ (.inr (by decide))).cause _ (.inr (by decide))).set _ (.inr (by decide))
  exact .ite h (.queueHealth (.ite ((h3.cause _ (.inr (by decide))).set _ (.inr (by decide))) h3) _)

theorem SameRing.limpClear (h : SameRing s u) (code inst : Nat) : SameRing s (u.limpClear code inst) := by
  unfold State.limpClear
  extract_lets x s1 s2
  have h1 : SameRing s s1 := h.setHealth _
  exact .ite (.queueHealth (.ite h1 (h1.cause _ (.inr (by decide)))) _) h

/-! ### Events and the Pantry (R348, R394) -/

theorem SameRing.touchBank (h : SameRing s u) (b : Nat) : SameRing s (u.touchBank b) := by
  unfold State.touchBank
  extract_lets x s1
  have h1 : SameRing s s1 := h
  exact .ite h (.ite h1 ((h1.set _ (.inr (by simp only [F.BK_STATUS_REST]; omega))).bump _ (.inr (by decide))))

theorem SameRing.checkWord (h : SameRing s u) (w : Nat) (patrol : Bool) : SameRing s (u.checkWord w patrol).2 := by
  unfold State.checkWord
  extract_lets m b s1 s2 s3
  split
  · exact h
  split
  · have h1 : SameRing s s1 :=
      (SameRing.bump (u := { u with perr := u.perr.set 0 w 0 }) h _ (.inr (by simp only [F.BK_ERR_CORR]; omega))).bump _
        (.inr (by decide))
    exact (h1.cause _ (.inr (by decide))).summary _ _
  · have h2 : SameRing s s2 := ((h.bump _ (.inr (by simp only [F.BK_ERR_UNCORR]; omega))).bump _ (.inr (by decide))).set _
      (.inr (by decide))
    have h3 : SameRing s s3 :=
      ((h2.set _ (.inr (by decide))).set _ (.inr (by decide))).set _ (.inr (by decide))
    exact (h3.cause _ (.inr (by decide))).summary _ _

theorem SameRing.mergeWord (h : SameRing s u) (w : Nat) : SameRing s (u.mergeWord w).2 := by
  have hc := h.checkWord w false
  unfold State.mergeWord
  exact .ite hc hc

theorem SameRing.pwrite (h : SameRing s u) (a : Nat) (l : List Byte) : SameRing s (u.pwrite a l) := by
  unfold State.pwrite State.pwriteCheck
  split
  · exact h
  · extract_lets e part
    exact foldl_keeps (fun r : Bool × State => SameRing s r.2)
      (fun r w => ((r.2.mergeWord w).1 || r.1, (r.2.mergeWord w).2)) (fun r w hr => hr.mergeWord w) part
      (false, u.touchBank (bankOf a)) (h.touchBank _)

theorem SameRing.writeEvent (h : SameRing s u) (code time : Nat) (data : List Byte) :
    SameRing s (u.writeEvent code time data) :=
  ((h.pwrite _ _).set _ (.inl (by decide))).cause _ (.inl (by decide))

theorem SameRing.flushLost (h : SameRing s u) : SameRing s u.flushLost := by
  have hw := h.writeEvent 0xF u.devTime (leBytes 4 u.evLostPend)
  exact .ite hw h

/-- An event is counted in the registers of the porches and of the Pantry alone. -/
theorem SameRing.postEvent (h : SameRing s u) (code : Nat) (data : List Byte) : SameRing s (u.postEvent code data) := by
  have hf := h.flushLost
  have hlost := (hf.bump (f := F.PORCH_EV_LOST) 1 (.inl (by decide))).cause (f := F.PORCH_EV_INT_STATUS_LOST) 1
    (.inl (by decide))
  exact .ite (.ite (hf.writeEvent _ _ _) hlost) h

end

/-! ### Causes of the ring -/

/-- The fields in which a cause of the ring is shown. -/
def causeFlds : List Fld := [F.PEAL_LAST_EVENT_CAUSE, F.PEAL_LAST_EVENT_VALID, F.PEAL_LAST_EVENT_ID, F.PEAL_INT_STATUS]

section
variable {s u : State} {g : Fld}

theorem SameField.pealCause (h : SameField g s u) (hg : g.clearOf causeFlds = true) (bit id : Nat) :
    SameField g s (u.pealCause bit id) :=
  (((h.set hg (f := F.PEAL_LAST_EVENT_CAUSE) (by decide) _).set hg (f := F.PEAL_LAST_EVENT_VALID) (by decide) _).set hg
    (f := F.PEAL_LAST_EVENT_ID) (by decide) _).causeBit hg (f := F.PEAL_INT_STATUS) (by decide) _

theorem SameTiming.pealCause (h : SameTiming s u) (bit id : Nat) : SameTiming s (u.pealCause bit id) :=
  (((h.set _ _).set _ _).set _ _).causeBit _ _

@[simp] theorem State.peal_pealCause (s : State) (bit id : Nat) : (s.pealCause bit id).peal = s.peal := by
  simp [State.pealCause, State.causeBit]

@[simp] theorem State.health_pealCause (s : State) (bit id : Nat) : (s.pealCause bit id).health = s.health := by
  simp [State.pealCause, State.causeBit]

end

/-! ### The reference port (R290, R293) -/

/-- The fields in which the reference and the holdover are shown. -/
def refFlds : List Fld :=
  [F.PP_STATUS_REF 0, F.PP_STATUS_REF 1, F.PEAL_RING_STATUS_REF_PORT, F.PEAL_HOLDOVER_US, F.PEAL_RING_STATUS_HOLDOVER]

section
variable {s u : State} {g : Fld}

theorem SameField.setRef (h : SameField g s u) (hg : g.clearOf refFlds = true) (r : Option Nat) :
    SameField g s (u.setRef r) := by
  have h1 := (h.set hg (f := F.PP_STATUS_REF 0) (by decide) (b2n (r = some 0))).set hg (f := F.PP_STATUS_REF 1) (by decide)
    (b2n (r = some 1))
  cases r with
  | none => exact h1
  | some k => exact h1.set hg (f := F.PEAL_RING_STATUS_REF_PORT) (by decide) k

theorem SameField.setPeal (h : SameField g s u) (x : Peal) : SameField g s { u with peal := x } := h

theorem SameField.endHoldover (h : SameField g s u) (hg : g.clearOf refFlds = true) : SameField g s u.endHoldover := by
  unfold State.endHoldover
  extract_lets s1 x
  have h1 : SameField g s s1 :=
    (h.bump hg (f := F.PEAL_HOLDOVER_US) (by decide) _).set hg (f := F.PEAL_RING_STATUS_HOLDOVER) (by decide) _
  exact h1.setPeal x

theorem SameField.chooseRef (h : SameField g s u) (hg : g.clearOf (refFlds ++ causeFlds) = true) :
    SameField g s u.chooseRef := by
  have href := Fld.clearOf_mono hg (List.subset_append_left _ _)
  have hcause := Fld.clearOf_mono hg (List.subset_append_right _ _)
  unfold State.chooseRef
  split
  · exact (h.setRef href _).endHoldover href
  · extract_lets s1
    have h1 : SameField g s s1 := h.setRef href none
    split
    · exact h1
    · exact (h1.setPeal _).pealCause hcause _ _

theorem State.setRef_shows (s : State) (r : Option Nat) : OnlyRegs s (s.setRef r) := by
  cases r with
  | none => exact ((OnlyRegs.refl s).set _ _).set _ _
  | some k => exact (((OnlyRegs.refl s).set _ _).set _ _).set _ _

theorem State.endHoldover_ends (s : State) :
    OnlyRegs { s with peal := { s.peal with holdFrom := none, holdCounted := 0 } } s.endHoldover := by
  obtain ⟨r, hr⟩ := ((OnlyRegs.refl s).bump F.PEAL_HOLDOVER_US s.holdoverDue).set F.PEAL_RING_STATUS_HOLDOVER 0
  unfold State.endHoldover
  rw [hr]
  exact ⟨r, rfl⟩

/-- The choice of the reference changes registers, and of the engine the holdover alone. -/
theorem State.chooseRef_keeps (s : State) : s.chooseRef.health = s.health ∧
    ∃ h n, s.chooseRef.peal = { s.peal with holdFrom := h, holdCounted := n } := by
  unfold State.chooseRef
  split
  next k _ =>
    obtain ⟨x, hx⟩ := s.setRef_shows (some k)
    obtain ⟨r, hr⟩ := (s.setRef (some k)).endHoldover_ends
    rw [hr, hx]
    exact ⟨rfl, _, _, rfl⟩
  · obtain ⟨r, hr⟩ := s.setRef_shows none
    extract_lets s1 x
    have h1 : s1 = { s with regs := r } := hr
    split
    · rw [h1]
      exact ⟨rfl, _, _, rfl⟩
    · rw [State.health_pealCause, State.peal_pealCause]
      unfold x
      rw [h1]
      exact ⟨rfl, _, _, rfl⟩

end

/-! ### Frames that this device sends (R283, R284) -/

section
variable (s : State) (kind : Nat) (payload : List Byte)

/-- A LOCAL frame leaves its port. -/
theorem State.pealLocal_sends (k : Nat) : ∃ f : PealFrame, (s.pealLocal k kind payload).sent = .peal k f :: s.sent ∧
    f.kind = kind ∧ f.flags = 1 ∧ f.payload = payload := by
  refine ⟨_, State.sent_pealSend _ _ _, rfl, rfl, rfl⟩

theorem State.peal_pealLocal (k : Nat) : ∃ q, (s.pealLocal k kind payload).peal = { s.peal with seqOut := q } :=
  ⟨_, State.peal_pealSend _ _ _⟩

theorem SameField.pealLocal {g : Fld} {s u : State} (h : SameField g s u) {k : Nat} (hk : k < 2)
    (hg : g.clearOf portFlds = true) : SameField g s (u.pealLocal k kind payload) :=
  SameField.pealSend k _ (u := (u.pealSeq kind).2) h (Fld.clearOf_mono hg (sendFlds_subset hk))

theorem State.mem_pealUps {k : Nat} : k ∈ s.pealUps ↔ k < 2 ∧ s.pealUp k = true := by
  simp only [State.pealUps, List.mem_filter, List.mem_cons, List.not_mem_nil, or_false]
  exact and_congr_left fun _ => by omega

/-- Where each of some ports is sent a frame, one port after another, each has been sent one. -/
theorem State.mem_sent_foldl {send : State → Nat → State} {P : PealFrame → Prop}
    (hsend : ∀ (a : State) (j : Nat), ∃ f, P f ∧ (send a j).sent = .peal j f :: a.sent) {k : Nat} {l : List Nat} (hk : k ∈ l)
    (s : State) : ∃ f, .peal k f ∈ (l.foldl send s).sent ∧ P f := by
  induction l generalizing s with
  | nil => cases hk
  | cons j l ih =>
    rw [List.foldl_cons]
    obtain rfl | hk := List.mem_cons.1 hk
    · obtain ⟨f, hP, hsent⟩ := hsend s k
      refine ⟨f, foldl_keeps (fun a : State => .peal k f ∈ a.sent) _ (fun a i ha => ?_) l _ ?_, hP⟩
      · obtain ⟨g, -, hg⟩ := hsend a i
        rw [hg]
        exact List.mem_cons_of_mem _ ha
      · rw [hsent]
        exact List.mem_cons_self
    · exact ih hk _

/-- A frame to one device or to all leaves every port that is UP. -/
theorem State.pealOriginate_sends (dst : Nat) {k : Nat} (hk : k ∈ s.pealUps) : ∃ f : PealFrame,
    .peal k f ∈ (s.pealOriginate kind dst payload).sent ∧ f.kind = kind ∧ f.dst = dst ∧ f.payload = payload :=
  State.mem_sent_foldl (fun a j => ⟨_, ⟨rfl, rfl, rfl⟩, State.sent_pealSend a j _⟩) hk (s.pealSeq kind).2

theorem State.peal_pealOriginate (dst : Nat) : ∃ q, (s.pealOriginate kind dst payload).peal = { s.peal with seqOut := q } :=
  ⟨_, foldl_keeps (fun a : State => a.peal = (s.pealSeq kind).2.peal) _
    (fun a k ha => (State.peal_pealSend a k _).trans ha) _ (s.pealSeq kind).2 rfl⟩

theorem SameField.pealOriginate {g : Fld} {s u : State} (h : SameField g s u) (hg : g.clearOf portFlds = true) (dst : Nat) :
    SameField g s (u.pealOriginate kind dst payload) :=
  List.foldlRecOn _ _ (motive := SameField g s) (show SameField g s (u.pealSeq kind).2 from h) fun _ ha k hk =>
    SameField.pealSend k _ ha (Fld.clearOf_mono hg (sendFlds_subset ((u.pealSeq kind).2.mem_pealUps.1 hk).1))

end

/-! ### The limit of a field -/

/-- The value of a field lies below its width. -/
theorem State.get_lt (s : State) (f : Fld) : s.get f < 2 ^ f.width := Nat.mod_lt _ (Nat.two_pow_pos _)

end Sys2Proof.Machine
end

section
/-! The events of the Peal ports, of ring time and of the ring table (R281, R284, R289, R291, R293). -/

namespace Sys2Proof.Machine

/-! ### The engine beside a port -/

section
variable (s : State)

@[simp] theorem State.peal1_setPeal1_same (k : Nat) (x : PealPort) : (s.setPeal1 k x).peal1 k = x := Tbl.get_set_same _ _ _ _

theorem State.peal1_congr {s u : State} (h : u.peal.ports = s.peal.ports) (k : Nat) : u.peal1 k = s.peal1 k := by
  rw [State.peal1, State.peal1, h]

theorem State.peal1_pealCause (bit id k : Nat) : (s.pealCause bit id).peal1 k = s.peal1 k :=
  State.peal1_congr (by rw [State.peal_pealCause]) k

theorem SameField.setPeal1 {g : Fld} {s u : State} (h : SameField g s u) (k : Nat) (x : PealPort) :
    SameField g s (u.setPeal1 k x) := h

end

/-- A port is in the same state in two states of the device, with the same limp conditions. -/
def SamePort (k : Nat) (s u : State) : Prop :=
  SameField (F.PP_STATUS_STATE k) s u ∧ SameField (F.PP_STATUS_DOWN_CAUSE k) s u ∧ u.peal.ports = s.peal.ports ∧ u.health = s.health

theorem SamePort.refl (k : Nat) (s : State) : SamePort k s s := ⟨rfl, rfl, rfl, rfl⟩

theorem SamePort.ite {k : Nat} {s u v : State} {p : Prop} [Decidable p] (hu : SamePort k s u) (hv : SamePort k s v) :
    SamePort k s (if p then u else v) := by
  split
  · exact hu
  · exact hv

/-- The choice of the reference leaves the ports as they are. -/
theorem SamePort.chooseRef {k : Nat} {s u : State} (h : SamePort k s u) (hk : k < 2) : SamePort k s u.chooseRef := by
  obtain ⟨hstate, hcause, hports, hhealth⟩ := h
  obtain ⟨hsame, x, n, hpeal⟩ := u.chooseRef_keeps
  exact ⟨hstate.chooseRef (by interval_cases k <;> decide), hcause.chooseRef (by interval_cases k <;> decide),
    (congrArg Peal.ports hpeal).trans hports, hsame.trans hhealth⟩

theorem SamePort.refSwitch {k : Nat} {s u : State} (h : SamePort k s u) (hk : k < 2) : SamePort k s (u.bump F.PEAL_REF_SWITCH) :=
  ⟨h.1.bump (l := [F.PEAL_REF_SWITCH]) (by interval_cases k <;> decide) (List.mem_singleton_self _) 1,
    h.2.1.bump (l := [F.PEAL_REF_SWITCH]) (by interval_cases k <;> decide) (List.mem_singleton_self _) 1, h.2.2⟩

/-! ### A port comes UP (R281) -/

/-- A port that has trained is UP. -/
def State.portTrained (s : State) (k nport : Nat) : State :=
  (((s.set (F.PP_STATUS_STATE k) 2).set (F.PP_NEIGHBOUR_PORT k) nport).setPeal1 k
    { s.peal1 k with upAt := s.now, lastRx := s.now, crcAt := [] }).pealCause 1 (s.neighbour k)

theorem State.portTrained_shows (s : State) {k : Nat} (hk : k < 2) (nport : Nat) :
    (s.portTrained k nport).get (F.PP_STATUS_STATE k) = 2 ∧ ((s.portTrained k nport).peal1 k).upAt = s.now := by
  have hset : (s.set (F.PP_STATUS_STATE k) 2).get (F.PP_STATUS_STATE k) = 2 :=
    State.get_set_same _ _ _ (by simp [F.PP_STATUS_STATE])
  have hport := (SameField.refl (F.PP_STATUS_STATE k) (s.set (F.PP_STATUS_STATE k) 2)).set (l := [F.PP_NEIGHBOUR_PORT k])
    (by interval_cases k <;> decide) (List.mem_singleton_self _) nport
  refine ⟨?_, ?_⟩
  · rw [State.portTrained, ((hport.setPeal1 k _).pealCause (by interval_cases k <;> decide) _ _).get, hset]
  · rw [State.portTrained, State.peal1_pealCause, State.peal1_setPeal1_same]

section
variable {s a : State} {t k : Nat} (h : Live s t a)
include h

theorem Live.pealPortUp_ups {nport lock : Nat} (hon : a.pealOn k = true) (hup : a.pealUp k = false) (hlock : 1000000 ≤ lock)
    (hsync : (a.peal1 k).sync.length = 8) :
    ∃ u, Gives (.pealPortUp t k nport lock) s u ∧ u.pealUp k = true ∧ (u.peal1 k).upAt = a.now := by
  have hk := State.lt_of_pealOn hon
  obtain ⟨hstate, hat⟩ := a.portTrained_shows hk nport
  have hstep := h.gives_of_coreStep (exec_pealPortUp t k nport lock s)
  dsimp only at hstep
  rw [if_pos ⟨hon, by simp [hup], hlock, hsync⟩, ← State.portTrained] at hstep
  refine ⟨_, hstep, ?_⟩
  obtain ⟨hup, -, hports, -⟩ := SamePort.ite (p := (a.portTrained k nport).inRing ∧ !(a.portTrained k nport).isMaster ∧
    (a.portTrained k nport).refPort = none) ((SamePort.refl k (a.portTrained k nport)).chooseRef hk) (.refl k _)
  rw [State.pealUp, hup.get, hstate, State.peal1_congr hports]
  exact ⟨rfl, hat⟩

end

/-! ### A port goes DOWN (R281, R293, R315) -/

/-- A port that is DOWN, its exchanges and its errors forgotten. -/
def State.portLost (s : State) (k cause : Nat) : State :=
  let s1 := (s.set (F.PP_STATUS_STATE k) 3).set (F.PP_STATUS_DOWN_CAUSE k) cause
  (s1.setPeal1 k { s1.peal1 k with sync := [], t1 := none, crcAt := [] }).pealCause 0 (s1.neighbour k)

/-- The same with the limp condition of a port that belonged to a ring formed. -/
def State.portLimps (s : State) (k cause : Nat) : State :=
  if ((s.portLost k cause).peal1 k).formed then (s.portLost k cause).limpRaise 0x0D k else s.portLost k cause

section
variable (s : State) {k : Nat} (hk : k < 2) (cause : Nat)

theorem State.formed_portLost : ((s.portLost k cause).peal1 k).formed = (s.peal1 k).formed := by
  rw [State.portLost, State.peal1_pealCause, State.peal1_setPeal1_same]
  rfl

include hk

theorem State.portLost_shows : (s.portLost k cause).get (F.PP_STATUS_STATE k) = 3 ∧
    (s.portLost k cause).get (F.PP_STATUS_DOWN_CAUSE k) = cause % 4 ∧ ((s.portLost k cause).peal1 k).sync = [] := by
  have hfit : (F.PP_STATUS_STATE k).lo + (F.PP_STATUS_STATE k).width ≤ 32 ∧
      (F.PP_STATUS_DOWN_CAUSE k).lo + (F.PP_STATUS_DOWN_CAUSE k).width ≤ 32 := by simp [F.PP_STATUS_STATE, F.PP_STATUS_DOWN_CAUSE]
  have hstate := (SameField.refl (F.PP_STATUS_STATE k) (s.set (F.PP_STATUS_STATE k) 3)).set (l := [F.PP_STATUS_DOWN_CAUSE k])
    (by interval_cases k <;> decide) (List.mem_singleton_self _) cause
  have hcause := SameField.refl (F.PP_STATUS_DOWN_CAUSE k)
    ((s.set (F.PP_STATUS_STATE k) 3).set (F.PP_STATUS_DOWN_CAUSE k) cause)
  refine ⟨?_, ?_, ?_⟩
  · rw [State.portLost, ((hstate.setPeal1 k _).pealCause (by interval_cases k <;> decide) _ _).get,
      State.get_set_same _ _ _ hfit.1]
    rfl
  · rw [State.portLost, ((hcause.setPeal1 k _).pealCause (by interval_cases k <;> decide) _ _).get,
      State.get_set_same _ _ _ hfit.2]
    rfl
  · rw [State.portLost, State.peal1_pealCause, State.peal1_setPeal1_same]

theorem State.pealDown_shows : (s.pealDown k cause).get (F.PP_STATUS_STATE k) = 3 ∧
    (s.pealDown k cause).get (F.PP_STATUS_DOWN_CAUSE k) = cause % 4 ∧ ((s.pealDown k cause).peal1 k).sync = [] ∧
      ((s.peal1 k).formed = true → (0x0D, k) ∈ (s.pealDown k cause).health.limps) := by
  obtain ⟨hstate, hcause, hsync⟩ := s.portLost_shows hk cause
  have hlimps : SameRing (s.portLost k cause) (s.portLimps k cause) := .ite ((SameRing.refl _).limpRaise _ _) (.refl _)
  have href := (SamePort.refl k (s.portLimps k cause)).chooseRef hk
  obtain ⟨hstate', hcause', hports, hhealth⟩ : SamePort k (s.portLimps k cause) (s.pealDown k cause) :=
    .ite (.ite (href.refSwitch hk) href) (.refl k _)
  refine ⟨?_, ?_, ?_, fun hformed => ?_⟩
  · rw [hstate'.get, ((SameField.refl _ _).sameRing hlimps (by interval_cases k <;> decide)).get, hstate]
  · rw [hcause'.get, ((SameField.refl _ _).sameRing hlimps (by interval_cases k <;> decide)).get, hcause]
  · rw [State.peal1_congr hports, State.peal1_congr (congrArg Peal.ports hlimps.1), hsync]
  · rw [hhealth, State.portLimps, if_pos ((s.formed_portLost cause).trans hformed)]
    exact State.mem_limps_limpRaise _ _ _

end

section
variable {s a : State} {t k : Nat} (h : Live s t a)
include h

theorem Live.pealPortDown_downs {cause lost : Nat} (hon : a.pealOn k = true) (hup : a.pealUp k = true)
    (hdue : cause = 0 ∧ 100000 < lost ∨ cause = 1 ∧ (a.peal1 k).lastRx + 50000 ≤ a.now ∨
      cause = 2 ∧ 16 ≤ (a.recentCrc k).length) :
    ∃ u, Gives (.pealPortDown t k cause lost) s u ∧ u.get (F.PP_STATUS_STATE k) = 3 ∧
      u.get (F.PP_STATUS_DOWN_CAUSE k) = cause ∧ (u.peal1 k).sync = [] ∧
      ((a.peal1 k).formed = true → (0x0D, k) ∈ u.health.limps) := by
  have hk := State.lt_of_pealOn hon
  have hstep := h.gives_of_coreStep (exec_pealPortDown t k cause lost s)
  dsimp only at hstep
  rw [if_pos] at hstep
  case hc =>
    refine ⟨hon, hup, ?_⟩
    obtain ⟨rfl, hx⟩ | ⟨rfl, hx⟩ | ⟨rfl, hx⟩ := hdue <;> exact decide_eq_true hx
  have hlt : cause % 4 = cause := by omega
  have hformed : ∀ b : State, b = (if cause = 0 then a.bump (F.PP_LOCK_LOSS k) else a) →
      (b.peal1 k).formed = (a.peal1 k).formed := by
    rintro b rfl
    split <;> rfl
  obtain ⟨hstate, hcause, hsync, hlimp⟩ := State.pealDown_shows (if cause = 0 then a.bump (F.PP_LOCK_LOSS k) else a) hk cause
  exact ⟨_, hstep, hstate, hcause.trans hlt, hsync, fun hf => hlimp ((hformed _ rfl).trans hf)⟩

/-- Holdover on SYSCLK is shown after 10 ms (R293). -/
theorem Live.holdoverTimeout_shows {x : Nat} (hx : a.peal.holdFrom = some x) (hdue : x + 10000000 ≤ a.now) :
    ∃ u, Gives (.holdoverTimeout t) s u ∧ u.flag F.PEAL_RING_STATUS_HOLDOVER = true := by
  have hstep := h.gives_of_coreStep (exec_holdoverTimeout t s)
  rw [hx] at hstep
  dsimp only at hstep
  rw [if_pos hdue] at hstep
  refine ⟨_, hstep, ?_⟩
  rw [State.flag, State.get_set_same _ _ _ (by decide)]
  rfl

end

/-! ### Frames that are discarded (R284) -/

/-- The registers in which the last error of a port is shown. -/
def errFlds (k : Nat) : List Fld := [F.PP_LAST_ERR_KIND k, F.PP_LAST_ERR_VALID k, F.PP_LAST_ERR_SRC k]

theorem SameField.pealError {g : Fld} {s u : State} (h : SameField g s u) {k : Nat} (hg : g.clearOf (errFlds k) = true)
    (kind src : Nat) : SameField g s (u.pealError k kind src) :=
  ((h.set hg (f := F.PP_LAST_ERR_KIND k) (by simp [errFlds]) _).set hg (f := F.PP_LAST_ERR_VALID k) (by simp [errFlds]) _).set hg
    (f := F.PP_LAST_ERR_SRC k) (by simp [errFlds]) _

theorem State.pealError_shows (s : State) (k kind src : Nat) : OnlyRegs s (s.pealError k kind src) :=
  (((OnlyRegs.refl s).set _ _).set _ _).set _ _

/-- What a CRC error leaves. -/
def State.crcError (s : State) (k src : Nat) : State :=
  ((s.setPeal1 k { s.peal1 k with crcAt := s.now :: s.recentCrc k }).bump (F.PP_CRC_ERR k)).pealError k 0 src

theorem State.crcError_shows (s : State) {k : Nat} (hk : k < 2) (src : Nat) : s.now ∈ ((s.crcError k src).peal1 k).crcAt ∧
    (s.crcError k src).get (F.PP_CRC_ERR k) = min (s.get (F.PP_CRC_ERR k) + 1) (2 ^ (F.PP_CRC_ERR k).width - 1) := by
  unfold State.crcError
  generalize hx : ({ s.peal1 k with crcAt := s.now :: s.recentCrc k } : PealPort) = x
  have herr : SameField (F.PP_CRC_ERR k) ((s.setPeal1 k x).bump (F.PP_CRC_ERR k))
      (((s.setPeal1 k x).bump (F.PP_CRC_ERR k)).pealError k 0 src) :=
    (SameField.refl _ _).pealError (by interval_cases k <;> decide) 0 src
  have hport : (((s.setPeal1 k x).bump (F.PP_CRC_ERR k)).pealError k 0 src).peal1 k = x :=
    (State.peal1_congr (congrArg Peal.ports (State.pealError_shows _ k 0 src).peal) k).trans (State.peal1_setPeal1_same s k x)
  refine ⟨?_, ?_⟩
  · rw [hport, ← hx]
    exact List.mem_cons_self
  · rw [herr.get, State.get_bump_one _ _ (le_refl 32)]
    rfl

theorem State.get_blockError (a : State) {k : Nat} (hk : k < 2) (src : Nat) : ((a.bump (F.PP_BLOCK_ERR k)).pealError k 1 src).get (F.PP_BLOCK_ERR k) =
    min (a.get (F.PP_BLOCK_ERR k) + 1) (2 ^ (F.PP_BLOCK_ERR k).width - 1) := by
  have herr : SameField (F.PP_BLOCK_ERR k) (a.bump (F.PP_BLOCK_ERR k)) ((a.bump (F.PP_BLOCK_ERR k)).pealError k 1 src) :=
    (SameField.refl _ _).pealError (by interval_cases k <;> decide) 1 src
  rw [herr.get, State.get_bump_one _ _ (le_refl 32)]

section
variable {s a : State} {t k : Nat} (h : Live s t a)
include h

theorem Live.pealFrameDiscard_crc (src : Nat) (hon : a.pealOn k = true) :
    Gives (.pealFrameDiscard t k 0 src none) s (a.crcError k src) := by
  have hstep := h.gives_of_coreStep (exec_pealFrameDiscard t k 0 src none s)
  dsimp only at hstep
  rw [if_pos hon] at hstep
  exact hstep

theorem Live.pealFrameDiscard_block (src : Nat) (hon : a.pealOn k = true) :
    Gives (.pealFrameDiscard t k 1 src none) s ((a.bump (F.PP_BLOCK_ERR k)).pealError k 1 src) := by
  have hstep := h.gives_of_coreStep (exec_pealFrameDiscard t k 1 src none s)
  dsimp only at hstep
  rw [if_pos hon] at hstep
  exact hstep

theorem Live.pealFrameDiscard_format (err src : Nat) {f : PealFrame} (hon : a.pealOn k = true) (hup : a.pealUp k = true)
    (hbad : frameOk f = false) : ∃ u, Gives (.pealFrameDiscard t k err src (some f)) s u ∧
      u.get (F.PP_FORMAT_ERR k) = min (a.get (F.PP_FORMAT_ERR k) + 1) (2 ^ (F.PP_FORMAT_ERR k).width - 1) := by
  have hstep := h.gives_of_coreStep (exec_pealFrameDiscard t k err src (some f) s)
  dsimp only at hstep
  rw [if_pos hon, State.classify_format hbad] at hstep
  obtain ⟨-, -, hcount⟩ := State.Handles.discards (s := a) (k := k) (f := f) ⟨hon, .inr hup⟩ id (State.classify_format hbad) (by simp)
  exact ⟨_, hstep, hcount⟩

/-! ### Ring time, STATUS frames and the ring table (R281, R289, R291) -/

theorem Live.syncExchange_starts (hon : a.pealOn k = true) : ∃ u g, Gives (.syncExchange t k) s u ∧
    (u.peal1 k).t1 = some a.devTime ∧ u.sent = .peal k g :: a.sent ∧ g.kind = 4 ∧ g.flags = 1 ∧
      g.payload = syncPayload 0 a.devTime 0 0 := by
  have hstep := h.gives_of_coreStep (exec_syncExchange t k s)
  dsimp only at hstep
  rw [if_pos hon] at hstep
  obtain ⟨g, hsent, hkind, hflags, hpayload⟩ := (a.setPeal1 k { a.peal1 k with t1 := some a.devTime }).pealLocal_sends 4
    (syncPayload 0 a.devTime 0 0) k
  obtain ⟨q, hq⟩ := (a.setPeal1 k { a.peal1 k with t1 := some a.devTime }).peal_pealLocal 4 (syncPayload 0 a.devTime 0 0) k
  refine ⟨_, g, hstep, ?_, hsent, hkind, hflags, hpayload⟩
  rw [State.peal1_congr (congrArg Peal.ports hq :), State.peal1_setPeal1_same]

theorem Live.statusSend_sends (hring : a.inRing = true) (hmaster : a.isMaster = false) (hid : a.masterId ≠ a.deviceId) :
    ∃ u, Gives (.statusSend t) s u ∧ ∀ j ∈ a.pealUps, ∃ g, .peal j g ∈ u.sent ∧ g.kind = 7 ∧ g.dst = a.masterId := by
  have hstep := h.gives_of_coreStep (exec_statusSend t s)
  dsimp only at hstep
  rw [if_pos ⟨hring, by simp [hmaster], hid⟩] at hstep
  refine ⟨_, hstep, fun j hj => ?_⟩
  obtain ⟨g, hg, hkind, hdst, -⟩ := a.pealOriginate_sends 7 _ a.masterId hj
  exact ⟨g, hg, hkind, hdst⟩

theorem Live.presenceExpire_expires {d : RingDev} {x : Nat} (hd : d ∈ a.peal.table) (hseen : d.seen = some x)
    (hdue : x + 30000000 ≤ a.now) : ∃ u, Gives (.presenceExpire t d.id) s u ∧ { d with seen := none } ∈ u.peal.table := by
  refine ⟨_, h.gives_of_coreStep (exec_presenceExpire t d.id s), List.mem_map.2 ⟨d, hd, ?_⟩⟩
  rw [hseen]
  exact if_pos ⟨rfl, hdue⟩

end

end Sys2Proof.Machine
end

section
/-! The events of a round that fails, of tolls, of the Clapper line and of ring-wide PACE (R287, R297, R299, R301 to R303, R308,
R309, R311). -/

namespace Sys2Proof.Machine

/-! ### A round that fails (R287) -/

/-- A round that fails shows its result, and the ring has none. -/
theorem State.failRound_shows (s : State) (result : Nat) : (s.failRound result).get F.PEAL_DISCOVERY_RESULT = result % 8 ∧
    (s.failRound result).get F.PEAL_RING_STATUS_STATE = 4 ∧ (s.failRound result).peal.roundAt = none := by
  unfold State.failRound
  extract_lets f x s1 s2 s3
  have hround : s3.peal.roundAt = none :=
    foldl_keeps (fun a : State => a.peal.roundAt = none) (fun (a : State) (r : Nat × Word) => a.setReg r.1 r.2) (fun _ _ ha => ha) f.regs s1 rfl
  have hresult : s3.get F.PEAL_DISCOVERY_RESULT = result % 8 := by
    have h := (SameField.refl F.PEAL_DISCOVERY_RESULT (s2.set F.PEAL_DISCOVERY_RESULT result)).set (l := [F.PEAL_RING_STATUS_STATE])
      (by decide) (List.mem_singleton_self _) 4
    exact h.get.trans (State.get_set_same _ _ _ (by decide))
  have hstate : s3.get F.PEAL_RING_STATUS_STATE = 4 := State.get_set_same _ _ _ (by decide)
  have hring : ∀ data, SameRing (s3.pealCause 3 s3.deviceId) ((s3.pealCause 3 s3.deviceId).postEvent 9 data) := fun data =>
    (SameRing.refl _).postEvent 9 data
  refine ⟨?_, ?_, ?_⟩
  · rw [(((SameField.refl F.PEAL_DISCOVERY_RESULT s3).pealCause (by decide) _ _).sameRing (hring _) (by decide)).get, hresult]
  · rw [(((SameField.refl F.PEAL_RING_STATUS_STATE s3).pealCause (by decide) _ _).sameRing (hring _) (by decide)).get, hstate]
  · rw [(hring _).1, State.peal_pealCause, hround]

section
variable {s a : State} {t : Nat} (h : Live s t a)
include h

theorem Live.discoveryTimeout_fails {x : Nat} (hx : a.peal.roundAt = some x) (hdue : x + 100000000 ≤ a.now) :
    Gives (.discoveryTimeout t) s (a.failRound 2) := by
  have hstep := h.gives_of_coreStep (exec_discoveryTimeout t s)
  rw [hx] at hstep
  dsimp only at hstep
  rwa [if_pos hdue] at hstep

theorem Live.clapperConflict_fails {x : Nat} (hx : a.peal.claimFrom = some x) (hmaster : a.isMaster = true)
    (hheld : a.peal.released = false) (hdue : max x a.peal.clapperSince + 10000000 ≤ a.now) :
    Gives (.clapperConflict t) s ((a.roleConflict a.deviceId).failRound 4) := by
  have hstep := h.gives_of_coreStep (exec_clapperConflict t s)
  rw [hx] at hstep
  dsimp only at hstep
  rwa [if_pos ⟨hmaster, by simp [hheld], hdue⟩] at hstep

end

/-! ### A track that stops, and the fields of the ring (R168, R297) -/

section
variable {s u : State} {g : Fld} {tr : Nat}

theorem SameField.setTrack (h : SameField g s u) (hoff : g.off ≠ (F.TRACK_TR_STATUS tr).off) (x : Track) :
    SameField g s (u.setTrack tr x) :=
  ((SameAt.refl u g.off).setTrack tr x hoff).get.trans h

theorem SameField.tollStop (h : SameField g s u) (hg : g.clearOf (F.PEAL_TOLL_TX :: portFlds) = true) (cause : Nat)
    (stop : Option Nat) (clocked : Bool) : SameField g s (u.tollStop tr cause stop clocked) := by
  unfold State.tollStop
  split
  · exact .ite ((h.pealOriginate _ _ (Fld.clearOf_mono hg (List.subset_cons_self _ _)) _).bump hg List.mem_cons_self _) h
  · exact h

/-- The stop of a track shows in its status, and in the counters of the toll that is sent. -/
theorem SameField.stopTrack (h : SameField g s u) (hg : g.clearOf (F.PEAL_TOLL_TX :: portFlds) = true)
    (hoff : g.off ≠ (F.TRACK_TR_STATUS tr).off) (cause : Nat) (stop : Option Nat) :
    SameField g s (u.stopTrack tr cause stop) := by
  unfold State.stopTrack
  extract_lets x s1 s2 trig gov s3
  have h1 : SameField g s s1 := h.setTrack hoff _
  have h3 : SameField g s s3 :=
    foldl_keeps (SameField g s) (fun (a : State) p => a.setPort p ((a.port p).withdraw tr stop)) (fun _ _ ha => ha) _ _ h1
  exact .ite (.ite (h3.tollStop hg _ _ _) h3) h

end

section
variable {s a : State} {t : Nat} (h : Live s t a)
include h

theorem Live.tollLoss_stops {tr : Nat} {c : CLine} (htr : tr < 16) (hsource : a.source tr = 3) (hst : (a.track tr).st = 1)
    (hown : (a.track tr).continued = false) (hlast : (a.track tr).last = some c)
    (hdue : c.tl * 65536 + (c.interval : Int) ≤ ((a.devTime : Int) + a.fetchNs tr) * 65536) :
    ∃ u, Gives (.tollLoss t tr) s u ∧ (u.track tr).st = 2 ∧ (u.track tr).cause = 7 ∧ (u.track tr).stopLine = some c.line ∧
      u.get F.PEAL_TOLL_STOPS = min (a.get F.PEAL_TOLL_STOPS + 1) (2 ^ F.PEAL_TOLL_STOPS.width - 1) := by
  have hstep := h.gives_of_coreStep (exec_tollLoss t tr s)
  dsimp only at hstep
  rw [hlast] at hstep
  dsimp only at hstep
  rw [if_pos ⟨htr, hsource, hst, by simp [hown], hdue⟩] at hstep
  have htrack : (((a.stopTrack tr 7 (some c.line)).bump F.PEAL_TOLL_STOPS).pealCause 7 a.masterId).track tr =
      (a.track tr).stopped 7 (some c.line) := by
    rw [(((SameTiming.refl _).bump F.PEAL_TOLL_STOPS 1).pealCause 7 a.masterId).track tr, State.track_stopTrack_same _ _ hst]
  have hcount : SameField F.PEAL_TOLL_STOPS ((a.stopTrack tr 7 (some c.line)).bump F.PEAL_TOLL_STOPS)
      (((a.stopTrack tr 7 (some c.line)).bump F.PEAL_TOLL_STOPS).pealCause 7 a.masterId) :=
    (SameField.refl _ _).pealCause (by decide) _ _
  have hbefore : SameField F.PEAL_TOLL_STOPS a (a.stopTrack tr 7 (some c.line)) :=
    (SameField.refl _ _).stopTrack (by decide) (by simp only [F.PEAL_TOLL_STOPS, F.TRACK_TR_STATUS]; omega) _ _
  refine ⟨_, hstep, by rw [htrack]; rfl, by rw [htrack]; rfl, by rw [htrack]; rfl, ?_⟩
  rw [hcount.get, State.get_bump_one _ _ (by decide), hbefore.get]

/-! ### Chimes (R299) -/

theorem Live.chimeSend_silent {alive : Bool} (hring : a.inRing = true) (hdue : a.devTime % 10000 = 0) (hrole : a.shownRole = 3)
    (hquiet : (a.peal.held && alive) = false) : Gives (.chimeSend t alive) s a := by
  have hstep := h.gives_of_coreStep (exec_chimeSend t alive s)
  rwa [if_pos ⟨hring, hdue⟩, if_pos hrole, if_neg (by simpa using hquiet)] at hstep

theorem Live.chimeSend_master (hring : a.inRing = true) (hdue : a.devTime % 10000 = 0) (hrole : a.shownRole = 3)
    (hheld : a.peal.held = true) : ∃ u, Gives (.chimeSend t true) s u ∧
      ∀ j ∈ a.pealUps, ∃ g, .peal j g ∈ u.sent ∧ g.kind = 2 ∧ g.dst = 0xFFFF ∧ g.payload = a.chimePayload false := by
  have hstep := h.gives_of_coreStep (exec_chimeSend t true s)
  rw [if_pos ⟨hring, hdue⟩, if_pos hrole, if_pos ⟨hheld, rfl⟩] at hstep
  exact ⟨_, hstep, fun j hj => a.pealOriginate_sends 2 (a.chimePayload false) 0xFFFF hj⟩

theorem Live.chimeSend_member (alive : Bool) (hring : a.inRing = true) (hdue : a.devTime % 10000 = 0) (hrole : a.shownRole = 1) :
    ∃ u, Gives (.chimeSend t alive) s u ∧ ∀ j ∈ a.pealUps, ∃ g, .peal j g ∈ u.sent ∧ g.kind = 2 ∧ g.flags = 1 := by
  have hstep := h.gives_of_coreStep (exec_chimeSend t alive s)
  rw [if_pos ⟨hring, hdue⟩, if_neg (by omega), if_neg (by omega)] at hstep
  refine ⟨_, hstep, fun j hj => State.mem_sent_foldl (P := fun g => g.kind = 2 ∧ g.flags = 1) (fun b i => ?_) hj a⟩
  obtain ⟨f, hsent, hkind, hflags, -⟩ := b.pealLocal_sends 2 (b.chimePayload false) i
  exact ⟨f, ⟨hkind, hflags⟩, hsent⟩

/-! ### The Clapper line (R301, R302) and the deputy's link (R308) -/

theorem Live.clapperAccept_shows {level : Bool} (hwired : a.flag F.PEAL_RING_CTRL_CLAPPER_WIRED = true)
    (hlevel : level ≠ a.peal.released) : ∃ u, Gives (.clapperAccept t level) s u ∧ u.peal.released = level ∧
      u.peal.clapperSince = a.now ∧ u.get F.PEAL_CLAPPER_RELEASED = b2n level := by
  have hstep := h.gives_of_coreStep (exec_clapperAccept t level s)
  dsimp only at hstep
  rw [if_pos ⟨hwired, hlevel⟩] at hstep
  refine ⟨_, hstep, rfl, rfl, (State.get_set_same a F.PEAL_CLAPPER_RELEASED (b2n level) (by decide)).trans ?_⟩
  cases level <;> rfl

theorem Live.clapperClaim_holds (hmaster : a.isMaster = true) (hclaim : a.peal.claimFrom.isSome = true)
    (hreleased : a.releasedFor 20000 = true) (hpermits : twoOf a.permits = true) :
    ∃ u, Gives (.clapperClaim t) s u ∧ u.peal.held = true ∧ u.get F.PEAL_CLAPPER_HELD = 1 := by
  have hstep := h.gives_of_coreStep (exec_clapperClaim t s)
  rw [if_pos ⟨hmaster, hclaim, hreleased⟩, State.holdClapper, if_pos hpermits] at hstep
  exact ⟨_, hstep, rfl, State.get_set_same a F.PEAL_CLAPPER_HELD 1 (by decide)⟩

theorem Live.pairLinkLost_counts (hring : a.inRing = true) (hrole : a.ringRole = 2) (hpair : a.peal.pairLost = false)
    (hheld : a.peal.released = false) (hlost : a.chimesLost = true) : ∃ u, Gives (.pairLinkLost t) s u ∧
      u.peal.pairLost = true ∧
      u.get F.PEAL_PAIR_LINK_LOST = min (a.get F.PEAL_PAIR_LINK_LOST + 1) (2 ^ F.PEAL_PAIR_LINK_LOST.width - 1) := by
  have hstep := h.gives_of_coreStep (exec_pairLinkLost t s)
  dsimp only at hstep
  rw [if_pos ⟨hring, hrole, by simp [hpair], by simp [hheld], hlost⟩] at hstep
  refine ⟨_, hstep, by rw [State.peal_pealCause]; rfl, ?_⟩
  rw [((SameField.refl F.PEAL_PAIR_LINK_LOST _).pealCause (by decide) _ _).get, State.get_bump_one _ _ (by decide)]
  rfl

theorem Live.deputyLost_shows (hmaster : a.isMaster = true) (hdeputy : a.get F.PEAL_DEPUTY_STATUS_DEPUTY ≠ 0)
    (hlost : a.peal.deputyLost = false) (hheard : [0, 1].filterMap (fun k => (a.peal1 k).deputyChime) ≠ [])
    (hall : ([0, 1].filterMap (fun k => (a.peal1 k).deputyChime)).all (fun c => decide (c + a.lossNs ≤ a.now)) = true) :
    ∃ u, Gives (.deputyLost t) s u ∧ u.peal.deputyLost = true := by
  have hstep := h.gives_of_coreStep (exec_deputyLost t s)
  dsimp only at hstep
  rw [if_pos ⟨hmaster, hdeputy, by simp [hlost], hheard, hall⟩] at hstep
  exact ⟨_, hstep, by rw [State.peal_pealCause]⟩

/-! ### Ring-wide PACE (R309, R311) -/

theorem Live.paceReportTimeout_reports {eval : Nat} {x : Report} (hring : a.inRing = true) (hmaster : a.isMaster = false)
    (howed : a.peal.unsent.contains eval = true) (hdue : eval + 10000 ≤ a.devTime)
    (hx : a.peal.locals.find? (fun x => decide (x.eval = eval)) = some x) : ∃ u, Gives (.paceReportTimeout t eval) s u ∧
      eval ∉ u.peal.unsent ∧
      u.get F.PEAL_REPORT_INCOMPLETE = min (a.get F.PEAL_REPORT_INCOMPLETE + 1) (2 ^ F.PEAL_REPORT_INCOMPLETE.width - 1) := by
  have hstep := h.gives_of_coreStep (exec_paceReportTimeout t eval s)
  dsimp only at hstep
  rw [if_pos ⟨hring, by simp [hmaster], howed, hdue⟩, hx] at hstep
  dsimp only at hstep
  have hsent : SameField F.PEAL_REPORT_INCOMPLETE a ((a.sendReport { x with incomplete := true }).reportSent eval) :=
    (SameField.refl _ a).pealOriginate 3 (pacePayload 0 { x with incomplete := true }) (by decide) a.masterId
  refine ⟨_, hstep, ?_, ?_⟩
  · rw [State.peal_pealCause]
    exact fun hmem => (of_decide_eq_true (List.mem_filter.1 hmem).2) rfl
  · rw [((SameField.refl F.PEAL_REPORT_INCOMPLETE _).pealCause (by decide) _ _).get, State.get_bump_one _ _ (by decide), hsent.get]

theorem Live.ringValueStale_shows (hring : a.inRing = true) (hmaster : a.isMaster = false) (hstale : a.ringFresh = false) :
    ∃ u, Gives (.ringValueStale t) s u ∧ u.peal.ringNext = 0 ∧ u.get F.PEAL_RING_P_RING_VALUE = 0 ∧
      u.get F.PEAL_RING_P_STALE = 1 := by
  have hstep := h.gives_of_coreStep (exec_ringValueStale t s)
  dsimp only at hstep
  rw [if_pos ⟨hring, by simp [hmaster], by simp [hstale]⟩] at hstep
  refine ⟨_, hstep, rfl, State.get_set_same _ _ _ (by decide), ?_⟩
  rw [((SameField.refl F.PEAL_RING_P_STALE _).set (l := [F.PEAL_RING_P_RING_VALUE]) (by decide) (List.mem_singleton_self _) 0).get,
    State.get_set_same _ _ _ (by decide)]
  rfl

end

end Sys2Proof.Machine
end

section
/-! The take-over by the deputy (R305 to R307), and the events of the ring together. -/

namespace Sys2Proof.Machine

/-! ### A track that is continued (R307) -/

section
variable (s : State) (t k : Nat)

/-- A track with a line committed is continued; any other stays as it is. -/
theorem State.continueTrack_eq : ((s.track t).last = none ∧ s.continueTrack t = s) ∨
    ∃ y, s.continueTrack t = s.setTrack t y ∧ y.last = (s.track t).last ∧ y.continued = true := by
  unfold State.continueTrack
  extract_lets x
  cases hlast : x.last with
  | none => exact .inl ⟨rfl, rfl⟩
  | some c =>
    refine .inr ?_
    dsimp only
    split
    · exact ⟨_, rfl, rfl, rfl⟩
    · split
      · exact ⟨_, rfl, rfl, rfl⟩
      · exact ⟨_, rfl, rfl, rfl⟩

theorem State.last_continueTrack : ((s.continueTrack t).track k).last = (s.track k).last := by
  obtain ⟨-, h⟩ | ⟨y, h, hlast, -⟩ := s.continueTrack_eq t
  · rw [h]
  · rw [h]
    by_cases hk : k = t
    · rw [hk, State.track_setTrack_same, hlast]
    · rw [State.track_setTrack_other _ _ hk]

variable {s t k}

theorem State.continued_continueTrack (h : (s.track k).continued = true) : ((s.continueTrack t).track k).continued = true := by
  obtain ⟨-, hsame⟩ | ⟨y, hset, -, hy⟩ := s.continueTrack_eq t
  · rwa [hsame]
  · rw [hset]
    by_cases hk : k = t
    · rw [hk, State.track_setTrack_same, hy]
    · rwa [State.track_setTrack_other _ _ hk]

/-- Each of some tracks that have a line committed is continued. -/
theorem State.continued_foldl_continueTrack {l : List Nat} (hk : k ∈ l) (hlast : (s.track k).last.isSome = true) :
    ((l.foldl (fun (a : State) tr => a.continueTrack tr) s).track k).continued = true := by
  induction l generalizing s with
  | nil => cases hk
  | cons j l ih =>
    rw [List.foldl_cons]
    obtain rfl | hk := List.mem_cons.1 hk
    · refine foldl_keeps (fun a : State => (a.track k).continued = true) _ (fun _ _ ha => continued_continueTrack ha) l _ ?_
      obtain ⟨hnone, -⟩ | ⟨y, hset, -, hy⟩ := s.continueTrack_eq k
      · rw [hnone] at hlast
        cases hlast
      · rw [hset, State.track_setTrack_same, hy]
    · exact ih hk (by rwa [State.last_continueTrack])

theorem SameField.continueTrack {g : Fld} {u : State} (h : SameField g s u) (hoff : g.off ≠ (F.TRACK_TR_STATUS t).off) :
    SameField g s (u.continueTrack t) := by
  obtain ⟨-, hsame⟩ | ⟨y, hset, -⟩ := u.continueTrack_eq t
  · rwa [hsame]
  · rw [hset]
    exact h.setTrack hoff y

end

/-! ### The take-over (R306) -/

section
variable {s u : State} {g : Fld}

/-- The fields that a take-over writes beside the role and the master. -/
def takeOverFlds : List Fld :=
  [F.PP_STATUS_TO_MASTER 0, F.PP_STATUS_TO_MASTER 1, F.PEAL_RING_SIZE_HOPS, F.PEAL_DEPUTY_STATUS_DEPUTY,
    F.PEAL_DEPUTY_STATUS_READY, F.PEAL_CHIME_TX, F.PEAL_TAKEOVER_FORMER,
    F.PEAL_TAKEOVER_VALID, F.PEAL_TAKEOVER_LINE]

theorem SameTiming.setRef (h : SameTiming s u) (r : Option Nat) : SameTiming s (u.setRef r) := by
  cases r with
  | none => exact (h.set _ _).set _ _
  | some k => exact ((h.set _ _).set _ _).set _ _

theorem SameTiming.endHoldover (h : SameTiming s u) : SameTiming s u.endHoldover :=
  ((h.bump F.PEAL_HOLDOVER_US u.holdoverDue).set F.PEAL_RING_STATUS_HOLDOVER 0).setPeal _

theorem SameTiming.holdClapper (h : SameTiming s u) : SameTiming s u.holdClapper := .ite ((h.set F.PEAL_CLAPPER_HELD 1).setPeal _) h

theorem SameField.holdClapper (h : SameField g s u) (hg : g.clearOf [F.PEAL_CLAPPER_HELD] = true) : SameField g s u.holdClapper :=
  .ite (h.set hg (List.mem_singleton_self _) 1) h

theorem State.lt_of_mem_ringTracks {tr : Nat} (h : tr ∈ s.ringTracks) : tr < 16 := List.mem_range.1 (List.mem_filter.1 h).1

end

/-- The deputy with the role and the ID of the master. -/
def State.claimRole (s : State) : State :=
  (s.holdClapper.set F.PEAL_RING_STATUS_ROLE 3).set F.PEAL_DEVICE_ID_MASTER s.holdClapper.deviceId

theorem State.claimRole_shows (s : State) : s.claimRole.get F.PEAL_RING_STATUS_ROLE = 3 ∧ s.claimRole.masterId = s.deviceId := by
  have hid : s.holdClapper.deviceId = s.deviceId := (SameField.refl F.PEAL_DEVICE_ID_ID s).holdClapper (by decide)
  have hrole := (SameField.refl F.PEAL_RING_STATUS_ROLE (s.holdClapper.set F.PEAL_RING_STATUS_ROLE 3)).set
    (l := [F.PEAL_DEVICE_ID_MASTER]) (by decide) (List.mem_singleton_self _) s.holdClapper.deviceId
  refine ⟨?_, ?_⟩
  · rw [State.claimRole, hrole.get, State.get_set_same _ _ _ (by decide)]
    rfl
  · rw [State.claimRole, State.masterId, State.get_set_same _ _ _ (by decide), hid]
    exact Nat.mod_eq_of_lt (s.get_lt F.PEAL_DEVICE_ID_ID)

section
variable (s : State)

/-- What the deputy has claimed stays through the rest of the take-over. -/
theorem SameField.takeOver {g : Fld} (hg : g.clearOf (takeOverFlds ++ portFlds ++ refFlds ++ causeFlds) = true)
    (hring : (decide (0xA0000 ≤ g.off) && decide (g.off < 0xA0180)) = true) : SameField g s.claimRole s.takeOver := by
  have htake : g.clearOf takeOverFlds = true := Fld.clearOf_mono hg (by intro f; simp +contextual)
  have hport : g.clearOf portFlds = true := Fld.clearOf_mono hg (by intro f; simp +contextual)
  have href : g.clearOf refFlds = true := Fld.clearOf_mono hg (by intro f; simp +contextual)
  have hcause : g.clearOf causeFlds = true := Fld.clearOf_mono hg (by intro f; simp +contextual)
  have hoff : 0xA0000 ≤ g.off := by
    simp only [Bool.and_eq_true, decide_eq_true_eq] at hring
    exact hring.1
  unfold State.takeOver
  extract_lets former tracks first s1 s2 s3 s4 x s5 s6 r s7 s8 s9 s10
  have h3 : SameField g s2 s3 :=
    ((((SameField.refl g s2).setRef href none).endHoldover href).set htake (by simp [takeOverFlds]) 0).set htake
      (by simp [takeOverFlds]) 0
  have h4 : SameField g s2 s4 := ((h3.set htake (by simp [takeOverFlds]) 0).set htake (by simp [takeOverFlds]) 0).set htake
    (by simp [takeOverFlds]) 0
  have h5 : SameField g s2 s5 := h4.setPeal _
  have h6 : SameField g s2 s6 := (h5.pealOriginate 2 (s5.chimePayload true) hport 0xFFFF).bump htake (by simp [takeOverFlds]) 1
  have h8 : SameField g s2 s8 :=
    List.foldlRecOn _ _ (h6.pealOriginate 3 _ hport 0xFFFF) fun a ha tr htr => ha.continueTrack (by
      have := State.lt_of_mem_ringTracks htr
      simp only [F.TRACK_TR_STATUS]
      omega)
  have h9 : SameField g s2 s9 := (h8.set htake (by simp [takeOverFlds]) former).set htake (by simp [takeOverFlds]) 1
  have h10 : SameField g s2 s10 := .ite h9 (h9.set htake (by simp [takeOverFlds]) _)
  exact (h10.sameRing ((SameRing.refl s10).postEvent 0xA _) hring).pealCause hcause 4 former

theorem State.get_takeOver_former : s.takeOver.get F.PEAL_TAKEOVER_FORMER = s.masterId := by
  unfold State.takeOver
  extract_lets former tracks first s1 s2 s3 s4 x s5 s6 r s7 s8 s9 s10
  have h9 : SameField F.PEAL_TAKEOVER_FORMER (s8.set F.PEAL_TAKEOVER_FORMER former) s9 :=
    (SameField.refl _ _).set (l := [F.PEAL_TAKEOVER_VALID, F.PEAL_TAKEOVER_LINE]) (by decide) (by simp) 1
  have h10 : SameField F.PEAL_TAKEOVER_FORMER (s8.set F.PEAL_TAKEOVER_FORMER former) s10 :=
    .ite h9 (h9.set (l := [F.PEAL_TAKEOVER_VALID, F.PEAL_TAKEOVER_LINE]) (by decide) (by simp) first)
  rw [((h10.sameRing ((SameRing.refl s10).postEvent 0xA _) (by decide)).pealCause (by decide) 4 former).get,
    State.get_set_same _ _ _ (by decide)]
  exact Nat.mod_eq_of_lt (s.get_lt F.PEAL_DEVICE_ID_MASTER)

/-- A deputy that is ready has a line committed on each running track of the ring, which it continues. -/
theorem State.continued_takeOver (hready : s.ringTracks.all s.trackReady = true) {tr : Nat} (htr : tr ∈ s.ringTracks) :
    (s.takeOver.track tr).continued = true := by
  have hlast : (s.track tr).last.isSome = true := by
    have := List.all_eq_true.1 hready tr htr
    simp only [State.trackReady, Bool.and_eq_true] at this
    exact this.1.1
  unfold State.takeOver
  extract_lets former tracks first s1 s2 s3 s4 x s5 s6 r s7 s8 s9 s10
  have h2 : SameTiming s s2 := ((SameTiming.refl s).holdClapper.set _ _).set _ _
  have h4 : SameTiming s s4 := (((((h2.setRef none).endHoldover.set _ _).set _ _).set _ _).set _ _).set _ _
  have h7 : SameTiming s s7 := (((h4.setPeal _).pealOriginate _ _ _).bump _ _).pealOriginate _ _ _
  have h8 : (s8.track tr).continued = true := State.continued_foldl_continueTrack htr (by rwa [h7.track tr])
  have h9 : SameTiming s8 s9 := ((SameTiming.refl s8).set _ _).set _ _
  have h10 : SameTiming s8 s10 := .ite h9 (h9.set _ _)
  rw [((h10.postEvent 0xA _).pealCause 4 former).track tr, h8]

end

/-- The take-over needs a deputy that is ready and has lost the chimes, with CLAPPER_N released (R305). -/
theorem Live.deputyTakeover_takes {s a : State} {t : Nat} (h : Live s t a) (hready : a.deputyReady = true)
    (hlost : a.chimesLost = true) (hreleased : a.releasedFor 20000 = true) : Gives (.deputyTakeover t) s a.takeOver := by
  have hstep := h.gives_of_coreStep (exec_deputyTakeover t s)
  rwa [if_pos ⟨hready, hlost, hreleased⟩] at hstep

theorem State.trackReady_of_deputyReady {s : State} (h : s.deputyReady = true) : s.ringTracks.all s.trackReady = true := by
  simp only [State.deputyReady, Bool.and_eq_true] at h
  exact h.2

/-- Settles O48: an event of the ring after the other, each by the lemma that says what it leaves. -/
theorem pealRingCommandsTakeEffect : Obligations.PealRingCommandsTakeEffect := by
  intro s a t k h
  refine ⟨fun nport lock => h.pealPortUp_ups, fun cause lost => h.pealPortDown_downs, fun x => h.holdoverTimeout_shows,
    fun src hon => ⟨?_, ?_, fun f hup hbad => h.pealFrameDiscard_format 2 src hon hup hbad⟩, h.syncExchange_starts,
    fun x hx hdue => ⟨_, h.discoveryTimeout_fails hx hdue, a.failRound_shows 2⟩, h.statusSend_sends,
    fun d x => h.presenceExpire_expires, fun tr c => h.tollLoss_stops, fun alive hring hdue => ⟨h.chimeSend_silent hring hdue, ?_,
      h.chimeSend_member alive hring hdue⟩, fun level => h.clapperAccept_shows, h.clapperClaim_holds,
    fun x hx hmaster hheld hdue => ⟨_, h.clapperConflict_fails hx hmaster hheld hdue, State.failRound_shows _ 4⟩,
    h.pairLinkLost_counts, h.deputyLost_shows, fun hready hlost hreleased => ?_, fun eval x => h.paceReportTimeout_reports,
    h.ringValueStale_shows⟩
  · exact ⟨_, h.pealFrameDiscard_crc src hon, a.crcError_shows (State.lt_of_pealOn hon) src⟩
  · exact ⟨_, h.pealFrameDiscard_block src hon, a.get_blockError (State.lt_of_pealOn hon) src⟩
  · rintro hrole hheld rfl
    exact h.chimeSend_master hring hdue hrole hheld
  · obtain ⟨hrole, hmaster⟩ := a.claimRole_shows
    have hsame : SameField F.PEAL_DEVICE_ID_MASTER a.claimRole a.takeOver := .takeOver a (by decide) (by decide)
    exact ⟨_, h.deputyTakeover_takes hready hlost hreleased,
      (SameField.takeOver (g := F.PEAL_RING_STATUS_ROLE) a (by decide) (by decide)).get.trans hrole, hsame.get.trans hmaster,
      a.get_takeOver_former, fun tr => a.continued_takeOver (State.trackReady_of_deputyReady hready)⟩

end Sys2Proof.Machine
end

section
/-! What consuming a LOCAL frame does: the exchanges of a port and the rounds of discovery (R286, R287, R291). -/

namespace Sys2Proof.Machine

/-! ### The state in which a frame is consumed (R284) -/

/-- A frame that reaches this device leaves what the ring knows beside the ports' arrivals and the SEQs. -/
def SameDevice (s u : State) : Prop := SameTiming s u ∧ (∀ g : Fld, g.clearOf portFlds = true → SameField g s u) ∧
  ∃ ports seqIn, u.peal = { s.peal with ports := ports, seqIn := seqIn }

section
variable {s : State} {k : Nat}

theorem State.sameDevice_pealArrived (hk : k < 2) (f : PealFrame) : SameDevice s (s.pealArrived k f) := by
  have harrive := s.pealArrived_shows k f
  exact ⟨((SameTiming.refl s).heard s k).trans harrive.timing,
    fun g hg => .pealArrived k f (.refl g s) (Fld.clearOf_mono hg (arriveFlds_subset hk)), _, _, harrive.peal⟩

theorem State.sameDevice_passOn (hk : k < 2) (f : PealFrame) : SameDevice s (s.passOn k f) :=
  ⟨s.timing_passOn k f hk, fun g hg => .passOn (.refl g s) hk hg, _, _, s.peal_passOn k f hk⟩

end

section
variable {s u : State} (h : SameDevice s u)
include h

theorem SameDevice.timing : SameTiming s u := h.1

theorem SameDevice.get {g : Fld} (hg : g.clearOf portFlds = true) : u.get g = s.get g := (h.2.1 g hg).get

theorem SameDevice.inRing : u.inRing = s.inRing := by
  rw [State.inRing, State.inRing, State.ringActive, State.ringActive, State.ringRole, State.ringRole,
    h.get (g := F.PEAL_RING_STATUS_STATE) (by decide), h.get (g := F.PEAL_RING_STATUS_ROLE) (by decide)]

theorem SameDevice.ringRole : u.ringRole = s.ringRole := h.get (by decide)

theorem SameDevice.masterId : u.masterId = s.masterId := h.get (by decide)

theorem SameDevice.isMaster : u.isMaster = s.isMaster := by
  rw [State.isMaster, State.isMaster, h.inRing, h.ringRole]
  obtain ⟨-, -, ports, seqIn, hpeal⟩ := h
  rw [hpeal]

theorem SameDevice.offer : u.peal.offer = s.peal.offer := by
  obtain ⟨-, -, ports, seqIn, hpeal⟩ := h
  rw [hpeal]

theorem SameDevice.roundAt : u.peal.roundAt = s.peal.roundAt := by
  obtain ⟨-, -, ports, seqIn, hpeal⟩ := h
  rw [hpeal]

theorem SameDevice.table : u.peal.table = s.peal.table := by
  obtain ⟨-, -, ports, seqIn, hpeal⟩ := h
  rw [hpeal]

theorem SameDevice.reports : u.peal.reports = s.peal.reports := by
  obtain ⟨-, -, ports, seqIn, hpeal⟩ := h
  rw [hpeal]

theorem SameDevice.offerOf (l : List Byte) : u.offerOf l = s.offerOf l := by rw [State.offerOf, State.offerOf, h.offer]

theorem SameDevice.source {tr : Nat} (htr : tr < 16) : u.source tr = s.source tr :=
  h.get (clearOf_portFlds_of_low (by simp only [F.TRACK_TR_CTRL_SOURCE]; omega))

end

/-! ### SYNC (R291) -/

/-- An exchange that is complete is the first of those the port remembers, and no other is open. -/
theorem State.peal1_syncDone (s : State) (k : Nat) (t1 t2 t3 t4 : Int) : (s.syncDone k t1 t2 t3 t4).peal1 k =
    { s.peal1 k with
      sync := ((((t4 - t1) - (t3 - t2) + 1) / 2).toNat, ((t2 - t1) - (t4 - t3) + 1) / 2) :: (s.peal1 k).sync |>.take 8
      t1 := none } := by
  unfold State.syncDone
  extract_lets theta delta p x s1
  have h1 : s1.peal1 k = x := s.peal1_setPeal1_same k x
  split
  · exact h1
  · extract_lets s2 s3
    have h3 : s3.peal1 k = x := (State.peal1_congr rfl k).trans h1
    split
    · exact (State.peal1_congr rfl k).trans h3
    · exact h3

section
variable {s a : State} {t k : Nat} {f : PealFrame} (h : Live s t a)
include h

theorem Live.gives_syncRx (hf : LocalFrame a k f) (hkind : f.kind = 4) :
    Gives (.syncRx t k f) s (if uAt f.payload 0 1 = 0 then (a.pealArrived k f).pealLocal k 4
        (syncPayload 1 (uAt f.payload 8 8) (a.pealArrived k f).devTime (a.pealArrived k f).devTime)
      else if ((a.pealArrived k f).peal1 k).t1 = some (uAt f.payload 8 8) then
        (a.pealArrived k f).syncDone k (uAt f.payload 8 8) (uAt f.payload 16 8) (uAt f.payload 24 8) (a.pealArrived k f).devTime
      else a.pealArrived k f) := by
  have hstep := h.gives_of_coreStep (exec_syncRx t k f s)
  dsimp only at hstep
  rwa [if_pos hkind, hf.receives] at hstep

theorem Live.syncRx_answers (hf : LocalFrame a k f) (hkind : f.kind = 4) (hreq : uAt f.payload 0 1 = 0) :
    ∃ u g, Gives (.syncRx t k f) s u ∧ u.sent = .peal k g :: a.sent ∧ g.kind = 4 ∧ g.flags = 1 ∧
      g.payload = syncPayload 1 (uAt f.payload 8 8) a.devTime a.devTime := by
  have hstep := h.gives_syncRx hf hkind
  rw [if_pos hreq] at hstep
  have htime := (State.sameDevice_pealArrived (s := a) (State.lt_of_pealOn hf.1) f).timing.devTime
  obtain ⟨g, hsent, hkind, hflags, hpayload⟩ := (a.pealArrived k f).pealLocal_sends 4
    (syncPayload 1 (uAt f.payload 8 8) (a.pealArrived k f).devTime (a.pealArrived k f).devTime) k
  refine ⟨_, g, hstep, ?_, hkind, hflags, ?_⟩
  · rw [hsent, (a.pealArrived_shows k f).sent]
    rfl
  · rw [hpayload, htime]

theorem Live.syncRx_ends {t1 t2 t3 t4 : Int} (hf : LocalFrame a k f) (hkind : f.kind = 4) (hreply : uAt f.payload 0 1 = 1)
    (hopen : (a.peal1 k).t1 = some (uAt f.payload 8 8)) (h1 : t1 = uAt f.payload 8 8) (h2 : t2 = uAt f.payload 16 8)
    (h3 : t3 = uAt f.payload 24 8) (h4 : t4 = a.devTime) : ∃ u, Gives (.syncRx t k f) s u ∧ (u.peal1 k).t1 = none ∧
      (u.peal1 k).sync.head? = some (((((t4 - t1) - (t3 - t2) + 1) / 2).toNat), ((t2 - t1) - (t4 - t3) + 1) / 2) := by
  have hstep := h.gives_syncRx hf hkind
  have htime := (State.sameDevice_pealArrived (s := a) (State.lt_of_pealOn hf.1) f).timing.devTime
  have hport : (a.pealArrived k f).peal1 k = { a.peal1 k with lastRx := a.now } :=
    (State.peal1_congr (congrArg Peal.ports (a.pealArrived_shows k f).peal) k).trans (State.peal1_setPeal1_same a k _)
  rw [if_neg (by omega), if_pos (by rw [hport]; exact hopen), htime] at hstep
  subst h1 h2 h3 h4
  exact ⟨_, hstep, by rw [State.peal1_syncDone], by rw [State.peal1_syncDone]; rfl⟩

end

/-! ### Discovery (R286, R287) -/

section
variable (s : State) {k : Nat}

/-- A device that is not printing takes the first assignment of a round, and passes it on. -/
theorem State.takeAssign_shows (hk : k < 2) (l : List Byte) (hmode : s.mode.printing = false) (hoffer : s.peal.offer = none) :
    (s.takeAssign k l).get F.PEAL_RING_STATUS_STATE = 2 ∧ (s.takeAssign k l).peal.offer =
      some { round := uAt l 1 1, id := uAt l 2 2, master := uAt l 6 2, port := k, path := uAt l 8 4, hops := uAt l 4 2 } := by
  unfold State.takeAssign
  rw [hoffer]
  extract_lets round seen o x s1 s2 other
  have h2 : s2.get F.PEAL_RING_STATUS_STATE = 2 := State.get_set_same _ _ _ (by decide)
  have hsent : ∀ j payload, j < 2 → (s2.pealLocal j 6 payload).get F.PEAL_RING_STATUS_STATE = 2 ∧
      (s2.pealLocal j 6 payload).peal.offer = some o := fun j payload hj => by
    obtain ⟨q, hq⟩ := s2.peal_pealLocal 6 payload j
    rw [((SameField.refl F.PEAL_RING_STATUS_STATE s2).pealLocal 6 payload hj (by decide)).get, hq]
    exact ⟨h2, rfl⟩
  rw [if_neg (by simp [seen]), if_neg (by simp [hmode])]
  split
  · exact hsent other _ (by omega)
  · exact hsent k _ hk

/-- The fields that a ring formed shows beside its state and the IDs. -/
def formFlds : List Fld := [F.PEAL_RING_STATUS_TOPOLOGY, F.PEAL_RING_SIZE_COUNT, F.PEAL_RING_STATUS_HOLDOVER, F.PEAL_RING_SIZE_HOPS,
  F.PEAL_WORST_PATH, F.PEAL_DISCOVERY_RESULT, F.PEAL_DISCOVERY_ROUND, F.PP_STATUS_TO_MASTER 0, F.PP_STATUS_TO_MASTER 1,
  F.PEAL_DEPUTY_STATUS_DEPUTY, F.PEAL_DEPUTY_STATUS_READY]

theorem State.place_limpClear (code inst : Nat) : (s.limpClear code inst).peal.place = s.peal.place :=
  congrArg Peal.place ((SameRing.refl s).limpClear code inst).1

theorem State.place_formRing (o : Offer) (count topology total : Nat) :
    (s.formRing o count topology total).peal.place = o := by
  unfold State.formRing
  extract_lets p s1 s2 s3 s4 s5 s6 s7 s8
  have h7 : s7.peal.place = o := by
    refine foldl_keeps (fun a : State => a.peal.place = o) _ (fun a k ha => ?_) [0, 1] s6 rfl
    extract_lets q b c
    have hc : c.peal.place = o := ha
    split
    · rw [State.place_limpClear, hc]
    · exact hc
  have h8 : s8.peal.place = o := by
    unfold s8
    rw [State.peal_pealCause]
    exact h7
  rw [((SameRing.refl s8).postEvent 8 _).1, h8]

/-- A ring that is formed is ACTIVE, with the IDs of the assignment. -/
theorem State.formRing_shows (o : Offer) (count topology total : Nat) :
    (s.formRing o count topology total).get F.PEAL_RING_STATUS_STATE = 3 ∧
      (s.formRing o count topology total).deviceId = o.id % 65536 ∧
      (s.formRing o count topology total).masterId = o.master % 65536 := by
  unfold State.formRing
  extract_lets p s1 s2 s3 s4 s5 s6 s7 s8
  have hfield : ∀ g : Fld, g.clearOf (formFlds ++ causeFlds) = true →
      (decide (0xA0000 ≤ g.off) && decide (g.off < 0xA0180)) = true → ∀ data, SameField g s3 (s8.postEvent 8 data) := by
    intro g hg hring data
    have hform : g.clearOf formFlds = true := Fld.clearOf_mono hg (List.subset_append_left _ _)
    have h4 : SameField g s3 s4 := ((SameField.refl g s3).set hform (by simp [formFlds]) _).set hform (by simp [formFlds]) _
    have h6 : SameField g s3 s6 := (((h4.set hform (by simp [formFlds]) _).set hform (by simp [formFlds]) _).set hform
      (by simp [formFlds]) _).set hform (by simp [formFlds]) _
    have h7 : SameField g s3 s7 := by
      refine List.foldlRecOn _ _ h6 fun a ha k hk => ?_
      extract_lets q b c
      have hk2 : F.PP_STATUS_TO_MASTER k ∈ formFlds := by
        obtain rfl | rfl : k = 0 ∨ k = 1 := by simpa using hk
        · simp [formFlds]
        · simp [formFlds]
      have hc : SameField g s3 c := (ha.setPeal1 k _).set hform hk2 _
      exact .ite (hc.sameRing ((SameRing.refl c).limpClear _ _) hring) hc
    have h8 : SameField g s3 s8 := ((h7.set hform (by simp [formFlds]) _).set hform (by simp [formFlds]) _).pealCause
      (Fld.clearOf_mono hg (List.subset_append_right _ _)) _ _
    exact h8.sameRing ((SameRing.refl s8).postEvent 8 data) hring
  have hstate : s2.get F.PEAL_RING_STATUS_STATE = 3 :=
    ((SameField.refl F.PEAL_RING_STATUS_STATE (s1.set F.PEAL_RING_STATUS_STATE 3)).set (l := [F.PEAL_RING_STATUS_TOPOLOGY])
      (by decide) (List.mem_singleton_self _) topology).get.trans (State.get_set_same _ _ _ (by decide))
  have hids : SameField F.PEAL_RING_STATUS_STATE s2 s3 :=
    ((SameField.refl F.PEAL_RING_STATUS_STATE s2).set (l := [F.PEAL_DEVICE_ID_ID, F.PEAL_DEVICE_ID_MASTER]) (by decide) (by simp)
      o.id).set (l := [F.PEAL_DEVICE_ID_ID, F.PEAL_DEVICE_ID_MASTER]) (by decide) (by simp) o.master
  have hid : s3.get F.PEAL_DEVICE_ID_ID = o.id % 65536 :=
    ((SameField.refl F.PEAL_DEVICE_ID_ID (s2.set F.PEAL_DEVICE_ID_ID o.id)).set (l := [F.PEAL_DEVICE_ID_MASTER])
      (by decide) (List.mem_singleton_self _) o.master).get.trans (State.get_set_same _ _ _ (by decide))
  refine ⟨?_, ?_, ?_⟩
  · rw [(hfield F.PEAL_RING_STATUS_STATE (by decide) (by decide) _).get, hids.get, hstate]
  · rw [State.deviceId, (hfield F.PEAL_DEVICE_ID_ID (by decide) (by decide) _).get, hid]
  · rw [State.masterId, (hfield F.PEAL_DEVICE_ID_MASTER (by decide) (by decide) _).get, State.get_set_same _ _ _ (by decide)]
    rfl

end

/-- The choice of the reference leaves the ring that has been formed. -/
theorem State.chooseRef_formed (s : State) (o : Offer) (count topology total : Nat) :
    (s.formRing o count topology total).chooseRef.get F.PEAL_RING_STATUS_STATE = 3 ∧
      (s.formRing o count topology total).chooseRef.deviceId = o.id % 65536 ∧
      (s.formRing o count topology total).chooseRef.masterId = o.master % 65536 ∧
      (s.formRing o count topology total).chooseRef.peal.place = o := by
  obtain ⟨hstate, hid, hmaster⟩ := s.formRing_shows o count topology total
  obtain ⟨-, x, n, hpeal⟩ := (s.formRing o count topology total).chooseRef_keeps
  have href : ∀ g : Fld, g.clearOf (refFlds ++ causeFlds) = true →
      (s.formRing o count topology total).chooseRef.get g = (s.formRing o count topology total).get g := fun g hg =>
    ((SameField.refl g _).chooseRef hg).get
  exact ⟨(href F.PEAL_RING_STATUS_STATE (by decide)).trans hstate, (href F.PEAL_DEVICE_ID_ID (by decide)).trans hid,
    (href F.PEAL_DEVICE_ID_MASTER (by decide)).trans hmaster, by rw [hpeal]; exact s.place_formRing o count topology total⟩

section
variable {s a : State} {t k : Nat} {f : PealFrame} (h : Live s t a) (hf : LocalFrame a k f) (hkind : f.kind = 6)

theorem LocalFrame.discovers (hf : LocalFrame a k f) (hkind : f.kind = 6) {kind : Nat} (hk : uAt f.payload 0 1 = kind)
    (use : State → State) : a.discoverIn k kind f use = use (a.pealArrived k f) := by
  rw [State.discoverIn, if_pos ⟨hkind, hk⟩, hf.receives]

theorem LocalFrame.arrived (hf : LocalFrame a k f) : SameDevice a (a.pealArrived k f) :=
  State.sameDevice_pealArrived (State.lt_of_pealOn hf.1) f

include h hf hkind

theorem Live.discoverAssignRx_takes (hassign : uAt f.payload 0 1 = 0) (hrole : a.ringRole ≠ 3) (hmode : a.mode.printing = false)
    (hoffer : a.peal.offer = none) : ∃ u, Gives (.discoverAssignRx t k f) s u ∧ u.get F.PEAL_RING_STATUS_STATE = 2 ∧
      u.peal.offer = some { round := uAt f.payload 1 1, id := uAt f.payload 2 2, master := uAt f.payload 6 2, port := k,
                            path := uAt f.payload 8 4, hops := uAt f.payload 4 2 } := by
  have hsame := hf.arrived
  have hstep := h.gives_of_coreStep (exec_discoverAssignRx t k f s)
  rw [hf.discovers hkind hassign, if_neg (by rw [hsame.ringRole]; exact hrole)] at hstep
  exact ⟨_, hstep, State.takeAssign_shows _ (State.lt_of_pealOn hf.1) _ (by rw [hsame.timing.mode]; exact hmode)
    (hsame.offer.trans hoffer)⟩

theorem Live.discoverEndRx_passes {o : Offer} (hend : uAt f.payload 0 1 = 1) (hrole : a.ringRole ≠ 3)
    (hoffer : a.offerOf f.payload = some o) (hport : k ≠ o.port) : ∃ u g, Gives (.discoverEndRx t k f) s u ∧
      u.sent = .peal o.port g :: a.sent ∧ g.kind = 6 ∧ g.payload = discoverPayload 1 o.round (uAt f.payload 2 2) 0 o.master 0 0 0 0 := by
  have hsame := hf.arrived
  have hstep := h.gives_of_coreStep (exec_discoverEndRx t k f s)
  rw [hf.discovers hkind hend, hsame.offerOf, hoffer] at hstep
  dsimp only at hstep
  rw [if_neg (by rw [hsame.ringRole]; exact hrole), if_neg hport] at hstep
  obtain ⟨g, hsent, hg, -, hpayload⟩ := (a.pealArrived k f).pealLocal_sends 6
    (discoverPayload 1 o.round (uAt f.payload 2 2) 0 o.master 0 0 0 0) o.port
  exact ⟨_, g, hstep, hsent.trans (congrArg _ (a.pealArrived_shows k f).sent), hg, hpayload⟩

theorem Live.discoverDoneRx_forms {o : Offer} (hdone : uAt f.payload 0 1 = 2) (hrole : a.ringRole ≠ 3)
    (hoffer : a.offerOf f.payload = some o) : ∃ u, Gives (.discoverDoneRx t k f) s u ∧
      u.get F.PEAL_RING_STATUS_STATE = 3 ∧ u.peal.place = o ∧ u.deviceId = o.id % 65536 ∧ u.masterId = o.master % 65536 := by
  have hsame := hf.arrived
  have hstep := h.gives_of_coreStep (exec_discoverDoneRx t k f s)
  rw [hf.discovers hkind hdone, if_neg (by rw [hsame.ringRole]; exact hrole), hsame.offerOf, hoffer] at hstep
  dsimp only at hstep
  obtain ⟨hstate, hid, hmaster, hplace⟩ := State.chooseRef_formed
    (if (a.pealArrived k f).pealUp (1 - k) then (a.pealArrived k f).pealLocal (1 - k) 6 f.payload else a.pealArrived k f) o
    (uAt f.payload 12 2) (uAt f.payload 14 1) (uAt f.payload 16 4)
  refine ⟨_, hstep, ?_⟩
  split
  · exact ⟨hstate, hplace, hid, hmaster⟩
  · exact ⟨hstate, hplace, hid, hmaster⟩

theorem Live.discoverBusyRx_fails {o : Offer} (hbusy : uAt f.payload 0 1 = 3) (hrole : a.ringRole = 3)
    (hoffer : a.offerOf f.payload = some o) (hround : a.peal.roundAt.isSome = true) :
    Gives (.discoverBusyRx t k f) s ((a.pealArrived k f).failRound 3) := by
  have hsame := hf.arrived
  have hstep := h.gives_of_coreStep (exec_discoverBusyRx t k f s)
  rw [hf.discovers hkind hbusy, hsame.offerOf, hoffer] at hstep
  dsimp only at hstep
  rwa [if_pos (hsame.ringRole.trans hrole), if_pos (by rw [hsame.roundAt]; exact hround)] at hstep

end

end Sys2Proof.Machine
end

section
/-! What consuming a frame to this device or to all does: STATUS, tolls, chimes, ring-wide PACE and tunnelled traffic (R289, R295,
R296, R305, R309, R311 to R314). -/

namespace Sys2Proof.Machine

theorem Arrives.passed {a : State} {k : Nat} {f : PealFrame} (hf : Arrives a k f) : SameDevice a (a.passOn k f) :=
  State.sameDevice_passOn (State.lt_of_pealOn hf.1) f

theorem State.peal1_passOn (s : State) (f : PealFrame) {k : Nat} (hk : k < 2) :
    (s.passOn k f).peal1 k = { s.peal1 k with lastRx := s.now } := by
  have hports : (s.passOn k f).peal.ports = (s.heard k).peal.ports := (congrArg Peal.ports (s.peal_passOn k f hk) :)
  rw [State.peal1_congr hports, State.heard, State.peal1_setPeal1_same]

/-! ### STATUS (R289) -/

/-- A toll that is committed is a line of its track. -/
theorem State.mem_lines_tollCommit (s : State) (tr line : Nat) (tl : Int) (interval : Nat) (clocked : Bool) :
    ∃ c ∈ ((s.tollCommit tr line tl interval clocked).track tr).lines, c.line = line ∧ c.tl = tl ∧ c.interval = interval := by
  unfold State.tollCommit
  extract_lets x first fresh s1
  obtain ⟨newest, htrack⟩ := s1.track_commitLine tr line tl interval
  rw [htrack]
  exact ⟨_, mem_insertLine_self _ _, rfl, rfl, rfl⟩

theorem frameOk_toll_lt {f : PealFrame} (hok : frameOk f = true) (hkind : f.kind = 1) : uAt f.payload 0 1 < 16 := by
  simp only [frameOk, hkind, Bool.and_eq_true, decide_eq_true_eq] at hok
  exact hok.2.1.2

section
variable {s a : State} {t k : Nat} {f : PealFrame} (h : Live s t a)
include h

theorem Live.statusRx_marks {d : RingDev} (hf : Arrives a k f) (hm : Meant a f) (hkind : f.kind = 7) (hmaster : a.isMaster = true)
    (hd : d ∈ a.peal.table) (hid : d.id = f.src) : ∃ u, Gives (.statusRx t k f) s u ∧
      ∃ e ∈ u.peal.table, e.id = f.src ∧ e.seen = some a.now ∧ e.role = uAt f.payload 0 1 := by
  have hsame := hf.passed
  have hstep := h.gives_of_coreStep (exec_statusRx t k f s)
  rw [if_pos hkind, hf.receives hm, if_pos (hsame.isMaster.trans hmaster)] at hstep
  refine ⟨_, hstep, ?_⟩
  extract_lets l p a1 dep
  have hmarked : ∃ e ∈ a1.peal.table, e.id = f.src ∧ e.seen = some a.now ∧ e.role = uAt f.payload 0 1 := by
    refine ⟨_, List.mem_map.2 ⟨d, by rwa [hsame.table], rfl⟩, ?_⟩
    rw [if_pos hid]
    exact ⟨hid, congrArg some hsame.timing.now, rfl⟩
  split
  · exact hmarked
  · split
    · exact hmarked
    · exact hmarked

/-! ### Tolls (R295, R296) -/

theorem Live.gives_tollRx (hf : Arrives a k f) (hm : Meant a f) (hkind : f.kind = 1)
    (hsrc : f.src = a.masterId ∨ f.src ≠ a.get F.PEAL_DEPUTY_STATUS_DEPUTY) : Gives (.tollRx t k f) s ((a.passOn k f).takeToll f) := by
  have hsame := hf.passed
  have hdeputy : (a.passOn k f).fromDeputy f = false := by
    rw [State.fromDeputy, hsame.get (g := F.PEAL_DEPUTY_STATUS_DEPUTY) (by decide), hsame.masterId]
    obtain hsrc | hsrc := hsrc <;> simp [hsrc]
  have hstep := h.gives_of_coreStep (exec_tollRx t k f s)
  rw [if_pos hkind, hf.receives hm, hdeputy] at hstep
  exact hstep

theorem Live.tollRx_takes {tr : Nat} (hf : Arrives a k f) (hm : Meant a f) (hkind : f.kind = 1) (htr : tr = uAt f.payload 0 1)
    (hsource : a.source tr = 3) (hst : (a.track tr).st = 1) (hown : (a.track tr).continued = false) (hsrc : f.src = a.masterId) :
    ∃ u, Gives (.tollRx t k f) s u ∧
      (bitOf (uAt f.payload 1 1) 1 = false → ∃ c ∈ (u.track tr).lines, c.line = uAt f.payload 8 6 ∧
        c.tl = toSigned 64 (uAt f.payload 16 8) ∧ c.interval = uAt f.payload 24 8) ∧
      (bitOf (uAt f.payload 1 1) 1 = true → (u.track tr).st = 2 ∧ (u.track tr).cause = uAt f.payload 2 1 ∧
        (u.track tr).stopLine = some (uAt f.payload 8 6)) := by
  subst htr
  have hsame := hf.passed
  have hst' : ((a.passOn k f).track (uAt f.payload 0 1)).st = 1 := by rw [hsame.timing.track, hst]
  have hmine : (a.passOn k f).source (uAt f.payload 0 1) = 3 ∧ ((a.passOn k f).track (uAt f.payload 0 1)).st = 1 ∧
      (!((a.passOn k f).track (uAt f.payload 0 1)).continued) = true ∧ f.src = (a.passOn k f).masterId :=
    ⟨(hsame.source (frameOk_toll_lt hf.2.2.1 hkind)).trans hsource, hst', by rw [hsame.timing.track, hown]; rfl,
      hsrc.trans hsame.masterId.symm⟩
  refine ⟨_, h.gives_tollRx hf hm hkind (.inl hsrc), ?_⟩
  rw [State.takeToll, if_pos hmine]
  refine ⟨fun hline => ?_, fun hstop => ?_⟩
  · rw [if_neg (by simp [hline])]
    exact State.mem_lines_tollCommit _ _ _ _ _ _
  · rw [if_pos hstop, State.track_stopTrack_same _ _ hst']
    exact ⟨rfl, rfl, rfl⟩

theorem Live.tollRx_ignores (hf : Arrives a k f) (hm : Meant a f) (hkind : f.kind = 1) (hsrc : f.src ≠ a.masterId)
    (hdeputy : f.src ≠ a.get F.PEAL_DEPUTY_STATUS_DEPUTY) : ∃ u, Gives (.tollRx t k f) s u ∧ u.tracks = a.tracks ∧
      u.get F.PEAL_TOLL_IGNORED = min (a.get F.PEAL_TOLL_IGNORED + 1) (2 ^ F.PEAL_TOLL_IGNORED.width - 1) := by
  have hsame := hf.passed
  have hstep := h.gives_tollRx hf hm hkind (.inr hdeputy)
  rw [State.takeToll, if_neg (fun hmine => hsrc (hmine.2.2.2.trans hsame.masterId))] at hstep
  refine ⟨_, hstep, hsame.timing.tracks, ?_⟩
  rw [State.get_bump_one _ _ (by decide), hsame.get (by decide)]

end

/-! ### Chimes (R305) -/

/-- A port on which a chime of the master has come. -/
def State.restartTimer (s : State) (k : Nat) : State :=
  let s1 := s.setPeal1 k { s.peal1 k with masterChime := some s.now, timerFrom := s.now }
  { s1 with peal := { s1.peal with pairLost := false } }

section
variable {a : State} {k : Nat} {f : PealFrame}

theorem Arrives.chimeHeard (hf : Arrives a k f) (hrole : uAt f.payload 0 1 = 3) (hsrc : f.src = a.masterId) :
    a.chimeHeard k f = a.restartTimer k := by
  obtain ⟨hon, hup, hok, hflags, hother, -⟩ := id hf
  unfold State.chimeHeard
  rw [if_pos ⟨hok, hf.not_local, hother, hon, hup⟩]
  exact if_pos ⟨hrole, hsrc⟩

theorem Arrives.restartTimer (hf : Arrives a k f) : Arrives (a.restartTimer k) k f := hf

theorem State.peal1_restartTimer : (a.restartTimer k).peal1 k = { a.peal1 k with masterChime := some a.now, timerFrom := a.now } :=
  (State.peal1_congr rfl k).trans (State.peal1_setPeal1_same a k _)

/-- A chime of the master that is consumed leaves the ring's engine as it is. -/
theorem State.peal_takeChime_master {s : State} (hrole : uAt f.payload 0 1 = 3) (hsrc : f.src = s.masterId) :
    (s.takeChime k f).peal = s.peal := by
  unfold State.takeChime
  extract_lets l role
  rw [if_pos hrole, if_neg (fun hnew => hnew.2.1 hsrc)]
  split
  · exact State.peal_pealCause _ _ _
  · rfl

end

section
variable {s a : State} {t k : Nat} {f : PealFrame} (h : Live s t a)
include h

theorem Live.chimeRx_restarts (hf : Arrives a k f) (hkind : f.kind = 2) (hrole : uAt f.payload 0 1 = 3) (hsrc : f.src = a.masterId) :
    ∃ u, Gives (.chimeRx t k f) s u ∧ (u.peal1 k).masterChime = some a.now ∧ (u.peal1 k).timerFrom = a.now := by
  have hk := State.lt_of_pealOn hf.1
  have hstep := h.gives_of_coreStep (exec_chimeRx t k f s)
  rw [if_pos hkind, hf.chimeHeard hrole hsrc] at hstep
  have hpassed : ((a.restartTimer k).passOn k f).peal1 k =
      { a.peal1 k with masterChime := some a.now, timerFrom := a.now, lastRx := a.now } := by
    rw [State.peal1_passOn _ _ hk, State.peal1_restartTimer]
    rfl
  by_cases hm : Meant (a.restartTimer k) f
  · rw [hf.restartTimer.receives hm, if_neg hf.not_local] at hstep
    have hmaster : f.src = ((a.restartTimer k).passOn k f).masterId := hsrc.trans hf.restartTimer.passed.masterId.symm
    refine ⟨_, hstep, ?_⟩
    rw [State.peal1_congr (congrArg Peal.ports (State.peal_takeChime_master hrole hmaster)), hpassed]
    exact ⟨rfl, rfl⟩
  · rw [hf.restartTimer.passes hm] at hstep
    refine ⟨_, hstep, ?_⟩
    rw [hpassed]
    exact ⟨rfl, rfl⟩

end

/-! ### Ring-wide PACE (R309, R311) -/

theorem State.reports_reportSent (s : State) (r : Report) (e : Nat) :
    ((s.sendReport r).reportSent e).peal.reports = s.peal.reports := by
  obtain ⟨q, hq⟩ := s.peal_pealOriginate 3 (pacePayload 0 r) s.masterId
  exact (congrArg Peal.reports hq :)

/-- A REPORT is kept with those of its child. -/
theorem State.reports_takeReport (s : State) (f : PealFrame) : (s.takeReport f).peal.reports =
    s.peal.reports.set [] f.src ((paceReport f :: s.peal.reports.get [] f.src).take 20) := by
  unfold State.takeReport
  extract_lets r p s1 s2
  have h2 : s2.peal.reports = s1.peal.reports := by
    unfold s2
    split
    · rw [State.peal_pealCause]
      rfl
    · rfl
  split
  · exact h2
  · split
    · rw [State.reports_reportSent, h2]
    · exact h2

section
variable {s a : State} {t k : Nat} {f : PealFrame} (h : Live s t a)
include h

theorem Live.paceReportRx_keeps (hf : Arrives a k f) (hkind : f.kind = 3) (hpace : uAt f.payload 0 1 = 0)
    (hchild : a.childOn k = some f.src) : ∃ u, Gives (.paceReportRx t k f) s u ∧
      u.peal.reports.get [] f.src = (paceReport f :: a.peal.reports.get [] f.src).take 20 := by
  have hown : Arrives a k { f with dst := a.deviceId } := hf
  have hstep := h.gives_of_coreStep (exec_paceReportRx t k f s)
  rw [if_pos ⟨hkind, hpace⟩, if_pos hchild] at hstep
  dsimp only at hstep
  rw [hown.receives (.inr rfl)] at hstep
  refine ⟨_, hstep, ?_⟩
  rw [State.reports_takeReport, hown.passed.reports]
  exact Tbl.get_set_same _ _ _ _

theorem Live.paceRingRx_takes (hf : Arrives a k f) (hm : Meant a f) (hkind : f.kind = 3) (hpace : uAt f.payload 0 1 = 1)
    (hsrc : f.src = a.masterId) (hring : a.inRing = true) (hmaster : a.isMaster = false) : ∃ u, Gives (.paceRingRx t k f) s u ∧
      u.peal.ringNext = uAt f.payload 1 1 ∧ u.peal.ringAt = some a.now := by
  have hsame := hf.passed
  have hstep := h.gives_of_coreStep (exec_paceRingRx t k f s)
  rw [if_pos ⟨hkind, hpace⟩, hf.receives hm, if_pos ⟨hsrc.trans hsame.masterId.symm, hsame.inRing.trans hring, by
    rw [hsame.isMaster, hmaster]; rfl⟩] at hstep
  exact ⟨_, hstep, rfl, congrArg some hsame.timing.now⟩

end

/-! ### Tunnelled traffic (R312 to R314, R333) -/

section
variable {a : State} {k : Nat} {f : PealFrame}

theorem OnlyRegs.boot {s u : State} (h : OnlyRegs s u) : u.boot = s.boot := by
  obtain ⟨r, rfl⟩ := h
  rfl

theorem OnlyRegs.haltCause {s u : State} (h : OnlyRegs s u) : u.haltCause = s.haltCause := by
  obtain ⟨r, rfl⟩ := h
  rfl

theorem OnlyRegs.porches {s u : State} (h : OnlyRegs s u) : u.porches = s.porches := by
  obtain ⟨r, rfl⟩ := h
  rfl

theorem State.relay_outside (s : State) (leaves : Bool) : (s.relay k f leaves).boot = s.boot ∧
    (s.relay k f leaves).haltCause = s.haltCause ∧ (s.relay k f leaves).porches = s.porches := by
  cases leaves <;> exact ⟨rfl, rfl, rfl⟩

/-- The ring's frames leave the start of the device, its HALT and its porches. -/
theorem Arrives.outside (hf : Arrives a k f) : (a.passOn k f).boot = a.boot ∧ (a.passOn k f).haltCause = a.haltCause ∧
    (a.passOn k f).porches = a.porches := by
  have hshows := a.passOn_shows (f := f) (State.lt_of_pealOn hf.1)
  obtain ⟨hboot, hhalt, hporches⟩ := ((a.heard k).recall f).relay_outside (k := k) (f := f) (a.forwards k f)
  exact ⟨hshows.boot.trans hboot, hshows.haltCause.trans hhalt, hshows.porches.trans hporches⟩

theorem State.tunnelCommand_refuses {s : State} (hmode : s.mode ≠ .boot) (hready : s.boot.ready = true)
    (hhalt : s.haltMonitor = false) (haccept : s.flag F.PEAL_RING_CTRL_TUNNEL_ACCEPT = false) :
    (s.tunnelCommand f).get F.PEAL_TUNNEL_REFUSED =
      min (s.get F.PEAL_TUNNEL_REFUSED + 1) (2 ^ F.PEAL_TUNNEL_REFUSED.width - 1) := by
  unfold State.tunnelCommand
  extract_lets hdr op rq left due
  rw [if_neg (by simp [hmode, hready, hhalt]), if_pos (by simp [haccept]), State.sendAnswer]
  rw [((SameField.refl F.PEAL_TUNNEL_REFUSED _).pealOriginate _ _ (by decide) _).get, State.get_bump_one _ _ (by decide)]

theorem State.porch_setPorch_same (s : State) (n : Nat) (x : PorchSt) : (s.setPorch n x).porch n = x := Tbl.get_set_same _ _ _ _

/-- A command to other devices waits for every entry. -/
theorem State.settleRemote_open {s : State} {n : Nat} {m : Remote} {e : Nat × Option (Nat × List Byte)}
    (hm : (s.porch n).remote = some m) (he : e ∈ m.entries) (hopen : e.2 = none) : s.settleRemote n = s := by
  unfold State.settleRemote
  rw [hm]
  exact if_pos (List.any_eq_true.2 ⟨e, he, by rw [hopen]; rfl⟩)

/-- A response fills in the entry of its device, and the command stays open while another entry does. -/
theorem State.tunnelResponse_fills {s : State} {m : Remote} {e : Nat × Option (Nat × List Byte)} (hn : uAt f.payload 1 1 < 14)
    (hm : (s.porch (uAt f.payload 1 1)).remote = some m) (hseq : m.rq.seq = uAt f.payload 4 4) (habort : m.aborting = none)
    (he : e ∈ m.entries) (hother : e.1 ≠ f.src) (hopen : e.2 = none) :
    ((s.tunnelResponse f).porch (uAt f.payload 1 1)).remote = some (m.fill f.src (uAt (f.payload.drop 16) 10 1)
      (bytesAt (f.payload.drop 16) 32 (uAt (f.payload.drop 16) 8 2))) := by
  unfold State.tunnelResponse
  extract_lets n rsp
  rw [hm]
  dsimp only
  rw [if_neg (by simp [hseq, n, Nat.not_le.2 hn]), habort]
  dsimp only
  have hkept : e ∈ (m.fill f.src (uAt rsp 10 1) (bytesAt rsp 32 (uAt rsp 8 2))).entries :=
    List.mem_map.2 ⟨e, he, if_neg fun hmine => hother hmine.1⟩
  rw [State.settleRemote_open (congrArg PorchSt.remote (State.porch_setPorch_same s n _)) hkept hopen,
    State.porch_setPorch_same]

end

section
variable {s a : State} {t k : Nat} {f : PealFrame} (h : Live s t a)
include h

theorem Live.tunnelRx_executes (hf : Arrives a k f) (hm : Meant a f) (hkind : f.kind = 5) (hcommand : uAt f.payload 0 1 = 0) :
    ∃ b, (∀ use, a.pealReceive k f use = use b) ∧ Gives (.tunnelRx t k f) s (b.tunnelCommand f) ∧
      (a.mode ≠ .boot → a.boot.ready = true → a.haltMonitor = false → a.flag F.PEAL_RING_CTRL_TUNNEL_ACCEPT = false →
        (b.tunnelCommand f).get F.PEAL_TUNNEL_REFUSED =
          min (a.get F.PEAL_TUNNEL_REFUSED + 1) (2 ^ F.PEAL_TUNNEL_REFUSED.width - 1)) := by
  have hsame := hf.passed
  obtain ⟨hboot, hcause, -⟩ := hf.outside
  have hstep := h.gives_of_coreStep (exec_tunnelRx t k f s)
  rw [if_pos ⟨hkind, hcommand⟩, hf.receives hm] at hstep
  refine ⟨_, hf.receives hm, hstep, fun hmode hready hhalt haccept => ?_⟩
  rw [State.tunnelCommand_refuses (by rwa [hsame.timing.mode]) (by rwa [hboot]), hsame.get (by decide)]
  · rwa [State.haltMonitor, hsame.timing.mode, hcause]
  · rwa [State.flag, hsame.get (by decide)]

theorem Live.tunnelResponseRx_fills {m : Remote} {e : Nat × Option (Nat × List Byte)} (hf : Arrives a k f) (hm : Meant a f)
    (hkind : f.kind = 5) (hresponse : uAt f.payload 0 1 = 1) (hn : uAt f.payload 1 1 < 14)
    (hremote : (a.porch (uAt f.payload 1 1)).remote = some m) (hseq : m.rq.seq = uAt f.payload 4 4) (habort : m.aborting = none)
    (he : e ∈ m.entries) (hother : e.1 ≠ f.src) (hopen : e.2 = none) : ∃ u, Gives (.tunnelResponseRx t k f) s u ∧
      (u.porch (uAt f.payload 1 1)).remote = some (m.fill f.src (uAt (f.payload.drop 16) 10 1)
        (bytesAt (f.payload.drop 16) 32 (uAt (f.payload.drop 16) 8 2))) := by
  obtain ⟨-, -, hporches⟩ := hf.outside
  have hstep := h.gives_of_coreStep (exec_tunnelResponseRx t k f s)
  rw [if_pos ⟨hkind, hresponse⟩, hf.receives hm] at hstep
  exact ⟨_, hstep, State.tunnelResponse_fills hn (by rwa [State.porch, hporches]) hseq habort he hother hopen⟩

end

/-- Settles O49: a frame of the ring after the other, each by the lemma that says what consuming it does. -/
theorem pealFrameCommandsTakeEffect : Obligations.PealFrameCommandsTakeEffect := by
  rintro s a t k f l h rfl
  refine ⟨h.syncRx_answers, fun t1 t2 t3 t4 => h.syncRx_ends, h.discoverAssignRx_takes, fun o hf hkind hend => h.discoverEndRx_passes hf hkind hend,
    fun o hf hkind hdone => h.discoverDoneRx_forms hf hkind hdone, fun o hf hkind hbusy hrole hoffer hround =>
      ⟨_, h.discoverBusyRx_fails hf hkind hbusy hrole hoffer hround, State.failRound_shows _ 3⟩,
    fun d => h.statusRx_marks, fun tr => h.tollRx_takes, h.tollRx_ignores, h.chimeRx_restarts, h.paceReportRx_keeps,
    h.paceRingRx_takes, h.tunnelRx_executes, fun m e => h.tunnelResponseRx_fills⟩

end Sys2Proof.Machine
end

section
/-! What stands in the porches and the changes that are prepared: the operations that show, count, send and store leave both
(R317, R337). -/

namespace Sys2Proof.Machine

/-! ### Operations that leave the porches -/

/-- Two states have the same in their porches and slots of tunnelled commands, and hold the same prepared changes. -/
def SamePorches (s u : State) : Prop := u.porches = s.porches ∧ u.prepared = s.prepared

section
variable {s u : State}

theorem SamePorches.refl (s : State) : SamePorches s s := ⟨rfl, rfl⟩

theorem SamePorches.porch (h : SamePorches s u) (n : Nat) : u.porch n = s.porch n := by
  rw [State.porch, State.porch, h.1]

theorem SamePorches.trans {v : State} (h : SamePorches s u) (h' : SamePorches u v) : SamePorches s v :=
  ⟨h'.1.trans h.1, h'.2.trans h.2⟩

theorem SamePorches.ite {v : State} {p : Prop} [Decidable p] (hu : SamePorches s u) (hv : SamePorches s v) :
    SamePorches s (if p then u else v) := by
  split
  · exact hu
  · exact hv

theorem SamePorches.set (h : SamePorches s u) (f : Fld) (n : Nat) : SamePorches s (u.set f n) := h

theorem SamePorches.bump (h : SamePorches s u) (f : Fld) (n : Nat) : SamePorches s (u.bump f n) := h

theorem SamePorches.setBit (h : SamePorches s u) (f : Fld) (k : Nat) (b : Bool) : SamePorches s (u.setBit f k b) := h

theorem SamePorches.setArrBit (h : SamePorches s u) (f : Nat → Fld) (k : Nat) (b : Bool) : SamePorches s (u.setArrBit f k b) := h

theorem SamePorches.cause (h : SamePorches s u) (f : Fld) (n : Nat) : SamePorches s (u.cause f n) := by
  obtain ⟨l, hl⟩ := sendNewMsi_sent u (u.set f (u.get f ||| n))
  rw [State.cause, hl]
  exact h

theorem SamePorches.causeBit (h : SamePorches s u) (f : Fld) (k : Nat) : SamePorches s (u.causeBit f k) := h.cause f _

theorem SamePorches.summary (h : SamePorches s u) (k n : Nat) : SamePorches s (u.summary k n) := .ite h h

theorem SamePorches.setPort (h : SamePorches s u) (p : Nat) (x : Port) : SamePorches s (u.setPort p x) := h

theorem SamePorches.setWp (h : SamePorches s u) (p : Nat) (x : WavePort) : SamePorches s (u.setWp p x) := h

theorem SamePorches.setWatch (h : SamePorches s u) (x : Watch) : SamePorches s (u.setWatch x) := h

theorem SamePorches.setChan (h : SamePorches s u) (c : Nat) (x : Chan) : SamePorches s (u.setChan c x) := h

theorem SamePorches.setHealth (h : SamePorches s u) (x : Health) : SamePorches s { u with health := x } := h

theorem SamePorches.setWaveOut (h : SamePorches s u) (x : Tbl WaveOut) : SamePorches s { u with waveOut := x } := h

theorem SamePorches.setFree (h : SamePorches s u) (n : Nat) : SamePorches s { u with free := n } := h

theorem SamePorches.setErr (h : SamePorches s u) (w m : Nat) : SamePorches s { u with perr := u.perr.set 0 w m } := h

theorem SamePorches.setLost (h : SamePorches s u) (n : Nat) : SamePorches s { u with evLostPend := n } := h

/-- A frame of the ring is sent and counted. -/
theorem SamePorches.pealOriginate (h : SamePorches s u) (kind dst : Nat) (payload : List Byte) :
    SamePorches s (u.pealOriginate kind dst payload) :=
  foldl_keeps (SamePorches s) _ (fun a k ha => by
    obtain ⟨r, hr⟩ := a.pealSend_counts k _
    rw [hr]
    exact ha) _ _ h

/-! ### The Pantry and events (R348, R394) -/

theorem SamePorches.touchBank (h : SamePorches s u) (b : Nat) : SamePorches s (u.touchBank b) := by
  unfold State.touchBank
  exact .ite h (.ite h h)

theorem SamePorches.checkWord (h : SamePorches s u) (w : Nat) (patrol : Bool) : SamePorches s (u.checkWord w patrol).2 := by
  unfold State.checkWord
  extract_lets m b s1 s2 s3
  split
  · exact h
  split
  · have h1 : SamePorches s s1 := h.setErr w 0
    exact (h1.cause _ _).summary _ _
  · have h2 : SamePorches s s2 := ((h.bump _ _).bump _ _).set _ _
    have h3 : SamePorches s s3 := ((h2.set _ _).set _ _).set _ _
    exact (h3.cause _ _).summary _ _

theorem SamePorches.mergeWord (h : SamePorches s u) (w : Nat) : SamePorches s (u.mergeWord w).2 := by
  have hc := h.checkWord w false
  unfold State.mergeWord
  exact .ite hc hc

theorem SamePorches.pwrite (h : SamePorches s u) (a : Nat) (l : List Byte) : SamePorches s (u.pwrite a l) := by
  unfold State.pwrite State.pwriteCheck
  split
  · exact h
  · extract_lets e part
    exact foldl_keeps (fun r : Bool × State => SamePorches s r.2)
      (fun r w => ((r.2.mergeWord w).1 || r.1, (r.2.mergeWord w).2)) (fun r w hr => hr.mergeWord w) part
      (false, u.touchBank (bankOf a)) (h.touchBank _)

theorem SamePorches.writeEvent (h : SamePorches s u) (code time : Nat) (data : List Byte) :
    SamePorches s (u.writeEvent code time data) := ((h.pwrite _ _).set _ _).cause _ _

theorem SamePorches.flushLost (h : SamePorches s u) : SamePorches s u.flushLost := .ite (.setLost (h.writeEvent _ _ _) _) h

theorem SamePorches.postEvent (h : SamePorches s u) (code : Nat) (data : List Byte) : SamePorches s (u.postEvent code data) :=
  .ite (.ite (h.flushLost.writeEvent _ _ _) (.setLost ((h.flushLost.bump _ _).cause _ _) _)) h

/-! ### Limp conditions and reads of the Cellar (R51, R62, R490) -/

theorem SamePorches.queueHealth (h : SamePorches s u) (e : HealthEvent) : SamePorches s (u.queueHealth e) :=
  .ite (h.setHealth _) ((h.bump _ _).cause _ _)

theorem SamePorches.limpRaise (h : SamePorches s u) (code inst : Nat) : SamePorches s (u.limpRaise code inst) := by
  unfold State.limpRaise
  extract_lets new x s1 s2 s3 s4
  have h3 : SamePorches s s3 := (((h.setHealth _).setBit _ _ _).cause _ _).set _ _
  exact .ite h (.queueHealth (.ite ((h3.cause _ _).set _ _) h3) _)

theorem SamePorches.limpClearIf (h : SamePorches s u) (code : Nat) (p : Nat → Bool) : SamePorches s (u.limpClearIf code p) := by
  refine foldl_keeps (SamePorches s) _ (fun a c ha => ?_) _ _ h
  unfold State.limpClear
  extract_lets x s1 s2
  have h1 : SamePorches s s1 := ha.setHealth _
  exact .ite (.queueHealth (.ite h1 (h1.cause _ _)) _) ha

theorem SamePorches.loseChannel (h : SamePorches s u) (c cause : Nat) : SamePorches s (u.loseChannel c cause) := by
  unfold State.loseChannel
  exact .ite (((((((((h.set _ _).set _ _).set _ _).setBit _ _ _).set _ _).setChan _ _).cause _ _).limpRaise _ _)) h

theorem SamePorches.enterHistory (h : SamePorches s u) (c : Nat) (lanes : List Nat) : SamePorches s (u.enterHistory c lanes) := by
  unfold State.enterHistory
  refine (SamePorches.set (foldl_keeps (SamePorches s) _ (fun a l ha => ?_) _ _ (h.setChan c _)) _ _).set _ _
  split
  · exact ha
  split
  · exact .limpRaise (.cause (.set (.set (.set ha _ _) _ _) _ _) _ _) _ _
  · split
    · exact ha
    · exact ha.loseChannel c 3

theorem SamePorches.lastCellarErr (h : SamePorches s u) (c b kind : Nat) (scrub : Bool) :
    SamePorches s (u.lastCellarErr c b kind scrub) := ((h.set _ _).set _ _).set _ _

theorem SamePorches.uncorrRate (h : SamePorches s u) (c : Nat) : SamePorches s (u.uncorrRate c) := by
  unfold State.uncorrRate
  exact .ite ((h.setChan c _).loseChannel c 2) (h.setChan c _)

theorem SamePorches.reportRead (h : SamePorches s u) (c b : Nat) (scrub : Bool) (o : ReadOutcome) :
    SamePorches s (u.reportRead c b scrub o) := by
  unfold State.reportRead
  split
  · exact h
  · exact (((h.bump _ _).bump _ _).cause _ _).summary _ _ |>.enterHistory _ _
  · exact (((h.bump _ _).bump _ _).lastCellarErr _ _ _ _).cause _ _ |>.summary _ _
  · exact (((h.bump _ _).bump _ _).lastCellarErr _ _ _ _).cause _ _ |>.summary _ _ |>.uncorrRate _

theorem SamePorches.cellarReads : ∀ {u : State} (_ : SamePorches s u) (l : List Nat), SamePorches s (u.cellarReads l).2
  | _, h, [] => h
  | u, h, b :: l => by
    rw [State.cellarReads_cons]
    refine SamePorches.cellarReads ?_ l
    unfold State.cellarRead
    split
    · exact h
    · split
      · exact (h.setChan _ _).reportRead _ _ _ _
      · exact h

end
end Sys2Proof.Machine
end

section
/-! A head port that is linked anew, and the prepared changes that are withdrawn with it (R221, R226, R337). -/

namespace Sys2Proof.Machine

/-! ### Ports that leave the link (R221, R257) -/

section
variable {s u : State}

theorem SamePorches.portCause (h : SamePorches s u) (p bit : Nat) : SamePorches s (u.portCause p bit) :=
  ((((h.set _ _).set _ _).set _ _).setArrBit _ _ _).causeBit _ _

theorem SamePorches.portCount (h : SamePorches s u) (p k : Nat) : SamePorches s (u.portCount p k) := h

theorem SamePorches.countOutcome (h : SamePorches s u) (k : Nat) : SamePorches s (u.countOutcome k) := by
  unfold State.countOutcome
  split
  · exact h.summary _ _
  · exact h.summary _ _
  · exact h.summary _ _
  · exact h.summary _ _
  · exact h

theorem SamePorches.logCut (h : SamePorches s u) (p line cause : Nat) : SamePorches s (u.logCut p line cause) :=
  ((((h.set _ _).set _ _).set _ _).set _ _).set _ _

theorem SamePorches.stopLines (h : SamePorches s u) (p : Nat) (cut : Option Nat) : SamePorches s (u.stopLines p cut) := by
  unfold State.stopLines State.stopWave
  extract_lets x d new s1 s2
  have h2 : SamePorches s s2 := by
    refine foldl_keeps (SamePorches s) _ (fun a q ha => ?_) _ _ (h.setPort _ _)
    have hb := ha.countOutcome q.2.outcome
    refine .ite ha (.ite ((((hb.bump _ _).bump _ _).portCount p 5).portCause p 7) (.ite ?_ hb))
    split
    · exact (hb.bump _ _).logCut _ _ _
    · exact (hb.logCut _ _ _).setFree _
  split
  · exact h2
  split
  · exact .ite h2 (h2.setWaveOut _)
  · exact h2

theorem SamePorches.endMaint (h : SamePorches s u) (p ended : Nat) : SamePorches s (u.endMaint p ended) := by
  unfold State.endMaint
  split
  · exact h
  · extract_lets y s1 short ids w s2 busy s3
    have h1 : SamePorches s s1 := h.setPort p _
    have h3 : SamePorches s s3 := ((h1.setWatch _).set _ _).cause _ _
    exact .ite (h3.postEvent _ _) (h1.postEvent _ _)

theorem SamePorches.leavePort (h : SamePorches s u) (p : Nat) (cut : Option Nat) : SamePorches s (u.leavePort p cut) := by
  unfold State.leavePort
  exact ((h.stopLines p cut).endMaint p 2).setPort _ _

theorem SamePorches.enterPort (h : SamePorches s u) (p st : Nat) : SamePorches s (u.enterPort p st) := by
  unfold State.enterPort
  extract_lets x s1 s2 s3
  have h1 : SamePorches s s1 := (h.setPort _ _).set _ _
  have h3 : SamePorches s s3 := ((h1.setArrBit _ _ _).setArrBit _ _ _).setArrBit _ _ _
  exact .ite h3 (h3.set _ _)

theorem SamePorches.refusePort (h : SamePorches s u) (p code : Nat) : SamePorches s (u.refusePort p code) := by
  unfold State.refusePort
  extract_lets s1 s2
  have h1 : SamePorches s s1 := ((h.leavePort p none).enterPort p 8).set _ _
  have h2 : SamePorches s s2 := ((h1.set _ _).set _ _).set _ _
  exact h2.portCause p 2

/-! ### Ports that are linked (R226, R250) -/

theorem SamePorches.setLanes (h : SamePorches s u) (p lanes : Nat) : SamePorches s (u.setLanes p lanes) :=
  (h.setPort _ _).set _ _

theorem SamePorches.setFMax (h : SamePorches s u) (p f : Nat) : SamePorches s (u.setFMax p f) := (h.setPort _ _).set _ _

theorem SamePorches.setAuth (h : SamePorches s u) (p auth : Nat) : SamePorches s (u.setAuth p auth) := (h.setPort _ _).set _ _

theorem SamePorches.cellarBytes (h : SamePorches s u) (a n : Nat) : SamePorches s (u.cellarBytes a n).2 := h.cellarReads _

theorem SamePorches.setCoefs (h : SamePorches s u) (p : Nat) : SamePorches s (u.setCoefs p) := by
  unfold State.setCoefs
  extract_lets trimmed
  have h1 : SamePorches s (if trimmed then u.cellarBytes (64 * u.trimBlock 0 p) 40960 else ([], u)).2 := by
    split
    · exact h.cellarBytes _ _
    · exact h
  rcases hread : (if trimmed then u.cellarBytes (64 * u.trimBlock 0 p) 40960 else ([], u)) with ⟨bytes, s1⟩
  rw [hread] at h1
  dsimp only
  split
  · exact h1.setPort _ _
  · exact h1.setPort _ _

theorem SamePorches.portUp (h : SamePorches s u) (p : Nat) : SamePorches s (u.portUp p) := by
  unfold State.portUp
  extract_lets one s1 x th serial y s2 z s3
  have h1 : SamePorches s s1 := (h.setFMax p _).enterPort p _
  have h3 : SamePorches s s3 := ((h1.setPort p _).setWp p _).portCause p 0
  exact .ite ((h3.limpRaise _ _).portCause p 3) (h3.limpClearIf _ _)

theorem SamePorches.queueMsgs (h : SamePorches s u) (p tag : Nat) (l : List Msg) : SamePorches s (u.queueMsgs p tag l) := by
  unfold State.queueMsgs
  extract_lets x
  exact h.setPort p _

theorem SamePorches.trimsAtLink (h : SamePorches s u) (kind p : Nat) : SamePorches s (u.trimsAtLink kind p).2 := by
  unfold State.trimsAtLink
  extract_lets loaded
  split
  · have h1 := h.cellarBytes (64 * u.trimBlock kind p) 40960
    rcases hread : u.cellarBytes (64 * u.trimBlock kind p) 40960 with ⟨l, s1⟩
    rw [hread] at h1
    exact h1
  · exact h

theorem SamePorches.loadHead (h : SamePorches s u) (p : Nat) : SamePorches s (u.loadHead p) := by
  unfold State.loadHead
  extract_lets x c waves
  exact ((((h.trimsAtLink 0 p).trimsAtLink 1 p).setPort p _).queueMsgs p 0 _).queueMsgs p 1 _

theorem SamePorches.startLoading (h : SamePorches s u) (p : Nat) : SamePorches s (u.startLoading p) := by
  unfold State.startLoading
  extract_lets s1
  have h1 : SamePorches s s1 := (h.setFMax p _).setCoefs p
  split
  · exact h1.refusePort p _
  · exact .ite (h1.portUp p) (h1.loadHead p)

theorem SamePorches.startLink (h : SamePorches s u) (p : Nat) : SamePorches s (u.startLink p) := by
  unfold State.startLink State.toLoading
  extract_lets s1 s2
  have h1 : SamePorches s s1 := ((h.leavePort p none).setLanes p 0).setFMax p 0
  have h2 : SamePorches s s2 := (h1.setAuth p 0).enterPort p 4
  exact .ite (.ite (h2.startLoading p) h2) (h1.enterPort p 1)

/-! ### Prepared changes that are discarded (R337, R340) -/

theorem SamePorches.withdrawHead (h : SamePorches s u) (p : Nat) : SamePorches s (u.withdrawHead p) :=
  .setPort (.ite (h.startLink p) h) p _

end

section
variable (s : State) (p : Prepared → Bool)

theorem State.discardPrepared_keeps : SamePorches { s with prepared := s.prepared.filter (fun x => !p x) } (s.discardPrepared p) :=
  foldl_keeps (SamePorches _) _ (fun _ _ ha => .ite (ha.withdrawHead _) ha) _ _ (.refl _)

/-- The changes that lapse are prepared no more, and the others stay. -/
theorem State.prepared_lapsePrepared (cause : Nat) : (s.lapsePrepared p cause).prepared = s.prepared.filter (fun x => !p x) :=
  (foldl_keeps (SamePorches _) _ (fun _ _ ha => ha.postEvent _ _) _ _ (s.discardPrepared_keeps p)).2

end

end Sys2Proof.Machine
end

section
/-! How a command comes to its apply point: the rows of the catalogue, answers, staging, and what a staged command that is
ready comes to (R313, R321, R324 to R330). -/

namespace Sys2Proof.Machine

/-! ### The catalogue (R352) -/

/-- A row of a porch command takes its opcode through the checks and to its apply point. -/
theorem exec_porchRow : ∀ row ∈ porchRows, ∀ (t : Nat) (rq : Req) (s : State),
    exec (row.1 t rq) s = coreStep t (fun a => a.runCommand row.2.op rq) s := by
  simp only [porchRows, sysOperations, jobOperations, sysCareOperations, geoOperations, streamOperations, lineOperations,
    timingOperations, waveOperations, headOperations, watchOperations, ringOperations, memOperations, otpOperations,
    thermOperations, healthOperations, diagOperations, List.forall_mem_append, List.forall_mem_cons, List.not_mem_nil,
    false_imp_iff, implies_true, and_true]
  and_intros
  all_goals exact fun _ _ _ => rfl

theorem mem_catalogue_of_row {row : PorchRow} (h : row ∈ porchRows) : row.2 ∈ catalogue := List.mem_map_of_mem (f := Prod.snd) h

theorem nodup_opcodes : (catalogue.map Cmd.op).Nodup := by decide +kernel

/-- A command of the catalogue is found by its opcode. -/
theorem cmdOf_of_mem {c : Cmd} (h : c ∈ catalogue) : cmdOf c.op = some c := by
  obtain ⟨x, hx⟩ : ∃ x, cmdOf c.op = some x := Option.isSome_iff_exists.1 (List.find?_isSome.2 ⟨c, h, by simp⟩)
  have hop : x.op = c.op := by simpa using List.find?_some hx
  rw [hx, List.inj_on_of_nodup_map nodup_opcodes (List.mem_of_find?_eq_some hx) h hop]

/-! ### Answers (R313, R321, R326) -/

section
variable {s u : State}

theorem OnlyRegs.keepsPorches (h : OnlyRegs s u) : SamePorches s u := by
  obtain ⟨r, rfl⟩ := h
  exact .refl s

theorem State.porchError_shows (s : State) (n status op : Nat) : OnlyRegs s (s.porchError n status op) :=
  (((((OnlyRegs.refl s).bump _ _).set _ _).set _ _).set _ _).set _ _

/-- What a status makes the counters is shown in registers alone. -/
theorem State.countStatus_shows (s : State) (n op status : Nat) : OnlyRegs s (s.countStatus n op status) := by
  have htime := (OnlyRegs.refl s).bump F.PORCH_TIMEOUT_TOTAL 1
  exact .ite (s.porchError_shows n status op) (.ite (.ite htime (htime.bump _ _)) (.refl s))

theorem SamePorches.showResponse (h : SamePorches s u) (n : Nat) (bytes : List Byte) : SamePorches s (u.showResponse n bytes) := by
  unfold State.showResponse
  extract_lets op status s1 s2
  have h1 : SamePorches s s1 := ((h.pwrite _ _).set _ _).set _ _
  have h2 : SamePorches s s2 := ((h1.set _ _).set _ _).trans (State.countStatus_shows _ _ _ _).keepsPorches
  exact h2.causeBit _ _

/-- After its response a command is neither staged on its porch nor open at other devices. -/
theorem State.porch_postResponse (s : State) (n seq op target status flags : Nat) (payload : List Byte) (keep : Bool) :
    ((s.postResponse n seq op target status flags payload keep).porch n).staged = none ∧
      ((s.postResponse n seq op target status flags payload keep).porch n).remote = none := by
  unfold State.postResponse
  extract_lets x bytes s1 s2
  have h2 : SamePorches s1 s2 := (SamePorches.refl s1).showResponse n bytes
  rw [SamePorches.porch (.ite (h2.bump _ _) h2) n, State.porch_setPorch_same]
  exact ⟨rfl, rfl⟩

variable {n op : Nat} {rq : Req} {r : Resp}

/-- The command has nothing on a head that its answer withdraws. -/
def State.Unsent (s : State) (n : Nat) (r : Resp) : Prop := ∀ g, (s.porch n).staged = some g → g.sent = false ∨ r.status = .ok

/-- The slot of a command without what was staged in it. -/
def State.unstage (s : State) (n : Nat) : State := s.setPorch n { s.porch n with staged := none }

theorem State.Unsent.not_withdrawn (h : s.Unsent n r) :
    ¬ (((s.porch n).staged.map (·.sent)).getD false = true ∧ r.status ≠ .ok) := by
  rintro ⟨hsent, hbad⟩
  cases hg : (s.porch n).staged with
  | none => rw [hg] at hsent; cases hsent
  | some g =>
    rw [hg] at hsent
    obtain hg' | hok := h g hg
    · exact absurd (hg'.symm.trans hsent) Bool.false_ne_true
    · exact hbad hok

/-- A command of this device alone is answered in its porch. -/
theorem State.answer_own (horigin : rq.origin = 0) (hremote : (s.porch n).remote = none) (hsent : s.Unsent n r)
    (hreset : ¬ (op = 8 ∧ r.status = .ok)) :
    s.answer n op rq r = (s.unstage n).postResponse n rq.seq op s.deviceId r.status.code 0 r.payload true := by
  unfold State.answer
  extract_lets x sent s1 s2 g s3 y s4
  have h2 : s2 = s.unstage n := if_neg hsent.not_withdrawn
  rw [if_neg (not_not.2 horigin), hremote]
  dsimp only
  rw [if_neg hreset]
  unfold s4
  rw [h2]

/-- A tunnelled command is answered in a frame of the ring. -/
theorem State.answer_tunnelled (horigin : rq.origin ≠ 0) (hsent : s.Unsent n r) (hreset : ¬ (op = 8 ∧ r.status = .ok)) :
    ∃ rungAt due, s.answer n op rq r = (s.unstage n).sendAnswer op rq rungAt due r := by
  unfold State.answer
  extract_lets x sent s1 s2 g s3
  have h2 : s2 = s.unstage n := if_neg hsent.not_withdrawn
  rw [if_pos horigin, if_neg hreset]
  exact ⟨g.rungAt, g.due, by unfold s3; rw [h2]⟩

/-- A command that has been answered is staged no more. -/
theorem State.porch_answer (hremote : (s.porch n).remote = none) (hsent : s.Unsent n r) (hreset : ¬ (op = 8 ∧ r.status = .ok)) :
    ((s.answer n op rq r).porch n).staged = none ∧ ((s.answer n op rq r).porch n).remote = none := by
  by_cases horigin : rq.origin = 0
  · rw [State.answer_own horigin hremote hsent hreset]
    exact State.porch_postResponse _ _ _ _ _ _ _ _ _
  · obtain ⟨rungAt, due, hanswer⟩ := State.answer_tunnelled horigin hsent hreset
    have hkeeps : SamePorches (s.unstage n) ((s.unstage n).sendAnswer op rq rungAt due r) :=
      (SamePorches.refl _).pealOriginate _ _ _
    rw [hanswer, hkeeps.porch n, State.unstage, State.porch_setPorch_same]
    exact ⟨rfl, hremote⟩

/-- No check answers SYS_RESET with OK. -/
theorem State.checkCmd_reset (h : s.checkCmd 8 rq = some r) : r.status ≠ .ok := by
  have hcmd : cmdOf 8 = some sysReset := rfl
  unfold State.checkCmd at h
  rw [hcmd] at h
  dsimp only at h
  split_ifs at h <;> cases h <;> decide

end

/-! ### Staging (R324, R329) -/

section
variable {a b : State} {op n : Nat} {rq : Req} {g : Staged}

theorem State.closeNegotiation_shows (s : State) (op : Nat) : OnlyRegs s (s.closeNegotiation op) :=
  .ite (.refl s) (foldl_keeps (OnlyRegs s) _ (fun _ _ ha => ha.set _ _) _ _ ((OnlyRegs.refl s).set _ _))

theorem OnlyRegs.porch {s u : State} (h : OnlyRegs s u) (n : Nat) : u.porch n = s.porch n := by
  rw [State.porch, State.porch, h.porches]

/-- The command stands staged in its slot. -/
def State.staging (s : State) (n op : Nat) (rq : Req) (due : Nat) : State :=
  s.setPorch n { s.porch n with staged := some { op := op, rq := rq, rungAt := (s.porch n).rungAt, due := due } }

theorem State.issue_refused {s : State} {due : Nat} {r : Resp} (h : (s.staging n op rq due).checkCmd op rq = some r) :
    s.issue n op rq due = (s.staging n op rq due).answer n op rq r := by
  rw [State.staging] at h ⊢
  unfold State.issue
  dsimp only
  rw [h]

theorem State.issue_stages {s : State} {due : Nat} (h : (s.staging n op rq due).checkCmd op rq = none)
    (hheld : (s.staging n op rq due).heldUp n op (s.porch n).rungAt rq = false) : s.issue n op rq due = s.staging n op rq due := by
  rw [State.staging] at h hheld ⊢
  unfold State.issue
  dsimp only
  rw [h]
  dsimp only
  rw [hheld, Bool.and_false, if_neg Bool.false_ne_true]

/-- A row takes its command into its slot, checks and stages it, and has it come to its apply point. -/
theorem Taken.issues (h : Taken a op rq n g b) : ∃ x : State, a.runCommand op rq = (x.issue n op rq g.due).tryApply n ∧
    b = x.staging n op rq g.due ∧ (x.porch n).rungAt = g.rungAt := by
  obtain ⟨hg, x, hb, -, ⟨horigin, rfl, hserved, hfree, hx⟩ | ⟨horigin, hmode, hready, hslot, y, hy, hx⟩⟩ := h
  · have hrung : (x.porch rq.porch).rungAt = g.rungAt := by
      rw [hx, ((((a.ring _ _).closeNegotiation_shows op).set _ _).set _ _).porch, hg]
      exact congrArg PorchSt.rungAt (State.porch_setPorch_same a rq.porch _)
    refine ⟨x, ?_, by rw [hb, State.staging, hrung, hg], hrung⟩
    unfold State.runCommand
    rw [if_neg (not_not.2 horigin), hserved, hfree, hx, hg]
    rfl
  · have hrung : (x.porch n).rungAt = g.rungAt := by
      rw [hx, hy, State.porch_setPorch_same, hg]
      exact ((a.closeNegotiation_shows op).bump F.PEAL_TUNNEL_IN 1).timing.now
    refine ⟨x, ?_, by rw [hb, State.staging, hrung, hg], hrung⟩
    unfold State.runCommand State.takeTunnelled
    rw [if_pos horigin, if_pos ⟨hmode, hready⟩, hslot, hx, hy, hg]

theorem Taken.staged (h : Taken a op rq n g b) : (b.porch n).staged = some g ∧ (b.porch n).remote = none := by
  obtain ⟨-, x, rfl, hremote, -⟩ := h
  rw [State.porch_setPorch_same]
  exact ⟨rfl, hremote⟩

theorem Taken.fresh (h : Taken a op rq n g b) : g.op = op ∧ g.rq = rq ∧ g.sent = false ∧ g.applied = false := by
  rw [h.1]
  exact ⟨rfl, rfl, rfl, rfl⟩

theorem State.tryApply_idle {s : State} (h : (s.porch n).staged = none) : s.tryApply n = s := by
  unfold State.tryApply
  rw [h]

/-- A command that a check turns away is answered with what the check finds. -/
theorem Taken.refused (h : Taken a op rq n g b) {r : Resp} (hcheck : b.checkCmd op rq = some r) :
    a.runCommand op rq = b.answer n op rq r := by
  obtain ⟨hstaged, hremote⟩ := h.staged
  obtain ⟨-, -, hsent, -⟩ := h.fresh
  have hunsent : b.Unsent n r := fun y hy => .inl (Option.some.inj (hstaged.symm.trans hy) ▸ hsent)
  have hidle := (State.porch_answer (op := op) (rq := rq) hremote hunsent
    (fun ⟨hop, hok⟩ => State.checkCmd_reset (hop ▸ hcheck) hok)).1
  obtain ⟨x, hrun, rfl, -⟩ := h.issues
  rw [hrun, State.issue_refused hcheck, State.tryApply_idle hidle]

/-- A command that is ready comes to its apply point at once. -/
theorem Taken.runs (h : Taken a op rq n g b) (hready : Ready b n g) : a.runCommand op rq = b.tryApply n := by
  obtain ⟨hcheck, hheld, -⟩ := hready
  obtain ⟨hop, hrq, -⟩ := h.fresh
  obtain ⟨x, hrun, rfl, hrung⟩ := h.issues
  rw [hop, hrq] at hcheck hheld
  rw [hrun, State.issue_stages hcheck (by rwa [hrung])]

end

/-! ### The apply point (R327 to R330, R337 to R340) -/

/-- The command `g` stands in slot `n`, is `c` of the catalogue, and has reached its apply point. -/
structure Applies (s : State) (n : Nat) (c : Cmd) (g : Staged) : Prop where
  staged : (s.porch n).staged = some g
  waits : g.applied = false
  known : cmdOf g.op = some c
  ready : Ready s n g

section
variable {s s1 s2 : State} {n : Nat} {c : Cmd} {g : Staged} {bulk : List Byte} {r : Resp} (h : Applies s n c g)
include h

theorem Applies.bare (hbare : isBare g.rq = true) : s.tryApply n = s.applyBare n c g := by
  obtain ⟨hcheck, hheld, htime⟩ := h.ready
  simp [State.tryApply, h.staged, h.waits, h.known, hcheck, hheld, htime, hbare]

variable (hbare : isBare g.rq = false)
include hbare

theorem Applies.unfetched (hfetch : s.fetchBulk c g = (.error r, s1)) : s.tryApply n = s1.answer n g.op g.rq r := by
  obtain ⟨hcheck, hheld, htime⟩ := h.ready
  simp [State.tryApply, h.staged, h.waits, h.known, hcheck, hheld, htime, hbare, hfetch]

variable (hfetch : s.fetchBulk c g = (.ok bulk, s1))
include hfetch

theorem Applies.refused (hstage : c.stage bulk g.rq s1 = some r) : s.tryApply n = s1.answer n g.op g.rq r := by
  obtain ⟨hcheck, hheld, htime⟩ := h.ready
  simp [State.tryApply, h.staged, h.waits, h.known, hcheck, hheld, htime, hbare, hfetch, hstage]

variable (hstage : c.stage bulk g.rq s1 = none)
include hstage

theorem Applies.headed (hhead : s1.stageHead n c g bulk = some s2) : s.tryApply n = s2 := by
  obtain ⟨hcheck, hheld, htime⟩ := h.ready
  simp [State.tryApply, h.staged, h.waits, h.known, hcheck, hheld, htime, hbare, hfetch, hstage, hhead]

variable (hhead : s1.stageHead n c g bulk = none)
include hhead

theorem Applies.prepares (hprep : isPrepare g.rq = true) : s.tryApply n = s1.prepare n g bulk := by
  obtain ⟨hcheck, hheld, htime⟩ := h.ready
  simp [State.tryApply, h.staged, h.waits, h.known, hcheck, hheld, htime, hbare, hfetch, hstage, hhead, hprep]

theorem Applies.takesEffect (hprep : isPrepare g.rq = false) : s.tryApply n = s1.applyNow n c g bulk g.rq := by
  obtain ⟨hcheck, hheld, htime⟩ := h.ready
  simp [State.tryApply, h.staged, h.waits, h.known, hcheck, hheld, htime, hbare, hfetch, hstage, hhead, hprep]

end

/-! ### Contents for a head (R221) -/

section
variable {s : State} {n : Nat} {c : Cmd} {g : Staged} {bulk : List Byte} (hsent : g.sent = false)
include hsent

theorem State.stageHead_none (hhead : c.head bulk g.rq s = []) : s.stageHead n c g bulk = none := by
  simp [State.stageHead, hsent, hhead]

/-- Contents are queued for the head of the port, and the command stays staged with them. -/
theorem State.stageHead_sends (hhead : c.head bulk g.rq s ≠ []) : ∃ u, s.stageHead n c g bulk = some u ∧
    (u.porch n).staged = some { g with bulk := some bulk, sent := true } ∧
    (u.port (g.rq.u 0 1)).otherQ =
      (s.port (g.rq.u 0 1)).otherQ ++ (c.head bulk g.rq s).map (fun m => ({ msg := m, tag := 2 } : OutFrame)) := by
  unfold State.stageHead
  extract_lets p g1 x msgs s1
  rw [if_neg (by rw [hsent]; exact Bool.false_ne_true), if_neg hhead]
  refine ⟨_, rfl, congrArg PorchSt.staged (State.porch_setPorch_same _ _ _), ?_⟩
  have hqueue : ((s1.queueMsgs p 2 msgs).port p).otherQ =
      (s1.port p).otherQ ++ msgs.map (fun m => ({ msg := m, tag := 2 } : OutFrame)) :=
    congrArg Port.otherQ (State.port_setPort_same s1 p _)
  have hport : (s1.port p).otherQ = (s.port p).otherQ := by unfold s1; rw [State.port_setPort_same]
  exact hqueue.trans (by rw [hport])

end

end Sys2Proof.Machine
end

section
/-! The porch commands: each of the catalogue takes effect at its apply point (R324, R327 to R330, R352). -/

namespace Sys2Proof.Machine

/-- A command that has been taken and is ready stands at its apply point. -/
theorem Taken.applies {a b : State} {c : Cmd} {rq : Req} {n : Nat} {g : Staged} (h : Taken a c.op rq n g b)
    (hc : c ∈ catalogue) (hready : Ready b n g) : Applies b n c g :=
  ⟨h.staged.1, h.fresh.2.2.2, h.fresh.1 ▸ cmdOf_of_mem hc, hready⟩

theorem bitOf_of_mod_eight {v m k : Nat} (h : v % 8 = m) (hk : k < 3) : bitOf v k = m.testBit k := by
  rw [← h, show 8 = 2 ^ 3 from rfl, Nat.testBit_mod_two_pow, decide_eq_true hk, Bool.true_and, bitOf]

/-- The three low bits of its flags say whether a command is a PREPARE, a COMMIT or an ABORT (R320). -/
theorem flags_of_mod_eight {rq : Req} {m : Nat} (h : rq.flags % 8 = m) :
    isPrepare rq = m.testBit 0 ∧ isCommit rq = m.testBit 1 ∧ isAbort rq = m.testBit 2 :=
  ⟨bitOf_of_mod_eight h (by decide), bitOf_of_mod_eight h (by decide), bitOf_of_mod_eight h (by decide)⟩

/-- Settles O50: the row takes the command to its apply point, and each outcome there is the one of the staged command. -/
theorem porchCommandsTakeEffect : Obligations.PorchCommandsTakeEffect := by
  intro row hrow s a b t n rq g h htaken hflags
  have hstep := h.gives_of_coreStep (exec_porchRow row hrow t rq s)
  obtain ⟨hprep, hcommit, habort⟩ := flags_of_mod_eight hflags
  have hbare : isBare rq = false := by rw [isBare, hcommit, habort]; rfl
  refine ⟨fun r hcheck => by rwa [htaken.refused hcheck] at hstep, fun hready => ?_⟩
  have happ := htaken.applies (mem_catalogue_of_row hrow) hready
  rw [htaken.runs hready] at hstep
  obtain ⟨hop, rfl, hsent, -⟩ := htaken.fresh
  rw [← hop]
  refine ⟨fun r b1 hfetch => by rwa [happ.unfetched hbare hfetch] at hstep, fun bulk b1 hfetch => ⟨fun r hstage => ?_,
    fun hstage hhead => ?_, fun hstage hhead => ?_⟩⟩
  · rwa [happ.refused hbare hfetch hstage] at hstep
  · rwa [happ.takesEffect hbare hfetch hstage (State.stageHead_none hsent hhead) hprep] at hstep
  · obtain ⟨u, hu, hstaged, hqueue⟩ := State.stageHead_sends (n := n) hsent hhead
    rw [happ.headed hbare hfetch hstage hu] at hstep
    exact ⟨u, hstep, hstaged, hqueue⟩

end Sys2Proof.Machine
end

section
/-! Responses: the bytes that stand in the response area of a porch, and the registers that show them (R319, R321, R326). -/

namespace Sys2Proof.Machine

/-! ### Little-endian fields -/

theorem leNat_leBytes : ∀ n v : Nat, leNat (leBytes n v) = v % 256 ^ n
  | 0, v => (Nat.mod_one v).symm
  | n + 1, v => by
    rw [leBytes, leNat, leNat_leBytes n, BitVec.toNat_ofNat, Nat.pow_succ' (m := 256), Nat.mod_mul]

/-- A field reads back where it was written. -/
theorem uAt_leBytes {pre : List Byte} {off : Nat} (hoff : pre.length = off) (n v : Nat) (post : List Byte) :
    uAt (pre ++ (leBytes n v ++ post)) off n = v % 256 ^ n := by
  rw [uAt, bytesAt, ← hoff, List.drop_left, List.take_left' (length_leBytes n v), leNat_leBytes]

section
variable (seq op target status flags time elapsed : Nat) (payload : List Byte)

theorem length_responseBytes :
    (responseBytes seq op target status flags time elapsed payload).length = 32 + payload.length := by
  simp only [responseBytes, sealHeader, List.length_append, length_leBytes]

theorem uAt_seq_responseBytes : uAt (responseBytes seq op target status flags time elapsed payload) 0 4 = seq % 2 ^ 32 := by
  simp only [responseBytes, sealHeader, List.append_assoc]
  exact uAt_leBytes (pre := []) rfl 4 seq _

theorem uAt_op_responseBytes : uAt (responseBytes seq op target status flags time elapsed payload) 4 2 = op % 2 ^ 16 := by
  simp only [responseBytes, sealHeader, List.append_assoc]
  exact uAt_leBytes (pre := leBytes 4 seq) (length_leBytes _ _) 2 op _

theorem uAt_status_responseBytes :
    uAt (responseBytes seq op target status flags time elapsed payload) 10 1 = status % 2 ^ 8 := by
  simp only [responseBytes, sealHeader, List.append_assoc]
  rw [← List.append_assoc (leBytes 2 target), ← List.append_assoc (leBytes 2 op), ← List.append_assoc (leBytes 4 seq)]
  exact uAt_leBytes (by simp only [List.length_append, length_leBytes]) 1 status _

end

/-! ### Registers below the Pantry's (R391, R394, R397) -/

/-- Two states have the same words in the registers below those of the ring and the Pantry. -/
def SameLow (s u : State) : Prop := ∀ off < 0xA0000, u.reg off = s.reg off

section
variable {s u : State}

theorem SameLow.refl (s : State) : SameLow s s := fun _ _ => rfl

theorem SameLow.get (h : SameLow s u) {f : Fld} (hf : f.off < 0xA0000) : u.get f = s.get f := State.get_congr s (h f.off hf)

theorem SameLow.ite {v : State} {p : Prop} [Decidable p] (hu : SameLow s u) (hv : SameLow s v) :
    SameLow s (if p then u else v) := by
  split
  · exact hu
  · exact hv

section
variable {f : Fld} (h : SameLow s u) (hf : 0xA0000 ≤ f.off)
include h hf

theorem SameLow.set (n : Nat) : SameLow s (u.set f n) := fun off hoff =>
  (u.reg_set_other n (by omega)).trans (h off hoff)

theorem SameLow.bump (n : Nat) : SameLow s (u.bump f n) := h.set hf _

theorem SameLow.cause (n : Nat) : SameLow s (u.cause f n) := fun off hoff =>
  (u.reg_cause_other n (by omega)).trans (h off hoff)

end

theorem SameLow.summary (h : SameLow s u) (k n : Nat) : SameLow s (u.summary k n) :=
  .ite h (h.bump (by simp only [F.HEALTH_SUMMARY]; omega) n)

theorem SameLow.touchBank (h : SameLow s u) (b : Nat) : SameLow s (u.touchBank b) := by
  unfold State.touchBank
  extract_lets x s1
  have h1 : SameLow s s1 := h
  exact .ite h (.ite h1 ((h1.set (f := F.BK_STATUS_REST b) (by simp only [F.BK_STATUS_REST]; omega) _).bump (by decide) _))

theorem SameLow.checkWord (h : SameLow s u) (w : Nat) (patrol : Bool) : SameLow s (u.checkWord w patrol).2 := by
  unfold State.checkWord
  extract_lets m b s1 s2 s3
  split
  · exact h
  split
  · have h1 : SameLow s s1 := (SameLow.bump (u := { u with perr := u.perr.set 0 w 0 }) (f := F.BK_ERR_CORR b) h
      (by simp only [F.BK_ERR_CORR]; omega) _).bump (by decide) _
    exact (h1.cause (by decide) _).summary _ _
  · have h2 : SameLow s s2 := ((h.bump (f := F.BK_ERR_UNCORR b) (by simp only [F.BK_ERR_UNCORR]; omega) _).bump (by decide) _).set
      (by decide) _
    have h3 : SameLow s s3 := ((h2.set (by decide) _).set (by decide) _).set (by decide) _
    exact (h3.cause (by decide) _).summary _ _

theorem SameLow.mergeWord (h : SameLow s u) (w : Nat) : SameLow s (u.mergeWord w).2 := by
  have hc := h.checkWord w false
  unfold State.mergeWord
  exact .ite hc hc

end

section
variable (s : State) (a : Nat) (l : List Byte)

/-- A write of the Pantry is shown in no register below its own. -/
theorem State.sameLow_pwrite : SameLow s (s.pwrite a l) := by
  unfold State.pwrite State.pwriteCheck
  split
  · exact .refl s
  · extract_lets e part
    exact foldl_keeps (fun r : Bool × State => SameLow s r.2)
      (fun r w => ((r.2.mergeWord w).1 || r.1, (r.2.mergeWord w).2)) (fun r w hr => hr.mergeWord w) part
      (false, s.touchBank (bankOf a)) ((SameLow.refl s).touchBank _)

/-- What has been written reads back, whatever words were in error. -/
theorem State.readBytes_pwrite : readBytes (s.pwrite a l).pmem a l.length = l := by
  unfold State.pwrite State.pwriteCheck
  split
  next hl => rw [hl]; rfl
  · exact readBytes_writeBytes l _ a

end

/-! ### A response in its porch (R319, R322, R326) -/

/-- The fields in which a status that is no success is counted. -/
def countFlds : List Fld := [F.PORCH_ERR_TOTAL, F.PORCH_LAST_ERR_PORCH, F.PORCH_LAST_ERR_VALID, F.PORCH_LAST_ERR_STATUS,
  F.PORCH_LAST_ERR_OPCODE, F.PORCH_TIMEOUT_TOTAL, F.HEALTH_SUMMARY 13]

section
variable {g : Fld} {s u : State}

theorem SameField.countStatus (h : SameField g s u) (hg : g.clearOf countFlds = true) (n op status : Nat) :
    SameField g s (u.countStatus n op status) := by
  have herr := ((((h.bump hg (f := F.PORCH_ERR_TOTAL) (by decide) 1).set hg (f := F.PORCH_LAST_ERR_PORCH) (by decide) n).set hg
    (f := F.PORCH_LAST_ERR_VALID) (by decide) 1).set hg (f := F.PORCH_LAST_ERR_STATUS) (by decide) status).set hg
    (f := F.PORCH_LAST_ERR_OPCODE) (by decide) op
  have htime := h.bump hg (f := F.PORCH_TIMEOUT_TOTAL) (by decide) 1
  exact .ite herr (.ite (.ite htime (htime.bump hg (by decide) _)) h)

theorem OnlyRegs.pmem (h : OnlyRegs s u) : u.pmem = s.pmem := by
  obtain ⟨r, rfl⟩ := h
  rfl

@[simp] theorem State.pmem_cause (s : State) (f : Fld) (v : Nat) : (s.cause f v).pmem = s.pmem := by
  obtain ⟨l, hl⟩ := sendNewMsi_sent s (s.set f (s.get f ||| v))
  rw [State.cause, hl]
  rfl

theorem State.get_cause_same (s : State) {f : Fld} (v : Nat) (hf : f.lo + f.width ≤ 32) :
    (s.cause f v).get f = (s.get f ||| v) % 2 ^ f.width :=
  (State.get_congr _ (State.reg_congr (sendNewMsi_frame (s.set f _) s).1 f.off)).trans (s.get_set_same f _ hf)

/-- A cause bit that has been set is set. -/
theorem State.bitOf_causeBit (s : State) {f : Fld} {k : Nat} (hk : k < f.width) (hf : f.lo + f.width ≤ 32) :
    bitOf ((s.causeBit f k).get f) k = true := by
  rw [State.causeBit, State.get_cause_same _ _ hf, bitOf, Nat.testBit_mod_two_pow, Nat.testBit_or, Nat.testBit_two_pow_self,
    decide_eq_true hk, Bool.or_true, Bool.true_and]

end

/-- The fields that show the status and the opcode of a response, and that its porch is pending. -/
def doneFlds (n : Nat) : List Fld := [F.PR_STATE_LAST_STATUS n, F.PR_STATE_LAST_OPCODE n, F.PORCH_DONE_PEND_PEND]

theorem clearOf_doneFlds {n : Nat} (hn : n < 14) :
    (F.PR_DONE_SEQ n).clearOf (F.PR_STATE_STATE n :: doneFlds n ++ countFlds) = true ∧
    (F.PR_STATE_STATE n).clearOf (doneFlds n ++ countFlds) = true ∧
    (F.PR_STATE_LAST_STATUS n).clearOf (F.PR_STATE_LAST_OPCODE n :: F.PORCH_DONE_PEND_PEND :: countFlds) = true ∧
    (F.PR_STATE_LAST_OPCODE n).clearOf (F.PORCH_DONE_PEND_PEND :: countFlds) = true := by
  interval_cases n <;> decide

/-- The status and the opcode of a response are shown and counted, and its porch is pending. -/
def State.showStatus (s : State) (n op status : Nat) : State :=
  (((s.set (F.PR_STATE_LAST_STATUS n) status).set (F.PR_STATE_LAST_OPCODE n) op).countStatus n op status).causeBit
    F.PORCH_DONE_PEND_PEND n

section
variable (s : State) {n : Nat}

theorem State.showResponse_eq (bytes : List Byte) : s.showResponse n bytes =
    (((s.pwrite (porchAddr n 0x800) bytes).set (F.PR_DONE_SEQ n) (uAt bytes 0 4)).set (F.PR_STATE_STATE n) 3).showStatus n
      (uAt bytes 4 2) (uAt bytes 10 1) := rfl

theorem State.pmem_showStatus (op status : Nat) : (s.showStatus n op status).pmem = s.pmem := by
  rw [State.showStatus, State.causeBit, State.pmem_cause, (State.countStatus_shows _ n op status).pmem, State.pmem_set,
    State.pmem_set]

theorem SameField.showStatus {g : Fld} {u : State} (h : SameField g s u) (hg : g.clearOf (doneFlds n ++ countFlds) = true)
    (op status : Nat) : SameField g s (u.showStatus n op status) := by
  have hdone := Fld.clearOf_mono hg (List.subset_append_left _ _)
  have hcount := Fld.clearOf_mono hg (List.subset_append_right _ _)
  exact (((h.set hdone (by simp [doneFlds]) _).set hdone (by simp [doneFlds]) _).countStatus hcount _ _ _).causeBit hdone
    (by simp [doneFlds]) _

theorem State.showStatus_shows (op status : Nat) (hn : n < 14) :
    (s.showStatus n op status).get (F.PR_STATE_LAST_STATUS n) = status % 2 ^ 8 ∧
    (s.showStatus n op status).get (F.PR_STATE_LAST_OPCODE n) = op % 2 ^ 16 ∧
    bitOf ((s.showStatus n op status).get F.PORCH_DONE_PEND_PEND) n = true := by
  obtain ⟨-, -, hstatus, hop⟩ := clearOf_doneFlds hn
  have hcount : ∀ {g : Fld} {l : List Fld}, g.clearOf (l ++ countFlds) = true → g.clearOf countFlds = true := fun h =>
    Fld.clearOf_mono h (List.subset_append_right _ _)
  refine ⟨?_, ?_, State.bitOf_causeBit _ (show n < 16 by omega) (by decide)⟩
  · have hkeeps := (((SameField.refl _ (s.set (F.PR_STATE_LAST_STATUS n) status)).set hstatus (f := F.PR_STATE_LAST_OPCODE n)
      (by simp) op).countStatus (hcount (l := [_, _]) hstatus) n op status).causeBit hstatus (f := F.PORCH_DONE_PEND_PEND)
      (by simp) n
    exact hkeeps.get.trans (State.get_set_same _ _ _ (by simp [F.PR_STATE_LAST_STATUS]))
  · have hkeeps := ((SameField.refl _ ((s.set (F.PR_STATE_LAST_STATUS n) status).set (F.PR_STATE_LAST_OPCODE n) op)).countStatus
      (hcount (l := [_]) hop) n op status).causeBit hop (f := F.PORCH_DONE_PEND_PEND) (by simp) n
    exact hkeeps.get.trans (State.get_set_same _ _ _ (by simp [F.PR_STATE_LAST_OPCODE]))

variable (bytes : List Byte)

theorem State.pmem_showResponse : readBytes (s.showResponse n bytes).pmem (porchAddr n 0x800) bytes.length = bytes := by
  rw [State.showResponse_eq, State.pmem_showStatus, State.pmem_set, State.pmem_set, State.readBytes_pwrite]

/-- The registers of a porch show the response that stands in it. -/
theorem State.showResponse_shows (hn : n < 14) : (s.showResponse n bytes).get (F.PR_DONE_SEQ n) = uAt bytes 0 4 % 2 ^ 32 ∧
    (s.showResponse n bytes).get (F.PR_STATE_STATE n) = 3 ∧
    (s.showResponse n bytes).get (F.PR_STATE_LAST_STATUS n) = uAt bytes 10 1 % 2 ^ 8 ∧
    (s.showResponse n bytes).get (F.PR_STATE_LAST_OPCODE n) = uAt bytes 4 2 % 2 ^ 16 ∧
    bitOf ((s.showResponse n bytes).get F.PORCH_DONE_PEND_PEND) n = true := by
  obtain ⟨hseq, hstate, -⟩ := clearOf_doneFlds hn
  rw [State.showResponse_eq]
  refine ⟨?_, ?_, State.showStatus_shows _ _ _ hn⟩
  · have hrest := Fld.clearOf_mono hseq (List.subset_cons_self _ _)
    exact (((SameField.refl _ _).set hseq (by simp) _).showStatus _ hrest _ _).get.trans
      (State.get_set_same _ _ _ (by simp [F.PR_DONE_SEQ]))
  · exact ((SameField.refl _ _).showStatus _ hstate _ _).get.trans (State.get_set_same _ _ _ (by simp [F.PR_STATE_STATE]))

theorem State.sameField_showResponse {g : Fld} (hlow : g.off < 0xA0000)
    (hg : g.clearOf (F.PR_DONE_SEQ n :: F.PR_STATE_STATE n :: doneFlds n ++ countFlds) = true) :
    SameField g s (s.showResponse n bytes) := by
  have h0 : SameField g s (s.pwrite (porchAddr n 0x800) bytes) := (s.sameLow_pwrite _ _).get hlow
  rw [State.showResponse_eq]
  exact ((h0.set hg (by simp) _).set hg (by simp) _).showStatus _ (Fld.clearOf_mono hg (List.subset_append_right [_, _] _)) _ _

end

end Sys2Proof.Machine
end

section
/-! A command answered on this device has its response in its porch (R321, R326). -/

namespace Sys2Proof.Machine

theorem Status.code_lt (x : Status) : x.code < 2 ^ 8 := by cases x <;> decide

/-- CMD_TOTAL counts the status codes 0 and 12, those of OK and PARTIAL (R331). -/
theorem Status.code_counted (x : Status) : x.code = 0 ∨ x.code = 12 ↔ x = .ok ∨ x = .partialStatus := by cases x <;> decide

/-- The fields of a response stand apart from CMD_TOTAL. -/
theorem clearOf_cmdTotal {n : Nat} (hn : n < 14) :
    F.PORCH_CMD_TOTAL.clearOf (F.PR_DONE_SEQ n :: F.PR_STATE_STATE n :: doneFlds n ++ countFlds) = true ∧
      ∀ g ∈ F.PR_DONE_SEQ n :: F.PR_STATE_STATE n :: doneFlds n, g.clearOf [F.PORCH_CMD_TOTAL] = true := by
  interval_cases n <;> decide

section
variable (s : State) {n seq op status : Nat} (target flags : Nat) (payload : List Byte)

/-- A response that is kept stands in its porch with the registers that show it, and CMD_TOTAL counts it where it is a
success. -/
theorem State.postResponse_shows {u : State} (hn : n < 14) (hseq : seq < 2 ^ 32) (hop : op < 2 ^ 16) (hstatus : status < 2 ^ 8)
    (hu : u = s.postResponse n seq op target status flags payload true) :
    readBytes u.pmem (porchAddr n 0x800) (32 + payload.length) =
      responseBytes seq op target status flags s.devTime (s.since (s.porch n).rungAt) payload ∧
    u.get (F.PR_DONE_SEQ n) = seq ∧ u.get (F.PR_STATE_STATE n) = 3 ∧ u.get (F.PR_STATE_LAST_STATUS n) = status ∧
    u.get (F.PR_STATE_LAST_OPCODE n) = op ∧ bitOf (u.get F.PORCH_DONE_PEND_PEND) n = true ∧
    u.get F.PORCH_CMD_TOTAL = if status = 0 ∨ status = 12
      then min (s.get F.PORCH_CMD_TOTAL + 1) (2 ^ F.PORCH_CMD_TOTAL.width - 1) else s.get F.PORCH_CMD_TOTAL := by
  unfold State.postResponse at hu
  extract_lets x bytes s1 s2 at hu
  rw [hu]
  obtain ⟨htotal, hclear⟩ := clearOf_cmdTotal hn
  have hshown : ∀ g ∈ F.PR_DONE_SEQ n :: F.PR_STATE_STATE n :: doneFlds n,
      (if true = true ∧ (status = 0 ∨ status = 12) then s2.bump F.PORCH_CMD_TOTAL else s2).get g = s2.get g := fun g hg =>
    SameField.ite ((SameField.refl g s2).bump (hclear g hg) (by simp) 1) (.refl g s2)
  have hmem : (if true = true ∧ (status = 0 ∨ status = 12) then s2.bump F.PORCH_CMD_TOTAL else s2).pmem = s2.pmem :=
    (OnlyRegs.ite ((OnlyRegs.refl s2).bump _ _) (.refl s2)).pmem
  have hcount : s2.get F.PORCH_CMD_TOTAL = s.get F.PORCH_CMD_TOTAL := s1.sameField_showResponse bytes (by decide) htotal
  obtain ⟨hdone, hstate, hlast, hcode, hpend⟩ := s1.showResponse_shows bytes hn
  refine ⟨?_, ?_, ?_, ?_, ?_, ?_, ?_⟩
  · rw [hmem, ← length_responseBytes seq op target status flags s.devTime (s.since x.rungAt) payload]
    exact s1.pmem_showResponse bytes
  · rw [hshown _ (by simp), hdone, uAt_seq_responseBytes, Nat.mod_mod, Nat.mod_eq_of_lt hseq]
  · rw [hshown _ (by simp), hstate]
  · rw [hshown _ (by simp [doneFlds]), hlast, uAt_status_responseBytes, Nat.mod_mod, Nat.mod_eq_of_lt hstatus]
  · rw [hshown _ (by simp [doneFlds]), hcode, uAt_op_responseBytes, Nat.mod_mod, Nat.mod_eq_of_lt hop]
  · rw [hshown _ (by simp [doneFlds]), hpend]
  · simp only [true_and]
    split
    · rw [State.get_bump_one _ _ (by decide), hcount]
    · exact hcount

end

/-- Settles O52: the answer of a command of this device alone is the response that is posted on its porch. -/
theorem aResponseStandsInItsPorch : Obligations.AResponseStandsInItsPorch := by
  intro a u n op rq r hn hop hreset horigin hseq hremote hsent hu
  rw [State.answer_own horigin hremote hsent fun h => hreset h.1] at hu
  obtain ⟨hmem, hdone, hstate, hstatus, hcode, hpend, htotal⟩ :=
    (a.unstage n).postResponse_shows a.deviceId 0 r.payload hn hseq hop r.status.code_lt hu
  rw [State.unstage, State.porch_setPorch_same] at hmem
  refine ⟨hmem, hdone, hstate, hstatus, hcode, hpend, ?_, ?_⟩
  · rw [hu]
    exact (State.porch_postResponse _ _ _ _ _ _ _ _ _).1
  · simp only [r.status.code_counted] at htotal
    exact htotal

end Sys2Proof.Machine
end

section
/-! Commands that are prepared, wait, or come by a doorbell, and the host's read count of the event porch (R323 to R325, R327 to
R330, R337 to R340, R349). -/

namespace Sys2Proof.Machine

/-! ### PREPARE, COMMIT and ABORT (R337, R339, R340) -/

/-- A prepared change of the key and the opcode of a request. -/
def Prepared.answers (rq : Req) (op : Nat) (x : Prepared) : Bool := x.byKey rq.origin rq.porch && decide (x.op = op)

section
variable {s : State} {n : Nat} {c : Cmd} {g : Staged}

theorem State.applyBare_none (h : s.prepared.find? (Prepared.answers g.rq g.op) = none) :
    s.applyBare n c g = s.answer n g.op g.rq { status := .notPrepared } := by
  unfold State.applyBare
  extract_lets mine
  rw [show s.prepared.find? mine = none from h]

theorem State.applyBare_commit {x : Prepared} (h : s.prepared.find? (Prepared.answers g.rq g.op) = some x)
    (hcommit : isCommit g.rq = true) : s.applyBare n c g =
      ({ s with prepared := s.prepared.filter (fun y => !Prepared.answers g.rq g.op y) } : State).applyNow n c g x.bulk x.rq := by
  unfold State.applyBare
  extract_lets mine
  rw [show s.prepared.find? mine = some x from h]
  exact if_pos hcommit

theorem State.applyBare_abort {x : Prepared} (h : s.prepared.find? (Prepared.answers g.rq g.op) = some x)
    (hcommit : isCommit g.rq = false) :
    s.applyBare n c g = (s.discardPrepared (Prepared.answers g.rq g.op)).answer n g.op g.rq {} := by
  unfold State.applyBare
  extract_lets mine
  rw [show s.prepared.find? mine = some x from h]
  exact if_neg (by rw [hcommit]; exact Bool.false_ne_true)

/-- What is prepared is held under its key, in place of what was. -/
theorem State.prepare_holds (s : State) (n : Nat) (g : Staged) (bulk : List Byte) : ∃ (v : State) (x : Prepared),
    s.prepare n g bulk = v.answer n g.op g.rq {} ∧ x.byKey g.rq.origin g.rq.porch = true ∧ x.op = g.op ∧ x.rq = g.rq ∧
      x.bulk = bulk ∧ v.prepared = s.prepared.filter (fun y => !y.byKey g.rq.origin g.rq.porch) ++ [x] :=
  ⟨_, _, rfl, decide_eq_true ⟨rfl, rfl⟩, rfl, rfl, rfl, congrArg (· ++ _) (s.prepared_lapsePrepared _ 1)⟩

end

section
variable {s a b b1 : State} {t n : Nat} {c : Cmd} {rq w : Req} {g : Staged} {bulk : List Byte} {x : Prepared}

/-- A command that has been taken as a COMMIT or an ABORT comes to the apply point of these. -/
theorem Taken.runs_bare (htaken : Taken a c.op w n g b) (hc : c ∈ catalogue) (hready : Ready b n g) (hbare : isBare w = true) :
    a.runCommand c.op w = b.applyBare n c g := by
  obtain ⟨-, hrq, -⟩ := htaken.fresh
  rw [htaken.runs hready, (htaken.applies hc hready).bare (by rwa [hrq])]

variable (h : Live s t a) (hc : c ∈ catalogue) (htaken : Taken a c.op w n g b) (hready : Ready b n g)
include h hc htaken hready

theorem Live.prepare_holds (hw : w = { rq with flags := 1 + 8 * b2n (isNowait rq) }) (hfetch : b.fetchBulk c g = (.ok bulk, b1))
    (hstage : c.stage bulk w b1 = none) (hhead : c.head bulk w b1 = []) : ∃ (v : State) (x : Prepared),
    Gives (.prepare t c.op rq) s (v.answer n c.op w {}) ∧ x.byKey rq.origin rq.porch = true ∧ x.op = c.op ∧ x.rq = w ∧
      x.bulk = bulk ∧ v.prepared = b1.prepared.filter (fun y => !y.byKey rq.origin rq.porch) ++ [x] := by
  have hstep := h.gives_of_coreStep (exec_prepare t c.op rq s)
  obtain ⟨hprep, hcommit, habort⟩ := flags_of_mod_eight (rq := w) (m := 1) (by rw [hw]; exact Nat.add_mul_mod_self_left 1 8 _)
  obtain ⟨hop, hrq, hsent, -⟩ := htaken.fresh
  have happ := htaken.applies hc hready
  rw [← hw, htaken.runs hready, happ.prepares (by rw [hrq, isBare, hcommit, habort]; rfl) hfetch (hrq ▸ hstage)
    (State.stageHead_none hsent (hrq ▸ hhead)) (by rw [hrq, hprep]; rfl)] at hstep
  obtain ⟨v, x, hv, hkey, hxop, hxrq, hbulk, hheld⟩ := b1.prepare_holds n g bulk
  have hkeys : w.origin = rq.origin ∧ w.porch = rq.porch := by rw [hw]; exact ⟨rfl, rfl⟩
  rw [hv, hop, hrq] at hstep
  rw [hrq, hkeys.1, hkeys.2] at hkey hheld
  exact ⟨v, x, hstep, hkey, hxop.trans hop, hxrq.trans hrq, hbulk, hheld⟩

theorem Live.commit_applies (hw : w = { rq with flags := 2 + 8 * b2n (isNowait rq), payload := [] }) :
    (∀ x, b.prepared.find? (Prepared.answers rq c.op) = some x → Gives (.commit t c.op rq) s
      (({ b with prepared := b.prepared.filter (fun y => !Prepared.answers rq c.op y) } : State).applyNow n c g x.bulk x.rq)) ∧
    (b.prepared.find? (Prepared.answers rq c.op) = none →
      Gives (.commit t c.op rq) s (b.answer n c.op w { status := .notPrepared })) := by
  have hstep := h.gives_of_coreStep (exec_commit t c.op rq s)
  obtain ⟨-, hcommit, -⟩ := flags_of_mod_eight (rq := w) (m := 2) (by rw [hw]; exact Nat.add_mul_mod_self_left 2 8 _)
  obtain ⟨hop, hrq, -⟩ := htaken.fresh
  have hmine : Prepared.answers rq c.op = Prepared.answers w c.op := by rw [hw]; rfl
  rw [← hw, htaken.runs_bare hc hready (by rw [isBare, hcommit]; rfl)] at hstep
  rw [hmine]
  refine ⟨fun x hx => ?_, fun hnone => ?_⟩
  · rwa [State.applyBare_commit (by rw [hop, hrq, hx]) (by rw [hrq, hcommit]; rfl), hop, hrq] at hstep
  · rwa [State.applyBare_none (by rw [hop, hrq, hnone]), hop, hrq] at hstep

theorem Live.abort_discards (hw : w = { rq with flags := 4 + 8 * b2n (isNowait rq), payload := [] }) :
    (∀ x, b.prepared.find? (Prepared.answers rq c.op) = some x →
      Gives (.abort t c.op rq) s ((b.discardPrepared (Prepared.answers rq c.op)).answer n c.op w {})) ∧
    (b.prepared.find? (Prepared.answers rq c.op) = none →
      Gives (.abort t c.op rq) s (b.answer n c.op w { status := .notPrepared })) := by
  have hstep := h.gives_of_coreStep (exec_abort t c.op rq s)
  obtain ⟨-, hcommit, habort⟩ := flags_of_mod_eight (rq := w) (m := 4) (by rw [hw]; exact Nat.add_mul_mod_self_left 4 8 _)
  obtain ⟨hop, hrq, -⟩ := htaken.fresh
  have hmine : Prepared.answers rq c.op = Prepared.answers w c.op := by rw [hw]; rfl
  rw [← hw, htaken.runs_bare hc hready (by rw [isBare, hcommit, habort]; rfl)] at hstep
  rw [hmine]
  refine ⟨fun x hx => ?_, fun hnone => ?_⟩
  · rwa [State.applyBare_abort (by rw [hop, hrq, hx]) (by rw [hrq, hcommit]; rfl), hop, hrq] at hstep
  · rwa [State.applyBare_none (by rw [hop, hrq, hnone]), hop, hrq] at hstep

end

theorem Live.prepareLapsed_discards {s a : State} {t : Nat} (h : Live s t a) (origin porch : Nat) :
    ∃ u, Gives (.prepareLapsed t origin porch) s u ∧
      u.prepared = a.prepared.filter (fun x => !(x.byKey origin porch && a.tickPast (x.since + 1000000000))) :=
  ⟨_, h.gives_of_coreStep (exec_prepareLapsed t origin porch s), a.prepared_lapsePrepared _ 0⟩

/-! ### Apply points and deadlines (R328 to R330) -/

/-- A staged command that no check turns away waits while another holds what it needs. -/
theorem State.tryApply_waits {s : State} {n : Nat} {g : Staged} (hstaged : (s.porch n).staged = some g)
    (htime : s.tickPast g.due = false) (hcheck : s.checkCmd g.op g.rq = none) (hheld : s.heldUp n g.op g.rungAt g.rq = true) :
    s.tryApply n = s := by
  by_cases happlied : g.applied = true
  · simp [State.tryApply, hstaged, happlied]
  · cases hcmd : cmdOf g.op <;> simp [State.tryApply, hstaged, happlied, htime, hcheck, hheld, hcmd]

section
variable {s a : State} {t n : Nat} (h : Live s t a) (hn : n ∈ stagedSlots)
include h hn

theorem Live.gives_commandApply : Gives (.commandApply t n) s (a.tryApply n) := by
  have hstep := h.gives_of_coreStep (exec_commandApply t n s)
  rwa [if_pos (List.contains_iff_mem.2 hn)] at hstep

/-- A staged command whose deadline has passed is answered TIMEOUT. -/
theorem Live.commandDeadline_answers {g : Staged} (hstaged : (a.porch n).staged = some g) (happlied : g.applied = false)
    (hlate : a.tickPast g.due = true) (hremote : (a.porch n).remote = none) (hsent : g.sent = false) :
    Gives (.commandDeadline t n) s (a.answer n g.op g.rq { status := .timeout }) := by
  have hstep := h.gives_of_coreStep (exec_commandDeadline t n s)
  have hunsent : a.Unsent n { status := .timeout } := fun y hy => .inl (Option.some.inj (hstaged.symm.trans hy) ▸ hsent)
  obtain ⟨-, hclosed⟩ := State.porch_answer (op := g.op) (rq := g.rq) hremote hunsent (fun hok => absurd hok.2 (by decide))
  rw [if_pos (List.contains_iff_mem.2 hn), hstaged] at hstep
  dsimp only at hstep
  rwa [if_pos (by rw [happlied, hlate]; rfl), hclosed] at hstep

/-- A command to other devices whose deadline has passed ends. -/
theorem Live.commandDeadline_ends {m : Remote} (hstaged : (a.porch n).staged = none) (hremote : (a.porch n).remote = some m)
    (hlate : a.tickPast m.due = true) : Gives (.commandDeadline t n) s (a.remoteExpired n m) := by
  have hstep := h.gives_of_coreStep (exec_commandDeadline t n s)
  rw [if_pos (List.contains_iff_mem.2 hn)] at hstep
  simp only [hstaged, hremote, hlate, Option.isNone_none, Bool.and_true, if_true] at hstep
  exact hstep

end

/-! ### Doorbells (R323, R361) -/

/-- LAST_ERR shows the porch and the status of the last error, and ERR_TOTAL counts it. -/
theorem State.get_porchError (s : State) {n status : Nat} (hn : n < 16) (hstatus : status < 256) (op : Nat) :
    (s.porchError n status op).get F.PORCH_LAST_ERR_PORCH = n ∧ (s.porchError n status op).get F.PORCH_LAST_ERR_STATUS = status ∧
    (s.porchError n status op).get F.PORCH_ERR_TOTAL = min (s.get F.PORCH_ERR_TOTAL + 1) (2 ^ F.PORCH_ERR_TOTAL.width - 1) := by
  have hlast : ∀ g : Fld, g.clearOf [F.PORCH_LAST_ERR_VALID, F.PORCH_LAST_ERR_STATUS, F.PORCH_LAST_ERR_OPCODE] = true →
      (s.porchError n status op).get g = ((s.bump F.PORCH_ERR_TOTAL).set F.PORCH_LAST_ERR_PORCH n).get g := fun g hg =>
    (((SameField.refl g _).set hg (by simp) 1).set hg (by simp) status).set hg (by simp) op
  refine ⟨?_, ?_, ?_⟩
  · rw [hlast _ (by decide), State.get_set_same _ _ _ (by decide)]
    exact Nat.mod_eq_of_lt hn
  · rw [State.porchError, State.get_set_apart _ _ (by decide) (.inr (.inr (by decide))), State.get_set_same _ _ _ (by decide)]
    exact Nat.mod_eq_of_lt hstatus
  · rw [hlast _ (by decide), State.get_set_apart _ _ (by decide) (.inl (by decide)), State.get_bump_one _ _ (by decide)]

section
variable {s a : State} {t n seq : Nat} {path : Path} (h : Live s t a) (hpath : a.reaches path = true) (hseq : seq < 2 ^ 32)
include h hpath hseq

theorem Live.gives_doorbell (hn : n < 16) : Gives (.doorbell t path n seq) s (a.ringDoorbell n seq) := by
  have hstep := h.gives_of_coreStep (exec_doorbell t path n seq s)
  rwa [if_pos ⟨hpath, hn⟩, Nat.mod_eq_of_lt hseq] at hstep

theorem Live.doorbell_takes (hn : n < 14) (hserved : a.served n = true) (hfree : a.porchFree n = true) :
    Gives (.doorbell t path n seq) s ((a.ring n seq).readCommand n (fun hdr payload x => x.takeCommand n hdr payload)) := by
  have hstep := h.gives_doorbell hpath hseq (n := n) (by omega)
  rwa [State.ringDoorbell, if_neg (by omega), State.doorbell, hserved, hfree] at hstep

/-- The doorbell of a porch that takes no command is counted with status BUSY. -/
theorem Live.doorbell_counts (hn : n < 14) (hbusy : (a.served n && a.porchFree n) = false) :
    ∃ u, Gives (.doorbell t path n seq) s u ∧ u.porches = a.porches ∧ SameMemory a u ∧ u.get F.PORCH_LAST_ERR_PORCH = n ∧
      u.get F.PORCH_LAST_ERR_STATUS = 6 ∧
      u.get F.PORCH_ERR_TOTAL = min (a.get F.PORCH_ERR_TOTAL + 1) (2 ^ F.PORCH_ERR_TOTAL.width - 1) := by
  have hstep := h.gives_doorbell hpath hseq (n := n) (by omega)
  rw [State.ringDoorbell, if_neg (by omega), State.doorbell, hbusy, if_neg Bool.false_ne_true] at hstep
  obtain ⟨hporch, hstatus, htotal⟩ := a.get_porchError (status := 6) (show n < 16 by omega) (by decide) 0
  obtain ⟨r, hr⟩ := a.porchError_shows n 6 0
  refine ⟨_, hstep, ?_, ?_, hporch, hstatus, htotal⟩
  · rw [hr]
  · rw [hr]
    exact ⟨rfl, rfl, rfl, rfl, rfl, rfl⟩

theorem Live.doorbell_takes_rom (hrom : a.romServes = true) :
    Gives (.doorbell t path 15 seq) s ((a.ring 15 seq).readCommand 15 (fun hdr payload x => x.takeRom hdr payload)) := by
  have hstep := h.gives_doorbell hpath hseq (n := 15) (by omega)
  rwa [State.ringDoorbell, if_pos rfl, if_pos hrom] at hstep

end

/-! ### The read count of the event porch (R349) -/

/-- The read count of the host stays when EVENTS_LOST is written. -/
theorem State.get_evRead_flushLost (s : State) : s.flushLost.get F.PORCH_EV_READ = s.get F.PORCH_EV_READ := by
  have hread : F.PORCH_EV_READ.clearOf [F.PORCH_EV_WRITE, F.PORCH_EV_INT_STATUS_RECORD] = true := by decide
  have hstore : ∀ x l, SameField F.PORCH_EV_READ s (s.pwrite x l) := fun x l => (s.sameLow_pwrite x l).get (by decide)
  have hwrite : ∀ code time data, SameField F.PORCH_EV_READ s (s.writeEvent code time data) := fun _ _ _ =>
    ((hstore _ _).set hread (f := F.PORCH_EV_WRITE) (by simp) _).cause hread (f := F.PORCH_EV_INT_STATUS_RECORD) (by simp) _
  have hlost : SameField F.PORCH_EV_READ s { s.writeEvent 0xF s.devTime (leBytes 4 s.evLostPend) with evLostPend := 0 } :=
    hwrite _ _ _
  exact SameField.ite hlost (.refl _ s)

section
variable {s a : State} {t v : Nat} {path : Path} (h : Live s t a) (hpath : a.reaches path = true) (hv : v < 2 ^ 32)
include h hpath hv

theorem Live.gives_evReadWrite : Gives (.evReadWrite t path v) s (a.evRead v) := by
  have hstep := h.gives_of_coreStep (exec_evReadWrite t path v s)
  rwa [if_pos hpath, Nat.mod_eq_of_lt hv] at hstep

theorem Live.evReadWrite_takes (hheld : (v + 2 ^ 32 - a.get F.PORCH_EV_READ) % 2 ^ 32 ≤ a.evHeld) :
    ∃ u, Gives (.evReadWrite t path v) s u ∧ u.get F.PORCH_EV_READ = v := by
  have hstep := h.gives_evReadWrite hpath hv
  rw [State.evRead, if_pos hheld] at hstep
  refine ⟨_, hstep, ?_⟩
  rw [State.get_evRead_flushLost, State.get_set_same _ _ _ (by decide)]
  exact Nat.mod_eq_of_lt hv

theorem Live.evReadWrite_counts (hover : a.evHeld < (v + 2 ^ 32 - a.get F.PORCH_EV_READ) % 2 ^ 32) :
    ∃ u, Gives (.evReadWrite t path v) s u ∧ u.get F.PORCH_EV_READ = a.get F.PORCH_EV_READ ∧
      u.get F.PORCH_ERR_TOTAL = min (a.get F.PORCH_ERR_TOTAL + 1) (2 ^ F.PORCH_ERR_TOTAL.width - 1) := by
  have hstep := h.gives_evReadWrite hpath hv
  rw [State.evRead, if_neg (not_le.2 hover)] at hstep
  exact ⟨_, hstep, (SameField.refl _ a).bump (l := [F.PORCH_ERR_TOTAL]) (by decide) (by simp) 1,
    a.get_bump_one F.PORCH_ERR_TOTAL (by decide)⟩

end

/-- Settles O51: a command that is prepared, waits or comes by a doorbell, each by the lemma that says what its event does. -/
theorem porchEventsTakeEffect : Obligations.PorchEventsTakeEffect := by
  intro s a t h
  refine ⟨fun c hc _ n rq g b mine hmine => ?_, h.prepareLapsed_discards, fun n g hn hstaged happlied => ⟨?_, ?_, ?_⟩,
    fun n m hn => h.commandDeadline_ends hn, fun path n seq hpath hseq => ?_, fun path v hpath hv => ?_⟩
  · rw [show mine = Prepared.answers rq c.op from hmine]
    exact ⟨fun w bulk b1 hw htaken hready => h.prepare_holds hc htaken hready hw,
      fun w hw htaken hready => h.commit_applies hc htaken hready hw,
      fun w hw htaken hready => h.abort_discards hc htaken hready hw⟩
  · intro c bulk b hc hready hbare hprep hfetch hstage hhead
    have happ : Applies a n c g := ⟨hstaged, happlied, hc, hready⟩
    rw [← happ.takesEffect hbare hfetch hstage hhead hprep]
    exact h.gives_commandApply hn
  · intro htime hcheck hheld
    have hstep := h.gives_commandApply hn
    rwa [State.tryApply_waits hstaged htime hcheck hheld] at hstep
  · exact h.commandDeadline_answers hn hstaged happlied
  · exact ⟨h.doorbell_takes hpath hseq, h.doorbell_counts hpath hseq, h.doorbell_takes_rom hpath hseq⟩
  · exact ⟨h.evReadWrite_takes hpath hv, h.evReadWrite_counts hpath hv⟩

end Sys2Proof.Machine
end

section
/-! The core that does not run, and a full reset: what it leaves, and the registers that it keeps (R386, R389, R390). -/

namespace Sys2Proof.Machine

/-! ### The core in reset or powered off (R390) -/

/-- Settles O3: such a command is a row of the core, which lets time pass alone while the core does not run. -/
theorem nothingHappensWhileTheCoreIsHeld : Obligations.NothingHappensWhileTheCoreIsHeld := by
  intro c s hc hcore
  obtain ⟨t, f, hexec⟩ := exec_core c hc
  exact ⟨t, (hexec s).trans (coreStep_idle hcore)⟩

/-! ### Registers replaced one after the other -/

section
variable {s u : State}

theorem OnlyRegs.setReg (h : OnlyRegs s u) (off : Nat) (w : Word) : OnlyRegs s (u.setReg off w) := by
  obtain ⟨r, rfl⟩ := h
  exact ⟨_, rfl⟩

/-- The words of a list of registers taken over: each register of the list has its word, and no other changes. -/
theorem State.reg_foldl_setReg (w : Nat → Word) (off : Nat) : ∀ (l : List Nat) (s : State),
    (l.foldl (fun (a : State) o => a.setReg o (w o)) s).reg off = if off ∈ l then w off else s.reg off
  | [], s => by simp
  | o :: l, s => by
    rw [List.foldl_cons, State.reg_foldl_setReg w off l]
    by_cases ho : off = o
    · simp [ho]
    · simp [ho, s.reg_setReg_other (w o) ho]

end

/-! ### A full reset (R386, R389) -/

section
variable (s : State) (code : Nat)

/-- What a full reset leaves beside the registers: the clock, host memory, the cells of the fuses, the pins, and what the
channels of the Triangle know of their clocks (R386). -/
def State.wiped : State := {
  now := s.now, clock := { off := -(s.now : Int) }, free := s.free, core := s.core, host := s.host
  otp := { cells := s.otp.cells }, sent := s.sent, pending := s.pending, power := { s.power with resetAt := s.now }
  therm := { hotAt := s.therm.hotAt, tri := ⟨s.therm.tri.cells.map (fun c => (c.1, { stopped := c.2.stopped, clockBad := c.2.clockBad, clockOk := c.2.clockOk }))⟩ } }

theorem State.onlyRegs_fullReset : OnlyRegs s.wiped (s.fullReset code) := by
  unfold State.fullReset
  extract_lets keep power r r1 r2
  have h1 : OnlyRegs s.wiped r1 := foldl_keeps (OnlyRegs _) _ (fun _ _ ha => ha.setReg _ _) _ _ (.refl _)
  have h2 : OnlyRegs s.wiped r2 := .ite h1 (foldl_keeps (OnlyRegs _) _ (fun _ _ ha => ha.set _ _) _ _ h1)
  exact h2.set _ _

/-- The registers that are kept are no TS_STATUS. -/
theorem ne_tsStatus_of_mem_keptRegs {off : Nat} (h : off ∈ keptRegs) {i : Nat} (hi : i < 32) :
    off ≠ (F.TS_STATUS_VALID i).off := by
  obtain hfixed | hvalue := List.mem_append.1 h
  · have hout : ∀ x ∈ [F.THERM_SHUTDOWN_LOG.off, F.THERM_VIN_STATUS.off, F.THERM_TRI_INPUTS.off, F.THERM_CLOCK_STATUS.off,
        F.GL_RESET_CAUSE.off], x < 0xD0000 ∨ 0xD0200 ≤ x := by decide
    have := hout off hfixed
    simp only [F.TS_STATUS_VALID]
    omega
  · obtain ⟨k, -, rfl⟩ := List.mem_map.1 hvalue
    simp only [F.TS_VALUE, F.TS_STATUS_VALID]
    omega

/-- Apart from RESET_CAUSE and TS_STATUS, a register is kept by a reset that is no power-on, or takes its reset value. -/
theorem State.reg_fullReset {off : Nat} (hcause : off ≠ F.GL_RESET_CAUSE_CODE.off)
    (hsensor : ∀ i < 32, off ≠ (F.TS_STATUS_VALID i).off) :
    (s.fullReset code).reg off = if code ≠ 0 ∧ off ∈ keptRegs then s.reg off else regReset off := by
  unfold State.fullReset
  extract_lets keep power r r1 r2
  have h1 : r1.reg off = if off ∈ keep then s.reg off else regReset off := State.reg_foldl_setReg s.reg off keep r
  have hmem : off ∈ keep ↔ code ≠ 0 ∧ off ∈ keptRegs := by
    unfold keep
    split <;> simp [*]
  have h2 : r2.reg off = r1.reg off := by
    unfold r2
    split
    · rfl
    · exact List.foldlRecOn (motive := fun a : State => a.reg off = r1.reg off) _ _ rfl fun (a : State) ha i hi =>
        (a.reg_set_other _ (hsensor i (List.mem_range.1 hi))).trans ha
  rw [State.reg_set_other _ _ hcause, h2, h1]
  simp only [hmem]

theorem State.get_fullReset_cause (hcode : code < 8) : (s.fullReset code).get F.GL_RESET_CAUSE_CODE = code :=
  (State.get_set_same _ F.GL_RESET_CAUSE_CODE code (by decide)).trans (Nat.mod_eq_of_lt hcode)

end

/-- Settles O55: what stands beside the registers is `State.wiped`, and each register is kept or takes its reset value. -/
theorem aResetKeepsOnlyTheAlwaysOnDomain : Obligations.AResetKeepsOnlyTheAlwaysOnDomain := by
  rintro s u code hcode rfl
  have hcause : F.GL_RESET_CAUSE_CODE.off ∈ keptRegs := by decide
  obtain ⟨r, hr⟩ := s.onlyRegs_fullReset code
  have hbeside : (s.fullReset code).otp.cells = s.otp.cells ∧ (s.fullReset code).host = s.host ∧
      (s.fullReset code).now = s.now ∧ (s.fullReset code).pending = s.pending := by rw [hr]; exact ⟨rfl, rfl, rfl, rfl⟩
  obtain ⟨hcells, hhost, hnow, hpending⟩ := hbeside
  refine ⟨?_, hcells, hhost, hnow, hpending, fun off hoff hsensor => ?_, fun hcode' off hoff hne => ?_,
    s.get_fullReset_cause code hcode⟩
  · rw [hr]
    exact ⟨rfl, rfl, rfl, rfl, rfl, rfl, rfl, rfl, rfl, rfl, rfl, rfl, rfl, rfl, rfl, rfl⟩
  · have hne : off ≠ F.GL_RESET_CAUSE_CODE.off := fun h => hoff (by rwa [h])
    rw [s.reg_fullReset code hne hsensor, if_neg fun h => hoff h.2]
  · rw [s.reg_fullReset code hne fun i hi => ne_tsStatus_of_mem_keptRegs hoff hi, if_pos ⟨hcode', hoff⟩]

end Sys2Proof.Machine
end

section
/-! What the device reports and stores beside the state of its parts: registers, the Pantry, events and messages. -/

namespace Sys2Proof.Machine

/-- Two states differ at most in what the device shows and stores: registers, the Pantry, what it has sent and could not
post, the Triangle and the ring. -/
def OnlyReports (s u : State) : Prop := ∃ regs pmem perr banks sent lost therm peal,
  u = { s with regs := regs, pmem := pmem, perr := perr, banks := banks, sent := sent, evLostPend := lost, therm := therm, peal := peal }

section
variable {s u v : State}

theorem OnlyReports.refl (s : State) : OnlyReports s s := ⟨_, _, _, _, _, _, _, _, rfl⟩

theorem OnlyReports.trans (h : OnlyReports s u) (h' : OnlyReports u v) : OnlyReports s v := by
  obtain ⟨_, _, _, _, _, _, _, _, rfl⟩ := h
  obtain ⟨_, _, _, _, _, _, _, _, rfl⟩ := h'
  exact ⟨_, _, _, _, _, _, _, _, rfl⟩

theorem OnlyReports.ite {p : Prop} [Decidable p] (hu : OnlyReports s u) (hv : OnlyReports s v) :
    OnlyReports s (if p then u else v) := by
  split
  · exact hu
  · exact hv

theorem OnlyReports.onlyRegs (h : OnlyReports s u) (h' : OnlyRegs u v) : OnlyReports s v := by
  obtain ⟨r, rfl⟩ := h'
  exact h.trans ⟨_, _, _, _, _, _, _, _, rfl⟩

theorem OnlyReports.health (h : OnlyReports s u) : u.health = s.health := by
  obtain ⟨_, _, _, _, _, _, _, _, rfl⟩ := h
  rfl

theorem OnlyReports.set (h : OnlyReports s u) (f : Fld) (n : Nat) : OnlyReports s (u.set f n) :=
  h.onlyRegs ((OnlyRegs.refl u).set f n)

theorem OnlyReports.bump (h : OnlyReports s u) (f : Fld) (n : Nat) : OnlyReports s (u.bump f n) := h.set _ _

theorem OnlyReports.cause (h : OnlyReports s u) (f : Fld) (n : Nat) : OnlyReports s (u.cause f n) := by
  obtain ⟨l, hl⟩ := sendNewMsi_sent u (u.set f (u.get f ||| n))
  rw [State.cause, hl]
  exact (h.set f (u.get f ||| n)).trans ⟨_, _, _, _, _, _, _, _, rfl⟩

theorem OnlyReports.causeBit (h : OnlyReports s u) (f : Fld) (k : Nat) : OnlyReports s (u.causeBit f k) := h.cause f _

theorem OnlyReports.summary (h : OnlyReports s u) (k n : Nat) : OnlyReports s (u.summary k n) := .ite h (h.bump _ _)

theorem OnlyReports.touchBank (h : OnlyReports s u) (b : Nat) : OnlyReports s (u.touchBank b) := by
  unfold State.touchBank
  extract_lets x s1
  have h1 : OnlyReports s s1 := h.trans ⟨_, _, _, _, _, _, _, _, rfl⟩
  exact .ite h (.ite h1 ((h1.set _ _).bump _ _))

theorem OnlyReports.checkWord (h : OnlyReports s u) (w : Nat) (patrol : Bool) : OnlyReports s (u.checkWord w patrol).2 := by
  unfold State.checkWord
  extract_lets m b s1 s2 s3
  split
  · exact h
  split
  · have h0 : OnlyReports s { u with perr := u.perr.set 0 w 0 } := h.trans ⟨_, _, _, _, _, _, _, _, rfl⟩
    exact (((h0.bump _ _).bump _ _).cause _ _).summary _ _
  · have h3 : OnlyReports s s3 := ((((((h.bump _ _).bump _ _).set _ _)).set _ _).set _ _).set _ _
    exact (h3.cause _ _).summary _ _

theorem OnlyReports.mergeWord (h : OnlyReports s u) (w : Nat) : OnlyReports s (u.mergeWord w).2 := by
  have hc := h.checkWord w false
  unfold State.mergeWord
  exact .ite (hc.trans ⟨_, _, _, _, _, _, _, _, rfl⟩) hc

theorem OnlyReports.pwrite (h : OnlyReports s u) (a : Nat) (l : List Byte) : OnlyReports s (u.pwrite a l) := by
  unfold State.pwrite State.pwriteCheck
  split
  · exact h
  · extract_lets e part
    have hwords := foldl_keeps (fun r : Bool × State => OnlyReports s r.2)
      (fun r w => ((r.2.mergeWord w).1 || r.1, (r.2.mergeWord w).2)) (fun r w hr => hr.mergeWord w) part
      (false, u.touchBank (bankOf a)) (h.touchBank _)
    exact hwords.trans ⟨_, _, _, _, _, _, _, _, rfl⟩

theorem OnlyReports.writeEvent (h : OnlyReports s u) (code time : Nat) (data : List Byte) :
    OnlyReports s (u.writeEvent code time data) := ((h.pwrite _ _).set _ _).cause _ _

theorem OnlyReports.flushLost (h : OnlyReports s u) : OnlyReports s u.flushLost :=
  .ite ((h.writeEvent _ _ _).trans ⟨_, _, _, _, _, _, _, _, rfl⟩) h

/-- An event stands in its porch, or is counted as lost. -/
theorem OnlyReports.postEvent (h : OnlyReports s u) (code : Nat) (data : List Byte) : OnlyReports s (u.postEvent code data) :=
  .ite (.ite (h.flushLost.writeEvent _ _ _) (((h.flushLost.bump _ _).cause _ _).trans ⟨_, _, _, _, _, _, _, _, rfl⟩)) h

end

end Sys2Proof.Machine
end

section
/-! Limp conditions that are cleared, and the health processor (R490, R497, R498, R500). -/

namespace Sys2Proof.Machine

/-! ### Limp conditions -/

section
variable {s u : State} {off : Nat}

theorem SameAt.queueHealth (h : SameAt off s u) (e : HealthEvent) (hoff : off < 0xE0000) : SameAt off s (u.queueHealth e) := by
  have hlost := (h.bump (f := F.HEALTH_LOG_STATUS_LOST) 1 (by simp only [F.HEALTH_LOG_STATUS_LOST]; omega)).cause
    (f := F.HEALTH_INT_STATUS_LOG_LOST) 1 (by simp only [F.HEALTH_INT_STATUS_LOG_LOST]; omega)
  exact .ite h hlost

theorem SameAt.limpClear (h : SameAt off s u) (code inst : Nat) (hoff : off < 0xE0000) :
    SameAt off s (u.limpClear code inst) := by
  unfold State.limpClear
  extract_lets x s1 s2
  have h1 : SameAt off s s1 := h
  have h2 : SameAt off s s2 := .ite h1 (h1.cause _ (by simp only [F.HEALTH_INT_STATUS_CLEARED]; omega))
  exact .ite (h2.queueHealth _ hoff) h

theorem SameAt.limpClearIf (h : SameAt off s u) (code : Nat) (p : Nat → Bool) (hoff : off < 0xE0000) :
    SameAt off s (u.limpClearIf code p) :=
  foldl_keeps (SameAt off s) _ (fun _ c ha => ha.limpClear code c.2 hoff) _ _ h

end

section
variable (s : State)

/-- A limp condition that is cleared is not present, and the others are as before. -/
theorem State.mem_limps_limpClear {code inst : Nat} {c : Nat × Nat} :
    c ∈ (s.limpClear code inst).health.limps ↔ c ∈ s.health.limps ∧ c ≠ (code, inst) := by
  unfold State.limpClear
  split
  · dsimp only
    rw [State.limps_queueHealth]
    split <;> simp
  next hnot =>
    refine ⟨fun h => ⟨h, ?_⟩, And.left⟩
    rintro rfl
    exact hnot (List.contains_iff_mem.2 h)

theorem State.mem_limps_foldl_limpClear (code : Nat) {c : Nat × Nat} : ∀ (l : List (Nat × Nat)) (s : State),
    c ∈ (l.foldl (fun (a : State) x => a.limpClear code x.2) s).health.limps ↔
      c ∈ s.health.limps ∧ ∀ x ∈ l, c ≠ (code, x.2)
  | [], s => by simp
  | x :: l, s => by
    rw [List.foldl_cons, State.mem_limps_foldl_limpClear code l, State.mem_limps_limpClear]
    simp [and_assoc]

/-- Once the alerts of a code have all been cleared, none is present. -/
theorem State.not_mem_limps_limpClearIf (code inst : Nat) : (code, inst) ∉ (s.limpClearIf code fun _ => true).health.limps := by
  intro h
  obtain ⟨hmem, hnone⟩ := (State.mem_limps_foldl_limpClear code _ s).1 h
  exact hnone (code, inst) (by simp [hmem]) rfl

/-! ### The health log -/

/-- While the health processor works, a record is the last of the log. -/
theorem State.logHealth_records (code flags inst : Nat) (hruns : s.hpStopped = false) :
    (s.logHealth code flags inst).health.queue = s.health.queue ∧ ∃ r ∈ (s.logHealth code flags inst).health.log,
      r.index = s.health.written ∧ r.code = code ∧ r.inst = inst := by
  unfold State.logHealth
  rw [if_neg (by simp [hruns])]
  extract_lets r l wrap kept health s1 s2
  have hshown : (if wrap = true then s2.set F.HEALTH_LOG_STATUS_WRAPPED 1 else s2).health = s1.health := by
    split <;> rfl
  have hmem : r ∈ kept := by
    unfold kept wrap
    split
    next hfull =>
      have hpos : 0 < s.health.log.length := by
        simp only [l, List.length_append, List.length_singleton, decide_eq_true_eq] at hfull
        omega
      simp [l, List.drop_append_of_le_length (show 1 ≤ s.health.log.length from hpos)]
    · simp [l]
  rw [hshown]
  exact ⟨rfl, r, hmem, rfl, rfl, rfl⟩

theorem State.health_showLimp (code : Nat) : (s.showLimp code).health = s.health := by simp [State.showLimp]

theorem State.health_showLast (e : HealthEvent) : (s.showLast e).health = s.health := by simp [State.showLast]

/-- What follows the record of a drained event leaves the queue and the log. -/
theorem State.drainHealth_records {e : HealthEvent} {q : List HealthEvent} (hqueue : s.health.queue = e :: q)
    (hruns : s.hpStopped = false) : s.drainHealth.health.queue = q ∧
      ∃ r ∈ s.drainHealth.health.log, r.index = s.health.written ∧ r.code = e.code ∧ r.inst = e.inst := by
  unfold State.drainHealth
  split
  next hnone => rw [hnone] at hqueue; cases hqueue
  next hsome =>
    obtain ⟨rfl, rfl⟩ := List.cons.inj (hqueue.symm.trans hsome)
    extract_lets health s1 s2 s3 now counted health3 s4
    have hlog := s1.logHealth_records e.code (b2n e.raised + 2 * b2n (limpReplace e.code)) e.inst hruns
    have h2 : s2.health = (s1.logHealth e.code (b2n e.raised + 2 * b2n (limpReplace e.code)) e.inst).health :=
      State.health_showLimp _ _
    have h3 : s3.health = s2.health :=
      (State.health_showLast _ e).trans (OnlyReports.health (.ite ((OnlyReports.refl s2).bump _ _) (.refl s2)))
    have h4 : s4.health.queue = s3.health.queue ∧ s4.health.log = s3.health.log := by
      unfold s4
      split <;> exact ⟨rfl, rfl⟩
    rw [OnlyReports.health (.ite ((OnlyReports.refl s4).postEvent _ _) (.refl s4)), h4.1, h4.2, h3, h2]
    exact hlog

end

end Sys2Proof.Machine
end

section
/-! The supervisor's rows: supply, clock, pins and JTAG, and what holds the core (R356, R357, R385 to R390, R488, R513, R521,
R528). -/

namespace Sys2Proof.Machine

/-! ### What holds the core -/

section
variable (s : State) (code : Nat)

@[simp] theorem State.power_fullReset : (s.fullReset code).power = { s.power with resetAt := s.now } := by
  obtain ⟨r, hr⟩ := s.onlyRegs_fullReset code
  rw [hr]
  rfl

@[simp] theorem State.mode_fullReset : (s.fullReset code).mode = .boot := by
  obtain ⟨r, hr⟩ := s.onlyRegs_fullReset code
  rw [hr]
  rfl

/-- While a cause holds the core, it is off or in reset, and nothing else follows. -/
theorem State.settleCore_stopped (h : s.power.off = true ∨ s.power.held = true) :
    s.settleCore = { s with core := if s.power.off = true then .off else .held } := by
  unfold State.settleCore
  by_cases hoff : s.power.off = true
  · rw [if_pos hoff, if_pos hoff]
  · rw [if_neg hoff, if_neg hoff, if_pos (h.resolve_left hoff)]

/-- A cause that comes to hold the core is a full reset after which the core stands. -/
theorem State.hold_stops {p : Power} (h : p.off = true ∨ p.held = true) :
    s.hold p code = { ({ s with power := p } : State).fullReset code with core := if p.off = true then .off else .held } := by
  have hpower : (({ s with power := p } : State).fullReset code).power = { p with resetAt := s.now } := State.power_fullReset _ _
  have hoff : (({ s with power := p } : State).fullReset code).power.off = p.off := by rw [hpower]; rfl
  have hheld : (({ s with power := p } : State).fullReset code).power.held = p.held := by rw [hpower]; rfl
  rw [State.hold, State.settleCore_stopped]
  · simp only [hoff]
  · simpa only [hoff, hheld] using h

/-- The core stands, the mode is BOOT, and the cause is recorded. -/
theorem State.hold_shows {p : Power} (h : p.off = true ∨ p.held = true) (hcode : code < 8) :
    (s.hold p code).core = (if p.off = true then .off else .held) ∧ (s.hold p code).mode = .boot ∧
      (s.hold p code).power = { p with resetAt := s.now } ∧ (s.hold p code).get F.GL_RESET_CAUSE_CODE = code := by
  rw [s.hold_stops code h]
  exact ⟨rfl, State.mode_fullReset _ _, State.power_fullReset _ _, State.get_fullReset_cause _ _ hcode⟩

/-- A register of the always-on domain other than RESET_CAUSE stays. -/
theorem State.get_hold_kept {p : Power} (h : p.off = true ∨ p.held = true) (hcode : code ≠ 0) {f : Fld}
    (hf : f.off ∈ keptRegs) (hne : f.off ≠ F.GL_RESET_CAUSE_CODE.off) : (s.hold p code).get f = s.get f := by
  rw [s.hold_stops code h]
  refine State.get_congr _ ((State.reg_fullReset _ code hne fun i hi => ne_tsStatus_of_mem_keptRegs hf hi).trans ?_)
  exact if_pos ⟨hcode, hf⟩

/-- A core that is off or in reset does not run. -/
theorem stopped_ne_run (p : Power) : (if p.off = true then CoreState.off else .held) ≠ .run := by
  split <;> decide

end

/-! ### The supply (R356, R385, R488) -/

theorem gives_of_supervisorStep {s b : State} {t : Nat} (hb : b = s.advance t) {c : Instr} {f : State → State}
    (hc : exec c s = supervisorStep t f s) : Gives c s (f b) := by
  rw [hb]
  exact hc

section
variable (s : State)

theorem State.vinCode_cases : s.vinCode = 4 ∨ s.vinCode = 5 := by
  unfold State.vinCode
  split
  · exact .inl rfl
  · exact .inr rfl

@[simp] theorem State.core_sampleVin (vin : Nat) : (s.sampleVin vin).core = s.core := by simp [State.sampleVin]

@[simp] theorem State.now_sampleVin (vin : Nat) : (s.sampleVin vin).now = s.now := by simp [State.sampleVin]

/-- VIN_STATUS shows the sample, with its warning. -/
theorem State.sampleVin_shows (vin : Nat) : (s.sampleVin vin).get F.THERM_VIN_STATUS_VIN = min vin 1023 ∧
    (s.sampleVin vin).flag F.THERM_VIN_STATUS_LOW_WARN = decide (vin < 63) ∧
    (s.sampleVin vin).get F.THERM_VIN_STATUS_LAST_SHUTDOWN = s.get F.THERM_VIN_STATUS_LAST_SHUTDOWN := by
  have hvin : F.THERM_VIN_STATUS_VIN.clearOf [F.THERM_VIN_STATUS_LOW_WARN, F.THERM_VIN_STATUS_HIGH_WARN] = true := by decide
  have hlow : F.THERM_VIN_STATUS_LOW_WARN.clearOf [F.THERM_VIN_STATUS_HIGH_WARN] = true := by decide
  have hlast : F.THERM_VIN_STATUS_LAST_SHUTDOWN.clearOf [F.THERM_VIN_STATUS_VIN, F.THERM_VIN_STATUS_LOW_WARN,
    F.THERM_VIN_STATUS_HIGH_WARN] = true := by decide
  unfold State.sampleVin
  refine ⟨?_, ?_, ?_⟩
  · rw [((SameField.refl _ (s.set F.THERM_VIN_STATUS_VIN (min vin 1023))).set hvin (f := F.THERM_VIN_STATUS_LOW_WARN) (by simp)
      _ |>.set hvin (f := F.THERM_VIN_STATUS_HIGH_WARN) (by simp) _).get, State.get_set_same _ _ _ (by decide)]
    exact Nat.mod_eq_of_lt (by simp only [F.THERM_VIN_STATUS_VIN]; omega)
  · rw [State.flag, ((SameField.refl _ _).set hlow (f := F.THERM_VIN_STATUS_HIGH_WARN) (by simp) _).get,
      State.get_set_same _ _ _ (by decide)]
    by_cases h : vin < 63 <;> simp [h, b2n, F.THERM_VIN_STATUS_LOW_WARN]
  · exact (((SameField.refl _ s).set hlast (f := F.THERM_VIN_STATUS_VIN) (by simp) _).set hlast
      (f := F.THERM_VIN_STATUS_LOW_WARN) (by simp) _).set hlast (f := F.THERM_VIN_STATUS_HIGH_WARN) (by simp) _

/-- A shutdown for VIN: the core is off, with the cause recorded and the kind of shutdown kept (R488). -/
theorem State.vinShutdown_shows (vin : Nat) {kind : Nat} (hkind : kind < 4) {p : Power} (hp : p.off = true)
    {u : State} (hu : u = ((s.set F.THERM_VIN_STATUS_LAST_SHUTDOWN kind).sampleVin vin).hold p s.vinCode) :
    u.core = .off ∧ u.mode = .boot ∧ u.power = { p with resetAt := s.now } ∧ u.get F.GL_RESET_CAUSE_CODE = s.vinCode ∧
      u.get F.THERM_VIN_STATUS_LAST_SHUTDOWN = kind := by
  have hcode := s.vinCode_cases
  obtain ⟨hcore, hmode, hpower, hcause⟩ :=
    ((s.set F.THERM_VIN_STATUS_LAST_SHUTDOWN kind).sampleVin vin).hold_shows s.vinCode (.inl hp) (by omega)
  rw [State.now_sampleVin, State.now_set] at hpower
  rw [hu]
  refine ⟨hcore.trans (if_pos hp), hmode, hpower, hcause, ?_⟩
  rw [State.get_hold_kept _ _ (.inl hp) (by omega) (by decide) (by decide), (State.sampleVin_shows _ vin).2.2,
    State.get_set_same _ _ _ (by decide)]
  exact Nat.mod_eq_of_lt hkind

end

section
variable {s b : State} {t : Nat} (hb : b = s.advance t)
include hb

theorem gives_powerOn {vin : Nat} (clock : Bool) (hvin : 59 ≤ vin) (hoff : b.power.vinOk = false) :
    Gives (.powerOn t vin false clock) s
      (({ b with power := { b.power with vinOk := true, noClock := !clock } } : State).sampleVin vin).settleCore := by
  have hstep := gives_of_supervisorStep hb (exec_powerOn t vin false clock s)
  dsimp only at hstep
  rwa [if_neg (by simp [hoff]; omega), if_neg Bool.false_ne_true] at hstep

theorem gives_powerOn_unpowered {vin : Nat} (clock : Bool) (hvin : 59 ≤ vin) {p : Power}
    (hp : p = { resetLow := b.power.resetLow, testLow := b.power.testLow, perstLow := b.power.perstLow, noClock := !clock }) :
    Gives (.powerOn t vin true clock) s
      (({ (({ b with power := p } : State).fullReset 0) with therm := {}, core := .held } : State).sampleVin vin).settleCore := by
  have hstep := gives_of_supervisorStep hb (exec_powerOn t vin true clock s)
  dsimp only at hstep
  rwa [if_neg (by simp; omega), if_pos rfl, ← hp] at hstep

theorem vinUndervoltage_shutsDown {vin ns : Nat} (hvin : vin < 56) (hns : 10000 ≤ ns) (hok : b.power.vinOk = true) :
    ∃ u, Gives (.vinUndervoltage t vin ns) s u ∧ u.core = .off ∧ u.mode = .boot ∧ u.power.vinOk = false ∧
      u.get F.GL_RESET_CAUSE_CODE = b.vinCode ∧ u.get F.THERM_VIN_STATUS_LAST_SHUTDOWN = 1 := by
  have hstep := gives_of_supervisorStep hb (exec_vinUndervoltage t vin ns s)
  dsimp only at hstep
  rw [if_pos ⟨hvin, hns, hok⟩] at hstep
  obtain ⟨hcore, hmode, hpower, hcause, hkind⟩ := b.vinShutdown_shows vin (kind := 1) (by decide)
    (p := { b.power with vinOk := false }) rfl rfl
  exact ⟨_, hstep, hcore, hmode, congrArg Power.vinOk hpower, hcause, hkind⟩

theorem vinOvervoltage_shutsDown {vin ns : Nat} (hvin : 430 < vin) (hns : 10000 ≤ ns) (hok : b.power.vinOk = true)
    (hover : b.power.overV = false) :
    ∃ u, Gives (.vinOvervoltage t vin ns) s u ∧ u.core = .off ∧ u.mode = .boot ∧ u.power.overV = true ∧
      u.get F.GL_RESET_CAUSE_CODE = b.vinCode ∧ u.get F.THERM_VIN_STATUS_LAST_SHUTDOWN = 2 := by
  have hstep := gives_of_supervisorStep hb (exec_vinOvervoltage t vin ns s)
  dsimp only at hstep
  rw [if_pos ⟨hvin, hns, hok, by rw [hover]; rfl⟩] at hstep
  obtain ⟨hcore, hmode, hpower, hcause, hkind⟩ := b.vinShutdown_shows vin (kind := 2) (by decide)
    (p := { b.power with overV := true }) (by simp [Power.off]) rfl
  exact ⟨_, hstep, hcore, hmode, congrArg Power.overV hpower, hcause, hkind⟩

theorem gives_vinOvervoltageRestart {vin ns : Nat} (hvin : vin < 410) (hns : 1000000000 ≤ ns) (hover : b.power.overV = true) :
    Gives (.vinOvervoltageRestart t vin ns) s
      (({ b with power := { b.power with overV := false } } : State).sampleVin vin).settleCore := by
  have hstep := gives_of_supervisorStep hb (exec_vinOvervoltageRestart t vin ns s)
  dsimp only at hstep
  rwa [if_pos ⟨hvin, hns, hover⟩] at hstep

theorem vinMarginal_raises {vin ns : Nat} (hvin : vin < 63 ∨ 410 < vin) (hns : 100000 ≤ ns) (hok : b.power.vinOk = true) :
    ∃ u, Gives (.vinMarginal t vin ns) s u ∧ u.get F.THERM_VIN_STATUS_VIN = min vin 1023 ∧
      u.flag F.THERM_VIN_STATUS_LOW_WARN = decide (vin < 63) ∧
      (b.core = .run → (0x0F, if vin < 63 then 0 else 1) ∈ u.health.limps) := by
  have hstep := gives_of_supervisorStep hb (exec_vinMarginal t vin ns s)
  dsimp only at hstep
  rw [if_neg (by simp [hok]; omega)] at hstep
  obtain ⟨hshown, hlow, -⟩ := b.sampleVin_shows vin
  have hcore := b.core_sampleVin vin
  refine ⟨_, hstep, ?_⟩
  by_cases hrun : b.core = .run
  · rw [if_pos (hcore.trans hrun)]
    have hsame : SameAt F.THERM_VIN_STATUS.off (b.sampleVin vin)
        (((b.sampleVin vin).cause F.THERM_INT_STATUS_VIN_WARN).limpRaise 0x0F (if vin < 63 then 0 else 1)) :=
      ((SameAt.refl _ _).cause _ (by decide)).limpRaise _ _ (by decide)
    exact ⟨(SameAt.get (f := F.THERM_VIN_STATUS_VIN) hsame).trans hshown, (SameAt.flag (f := F.THERM_VIN_STATUS_LOW_WARN) hsame).trans hlow, fun _ => State.mem_limps_limpRaise _ _ _⟩
  · rw [if_neg (by rwa [hcore])]
    exact ⟨hshown, hlow, fun h => absurd h hrun⟩

theorem vinMarginalClear_clears {vin ns : Nat} (hlow : 65 ≤ vin) (hhigh : vin ≤ 405) (hns : 1000000000 ≤ ns)
    (hok : b.power.vinOk = true) : ∃ u, Gives (.vinMarginalClear t vin ns) s u ∧ u.get F.THERM_VIN_STATUS_VIN = vin ∧
      (b.core = .run → ∀ i, (0x0F, i) ∉ u.health.limps) := by
  have hstep := gives_of_supervisorStep hb (exec_vinMarginalClear t vin ns s)
  dsimp only at hstep
  rw [if_neg (by simp [hok]; omega)] at hstep
  obtain ⟨hshown, -, -⟩ := b.sampleVin_shows vin
  rw [min_eq_left (by omega)] at hshown
  have hcore := b.core_sampleVin vin
  refine ⟨_, hstep, ?_⟩
  by_cases hrun : b.core = .run
  · rw [if_pos (hcore.trans hrun)]
    have hsame : SameAt F.THERM_VIN_STATUS.off (b.sampleVin vin) ((b.sampleVin vin).limpClearIf 0x0F fun _ => true) :=
      (SameAt.refl _ _).limpClearIf _ _ (by decide)
    exact ⟨(SameAt.get (f := F.THERM_VIN_STATUS_VIN) hsame).trans hshown, fun _ i => State.not_mem_limps_limpClearIf _ _ i⟩
  · rw [if_neg (by rwa [hcore])]
    exact ⟨hshown, fun h => absurd h hrun⟩

/-! ### Clock, pins and JTAG (R357, R385, R513, R521, R528) -/

theorem gives_sysclkValid {ns : Nat} (hns : 1000000 ≤ ns) (hno : b.power.noClock = true) :
    Gives (.sysclkValid t ns) s ({ b with power := { b.power with noClock := false } } : State).settleCore := by
  have hstep := gives_of_supervisorStep hb (exec_sysclkValid t ns s)
  dsimp only at hstep
  rwa [if_pos ⟨hns, hno⟩] at hstep

theorem resetN_holds {ns : Nat} (hns : 1000 ≤ ns) (hhigh : b.power.resetLow = false) :
    ∃ u, Gives (.resetN t true ns) s u ∧ u.core ≠ .run ∧ u.mode = .boot ∧ u.power.resetLow = true ∧
      u.get F.GL_RESET_CAUSE_CODE = 1 := by
  have hstep := gives_of_supervisorStep hb (exec_resetN t true ns s)
  dsimp only at hstep
  rw [if_pos rfl, if_pos ⟨hns, by rw [hhigh]; rfl⟩] at hstep
  obtain ⟨hcore, hmode, hpower, hcause⟩ := b.hold_shows 1 (p := { b.power with resetLow := true }) (.inr rfl) (by decide)
  exact ⟨_, hstep, hcore ▸ stopped_ne_run _, hmode, congrArg Power.resetLow hpower, hcause⟩

theorem gives_resetN_released (ns : Nat) (hlow : b.power.resetLow = true) :
    Gives (.resetN t false ns) s ({ b with power := { b.power with resetLow := false } } : State).settleCore := by
  have hstep := gives_of_supervisorStep hb (exec_resetN t false ns s)
  dsimp only at hstep
  rwa [if_neg Bool.false_ne_true, if_pos hlow] at hstep

theorem testN_holds {ns : Nat} (hns : 1000 ≤ ns) (hhigh : b.power.testLow = false) :
    ∃ u, Gives (.testN t true ns) s u ∧ u.core ≠ .run ∧ u.mode = .boot ∧ u.power.testLow = true := by
  have hstep := gives_of_supervisorStep hb (exec_testN t true ns s)
  dsimp only at hstep
  rw [if_pos rfl, if_pos ⟨hns, by rw [hhigh]; rfl⟩] at hstep
  obtain ⟨hcore, hmode, hpower, -⟩ := b.hold_shows 1 (p := { b.power with testLow := true })
    (.inr (by simp [Power.held])) (by decide)
  exact ⟨_, hstep, hcore ▸ stopped_ne_run _, hmode, congrArg Power.testLow hpower⟩

theorem gives_testN_released (ns : Nat) (hlow : b.power.testLow = true) :
    Gives (.testN t false ns) s ({ b with power := { b.power with testLow := false } } : State).settleCore := by
  have hstep := gives_of_supervisorStep hb (exec_testN t false ns s)
  dsimp only at hstep
  rwa [if_neg Bool.false_ne_true, if_pos hlow] at hstep

/-- EXTEST, CLAMP and HIGHZ hold the core. -/
theorem jtagInstruction_holds {i : Jtag} (hi : i ∈ [Jtag.extest, Jtag.clamp, Jtag.highz]) (hfree : b.power.jtag = false) :
    ∃ u, Gives (.jtagInstruction t i) s u ∧ u.core ≠ .run ∧ u.mode = .boot ∧ u.power.jtag = true := by
  have hstep : Gives (.jtagInstruction t i) s (b.hold { b.power with jtag := true } 1) := by
    have h := gives_of_supervisorStep hb (exec_jtagInstruction t i s)
    simp only [List.mem_cons, List.not_mem_nil, or_false] at hi
    obtain rfl | rfl | rfl := hi
    all_goals
      dsimp only at h
      rwa [if_neg (by rw [hfree]; exact Bool.false_ne_true)] at h
  obtain ⟨hcore, hmode, hpower, -⟩ := b.hold_shows 1 (p := { b.power with jtag := true })
    (.inr (by simp [Power.held])) (by decide)
  exact ⟨_, hstep, hcore ▸ stopped_ne_run _, hmode, congrArg Power.jtag hpower⟩

/-- The instructions that work beside the core leave it. -/
theorem gives_jtagInstruction_beside {i : Jtag} (hi : i ∈ [Jtag.bypass, Jtag.idcode, Jtag.samplePreload]) :
    Gives (.jtagInstruction t i) s b := by
  have h := gives_of_supervisorStep hb (exec_jtagInstruction t i s)
  simp only [List.mem_cons, List.not_mem_nil, or_false] at hi
  obtain rfl | rfl | rfl := hi <;> exact h

theorem gives_jtagInstruction_testLogicReset (hheld : b.power.jtag = true) : Gives (.jtagInstruction t .testLogicReset) s
    ({ b with power := { b.power with jtag := false } } : State).settleCore := by
  have h := gives_of_supervisorStep hb (exec_jtagInstruction t .testLogicReset s)
  dsimp only at h
  rwa [if_pos hheld] at h

/-! ### PERST_N (R385, R387 to R389) -/

theorem gives_perstN_full (hrun : b.core = .run) (hhigh : b.power.perstLow = false)
    (hfull : b.flag F.GL_RESET_CTRL_PERST_FULL = true) :
    Gives (.perstN t true) s (({ b with power := { b.power with perstLow := true } } : State).resetNow 2) := by
  have h := gives_of_supervisorStep hb (exec_perstN t true s)
  dsimp only at h
  rwa [if_neg (by simp [hrun, hhigh]), if_pos hfull] at h

/-- With PERST_FULL 0 the PCIe side alone is reset. -/
theorem perstN_resets_link (hrun : b.core = .run) (hhigh : b.power.perstLow = false)
    (hpart : b.flag F.GL_RESET_CTRL_PERST_FULL = false) :
    ∃ u, Gives (.perstN t true) s u ∧ u.core = .run ∧ u.mode = b.mode ∧ u.msix = {} ∧ u.linkUp = false ∧
      u.get F.GL_RESET_CAUSE_CODE = 2 ∧ u.get F.GL_RESET_CAUSE_LINK_ONLY = 1 := by
  have h := gives_of_supervisorStep hb (exec_perstN t true s)
  dsimp only at h
  rw [if_neg (by simp [hrun, hhigh]), if_neg (by rw [hpart]; exact Bool.false_ne_true)] at h
  refine ⟨_, h, hrun, rfl, rfl, ?_, ?_, State.get_set_same _ _ _ (by decide)⟩
  · have hword : (({ b with power := { b.power with perstLow := true } } : State).pcieReset).get F.GL_PCIE_STATUS_LINK_UP = 0 := by
      rw [State.get, State.pcieReset]
      exact congrArg (fun w : Word => bitsOf w.toNat 8 1) (State.reg_setReg_same _ _ _)
    have hclear : F.GL_PCIE_STATUS_LINK_UP.clearOf [F.GL_RESET_CAUSE_CODE, F.GL_RESET_CAUSE_LINK_ONLY] = true := by decide
    have hkeeps := ((SameField.refl F.GL_PCIE_STATUS_LINK_UP
      (({ b with power := { b.power with perstLow := true } } : State).pcieReset)).set hclear (f := F.GL_RESET_CAUSE_CODE)
      (by simp) 2).set hclear (f := F.GL_RESET_CAUSE_LINK_ONLY) (by simp) 1
    rw [State.linkUp, State.flag, hkeeps.get, hword]
    rfl
  · have hclear : F.GL_RESET_CAUSE_CODE.clearOf [F.GL_RESET_CAUSE_LINK_ONLY] = true := by decide
    exact ((SameField.refl _ _).set hclear (f := F.GL_RESET_CAUSE_LINK_ONLY) (by simp) 1).get.trans
      (State.get_set_same _ _ _ (by decide))

theorem gives_perstN_released : Gives (.perstN t false) s { b with power := { b.power with perstLow := false } } := by
  have h := gives_of_supervisorStep hb (exec_perstN t false s)
  dsimp only at h
  rwa [if_pos (.inl rfl)] at h

end

end Sys2Proof.Machine
end

section
/-! The PCIe link, the heartbeat and the drain of the health events, and the rows of the supervisor together (R356, R357, R385 to
R389, R493, R498 to R501). -/

namespace Sys2Proof.Machine

/-! ### The PCIe link (R414, R493) -/

section
variable {s b : State} {t : Nat} (h : Live s t b)
include h

/-- A link that trains short of the best raises limp condition 0x0E, and one that does not clears it. -/
theorem Live.pcieLinkTrained_shows (width speed bestWidth bestSpeed : Nat) (hhigh : b.power.perstLow = false) :
    ∃ u, Gives (.pcieLinkTrained t width speed bestWidth bestSpeed) s u ∧ u.get F.GL_PCIE_STATUS_LINK_UP = 1 ∧
      (width < min bestWidth 16 ∨ speed < min bestSpeed 5 → (0x0E, width + 32 * speed) ∈ u.health.limps) ∧
      (¬ (width < min bestWidth 16 ∨ speed < min bestSpeed 5) → ∀ i, (0x0E, i) ∉ u.health.limps) := by
  have hstep := h.gives_of_coreStep (exec_pcieLinkTrained t width speed bestWidth bestSpeed s)
  dsimp only at hstep
  rw [if_neg (by rw [hhigh]; exact Bool.false_ne_true)] at hstep
  have hup := ((b.set F.GL_PCIE_STATUS_WIDTH width).set F.GL_PCIE_STATUS_SPEED speed).get_set_same F.GL_PCIE_STATUS_LINK_UP 1
    (by decide)
  refine ⟨_, hstep, ?_⟩
  split
  next hshort =>
    exact ⟨(((SameAt.refl _ F.GL_PCIE_STATUS_LINK_UP.off).limpRaise _ _ (by decide)).get).trans hup,
      fun _ => State.mem_limps_limpRaise _ _ _, fun hbest => absurd hshort hbest⟩
  next hbest =>
    exact ⟨(((SameAt.refl _ F.GL_PCIE_STATUS_LINK_UP.off).limpClearIf _ _ (by decide)).get).trans hup,
      fun hshort => absurd hshort hbest, fun _ i => State.not_mem_limps_limpClearIf _ _ i⟩

theorem Live.pcieLinkDown_shows :
    ∃ u, Gives (.pcieLinkDown t) s u ∧ u.get F.GL_PCIE_STATUS_LINK_UP = 0 ∧ SameMemory b u :=
  ⟨_, h.gives_of_coreStep (exec_pcieLinkDown t s), State.get_set_same _ _ _ (by decide), rfl, rfl, rfl, rfl, rfl, rfl⟩

/-! ### The health processor (R498, R500) -/

theorem Live.hpHeartbeat_counts (hmode : b.mode ≠ .boot) :
    ∃ u, Gives (.hpHeartbeat t) s u ∧ u.health.beatAt = some b.now ∧
      u.get F.HEALTH_HP_HEARTBEAT = (b.get F.HEALTH_HP_HEARTBEAT + 1) % 2 ^ 32 := by
  have hstep := h.gives_of_coreStep (exec_hpHeartbeat t s)
  dsimp only at hstep
  rw [if_neg hmode] at hstep
  have hclear : F.HEALTH_HP_HEARTBEAT.clearOf [F.HEALTH_SUMMARY 15] = true := by decide
  refine ⟨_, hstep, congrArg Health.beatAt (OnlyReports.health ((OnlyReports.refl _).summary _ _)), ?_⟩
  rw [State.summary, (SameField.ite (.refl F.HEALTH_HP_HEARTBEAT _) ((SameField.refl _ _).bump hclear (by simp) _)).get,
    State.get_set_same _ _ _ (by decide)]
  exact Nat.mod_mod _ _

theorem Live.healthDrain_records {e : HealthEvent} {q : List HealthEvent} (hready : b.boot.ready = true) (hruns : b.hpRuns = true)
    (hqueue : b.health.queue = e :: q) :
    ∃ u, Gives (.healthDrain t) s u ∧ u.health.queue = q ∧
      ∃ r ∈ u.health.log, r.index = b.health.written ∧ r.code = e.code ∧ r.inst = e.inst := by
  have hstep := h.gives_of_coreStep (exec_healthDrain t s)
  rw [if_pos (by rw [hready, hruns]; rfl)] at hstep
  have hworks : b.hpStopped = false := by
    rw [State.hpRuns, Bool.and_eq_true] at hruns
    simpa using hruns.2
  exact ⟨_, hstep, b.drainHealth_records hqueue hworks⟩

end

/-- Settles O56: the row of each event by the lemma that says what it does. -/
theorem powerAndHealthCommandsTakeEffect : Obligations.PowerAndHealthCommandsTakeEffect := by
  intro s b t hb
  refine ⟨fun _ clock hvin hoff => gives_powerOn hb clock hvin hoff,
    fun _ clock _ hvin hp => gives_powerOn_unpowered hb clock hvin hp,
    fun _ _ hvin hns hok => vinUndervoltage_shutsDown hb hvin hns hok,
    fun _ _ hvin hns hok hover => vinOvervoltage_shutsDown hb hvin hns hok hover,
    fun _ _ hvin hns hover => gives_vinOvervoltageRestart hb hvin hns hover,
    fun _ _ hvin hns hok => vinMarginal_raises hb hvin hns hok,
    fun _ _ hlow hhigh hns hok => vinMarginalClear_clears hb hlow hhigh hns hok,
    fun _ hns hno => gives_sysclkValid hb hns hno,
    fun _ hns hhigh => resetN_holds hb hns hhigh, fun ns hlow => gives_resetN_released hb ns hlow,
    fun _ hns hhigh => testN_holds hb hns hhigh, fun ns hlow => gives_testN_released hb ns hlow,
    fun _ hi hfree => jtagInstruction_holds hb hi hfree, fun _ hi => gives_jtagInstruction_beside hb hi,
    fun hheld => gives_jtagInstruction_testLogicReset hb hheld,
    fun hrun hhigh => ⟨fun hfull => gives_perstN_full hb hrun hhigh hfull, fun hpart => perstN_resets_link hb hrun hhigh hpart⟩,
    gives_perstN_released hb, fun hrun => ?_⟩
  have h : Live s t b := ⟨hrun, hb⟩
  exact ⟨fun width speed bestWidth bestSpeed hhigh => h.pcieLinkTrained_shows width speed bestWidth bestSpeed hhigh,
    h.pcieLinkDown_shows, fun hmode => h.hpHeartbeat_counts hmode,
    fun _ _ hready hruns hqueue => h.healthDrain_records hready hruns hqueue⟩

end Sys2Proof.Machine
end

section
/-! The entry into HALT (R377, R378): the answer to a command that it turns away can reset the device. -/

namespace Sys2Proof.Machine

/-- A SYS_RESET to all devices stands staged on porch 0 in TRACK. Its result list, which a response of this device should
open (R335), opens with another device that has answered OK. -/
def resetStaged : State :=
  { State.reset with
    mode := .track
    porches := ⟨[(0, {
      staged := some { op := 8 }
      remote := some { op := 8, target := 0xFFFF, entries := [(3, some (0, [])), (0, none)] } })]⟩ }

/-- The command turned away by HALT is the last to answer; the response resets the device, and with it goes the cause. -/
theorem haltCause_enterHalt_resetStaged : (resetStaged.enterHalt 1).haltCause = 0 := by decide +kernel

/-- Refutes O54: a SYS_RESET whose result list opens with the OK of another device resets the device when HALT turns it away,
and the cause of HALT is lost. -/
theorem not_haltEndsTheJob : ¬ Obligations.HaltEndsTheJob := by
  intro h
  obtain ⟨-, hentry⟩ := h resetStaged _ 1 rfl
  obtain ⟨-, hcause, -⟩ := hentry (by decide) (by decide)
  exact absurd (hcause.symm.trans haltCause_enterHalt_resetStaged) (by decide)

end Sys2Proof.Machine
end

section
/-! The Pantry beside a write, and the answers of the ROM on porch 15 (R321, R326, R361, R394, R395). -/

namespace Sys2Proof.Machine

/-! ### Bytes of the Pantry -/

theorem length_readBytes (m : Tbl Byte) : ∀ n a : Nat, (readBytes m a n).length = n
  | 0, _ => rfl
  | n + 1, a => congrArg (· + 1) (length_readBytes m n (a + 1))

theorem readBytes_add (m : Tbl Byte) (n : Nat) : ∀ k a : Nat, readBytes m a (k + n) = readBytes m a k ++ readBytes m (a + k) n
  | 0, _ => by rw [Nat.zero_add]; rfl
  | k + 1, a => by
    rw [Nat.succ_add, readBytes, readBytes_add m n k (a + 1), Nat.add_right_comm a 1 k]
    rfl

/-- Bytes that are equal one by one are read alike. -/
theorem readBytes_congr {m m' : Tbl Byte} : ∀ {n a : Nat}, (∀ x, a ≤ x → byteOf m x = byteOf m' x) →
    readBytes m a n = readBytes m' a n
  | 0, _, _ => rfl
  | n + 1, a, h => by
    rw [readBytes, readBytes, h a le_rfl, readBytes_congr (n := n) fun x hx => h x (Nat.le_of_succ_le hx)]

/-- Where bytes have been read, so has every initial part of them. -/
theorem readBytes_of_prefix {m : Tbl Byte} {a : Nat} {l x : List Byte} (h : readBytes m a l.length = l) (hx : x <+: l) :
    readBytes m a x.length = x := by
  obtain ⟨y, rfl⟩ := hx
  rw [List.length_append, readBytes_add] at h
  exact (List.append_inj h (length_readBytes _ _ _)).1

theorem lookupCell_filter_out {α : Type} {p : Nat × α → Bool} {k : Nat} (hp : ∀ v, p (k, v) = false) :
    ∀ l : List (Nat × α), lookupCell (l.filter p) k = none
  | [] => rfl
  | (j, v) :: l => by
    rw [List.filter_cons]
    split
    next hj =>
      have hne : k ≠ j := fun h => by rw [← h, hp v] at hj; cases hj
      rw [lookupCell, if_neg hne, lookupCell_filter_out hp l]
    · exact lookupCell_filter_out hp l

/-- No entry is left in a range that has been dropped. -/
theorem Tbl.get_drop_inside {α : Type} (t : Tbl α) (d : α) {lo hi k : Nat} (hlo : lo ≤ k) (hhi : k < hi) :
    (t.drop lo hi).get d k = d := by
  rw [Tbl.get, Tbl.drop, lookupCell_filter_out (fun v => by simp; omega), Option.getD_none]

section
variable (s : State)

@[simp] theorem State.pmem_summary (k n : Nat) : (s.summary k n).pmem = s.pmem := by
  unfold State.summary
  split
  · rfl
  · exact State.pmem_bump _ _ _

@[simp] theorem State.pmem_touchBank (b : Nat) : (s.touchBank b).pmem = s.pmem := by
  unfold State.touchBank
  split
  · rfl
  · dsimp only
    split
    · rfl
    · simp

@[simp] theorem State.pmem_checkWord (w : Nat) (patrol : Bool) : (s.checkWord w patrol).2.pmem = s.pmem := by
  unfold State.checkWord
  dsimp only
  split
  · rfl
  split
  · simp
  · simp

/-- A word that is merged changes no byte above it. -/
theorem State.byteOf_mergeWord_above {w x : Nat} (hx : 8 * w + 8 ≤ x) :
    byteOf (s.mergeWord w).2.pmem x = byteOf s.pmem x := by
  have hcheck := s.pmem_checkWord w false
  unfold State.mergeWord
  dsimp only
  split
  · rw [byteOf_writeBytes_outside _ _ _ _ (.inr (by simpa using hx)), hcheck]
  · rw [hcheck]

/-- A write changes no byte above the words that it touches. -/
theorem State.byteOf_pwrite_above (a : Nat) (l : List Byte) {x : Nat} (hx : a + l.length + 7 ≤ x) :
    byteOf (s.pwrite a l).pmem x = byteOf s.pmem x := by
  unfold State.pwrite State.pwriteCheck
  split
  · rfl
  · extract_lets e part
    have hpart : ∀ w ∈ part, 8 * w + 8 ≤ x := fun w hw => by
      have := (List.mem_filter.1 (List.mem_of_mem_filter hw)).2
      simp only [decide_eq_true_eq] at this
      omega
    have hwords : byteOf (part.foldl (fun (r : Bool × State) w => ((r.2.mergeWord w).1 || r.1, (r.2.mergeWord w).2))
        (false, s.touchBank (bankOf a))).2.pmem x = byteOf s.pmem x :=
      List.foldlRecOn (motive := fun r : Bool × State => byteOf r.2.pmem x = byteOf s.pmem x) _ _
        (by rw [State.pmem_touchBank]) fun r hr w hw => (r.2.byteOf_mergeWord_above (hpart w hw)).trans hr
    exact (byteOf_writeBytes_outside _ _ _ _ (.inr (by omega))).trans hwords

end

/-! ### The ROM's answers (R321, R326, R361) -/

/-- The fields in which an answer of the ROM is shown. -/
def romFlds : List Fld := F.PORCH_CMD_TOTAL :: F.PR_DONE_SEQ 15 :: F.PR_STATE_STATE 15 :: doneFlds 15 ++ countFlds

theorem clearOf_doneFlds_rom :
    (F.PR_DONE_SEQ 15).clearOf (F.PR_STATE_STATE 15 :: doneFlds 15 ++ countFlds) = true ∧
    (F.PR_STATE_STATE 15).clearOf (doneFlds 15 ++ countFlds) = true ∧
    (F.PR_STATE_LAST_STATUS 15).clearOf (F.PR_STATE_LAST_OPCODE 15 :: F.PORCH_DONE_PEND_PEND :: countFlds) = true ∧
    (∀ g ∈ F.PR_DONE_SEQ 15 :: F.PR_STATE_STATE 15 :: doneFlds 15, g.clearOf [F.PORCH_CMD_TOTAL] = true) := by decide

/-- The payload of a response follows its 32 bytes of header. -/
theorem responseBytes_eq (seq op target status flags time elapsed : Nat) (payload : List Byte) : ∃ head : List Byte,
    head.length = 32 ∧ responseBytes seq op target status flags time elapsed payload = head ++ payload :=
  ⟨_, by simp only [List.length_append, length_leBytes], rfl⟩

section
variable (s : State) (op : Nat) (rq : Req) (status : Status) (payload : List Byte)

/-- The registers of porch 15 show the response that stands in it. -/
theorem State.showResponse_shows_rom (bytes : List Byte) :
    (s.showResponse 15 bytes).get (F.PR_DONE_SEQ 15) = uAt bytes 0 4 % 2 ^ 32 ∧
    (s.showResponse 15 bytes).get (F.PR_STATE_STATE 15) = 3 ∧
    (s.showResponse 15 bytes).get (F.PR_STATE_LAST_STATUS 15) = uAt bytes 10 1 % 2 ^ 8 := by
  obtain ⟨hseq, hstate, hstatus, -⟩ := clearOf_doneFlds_rom
  rw [State.showResponse_eq]
  refine ⟨?_, ?_, ?_⟩
  · have hrest := Fld.clearOf_mono hseq (List.subset_cons_self _ _)
    exact (((SameField.refl _ _).set hseq (by simp) _).showStatus _ hrest _ _).get.trans (State.get_set_same _ _ _ (by decide))
  · exact ((SameField.refl _ _).showStatus _ hstate _ _).get.trans (State.get_set_same _ _ _ (by decide))
  · have hcount := Fld.clearOf_mono hstatus (List.subset_append_right [_, _] _)
    exact ((((SameField.refl _ _).set hstatus (f := F.PR_STATE_LAST_OPCODE 15) (by simp) _).countStatus hcount _ _ _).causeBit
      hstatus (f := F.PORCH_DONE_PEND_PEND) (by simp) _).get.trans (State.get_set_same _ _ _ (by decide))

/-- An answer of the ROM is a response that is shown, and counted where it is a success. -/
theorem State.romAnswer_eq : ∃ (x : State) (head : List Byte), x.pmem = s.pmem ∧ x.regs = s.regs ∧ x.boot = s.boot ∧
    head.length = 32 ∧ uAt (head ++ payload) 0 4 = rq.seq % 2 ^ 32 ∧ uAt (head ++ payload) 10 1 = status.code ∧
    (s.romAnswer op rq status payload = x.showResponse 15 (head ++ payload) ∨
      s.romAnswer op rq status payload = (x.showResponse 15 (head ++ payload)).bump F.PORCH_CMD_TOTAL) := by
  unfold State.romAnswer State.postResponse
  extract_lets x bytes s1 s2
  obtain ⟨head, hlen, hbytes⟩ := responseBytes_eq rq.seq op 0 status.code 0 s.devTime (s.since x.rungAt) payload
  refine ⟨s1, head, rfl, rfl, rfl, hlen, ?_, ?_, ?_⟩
  · rw [← hbytes, uAt_seq_responseBytes]
  · rw [← hbytes, uAt_status_responseBytes, Nat.mod_eq_of_lt status.code_lt]
  · have h2 : s2 = s1.showResponse 15 (head ++ payload) := by rw [← hbytes]
    rw [h2]
    split
    · exact .inr rfl
    · exact .inl rfl

/-- What an answer of the ROM leaves in the registers of porch 15 and in its response area. -/
theorem State.romAnswer_shows {u : State} (hu : u = s.romAnswer op rq status payload) :
    u.get (F.PR_STATE_STATE 15) = 3 ∧ u.get (F.PR_STATE_LAST_STATUS 15) = status.code ∧
    u.get (F.PR_DONE_SEQ 15) = rq.seq % 2 ^ 32 ∧ readBytes u.pmem (porchAddr 15 0x820) payload.length = payload := by
  obtain ⟨x, head, -, -, -, hlen, hseq, hcode, hanswer⟩ := s.romAnswer_eq op rq status payload
  rw [← hu] at hanswer
  obtain ⟨hdone, hstate, hstatus⟩ := x.showResponse_shows_rom (head ++ payload)
  have hclear := clearOf_doneFlds_rom.2.2.2
  have hshown : ∀ g ∈ F.PR_DONE_SEQ 15 :: F.PR_STATE_STATE 15 :: doneFlds 15,
      u.get g = (x.showResponse 15 (head ++ payload)).get g := fun g hg => by
    obtain rfl | rfl := hanswer
    · rfl
    · exact (SameField.refl g _).bump (hclear g hg) (by simp) 1
  have hmem : u.pmem = (x.showResponse 15 (head ++ payload)).pmem := by obtain rfl | rfl := hanswer <;> rfl
  refine ⟨?_, ?_, ?_, ?_⟩
  · rw [hshown _ (by simp), hstate]
  · rw [hshown _ (by simp [doneFlds]), hstatus, hcode, Nat.mod_eq_of_lt status.code_lt]
  · rw [hshown _ (by simp), hdone, hseq, Nat.mod_mod]
  · have hread := x.pmem_showResponse (n := 15) (head ++ payload)
    rw [← hmem, List.length_append, hlen, readBytes_add] at hread
    exact (List.append_inj hread ((length_readBytes _ _ _).trans hlen.symm)).2

/-- A field below the Pantry's that shows no answer is left. -/
theorem State.sameField_romAnswer {g : Fld} (hlow : g.off < 0xA0000) (hg : g.clearOf romFlds = true) :
    SameField g s (s.romAnswer op rq status payload) := by
  obtain ⟨x, head, -, hregs, -, -, -, -, hanswer⟩ := s.romAnswer_eq op rq status payload
  have hshow : SameField g s (x.showResponse 15 (head ++ payload)) :=
    (x.sameField_showResponse _ hlow (Fld.clearOf_mono hg (List.subset_cons_self _ _))).get.trans
      ((SameField.refl g s).of_regs hregs)
  obtain h | h := hanswer
  · rw [h]
    exact hshow
  · rw [h]
    exact hshow.bump hg (by simp [romFlds]) 1

/-- The Pantry above the response area of porch 15 is left. -/
theorem State.byteOf_romAnswer_above {x : Nat} (hx : porchAddr 15 0x820 + payload.length + 7 ≤ x) :
    byteOf (s.romAnswer op rq status payload).pmem x = byteOf s.pmem x := by
  obtain ⟨y, head, hmem, -, -, hlen, -, -, hanswer⟩ := s.romAnswer_eq op rq status payload
  have hshow : byteOf (y.showResponse 15 (head ++ payload)).pmem x = byteOf s.pmem x := by
    rw [State.showResponse_eq, State.pmem_showStatus, State.pmem_set, State.pmem_set, State.byteOf_pwrite_above, hmem]
    rw [List.length_append, hlen]
    simp only [porchAddr] at hx ⊢
    omega
  obtain h | h := hanswer <;> rw [h] <;> exact hshow

end

end Sys2Proof.Machine
end

section
/-! The ROM's commands, READY_FOR_HOST and the entries into HALT (R361 to R364, R368 to R370, R377, R500). -/

namespace Sys2Proof.Machine

/-! ### The ROM's commands (R361, R362, R364, R368, R369) -/

section
variable (s : State) {rq : Req}

/-- BOOT_QUERY answers the state of the boot in the first bytes of its payload. -/
theorem State.bootQuery_shows {u : State} (hu : u = s.bootQuery rq) : u.get (F.PR_STATE_STATE 15) = 3 ∧
    u.get (F.PR_STATE_LAST_STATUS 15) = 0 ∧ u.get (F.PR_DONE_SEQ 15) = rq.seq % 2 ^ 32 ∧
    readBytes u.pmem (porchAddr 15 0x820) 3 = leBytes 1 (s.get F.GL_BOOT_STATUS_STATE) ++
      leBytes 1 (s.get F.GL_BOOT_STATUS_RESULT) ++ leBytes 1 (s.get F.GL_BOOT_CTRL_PAGE) := by
  obtain ⟨hstate, hstatus, hseq, hread⟩ := s.romAnswer_shows _ _ _ _ hu
  refine ⟨hstate, hstatus, hseq, ?_⟩
  exact readBytes_of_prefix hread <| (List.prefix_append _ _).trans <| (List.prefix_append _ _).trans <|
    (List.prefix_append _ _).trans <| (List.prefix_append _ _).trans <| List.prefix_append _ _

/-- BOOT_WRITE in range stores its bytes. -/
theorem State.bootWrite_stores {off n : Nat} (hoff : off = rq.u 0 4) (hn : n = rq.u 4 4) (hoff8 : off % 8 = 0) (hn8 : n % 8 = 0)
    (hlow : 8 ≤ n) (hhigh : n ≤ 2008) (hfits : off + n ≤ imageSize) (hlen : rq.payload.length = 8 + n) {u : State}
    (hu : u = s.bootWrite rq) :
    u.get (F.PR_STATE_LAST_STATUS 15) = 0 ∧ readBytes u.pmem (imageBase + off) n = rq.payload.drop 8 := by
  unfold State.bootWrite at hu
  dsimp only at hu
  rw [← hoff, ← hn, if_neg (by omega), if_neg (by omega), if_neg (by omega)] at hu
  obtain ⟨-, hstatus, -⟩ := State.romAnswer_shows _ _ _ _ _ hu
  refine ⟨hstatus, ?_⟩
  have hdrop : (rq.payload.drop 8).length = n := by rw [List.length_drop]; omega
  have hwritten := s.readBytes_pwrite (imageBase + off) (rq.payload.drop 8)
  rw [hdrop] at hwritten
  rw [hu, readBytes_congr fun x hx => State.byteOf_romAnswer_above _ _ _ _ _ ?_, hwritten]
  simp only [porchAddr, imageBase, List.length_nil] at hx ⊢
  omega

/-- BOOT_FETCH is answered by what became of its transfers. -/
theorem State.bootFetch_answers {n : Nat} {x : Bool × State} (hn : n = rq.u 8 4) (hlen : rq.payload.length = 16) (hlow : 256 ≤ n)
    (hhigh : n ≤ imageSize) (hzero : zeroBytes rq.payload 12 4 = true)
    (hx : x = s.romTransfer (rq.u 0 8 / 2 ^ 32) (romPieces 3 (rq.u 0 8 % 2 ^ 32) (pantrySide imageBase) n)) :
    (s.bootFetch rq).get (F.PR_STATE_LAST_STATUS 15) = if x.1 = true then 11 else 0 := by
  unfold State.bootFetch
  dsimp only
  rw [← hn, if_neg (not_not.2 hlen), if_neg (by simp [within, hlow, hhigh, hzero]), ← hx, (State.romAnswer_shows _ _ _ _ _ rfl).2.1]
  split <;> rfl

/-- The image buffer has been filled with 0. -/
theorem State.byteOf_clearImage {i : Nat} (hi : i < imageSize) : byteOf s.clearImage.pmem (imageBase + i) = 0 :=
  Tbl.get_drop_inside _ _ (Nat.le_add_right _ _) (Nat.add_lt_add_left hi _)

theorem State.bootClear_clears (hpayload : rq.payload = []) {u : State} (hu : u = s.bootClear rq) :
    u.get (F.PR_STATE_LAST_STATUS 15) = 0 ∧ ∀ i, i < imageSize → byteOf u.pmem (imageBase + i) = 0 := by
  unfold State.bootClear at hu
  rw [if_neg (not_not.2 hpayload)] at hu
  refine ⟨(State.romAnswer_shows _ _ _ _ _ hu).2.1, fun i hi => ?_⟩
  rw [hu, State.byteOf_romAnswer_above, s.byteOf_clearImage hi]
  simp only [porchAddr, imageBase, List.length_nil]
  omega

/-- A BOOT_RUN that fails shows its RESULT. -/
theorem State.runFailed_shows {result : Nat} (hresult : result < 8) {u : State} (hu : u = s.runFailed rq result) :
    u.get (F.PR_STATE_LAST_STATUS 15) = 10 ∧ u.get F.GL_BOOT_STATUS_STATE = 3 ∧ u.get F.GL_BOOT_STATUS_RESULT = result := by
  have hstate : F.GL_BOOT_STATUS_STATE.clearOf (F.GL_BOOT_STATUS_RESULT :: F.GL_BOOT_INT_STATUS_RUN_FAILED :: romFlds) = true := by
    decide
  have hshown : F.GL_BOOT_STATUS_RESULT.clearOf (F.GL_BOOT_INT_STATUS_RUN_FAILED :: romFlds) = true := by decide
  rw [hu]
  unfold State.runFailed
  dsimp only
  refine ⟨(State.romAnswer_shows _ _ _ _ _ rfl).2.1, ?_, ?_⟩
  · rw [(State.sameField_romAnswer _ _ _ _ _ (by decide) (Fld.clearOf_mono hstate (List.subset_append_right [_, _] _))).get,
      (((SameField.refl _ _).set hstate (f := F.GL_BOOT_STATUS_RESULT) (by simp) _).cause hstate
        (f := F.GL_BOOT_INT_STATUS_RUN_FAILED) (by simp) _).get, State.get_set_same _ _ _ (by decide)]
    rfl
  · rw [(State.sameField_romAnswer _ _ _ _ _ (by decide) (Fld.clearOf_mono hshown (List.subset_append_right [_] _))).get,
      ((SameField.refl _ _).cause hshown (f := F.GL_BOOT_INT_STATUS_RUN_FAILED) (by simp) _).get,
      State.get_set_same _ _ _ (by decide)]
    exact Nat.mod_eq_of_lt hresult

theorem State.imageResult_lt (l : List Byte) (len : Nat) : s.imageResult l len < 8 := by
  unfold State.imageResult
  dsimp only
  split_ifs <;> decide

/-- The engines whose bank did not load stay held. -/
def State.holdOff (s : State) (n : Nat) : State := { s with boot := { s.boot with heldOff := n } }

theorem State.get_holdOff (n : Nat) (f : Fld) : (s.holdOff n).get f = s.get f := rfl

/-- The ROM has answered a BOOT_RUN that succeeds, with the engines that stay without their bank. -/
def State.answeredRun (s : State) (rq : Req) (heldOff : Nat) : State := (s.clearImage.romAnswer 0xF003 rq .ok).holdOff heldOff

theorem State.answeredRun_shows (rq : Req) (heldOff : Nat) : (s.answeredRun rq heldOff).boot.heldOff = heldOff ∧
    (s.answeredRun rq heldOff).get (F.PR_STATE_STATE 15) = 3 ∧
    (s.answeredRun rq heldOff).get (F.PR_STATE_LAST_STATUS 15) = 0 := by
  obtain ⟨hstate, hstatus, -⟩ := s.clearImage.romAnswer_shows 0xF003 rq .ok [] rfl
  refine ⟨rfl, ?_, ?_⟩ <;> rwa [State.answeredRun, State.get_holdOff]

section
variable {n : Nat} {l : List Byte} {bad : Bool} {b1 : State} (hn : n = rq.u 0 4) (hlen : rq.payload.length = 8) (hlow : 256 ≤ n)
  (hhigh : n ≤ imageSize) (hzero : zeroBytes rq.payload 4 4 = true) (hread : s.pread imageBase n = (l, bad, b1)) (fails : Nat)
include hn hlen hlow hhigh hzero hread

/-- BOOT_RUN of an image that fails a check. -/
theorem State.bootRun_refuses (hbad : b1.imageResult l n ≠ 0) : s.bootRun rq fails = b1.runFailed rq (b1.imageResult l n) := by
  unfold State.bootRun
  dsimp only
  rw [← hn, if_neg (not_not.2 hlen), if_neg (by simp [within, hlow, hhigh, hzero]), hread]
  exact if_pos hbad

/-- BOOT_RUN of an image that passes, with the CP and HP banks loaded: the ROM answers, and the firmware starts. -/
theorem State.bootRun_starts {failed : Nat} {b2 : State} (hgood : b1.imageResult l n = 0)
    (hloaded : b1.distribute (imageSections l) fails = (failed, b2)) (hbanks : failed % 4 = 0) :
    s.bootRun rq fails = (b2.answeredRun rq (failed / 4)).startFirmware l := by
  unfold State.bootRun
  extract_lets size
  have hsize : size = n := hn.symm
  rw [hsize, if_neg (not_not.2 hlen), if_neg (by simp [within, hlow, hhigh, hzero]), hread]
  refine (if_neg (not_not.2 hgood)).trans ?_
  rw [hloaded]
  exact if_neg (not_not.2 hbanks)

end

end

section
variable {s a b : State} {t : Nat} {rq : Req} (h : Live s t a) (hserves : a.romServes = true)
  (hb : b = (((a.ring 15 rq.seq).set (F.PR_EXPECT_SEQ 15) ((rq.seq + 1) % 2 ^ 32)).set (F.PR_STATE_EXPECT_VALID 15) 1))
include h hserves hb

/-- While the ROM serves porch 15, a row of the ROM runs its command. -/
theorem Live.gives_romRow {c : Instr} {op fails : Nat} (hc : exec c s = romRow op t rq fails s) :
    Gives c s (b.romCommand op rq fails) := by
  have hstep := h.gives_of_coreStep hc
  rw [if_pos hserves] at hstep
  rw [hb]
  exact hstep

theorem Live.gives_bootQuery (hpayload : rq.payload = []) : Gives (.bootQuery t rq) s (b.bootQuery rq) := by
  have hstep := h.gives_romRow hserves hb (exec_bootQuery t rq s)
  rwa [State.romCommand, if_neg (not_not.2 hpayload)] at hstep

theorem Live.gives_bootWrite : Gives (.bootWrite t rq) s (b.bootWrite rq) := h.gives_romRow hserves hb (exec_bootWrite t rq s)

theorem Live.gives_bootFetch : Gives (.bootFetch t rq) s (b.bootFetch rq) := h.gives_romRow hserves hb (exec_bootFetch t rq s)

theorem Live.gives_bootRun (fails : Nat) : Gives (.bootRun t rq fails) s (b.bootRun rq fails) :=
  h.gives_romRow hserves hb (exec_bootRun t rq fails s)

theorem Live.gives_bootClear : Gives (.bootClear t rq) s (b.bootClear rq) := h.gives_romRow hserves hb (exec_bootClear t rq s)

end

/-! ### READY_FOR_HOST (R370) -/

/-- The fields in which an event is shown in porch 14. -/
def eventFlds : List Fld := [F.PORCH_EV_WRITE, F.PORCH_EV_INT_STATUS_RECORD, F.PORCH_EV_LOST, F.PORCH_EV_INT_STATUS_LOST]

section
variable {g : Fld} {s u : State} (h : SameField g s u) (hlow : g.off < 0xA0000) (hg : g.clearOf eventFlds = true)
include h hlow hg

theorem SameField.writeEvent (code time : Nat) (data : List Byte) : SameField g s (u.writeEvent code time data) := by
  have hwrite : ∀ (a : Nat) (l : List Byte), SameField g s (u.pwrite a l) := fun a l =>
    ((u.sameLow_pwrite a l).get hlow).trans h
  exact ((hwrite _ _).set hg (f := F.PORCH_EV_WRITE) (by simp [eventFlds]) _).cause hg (f := F.PORCH_EV_INT_STATUS_RECORD)
    (by simp [eventFlds]) _

theorem SameField.flushLost : SameField g s u.flushLost := by
  have hw := h.writeEvent hlow hg 0xF u.devTime (leBytes 4 u.evLostPend)
  exact .ite hw h

/-- An event is shown in porch 14 alone. -/
theorem SameField.postEvent (code : Nat) (data : List Byte) : SameField g s (u.postEvent code data) := by
  have hf := h.flushLost hlow hg
  have hlost := (hf.bump hg (f := F.PORCH_EV_LOST) (by simp [eventFlds]) 1).cause hg (f := F.PORCH_EV_INT_STATUS_LOST)
    (by simp [eventFlds]) 1
  exact .ite (.ite (hf.writeEvent hlow hg _ _ _) hlost) h

end

theorem OnlyReports.boot {s u : State} (h : OnlyReports s u) : u.boot = s.boot := by
  obtain ⟨_, _, _, _, _, _, _, _, rfl⟩ := h
  rfl

/-- A record of the health log leaves the firmware and the fields of other registers. -/
theorem State.logHealth_keeps (s : State) (code flags inst : Nat) : (s.logHealth code flags inst).boot = s.boot ∧
    ∀ g : Fld, g.clearOf [F.HEALTH_LOG_STATUS_COUNT, F.HEALTH_LOG_STATUS_WRAPPED] = true →
      SameField g s (s.logHealth code flags inst) := by
  unfold State.logHealth
  split
  · exact ⟨rfl, fun g _ => .refl g s⟩
  · extract_lets r l wrap kept health s1 s2
    refine ⟨?_, fun g hg => ?_⟩
    · exact OnlyReports.boot (s := s2) (.ite ((OnlyReports.refl s2).set _ _) (.refl s2))
    · have h2 : SameField g s s2 := SameField.set (u := s1) (.of_regs (.refl g s) rfl) hg (by simp) _
      exact .ite (h2.set hg (by simp) _) h2

theorem State.get_setBoot (s : State) (x : Boot) (f : Fld) : ({ s with boot := x } : State).get f = s.get f := rfl

/-- READY_FOR_HOST marks the firmware ready. -/
theorem State.postReady_shows (s : State) : s.postReady.boot.ready = true ∧ s.postReady.get F.PORCH_STATUS_FW_READY = 1 := by
  have hclear : F.PORCH_STATUS_FW_READY.clearOf eventFlds = true := by decide
  have halert : F.PORCH_STATUS_FW_READY.clearOf [F.HEALTH_ALERT_STATUS_THERMAL_RESTART, F.HEALTH_ALERT_STATUS_VIN_SHUTDOWN] =
    true := by decide
  unfold State.postReady
  extract_lets code s1 s2 boot s3 s4 s5 s6
  have h4 : OnlyReports s3 s4 := (OnlyReports.refl s3).postEvent _ _
  have h5 : OnlyReports s3 s5 := .ite (h4.set _ _) h4
  have h6 : OnlyReports s3 s6 := .ite (h5.set _ _) h5
  have hmarked : s2.get F.PORCH_STATUS_FW_READY = 1 := by
    unfold s2
    exact State.get_set_same _ _ _ (by decide)
  have hready : s3.get F.PORCH_STATUS_FW_READY = 1 := (s2.get_setBoot boot _).trans hmarked
  have f4 : SameField F.PORCH_STATUS_FW_READY s3 s4 := (SameField.refl _ s3).postEvent (by decide) hclear _ _
  have f5 : SameField F.PORCH_STATUS_FW_READY s3 s5 := .ite (f4.set halert (by simp) _) f4
  have f6 : SameField F.PORCH_STATUS_FW_READY s3 s6 := .ite (f5.set halert (by simp) _) f5
  obtain ⟨hboot, hshown⟩ := s6.logHealth_keeps 0x81 1 code
  refine ⟨?_, ?_⟩
  · rw [hboot, h6.boot]
  · rw [(hshown _ (by decide)).get, f6.get, hready]

theorem Live.gives_readyForHost {s a : State} {t : Nat} (h : Live s t a) (trained temps : Nat) (hmode : a.mode ≠ .boot)
    (hready : a.boot.ready = false) (hmonitor : a.haltMonitor = false) : Gives (.readyForHost t trained temps) s
      (a.holdEngines.trainCellar (trained % 4096) temps).firmwareEnables.postReady := by
  have hstep := h.gives_of_coreStep (exec_readyForHost t trained temps s)
  rwa [if_pos ⟨hmode, by rw [hready]; rfl, by rw [hmonitor]; rfl⟩] at hstep

/-! ### Entries into HALT (R377, R500) -/

section
variable {s a : State} {t : Nat} (h : Live s t a)
include h

theorem Live.gives_haltEntry {cause : Nat} (hcause : (cause = 1 ∧ a.therm.cut = true) ∨ cause = 3) :
    Gives (.haltEntry t cause) s (a.enterHalt cause) := by
  have hstep := h.gives_of_coreStep (exec_haltEntry t cause s)
  rwa [if_pos hcause] at hstep

theorem Live.gives_hpStall (hstill : (a.health.beatAt.getD a.boot.ranAt) + 100000000 ≤ a.now) :
    Gives (.hpStall t) s (a.enterHalt 3) := by
  have hstep := h.gives_of_coreStep (exec_hpStall t s)
  rwa [if_pos hstill] at hstep

end

/-- Settles O53: a row after the other, each by the lemma that says what its command does. -/
theorem bootCommandsTakeEffect : Obligations.BootCommandsTakeEffect := by
  intro s a t h
  refine ⟨fun rq b hserves hb => ⟨fun hpayload => ?_, fun off n hoff hn hoff8 hn8 hlow hhigh hfits hlen => ?_,
    fun n x hn hlen hlow hhigh hzero hx => ?_, fun hpayload => ?_, fun n l bad b1 hn hlen hlow hhigh hzero hread =>
      ⟨fun fails hbad => ?_, fun fails failed b2 hgood hloaded hbanks => ?_⟩⟩,
    fun trained temps hmode hready hmonitor => ?_, fun hcut => h.gives_haltEntry (.inl ⟨rfl, hcut⟩), h.gives_haltEntry (.inr rfl),
    fun hstill => h.gives_hpStall hstill⟩
  · exact ⟨_, h.gives_bootQuery hserves hb hpayload, b.bootQuery_shows rfl⟩
  · exact ⟨_, h.gives_bootWrite hserves hb, b.bootWrite_stores hoff hn hoff8 hn8 hlow hhigh hfits hlen rfl⟩
  · exact ⟨_, h.gives_bootFetch hserves hb, b.bootFetch_answers hn hlen hlow hhigh hzero hx⟩
  · exact ⟨_, h.gives_bootClear hserves hb, b.bootClear_clears hpayload rfl⟩
  · have hstep := h.gives_bootRun hserves hb fails
    rw [b.bootRun_refuses hn hlen hlow hhigh hzero hread fails hbad] at hstep
    exact ⟨_, hstep, b1.runFailed_shows (b1.imageResult_lt l n) rfl⟩
  · have hstep := h.gives_bootRun hserves hb fails
    rw [b.bootRun_starts hn hlen hlow hhigh hzero hread fails hgood hloaded hbanks] at hstep
    exact ⟨_, hstep, b2.answeredRun_shows rq (failed / 4)⟩
  · obtain ⟨hmark, hshown⟩ := State.postReady_shows (a.holdEngines.trainCellar (trained % 4096) temps).firmwareEnables
    exact ⟨_, h.gives_readyForHost trained temps hmode hready hmonitor, hmark, hshown⟩

end Sys2Proof.Machine
end

section
/-! Words of the Pantry: bits in error, what reading, checking and writing a word changes, and the bank that an access reaches
(R394 to R397, R401). -/

namespace Sys2Proof.Machine

/-! ### Bits in error (R394) -/

theorem onesIn_two_pow {w k : Nat} (hk : k < w) : onesIn w (2 ^ k) = 1 := by
  have hbit : bitOf (2 ^ k) = fun j => j == k := by
    funext j
    rw [bitOf, Nat.testBit_two_pow, Bool.beq_eq_decide_eq, decide_eq_decide]
    exact eq_comm
  rw [onesIn, ← List.countP_eq_length_filter, hbit]
  exact List.count_eq_one_of_mem List.nodup_range (List.mem_range.2 hk)

/-- Two bits that differ are two bits. -/
theorem onesIn_xor_ne_one {w j k : Nat} (hj : j < w) (hk : k < w) (hne : j ≠ k) : onesIn w (2 ^ j ^^^ 2 ^ k) ≠ 1 := by
  intro hone
  obtain ⟨i, hi⟩ := List.length_eq_one_iff.1 hone
  have hset : ∀ x, x = j ∨ x = k → x < w → x = i := fun x hx hxw => by
    have hmem : x ∈ (List.range w).filter (bitOf (2 ^ j ^^^ 2 ^ k)) := by
      refine List.mem_filter.2 ⟨List.mem_range.2 hxw, ?_⟩
      rw [bitOf, Nat.testBit_xor, Nat.testBit_two_pow, Nat.testBit_two_pow]
      rcases hx with rfl | rfl
      · simp [hne.symm]
      · simp [hne]
    rwa [hi, List.mem_singleton] at hmem
  exact hne ((hset j (.inl rfl) hj).trans (hset k (.inr rfl) hk).symm)

theorem xor_two_pow_ne_zero {j k : Nat} (hne : j ≠ k) : 2 ^ j ^^^ 2 ^ k ≠ 0 := fun h =>
  hne (Nat.pow_right_injective (le_refl 2) (Nat.xor_eq_zero_iff.1 h))

/-! ### Bytes of a word (R395) -/

/-- Bytes stored one by one from an address. -/
theorem byteOf_foldl_set (f : Nat → Byte) (base x : Nat) : ∀ (ks : List Nat) (m : Tbl Byte),
    byteOf ((ks.map fun k => (k, f k)).foldl (fun (m : Tbl Byte) c => m.set 0 (base + c.1) c.2) m) x =
      if base ≤ x ∧ x - base ∈ ks then f (x - base) else byteOf m x
  | [], m => by simp
  | k :: ks, m => by
    rw [List.map_cons, List.foldl_cons, byteOf_foldl_set f base x ks]
    by_cases hks : base ≤ x ∧ x - base ∈ ks
    · rw [if_pos hks, if_pos ⟨hks.1, List.mem_cons_of_mem _ hks.2⟩]
    · rw [if_neg hks]
      by_cases hx : x = base + k
      · subst hx
        rw [if_pos (by simp), Nat.add_sub_cancel_left]
        exact Tbl.get_set_same _ _ _ _
      · rw [if_neg (fun h => hks ⟨h.1, (List.mem_cons.1 h.2).resolve_left fun hk => hx (by omega)⟩)]
        exact Tbl.get_set_other _ _ _ _ hx

/-- The bytes of a word that a mask enables are replaced, and no other byte is. -/
theorem byteOf_enabledBytes (m : Tbl Byte) (w enables data x : Nat) :
    byteOf ((enabledBytes enables data).foldl (fun (m : Tbl Byte) c => m.set 0 (8 * w + c.1) c.2) m) x =
      if x / 8 = w ∧ bitOf enables (x - 8 * w) = true then BitVec.ofNat 8 (data >>> (8 * (x - 8 * w))) else byteOf m x := by
  rw [enabledBytes, byteOf_foldl_set]
  refine if_congr ?_ rfl rfl
  rw [List.mem_filter, List.mem_range, ← and_assoc]
  exact and_congr_left' (by omega)

/-! ### A word is checked, and written (R394 to R396) -/

theorem SameField.summary {g : Fld} {s u : State} (h : SameField g s u) (hg : g.off < 0xE0000) (k n : Nat) :
    SameField g s (u.summary k n) := (State.get_congr u (u.reg_summary_below k n hg)).trans h

section
variable (s : State)

@[simp] theorem State.perr_cause (f : Fld) (v : Nat) : (s.cause f v).perr = s.perr := by
  obtain ⟨l, hl⟩ := sendNewMsi_sent s (s.set f (s.get f ||| v))
  rw [State.cause, hl]
  rfl

@[simp] theorem State.perr_summary (k n : Nat) : (s.summary k n).perr = s.perr := by
  unfold State.summary
  split <;> rfl

@[simp] theorem State.perr_touchBank (b : Nat) : (s.touchBank b).perr = s.perr := by
  unfold State.touchBank
  extract_lets x s1
  split
  · rfl
  · split <;> rfl

theorem State.checkWord_clean {w : Nat} (h : s.perr.get 0 w = 0) (patrol : Bool) : s.checkWord w patrol = (false, s) :=
  if_pos h

/-- What a check of a word counts in its bank and shows shares no bit with the totals. -/
theorem clearOf_checkFlds : ∀ b < 22,
    F.PANTRY_CORR_TOTAL.clearOf [F.BK_ERR_CORR b, F.PANTRY_INT_STATUS_CORR] = true ∧
      F.PANTRY_UNCORR_TOTAL.clearOf [F.BK_ERR_UNCORR b, F.PANTRY_LAST_ERR_BANK, F.PANTRY_LAST_ERR_VALID,
        F.PANTRY_LAST_ERR_BY_PATROL, F.PANTRY_LAST_ERR_ADDR, F.PANTRY_INT_STATUS_UNCORR] = true := by decide

/-- One bit in error is corrected and counted. -/
theorem State.checkWord_corrects {w : Nat} (hone : onesIn 72 (s.perr.get 0 w) = 1) (hb : bankOf (8 * w) < 22) (patrol : Bool) :
    (s.checkWord w patrol).1 = false ∧ (s.checkWord w patrol).2.perr.get 0 w = 0 ∧
      (s.checkWord w patrol).2.get F.PANTRY_CORR_TOTAL = min (s.get F.PANTRY_CORR_TOTAL + 1) (2 ^ F.PANTRY_CORR_TOTAL.width - 1) := by
  have hne : s.perr.get 0 w ≠ 0 := fun h => by
    rw [h] at hone
    exact absurd hone (by decide)
  obtain ⟨hclear, -⟩ := clearOf_checkFlds _ hb
  unfold State.checkWord
  extract_lets m b s1
  rw [if_neg hne, if_pos hone]
  have hbank : SameField F.PANTRY_CORR_TOTAL s ({ s with perr := s.perr.set 0 w 0 }.bump (F.BK_ERR_CORR b)) :=
    SameField.bump (u := { s with perr := s.perr.set 0 w 0 }) rfl hclear (by simp [b]) 1
  have hcounted : s1.get F.PANTRY_CORR_TOTAL = min (s.get F.PANTRY_CORR_TOTAL + 1) (2 ^ F.PANTRY_CORR_TOTAL.width - 1) := by
    rw [← hbank.get]
    exact State.get_bump_one _ _ (by decide)
  refine ⟨rfl, ?_, ?_⟩
  · rw [State.perr_summary, State.perr_cause, State.perr_bump, State.perr_bump]
    exact Tbl.get_set_same _ _ _ _
  · rw [← hcounted]
    exact (((SameField.refl _ s1).cause hclear (by simp) _).summary (by decide) _ _).get

/-- A word with more bits in error stays as it is, and is counted. -/
theorem State.checkWord_fails {w : Nat} (hne : s.perr.get 0 w ≠ 0) (hmore : onesIn 72 (s.perr.get 0 w) ≠ 1)
    (hb : bankOf (8 * w) < 22) (patrol : Bool) :
    (s.checkWord w patrol).1 = true ∧ (s.checkWord w patrol).2.perr = s.perr ∧
      (s.checkWord w patrol).2.get F.PANTRY_UNCORR_TOTAL =
        min (s.get F.PANTRY_UNCORR_TOTAL + 1) (2 ^ F.PANTRY_UNCORR_TOTAL.width - 1) := by
  obtain ⟨-, hclear⟩ := clearOf_checkFlds _ hb
  unfold State.checkWord
  extract_lets m b s0 s1 s2
  rw [if_neg hne, if_neg hmore]
  have hbank : SameField F.PANTRY_UNCORR_TOTAL s (s.bump (F.BK_ERR_UNCORR b)) := (SameField.refl _ s).bump hclear (by simp [b]) 1
  have hcounted := (s.bump (F.BK_ERR_UNCORR b)).get_bump_one F.PANTRY_UNCORR_TOTAL (by decide)
  rw [hbank.get] at hcounted
  have hmarks : SameField F.PANTRY_UNCORR_TOTAL ((s.bump (F.BK_ERR_UNCORR b)).bump F.PANTRY_UNCORR_TOTAL) s2 :=
    ((((SameField.refl _ _).set hclear (by simp) _).set hclear (by simp) _).set hclear (by simp) _).set hclear (by simp) _
  refine ⟨rfl, ?_, ?_⟩
  · simp [s2, s1]
  · rw [← hcounted]
    exact ((hmarks.cause hclear (by simp) _).summary (by decide) _ _).get

/-- A write to a word without error reports none: the bytes enabled are replaced, and no other. -/
theorem State.writeWord_stores {w : Nat} (h : s.perr.get 0 w = 0) (enables data : Nat) :
    (s.writeWord w enables data).1 = false ∧ (s.writeWord w enables data).2.perr.get 0 w = 0 ∧
      ∀ x, byteOf (s.writeWord w enables data).2.pmem x =
        if x / 8 = w ∧ bitOf enables (x - 8 * w) = true then BitVec.ofNat 8 (data >>> (8 * (x - 8 * w))) else byteOf s.pmem x := by
  have hmerge : s.mergeWord w = (false, s) := by simp [State.mergeWord, s.checkWord_clean h]
  unfold State.writeWord
  rw [hmerge, ite_self]
  exact ⟨rfl, Tbl.get_set_same _ _ _ _, byteOf_enabledBytes _ w enables data⟩

end

/-! ### Bits that turn wrong before an access -/

section
variable (s : State) (a : Nat) (flips : List Nat)

/-- Bits that turn wrong change the bits in error and nothing else. -/
theorem State.upset_only : ∃ x, s.upset a flips = { s with perr := x } := by
  unfold State.upset
  split <;> exact ⟨_, rfl⟩

@[simp] theorem State.pmem_upset : (s.upset a flips).pmem = s.pmem := by
  obtain ⟨x, hx⟩ := s.upset_only a flips
  rw [hx]

@[simp] theorem State.now_upset : (s.upset a flips).now = s.now := by
  obtain ⟨x, hx⟩ := s.upset_only a flips
  rw [hx]

@[simp] theorem State.get_upset (f : Fld) : (s.upset a flips).get f = s.get f := by
  obtain ⟨x, hx⟩ := s.upset_only a flips
  rw [hx]
  rfl

@[simp] theorem State.flag_upset (f : Fld) : (s.upset a flips).flag f = s.flag f := by
  obtain ⟨x, hx⟩ := s.upset_only a flips
  rw [hx]
  rfl

@[simp] theorem State.bankOn_upset (b : Nat) : (s.upset a flips).bankOn b = s.bankOn b := by
  obtain ⟨x, hx⟩ := s.upset_only a flips
  rw [hx]
  rfl

@[simp] theorem State.bank_upset (b : Nat) : (s.upset a flips).bank b = s.bank b := by
  obtain ⟨x, hx⟩ := s.upset_only a flips
  rw [hx]
  rfl

theorem State.perr_upset_same (haddr : pantryAddr a = true) (hon : s.bankOn (bankOf a) = true) :
    (s.upset a flips).perr.get 0 (a / 8) =
      (flips.filter (· < 72)).foldl (fun m k => m ^^^ 2 ^ k) (s.perr.get 0 (a / 8)) := by
  rw [State.upset, if_pos (by rw [haddr, hon]; rfl)]
  exact Tbl.get_set_same _ _ _ _

end

/-! ### The bank that an access reaches (R397, R401) -/

/-- The state in which an access of a bank's owner comes to its word. -/
def State.reachWord (s : State) (a : Nat) : State :=
  if (s.touchBank (bankOf a)).redirected a = true then (s.touchBank (bankOf a)).bump F.PANTRY_REDIRECT_WAITS
  else s.touchBank (bankOf a)

section
variable (s : State) {a : Nat}

@[simp] theorem State.pmem_reachWord : (s.reachWord a).pmem = s.pmem := by
  unfold State.reachWord
  split <;> simp

@[simp] theorem State.perr_reachWord : (s.reachWord a).perr = s.perr := by
  unfold State.reachWord
  split <;> simp

/-- The fields in which an access shows that it has come to a bank. -/
def reachFlds (b : Nat) : List Fld := [F.BK_STATUS_REST b, F.PANTRY_WAKE_TOTAL, F.PANTRY_REDIRECT_WAITS]

theorem SameField.touchBank {g : Fld} {b : Nat} (hg : g.clearOf (reachFlds b) = true) : SameField g s (s.touchBank b) := by
  unfold State.touchBank
  extract_lets x s1
  have h1 : SameField g s s1 := .refl g s
  have hwoken := (h1.set hg (f := F.BK_STATUS_REST b) (by simp [reachFlds]) 0).bump hg (f := F.PANTRY_WAKE_TOTAL)
    (by simp [reachFlds]) 1
  exact .ite (.refl g s) (.ite h1 hwoken)

theorem SameField.reachWord {g : Fld} (hg : g.clearOf (reachFlds (bankOf a)) = true) : SameField g s (s.reachWord a) :=
  have h := SameField.touchBank s hg
  .ite (h.bump hg (by simp [reachFlds]) 1) h

theorem clearOf_reachFlds : ∀ b < 22, F.PANTRY_CORR_TOTAL.clearOf (reachFlds b) = true ∧
    F.PANTRY_UNCORR_TOTAL.clearOf (reachFlds b) = true := by decide

theorem State.serveBank_read (user : Nat) : s.serveBank { addr := a, user := user } =
    if ((s.reachWord a).checkWord (a / 8)).1 = true then ((s.reachWord a).checkWord (a / 8)).2.ownerError a user
    else ((s.reachWord a).checkWord (a / 8)).2 := rfl

theorem State.serveBank_write (user enables data : Nat) :
    s.serveBank { addr := a, user := user, write := true, enables := enables, data := data } =
      if ((s.reachWord a).writeWord (a / 8) enables data).1 = true then
        ((s.reachWord a).writeWord (a / 8) enables data).2.ownerError a user
      else ((s.reachWord a).writeWord (a / 8) enables data).2 := rfl

theorem bankOf_lt_of_pantryAddr (haddr : pantryAddr a = true) : bankOf a < 22 := by
  rw [pantryAddr, decide_eq_true_eq] at haddr
  exact haddr.1

theorem bankOf_word_lt (haddr : pantryAddr a = true) : bankOf (8 * (a / 8)) < 22 :=
  lt_of_le_of_lt (Nat.div_le_div_right (Nat.mul_div_le a 8)) (bankOf_lt_of_pantryAddr haddr)

end

end Sys2Proof.Machine
end

section
/-! Accesses of a bank's owner, the rest and the wake of a bank, and its patrol (R394 to R398, R400 to R406). -/

namespace Sys2Proof.Machine

/-! ### Accesses (R394 to R397) -/

theorem SameField.flag {g : Fld} {s u : State} (h : SameField g s u) : u.flag g = s.flag g := by
  rw [State.flag, State.flag, h.get]

section
variable (s : State)

@[simp] theorem State.bank_setBank_same (b : Nat) (x : Bank) : (s.setBank b x).bank b = x := Tbl.get_set_same _ _ _ _

@[simp] theorem State.get_setBank (b : Nat) (x : Bank) (f : Fld) : (s.setBank b x).get f = s.get f := rfl

@[simp] theorem State.flag_setBank (b : Nat) (x : Bank) (f : Fld) : (s.setBank b x).flag f = s.flag f := rfl

theorem State.flag_of_get {f : Fld} {v : Nat} (h : s.get f = v) : s.flag f = decide (v % 2 = 1) := by rw [State.flag, h]

section
variable {x : BankAccess} (haddr : pantryAddr x.addr = true) (hon : s.bankOn (bankOf x.addr) = true)
include haddr hon

theorem State.accessBank_serves (hwake : s.flag (F.BK_STATUS_WAKING (bankOf x.addr)) = false)
    (hrest : s.get (F.BK_STATUS_REST (bankOf x.addr)) = 0) : s.accessBank x = s.serveBank x := by
  simp [State.accessBank, haddr, hon, hwake, hrest]

theorem State.accessBank_wakes (hwake : s.flag (F.BK_STATUS_WAKING (bankOf x.addr)) = false)
    (hrest : s.get (F.BK_STATUS_REST (bankOf x.addr)) ≠ 0) :
    s.accessBank x = (s.wakeBank (bankOf x.addr)).setBank (bankOf x.addr)
      { (s.wakeBank (bankOf x.addr)).bank (bankOf x.addr) with queue := [x] } := by
  simp [State.accessBank, haddr, hon, hwake, hrest]

theorem State.accessBank_queues (hwake : s.flag (F.BK_STATUS_WAKING (bankOf x.addr)) = true) :
    s.accessBank x = s.setBank (bankOf x.addr)
      { s.bank (bankOf x.addr) with queue := (s.bank (bankOf x.addr)).queue ++ [x] } := by
  simp [State.accessBank, haddr, hon, hwake]

end

/-- A bank that begins to wake shows it, and how long it takes depends on how it rests. -/
theorem State.wakeBank_shows {b : Nat} (hb : b < 22) : (s.wakeBank b).flag (F.BK_STATUS_WAKING b) = true ∧
    ((s.wakeBank b).bank b).wakeAt = some (s.now + if s.get (F.BK_STATUS_REST b) = 2 then 12000 else 3) := by
  have hclear : ∀ b < 22, (F.BK_STATUS_WAKING b).clearOf [F.PANTRY_WAKE_TOTAL] = true := by decide
  unfold State.wakeBank
  refine ⟨?_, by rw [State.bank_setBank_same]⟩
  rw [State.flag_setBank, ((SameField.refl _ _).bump (hclear b hb) (by simp) 1).flag,
    State.flag_of_get _ (s.get_set_same _ _ (by simp [F.BK_STATUS_WAKING]))]
  rfl

end

section
variable {s a : State} {t addr user : Nat} (h : Live s t a) (haddr : pantryAddr addr = true)
  (hon : a.bankOn (bankOf addr) = true)
include h

theorem Live.gives_pantryRead (flips : List Nat) :
    Gives (.pantryRead t addr user flips) s ((a.upset addr flips).accessBank { addr := addr, user := user }) :=
  h.gives_of_coreStep (exec_pantryRead t addr user flips s)

theorem Live.gives_pantryPartialWrite (enables data : Nat) (flips : List Nat) :
    Gives (.pantryPartialWrite t addr user enables data flips) s ((a.upset addr flips).accessBank
      { addr := addr, user := user, write := true, enables := enables, data := data }) :=
  h.gives_of_coreStep (exec_pantryPartialWrite t addr user enables data flips s)

include haddr hon

section
variable (hwake : a.flag (F.BK_STATUS_WAKING (bankOf addr)) = false) (hrest : a.get (F.BK_STATUS_REST (bankOf addr)) = 0)
  (hclean : a.perr.get 0 (addr / 8) = 0)
include hwake hrest

/-- An access of a bank in service that is awake is served. -/
theorem Live.pantryRead_serves (flips : List Nat) :
    Gives (.pantryRead t addr user flips) s ((a.upset addr flips).serveBank { addr := addr, user := user }) := by
  have hstep := h.gives_pantryRead (addr := addr) (user := user) flips
  rwa [State.accessBank_serves _ haddr (by simpa using hon) (by simpa using hwake) (by simpa using hrest)] at hstep

include hclean

theorem Live.pantryRead_clean : ∃ u, Gives (.pantryRead t addr user []) s u ∧ u.pmem = a.pmem ∧ u.perr.get 0 (addr / 8) = 0 ∧
    u.get F.PANTRY_CORR_TOTAL = a.get F.PANTRY_CORR_TOTAL ∧ u.get F.PANTRY_UNCORR_TOTAL = a.get F.PANTRY_UNCORR_TOTAL := by
  refine ⟨_, h.pantryRead_serves haddr hon hwake hrest [], ?_⟩
  have herr : ((a.upset addr []).reachWord addr).perr.get 0 (addr / 8) = 0 := by
    rw [State.perr_reachWord, a.perr_upset_same addr [] haddr hon]
    exact hclean
  obtain ⟨hcorr, huncorr⟩ := clearOf_reachFlds _ (bankOf_lt_of_pantryAddr haddr)
  rw [State.serveBank_read, State.checkWord_clean _ herr]
  exact ⟨by simp, herr, (SameField.reachWord _ hcorr).get.trans (State.get_upset ..),
    (SameField.reachWord _ huncorr).get.trans (State.get_upset ..)⟩

theorem Live.pantryRead_corrects {k : Nat} (hk : k < 72) : ∃ u, Gives (.pantryRead t addr user [k]) s u ∧ u.pmem = a.pmem ∧
    u.perr.get 0 (addr / 8) = 0 ∧
    u.get F.PANTRY_CORR_TOTAL = min (a.get F.PANTRY_CORR_TOTAL + 1) (2 ^ F.PANTRY_CORR_TOTAL.width - 1) := by
  refine ⟨_, h.pantryRead_serves haddr hon hwake hrest [k], ?_⟩
  have herr : ((a.upset addr [k]).reachWord addr).perr.get 0 (addr / 8) = 2 ^ k := by
    rw [State.perr_reachWord, a.perr_upset_same addr [k] haddr hon, hclean]
    simp [hk]
  obtain ⟨hcorr, -⟩ := clearOf_reachFlds _ (bankOf_lt_of_pantryAddr haddr)
  obtain ⟨hgood, hmended, hcount⟩ := State.checkWord_corrects _ (by rw [herr]; exact onesIn_two_pow hk)
    (bankOf_word_lt haddr) false
  rw [State.serveBank_read, hgood, if_neg Bool.false_ne_true]
  exact ⟨by simp, hmended, by rw [hcount, (SameField.reachWord _ hcorr).get, State.get_upset]⟩

theorem Live.pantryRead_fails {j k : Nat} (hj : j < 72) (hk : k < 72) (hne : j ≠ k) :
    ∃ v : State, Gives (.pantryRead t addr user [j, k]) s (v.ownerError addr user) ∧ v.pmem = a.pmem ∧
      v.perr.get 0 (addr / 8) = 2 ^ j ^^^ 2 ^ k ∧
      v.get F.PANTRY_UNCORR_TOTAL = min (a.get F.PANTRY_UNCORR_TOTAL + 1) (2 ^ F.PANTRY_UNCORR_TOTAL.width - 1) := by
  have hstep := h.pantryRead_serves (user := user) haddr hon hwake hrest [j, k]
  have herr : ((a.upset addr [j, k]).reachWord addr).perr.get 0 (addr / 8) = 2 ^ j ^^^ 2 ^ k := by
    rw [State.perr_reachWord, a.perr_upset_same addr [j, k] haddr hon, hclean]
    simp [hj, hk]
  obtain ⟨-, huncorr⟩ := clearOf_reachFlds _ (bankOf_lt_of_pantryAddr haddr)
  obtain ⟨hbad, hkept, hcount⟩ := State.checkWord_fails _ (by rw [herr]; exact xor_two_pow_ne_zero hne)
    (by rw [herr]; exact onesIn_xor_ne_one hj hk hne) (bankOf_word_lt haddr) false
  rw [State.serveBank_read, if_pos hbad] at hstep
  exact ⟨_, hstep, by simp, by rw [hkept, herr],
    by rw [hcount, (SameField.reachWord _ huncorr).get, State.get_upset]⟩

theorem Live.pantryPartialWrite_writes (enables data : Nat) :
    ∃ u, Gives (.pantryPartialWrite t addr user enables data []) s u ∧ u.perr.get 0 (addr / 8) = 0 ∧
      (∀ k, k < 8 → byteOf u.pmem (8 * (addr / 8) + k) =
        if bitOf enables k then BitVec.ofNat 8 (data >>> (8 * k)) else byteOf a.pmem (8 * (addr / 8) + k)) ∧
      ∀ x, x / 8 ≠ addr / 8 → byteOf u.pmem x = byteOf a.pmem x := by
  have hstep := h.gives_pantryPartialWrite (addr := addr) (user := user) enables data []
  have herr : ((a.upset addr []).reachWord addr).perr.get 0 (addr / 8) = 0 := by
    rw [State.perr_reachWord, a.perr_upset_same addr [] haddr hon]
    exact hclean
  obtain ⟨hgood, hzero, hbytes⟩ := State.writeWord_stores _ herr enables data
  rw [State.accessBank_serves _ haddr (by simpa using hon) (by simpa using hwake) (by simpa using hrest),
    State.serveBank_write, hgood, if_neg Bool.false_ne_true] at hstep
  refine ⟨_, hstep, hzero, fun k hk => ?_, fun x hx => ?_⟩
  · rw [hbytes, Nat.add_sub_cancel_left, State.pmem_reachWord, State.pmem_upset]
    exact if_congr (and_iff_right (by omega)) rfl rfl
  · rw [hbytes, if_neg fun hw => hx hw.1, State.pmem_reachWord, State.pmem_upset]

end

theorem Live.pantryRead_wakes (hwake : a.flag (F.BK_STATUS_WAKING (bankOf addr)) = false)
    (hrest : a.get (F.BK_STATUS_REST (bankOf addr)) ≠ 0) : ∃ u, Gives (.pantryRead t addr user []) s u ∧
      u.flag (F.BK_STATUS_WAKING (bankOf addr)) = true ∧ (u.bank (bankOf addr)).queue = [{ addr := addr, user := user }] ∧
      (u.bank (bankOf addr)).wakeAt = some (a.now + if a.get (F.BK_STATUS_REST (bankOf addr)) = 2 then 12000 else 3) := by
  have hstep := h.gives_pantryRead (addr := addr) (user := user) []
  rw [State.accessBank_wakes _ haddr (by simpa using hon) (by simpa using hwake) (by simpa using hrest)] at hstep
  obtain ⟨hwaking, hat⟩ := (a.upset addr []).wakeBank_shows (bankOf_lt_of_pantryAddr haddr)
  refine ⟨_, hstep, by rw [State.flag_setBank, hwaking], by rw [State.bank_setBank_same], ?_⟩
  rw [State.bank_setBank_same, hat, State.now_upset, State.get_upset]

theorem Live.pantryRead_queues (hwake : a.flag (F.BK_STATUS_WAKING (bankOf addr)) = true) :
    ∃ u, Gives (.pantryRead t addr user []) s u ∧
      (u.bank (bankOf addr)).queue = (a.bank (bankOf addr)).queue ++ [{ addr := addr, user := user }] := by
  have hstep := h.gives_pantryRead (addr := addr) (user := user) []
  rw [State.accessBank_queues _ haddr (by simpa using hon) (by simpa using hwake)] at hstep
  exact ⟨_, hstep, by simp⟩

end

/-! ### Rest, wake and fill (R397, R398) -/

/-- The fields of a bank's status share no bit, and other registers count what becomes of the bank. -/
theorem clearOf_bankStatus : ∀ b < 22,
    (F.BK_STATUS_REST b).clearOf [F.BK_STATUS_WAKING b] = true ∧
      (F.BK_STATUS_PHASE b).clearOf [F.BK_STATUS_SEGMENT b, F.BK_PATROL_PASSES b, F.PANTRY_PASSES] = true ∧
      (F.BK_STATUS_REPAIR_USED b).clearOf [F.BK_STATUS_REPAIRED_SEG b, F.PANTRY_REPAIRED, F.PANTRY_INT_STATUS_REPAIRED,
        F.BK_STATUS_PHASE b, F.BK_PATROL_PASSES b, F.PANTRY_PASSES] = true ∧
      (F.BK_STATUS_PATROL_USED b).clearOf [F.BK_PATROL_CONSUMED_SEG b, F.PANTRY_EXHAUSTED, F.BK_STATUS_PHASE b,
        F.PANTRY_INT_STATUS_EXHAUSTED] = true ∧
      (F.BK_STATUS_PHASE b).clearOf [F.PANTRY_INT_STATUS_EXHAUSTED] = true := by decide

theorem fits_bankStatus (b : Nat) : (F.BK_STATUS_REST b).lo + (F.BK_STATUS_REST b).width ≤ 32 ∧
    (F.BK_STATUS_WAKING b).lo + (F.BK_STATUS_WAKING b).width ≤ 32 ∧
    (F.BK_STATUS_PHASE b).lo + (F.BK_STATUS_PHASE b).width ≤ 32 ∧
    (F.BK_STATUS_SEGMENT b).lo + (F.BK_STATUS_SEGMENT b).width ≤ 32 ∧
    (F.BK_STATUS_REPAIR_USED b).lo + (F.BK_STATUS_REPAIR_USED b).width ≤ 32 ∧
    (F.BK_STATUS_PATROL_USED b).lo + (F.BK_STATUS_PATROL_USED b).width ≤ 32 := by
  simp [F.BK_STATUS_REST, F.BK_STATUS_WAKING, F.BK_STATUS_PHASE, F.BK_STATUS_SEGMENT, F.BK_STATUS_REPAIR_USED,
    F.BK_STATUS_PATROL_USED]

section
variable {s a : State} {t b : Nat} (h : Live s t a) (hb : b < 22)
include h hb

theorem Live.bankRest_rests {p : Nat} (hp : p = a.get (F.BK_CTRL_POWER b)) (hrest : a.get (F.BK_STATUS_REST b) = 0)
    (hwake : a.get (F.BK_STATUS_WAKING b) = 0) (hphase : a.get (F.BK_STATUS_PHASE b) = 0) (hon : a.bankOn b = true)
    (hidle : p = 1 ∧ 320 ≤ a.now - (a.bank b).lastUse ∨ p = 2 ∧ 100000 ≤ a.now - (a.bank b).lastUse) :
    ∃ u, Gives (.bankRest t b) s u ∧ u.get (F.BK_STATUS_REST b) = p ∧ u.pmem = a.pmem := by
  have hstep := h.gives_of_coreStep (exec_bankRest t b s)
  dsimp only at hstep
  rw [← hp, if_pos ⟨hb, hrest, hwake, hphase, hon, hidle⟩] at hstep
  obtain ⟨hfit, -⟩ := fits_bankStatus b
  refine ⟨_, hstep, ?_, rfl⟩
  rw [State.get_set_same _ _ _ hfit]
  exact Nat.mod_eq_of_lt (by simp only [F.BK_STATUS_REST]; omega)

/-- A bank that has woken is awake before the accesses that waited are served, in order. -/
theorem Live.bankWakeComplete_serves {w : Nat} (hw : (a.bank b).wakeAt = some w) (hdue : w ≤ a.now) :
    ∃ v : State, v.get (F.BK_STATUS_REST b) = 0 ∧ v.flag (F.BK_STATUS_WAKING b) = false ∧ (v.bank b).wakeAt = none ∧
      (v.bank b).queue = [] ∧ v.pmem = a.pmem ∧
      Gives (.bankWakeComplete t b) s ((a.bank b).queue.foldl (fun (x : State) q => x.serveBank q) v) := by
  have hstep := h.gives_of_coreStep (exec_bankWakeComplete t b s)
  dsimp only at hstep
  rw [hw] at hstep
  dsimp only at hstep
  rw [if_pos ⟨hb, hdue⟩] at hstep
  obtain ⟨hrest, hwaking, -⟩ := fits_bankStatus b
  obtain ⟨hclear, -⟩ := clearOf_bankStatus b hb
  refine ⟨((a.set (F.BK_STATUS_REST b) 0).set (F.BK_STATUS_WAKING b) 0).setBank b
    { a.bank b with wakeAt := none, queue := [], lastUse := a.now }, ?_, ?_, by rw [State.bank_setBank_same],
    by rw [State.bank_setBank_same], rfl, hstep⟩
  · rw [State.get_setBank, ((SameField.refl _ _).set hclear (by simp) 0).get, State.get_set_same _ _ _ hrest, Nat.zero_mod]
  · rw [State.flag_setBank, State.flag_of_get _ (State.get_set_same _ _ _ hwaking), Nat.zero_mod]
    rfl

theorem Live.bankFillComplete_fills (hfill : (a.bank b).fillAt.isSome = true) :
    ∃ u, Gives (.bankFillComplete t b) s u ∧ u.get (F.BK_STATUS_REST b) = 0 ∧ (u.bank b).fillAt = none := by
  have hstep := h.gives_of_coreStep (exec_bankFillComplete t b s)
  rw [if_pos ⟨hb, hfill⟩] at hstep
  obtain ⟨hrest, -⟩ := fits_bankStatus b
  exact ⟨_, hstep, by rw [State.get_setBank, State.get_set_same _ _ _ hrest, Nat.zero_mod], by rw [State.bank_setBank_same]⟩

/-! ### Patrol (R400 to R406) -/

theorem Live.patrolCycleStart_begins (hon : a.patrolled b = true) (hphase : a.get (F.BK_STATUS_PHASE b) = 0)
    (hdue : (a.bank b).cycleAt ≤ a.now) : ∃ u, Gives (.patrolCycleStart t b) s u ∧ u.get (F.BK_STATUS_PHASE b) = 1 ∧
      (u.bank b).phaseAt = a.now ∧
      u.get (F.BK_STATUS_SEGMENT b) = (a.bank b).next % 2 ^ (F.BK_STATUS_SEGMENT b).width := by
  have hstep := h.gives_of_coreStep (exec_patrolCycleStart t b s)
  dsimp only at hstep
  rw [if_pos ⟨hb, hon, hphase, hdue⟩] at hstep
  obtain ⟨-, -, hfit, hseg, -⟩ := fits_bankStatus b
  obtain ⟨-, hclear, -⟩ := clearOf_bankStatus b hb
  refine ⟨_, hstep, ?_, by rw [State.bank_setBank_same], ?_⟩
  · rw [State.get_setBank, ((SameField.refl _ _).set hclear (by simp) _).get, State.get_set_same _ _ _ hfit]
    rfl
  · rw [State.get_setBank, State.get_set_same _ _ _ hseg]

theorem Live.gives_patrolPhaseEnd (fault : Bool) (bad : List (Nat × List Nat)) (suppressed : Nat) :
    Gives (.patrolPhaseEnd t b fault bad suppressed) s (a.endPhase b fault bad suppressed) := by
  have hstep := h.gives_of_coreStep (exec_patrolPhaseEnd t b fault bad suppressed s)
  rwa [if_pos hb] at hstep

end

section
variable (s : State) {b : Nat}

/-- A cycle that ends changes the phase of its bank and the counts of its passes alone. -/
theorem State.endCycle_shows (hb : b < 22) : (s.endCycle b).get (F.BK_STATUS_PHASE b) = 0 ∧
    SameField (F.BK_STATUS_REPAIR_USED b) s (s.endCycle b) ∧ (s.endCycle b).health = s.health := by
  obtain ⟨-, hphase, hused, -⟩ := clearOf_bankStatus b hb
  obtain ⟨-, -, hfit, -⟩ := fits_bankStatus b
  have hset := (s.get_set_same (F.BK_STATUS_PHASE b) 0 hfit).trans (Nat.zero_mod _)
  have hkept := (SameField.refl (F.BK_STATUS_REPAIR_USED b) s).set hused (f := F.BK_STATUS_PHASE b) (by simp) 0
  unfold State.endCycle
  extract_lets n s1
  split
  · exact ⟨hset, hkept.of_regs (State.regs_setBank ..), rfl⟩
  · refine ⟨?_, ((hkept.bump hused (by simp) 1).bump hused (by simp) 1).of_regs (State.regs_setBank ..), by simp [s1]⟩
    rw [State.get_setBank, (((SameField.refl _ s1).bump hphase (by simp) 1).bump hphase (by simp) 1).get, hset]

/-- The first fault of a bank: its repair spare is in use, and limp condition 6 is raised. -/
theorem State.useRepair_shows (hb : b < 22) : (s.useRepair b).flag (F.BK_STATUS_REPAIR_USED b) = true ∧
    (6, b + 32 * s.get (F.BK_STATUS_SEGMENT b)) ∈ (s.useRepair b).health.limps := by
  obtain ⟨-, -, hused, -⟩ := clearOf_bankStatus b hb
  obtain ⟨-, -, -, -, hfit, -⟩ := fits_bankStatus b
  have hset := s.get_set_same (F.BK_STATUS_REPAIR_USED b) 1 hfit
  have hlow : 0xB0004 + 0x10 * b < 0xE0000 := by omega
  unfold State.useRepair
  extract_lets seg s1
  have hmarks : SameField (F.BK_STATUS_REPAIR_USED b) (s.set (F.BK_STATUS_REPAIR_USED b) 1) s1 :=
    ((SameField.refl _ _).set hused (by simp) _).set hused (by simp) _
  refine ⟨?_, State.mem_limps_limpRaise _ _ _⟩
  rw [SameAt.flag ((SameAt.refl _ _).limpRaise _ _ hlow), (hmarks.cause hused (by simp) 1).flag,
    State.flag_of_get _ hset]
  rfl

/-- The second fault: the patrol spare is in use, patrol of the bank has ended, and limp condition 7 is raised. -/
theorem State.usePatrol_shows (hb : b < 22) : (s.usePatrol b).get (F.BK_STATUS_PHASE b) = 0 ∧
    (s.usePatrol b).flag (F.BK_STATUS_PATROL_USED b) = true ∧
    (7, b + 32 * s.get (F.BK_STATUS_SEGMENT b)) ∈ (s.usePatrol b).health.limps := by
  obtain ⟨-, -, -, hused, hphase⟩ := clearOf_bankStatus b hb
  obtain ⟨-, -, hfit, -, -, hfit'⟩ := fits_bankStatus b
  have hset := s.get_set_same (F.BK_STATUS_PATROL_USED b) 1 hfit'
  have hlow : 0xB0004 + 0x10 * b < 0xE0000 := by omega
  unfold State.usePatrol
  extract_lets seg s1
  have hmarks : SameField (F.BK_STATUS_PATROL_USED b) (s.set (F.BK_STATUS_PATROL_USED b) 1) (s1.set (F.BK_STATUS_PHASE b) 0) :=
    (((SameField.refl _ _).set hused (by simp) _).set hused (by simp) _).set hused (by simp) 0
  refine ⟨?_, ?_, State.mem_limps_limpRaise _ _ _⟩
  · rw [SameAt.get ((SameAt.refl _ _).limpRaise _ _ hlow), ((SameField.refl _ _).cause hphase (by simp) 1).get,
      State.get_set_same _ _ _ hfit, Nat.zero_mod]
  · rw [SameAt.flag ((SameAt.refl _ _).limpRaise _ _ hlow), (hmarks.cause hused (by simp) 1).flag,
      State.flag_of_get _ hset]
    rfl

end

end Sys2Proof.Machine
end

section
/-! The phases of a segment cycle, a round of programming and the re-sense, and the events of the Pantry and of the fuses together
(R394 to R398, R400 to R406, R440, R449 to R451). -/

namespace Sys2Proof.Machine

/-! ### The phases of a segment cycle (R401, R405, R406) -/

/-- A phase of a segment cycle begins now. -/
def State.beginPhase (s : State) (b ph : Nat) : State :=
  (s.set (F.BK_STATUS_PHASE b) ph).setBank b { s.bank b with phaseAt := s.now }

section
variable (s : State) {b : Nat} (fault : Bool) (bad : List (Nat × List Nat)) (suppressed : Nat)

theorem State.beginPhase_shows {ph : Nat} (hph : ph < 8) : (s.beginPhase b ph).get (F.BK_STATUS_PHASE b) = ph ∧
    ((s.beginPhase b ph).bank b).phaseAt = s.now := by
  obtain ⟨-, -, hfit, -⟩ := fits_bankStatus b
  refine ⟨?_, by rw [State.beginPhase, State.bank_setBank_same]⟩
  rw [State.beginPhase, State.get_setBank, State.get_set_same _ _ _ hfit]
  exact Nat.mod_eq_of_lt hph

/-- COPY is followed by REDIRECT. -/
theorem State.endPhase_copy (hphase : s.get (F.BK_STATUS_PHASE b) = 1) :
    s.endPhase b fault bad suppressed = ((s.copySegment b bad).bump F.PANTRY_COPY_SUPPRESS suppressed).beginPhase b 2 := by
  rw [State.endPhase, hphase]
  rfl

/-- REDIRECT is followed by TEST. -/
theorem State.endPhase_redirect (hphase : s.get (F.BK_STATUS_PHASE b) = 2) :
    s.endPhase b fault bad suppressed = s.beginPhase b 3 := by
  rw [State.endPhase, hphase]
  rfl

/-- RESTORE is followed by RELEASE. -/
theorem State.endPhase_restore (hphase : s.get (F.BK_STATUS_PHASE b) = 4) :
    s.endPhase b fault bad suppressed = (s.bump F.PANTRY_COPY_SUPPRESS suppressed).beginPhase b 5 := by
  rw [State.endPhase, hphase]
  rfl

/-- RELEASE ends the cycle, and the repair spare is in use from then on where the test found a fault. -/
theorem State.endPhase_release (hphase : s.get (F.BK_STATUS_PHASE b) = 5) :
    s.endPhase b fault bad suppressed = (if (s.bank b).fault = true then s.useRepair b else s).endCycle b := by
  rw [State.endPhase, hphase]
  rfl

theorem State.endPhase_release_shows (hb : b < 22) (hphase : s.get (F.BK_STATUS_PHASE b) = 5) :
    (s.endPhase b fault bad suppressed).get (F.BK_STATUS_PHASE b) = 0 ∧ ((s.bank b).fault = true →
      (s.endPhase b fault bad suppressed).flag (F.BK_STATUS_REPAIR_USED b) = true ∧
        (6, b + 32 * s.get (F.BK_STATUS_SEGMENT b)) ∈ (s.endPhase b fault bad suppressed).health.limps) := by
  obtain ⟨hended, hkept, hhealth⟩ := (if (s.bank b).fault = true then s.useRepair b else s).endCycle_shows hb
  obtain ⟨hused, hlimp⟩ := s.useRepair_shows hb
  rw [s.endPhase_release fault bad suppressed hphase]
  refine ⟨hended, fun hfault => ?_⟩
  rw [hkept.flag, hhealth, if_pos hfault]
  exact ⟨hused, hlimp⟩

section
variable (hphase : s.get (F.BK_STATUS_PHASE b) = 3) (htested : (s.bank b).phaseAt + 1600 ≤ s.now)
include hphase htested

/-- A test that finds no fault is followed by RESTORE. -/
theorem State.endPhase_test_passed : s.endPhase b false bad suppressed = s.beginPhase b 4 := by
  rw [State.endPhase, hphase]
  exact if_neg (Nat.not_lt.2 htested)

/-- The first fault of a bank is kept until RELEASE. -/
theorem State.endPhase_test_failed (hspare : s.flag (F.BK_STATUS_REPAIR_USED b) = false) : s.endPhase b true bad suppressed =
    (s.beginPhase b 4).setBank b { s.bank b with phaseAt := s.now, fault := true } := by
  rw [State.endPhase, hphase]
  exact (if_neg (Nat.not_lt.2 htested)).trans ((if_neg (by decide)).trans (if_neg (by rw [hspare]; exact Bool.false_ne_true)))

/-- The second fault of a bank ends its patrol. -/
theorem State.endPhase_test_exhausted (hused : s.flag (F.BK_STATUS_REPAIR_USED b) = true) :
    s.endPhase b true bad suppressed = s.usePatrol b := by
  rw [State.endPhase, hphase]
  exact (if_neg (Nat.not_lt.2 htested)).trans ((if_neg (by decide)).trans (if_pos hused))

theorem State.endPhase_test_failed_shows (hb : b < 22) :
    (s.flag (F.BK_STATUS_REPAIR_USED b) = false → (s.endPhase b true bad suppressed).get (F.BK_STATUS_PHASE b) = 4 ∧
      ((s.endPhase b true bad suppressed).bank b).fault = true) ∧
    (s.flag (F.BK_STATUS_REPAIR_USED b) = true → (s.endPhase b true bad suppressed).get (F.BK_STATUS_PHASE b) = 0 ∧
      (s.endPhase b true bad suppressed).flag (F.BK_STATUS_PATROL_USED b) = true ∧
      (7, b + 32 * s.get (F.BK_STATUS_SEGMENT b)) ∈ (s.endPhase b true bad suppressed).health.limps) := by
  refine ⟨fun hspare => ?_, fun hused => ?_⟩
  · obtain ⟨hshown, -⟩ := s.beginPhase_shows (b := b) (show 4 < 8 by decide)
    rw [s.endPhase_test_failed bad suppressed hphase htested hspare, State.get_setBank, State.bank_setBank_same]
    exact ⟨hshown, rfl⟩
  · rw [s.endPhase_test_exhausted bad suppressed hphase htested hused]
    exact s.usePatrol_shows hb

end

end

/-- What the end of each phase of a segment cycle leads to. -/
theorem Live.patrolPhaseEnd_ends {s a : State} {t b : Nat} (h : Live s t a) (hb : b < 22) (fault : Bool)
    (bad : List (Nat × List Nat)) (suppressed : Nat) : ∃ u, Gives (.patrolPhaseEnd t b fault bad suppressed) s u ∧
      (a.get (F.BK_STATUS_PHASE b) = 1 → u.get (F.BK_STATUS_PHASE b) = 2) ∧
      (a.get (F.BK_STATUS_PHASE b) = 2 → u.get (F.BK_STATUS_PHASE b) = 3 ∧ (u.bank b).phaseAt = a.now) ∧
      (a.get (F.BK_STATUS_PHASE b) = 3 → (a.bank b).phaseAt + 1600 ≤ a.now → fault = false → u.get (F.BK_STATUS_PHASE b) = 4) ∧
      (a.get (F.BK_STATUS_PHASE b) = 3 → (a.bank b).phaseAt + 1600 ≤ a.now → fault = true →
        (a.flag (F.BK_STATUS_REPAIR_USED b) = false → u.get (F.BK_STATUS_PHASE b) = 4 ∧ (u.bank b).fault = true) ∧
        (a.flag (F.BK_STATUS_REPAIR_USED b) = true → u.get (F.BK_STATUS_PHASE b) = 0 ∧
          u.flag (F.BK_STATUS_PATROL_USED b) = true ∧ (7, b + 32 * a.get (F.BK_STATUS_SEGMENT b)) ∈ u.health.limps)) ∧
      (a.get (F.BK_STATUS_PHASE b) = 4 → u.get (F.BK_STATUS_PHASE b) = 5) ∧
      (a.get (F.BK_STATUS_PHASE b) = 5 → u.get (F.BK_STATUS_PHASE b) = 0 ∧ ((a.bank b).fault = true →
        u.flag (F.BK_STATUS_REPAIR_USED b) = true ∧ (6, b + 32 * a.get (F.BK_STATUS_SEGMENT b)) ∈ u.health.limps)) := by
  refine ⟨_, h.gives_patrolPhaseEnd hb fault bad suppressed, fun hphase => ?_, fun hphase => ?_, fun hphase htested hgood => ?_,
    fun hphase htested hfault => ?_, fun hphase => ?_, a.endPhase_release_shows fault bad suppressed hb⟩
  · rw [a.endPhase_copy fault bad suppressed hphase]
    exact (State.beginPhase_shows _ (by decide)).1
  · rw [a.endPhase_redirect fault bad suppressed hphase]
    exact State.beginPhase_shows _ (by decide)
  · subst hgood
    rw [a.endPhase_test_passed bad suppressed hphase htested]
    exact (State.beginPhase_shows _ (by decide)).1
  · subst hfault
    exact a.endPhase_test_failed_shows bad suppressed hphase htested hb
  · rw [a.endPhase_restore fault bad suppressed hphase]
    exact (State.beginPhase_shows _ (by decide)).1

/-! ### Operations that leave the fuses -/

section
variable (s : State)

@[simp] theorem State.otp_cause (f : Fld) (v : Nat) : (s.cause f v).otp = s.otp := by
  obtain ⟨l, hl⟩ := sendNewMsi_sent s (s.set f (s.get f ||| v))
  rw [State.cause, hl]
  rfl

@[simp] theorem State.otp_queueHealth (e : HealthEvent) : (s.queueHealth e).otp = s.otp := by
  unfold State.queueHealth
  split <;> simp

@[simp] theorem State.otp_limpRaise (code inst : Nat) : (s.limpRaise code inst).otp = s.otp := by
  unfold State.limpRaise
  split
  · rfl
  · dsimp only
    split <;> simp

@[simp] theorem State.otp_marginalLimp (w : Nat) : (s.marginalLimp w).otp = s.otp := by
  unfold State.marginalLimp
  dsimp only
  split <;> simp

@[simp] theorem State.otp_showMarginal : s.showMarginal.otp = s.otp := by simp [State.showMarginal, State.set64]

@[simp] theorem State.otp_otpResult (w via result rounds cause missing : Nat) :
    (s.otpResult w via result rounds cause missing).otp = s.otp := by simp [State.otpResult]

/-! ### Programming (R449, R450) -/

/-- Of the bits pulsed in a round, those that take read 1 from then on, at one reference or at both. -/
theorem State.otpCell_otpRound (x : OtpProg) (tight nominal : Nat) {pulsed : Nat}
    (hpulsed : pulsed = x.want &&& ((2 ^ 39 - 1) ^^^ (s.otpCell x.word).2)) :
    (s.otpRound x tight nominal).2.otpCell x.word =
      ((s.otpCell x.word).1 ||| (pulsed &&& (nominal ||| tight)), (s.otpCell x.word).2 ||| (pulsed &&& tight)) := by
  subst hpulsed
  unfold State.otpRound
  extract_lets c pulsed c' y fuses s1 missing cause result cause' fuses' s2 s3 s4 s5
  have hprogrammed : s1.otp.cells.get (0, 0) x.word = c' := Tbl.get_set_same _ _ _ _
  have hended : s4.otp = s2.otp := by simp [s4, s3, State.showFloor]
  split
  · exact hprogrammed
  · show s5.otp.cells.get (0, 0) x.word = c'
    have hlast : s5.otp = s2.otp := by
      rw [← hended]
      unfold s5
      split <;> simp
    rw [hlast]
    exact hprogrammed

end

/-! ### The re-sense (R440, R442) -/

/-- The re-sense has come to word `w`, which reads as given from now on, and goes on to the next, from the last to the first. -/
def State.sensed (s : State) (w : Nat) (c : Nat × Nat) : State :=
  let s1 : State := { s with otp := { s.otp with cells := s.otp.cells.set (0, 0) w (c.1 % 2 ^ 39, c.2 % 2 ^ 39) } }
  if w = 2047 then (s1.set F.OTP_RESENSE_POSITION 0).bump F.OTP_RESENSE_PASSES else s1.set F.OTP_RESENSE_POSITION (w + 1)

/-- Word `w` is marginal from now on. -/
def State.markMarginal (s : State) (w : Nat) : State :=
  if s.otp.marginal.contains w then s
  else
    let s1 : State := { s with otp := { s.otp with marginal := s.otp.marginal ++ [w] } }
    (s1.showMarginal.marginalLimp w).cause (if otpCopy w then F.OTP_INT_STATUS_CRIT_MARGINAL else F.OTP_INT_STATUS_MARGINAL)

/-- A word reads otherwise than expected. -/
def State.senseDiffers (s : State) (w : Nat) : State :=
  ((s.bump F.OTP_RESENSE_DIFF).cause F.OTP_INT_STATUS_RESENSE_DIFF).markMarginal w

section
variable {s u : State} {off : Nat}

/-- The registers in which marginal words are shown. -/
def marginalRegs : List Nat := [F.OTP_MARGINAL.off, F.OTP_FIRST_MARGINAL.off, F.OTP_CRIT_MARGINAL_LO.off,
  F.OTP_CRIT_MARGINAL_HI.off, F.OTP_INT_STATUS.off]

theorem SameAt.markMarginal (h : SameAt off s u) (hoff : off ∉ marginalRegs) (hlow : off < 0xE0000) (w : Nat) :
    SameAt off s (u.markMarginal w) := by
  simp only [marginalRegs, List.mem_cons, List.not_mem_nil, or_false, not_or] at hoff
  obtain ⟨hwords, hfirst, hcritLo, hcritHi, hint⟩ := hoff
  unfold State.markMarginal
  extract_lets fuses s1
  have h1 : SameAt off s s1 := h
  have hshown : SameAt off s s1.showMarginal := by
    unfold State.showMarginal State.set64
    extract_lets l crit s2 s3
    have h3 : SameAt off s s3 := (((h1.set (f := F.OTP_MARGINAL_WORDS) _ hwords).set (f := F.OTP_MARGINAL_COPIES) _ hwords).set
      (f := F.OTP_FIRST_MARGINAL_WORD) _ hfirst).set (f := F.OTP_FIRST_MARGINAL_VALID) _ hfirst
    exact (h3.set _ hcritLo).set _ hcritHi
  have hlimp : SameAt off s (s1.showMarginal.marginalLimp w) := by
    unfold State.marginalLimp
    exact .ite (hshown.limpRaise _ _ hlow) (hshown.limpRaise _ _ hlow)
  refine .ite h (hlimp.cause _ ?_)
  split
  · exact hint
  · exact hint
theorem SameAt.senseDiffers (s : State) (w : Nat) : SameAt F.OTP_RESENSE_POSITION.off s (s.senseDiffers w) :=
  SameAt.markMarginal (((SameAt.refl s _).bump _ (by decide)).cause _ (by decide)) (by decide) (by decide) w

end

section
variable (s : State) (w : Nat)

theorem State.otpResense_eq (hidle : s.otp.prog = none) (read : Option (Nat × Nat)) (hw : w = s.get F.OTP_RESENSE_POSITION)
    {u : State} (hu : u = s.sensed w (read.getD (s.otpCell w))) :
    s.otpResense read = if (u.otpCell w).2 = u.otp.expected.get 0 w ∧ (u.otpCell w).1 = (u.otpCell w).2 then u
      else u.senseDiffers w := by
  subst hu hw
  unfold State.otpResense
  rw [if_neg (by rw [hidle]; exact Bool.false_ne_true)]
  rfl

theorem State.otp_sensed (c : Nat × Nat) : (s.sensed w c).otp =
    { s.otp with cells := s.otp.cells.set (0, 0) w (c.1 % 2 ^ 39, c.2 % 2 ^ 39) } := by
  unfold State.sensed
  split <;> rfl

theorem State.get_position_sensed (c : Nat × Nat) :
    (s.sensed w c).get F.OTP_RESENSE_POSITION = (w + 1) % 2048 := by
  have hclear : F.OTP_RESENSE_POSITION.clearOf [F.OTP_RESENSE_PASSES] = true := by decide
  have hfit : F.OTP_RESENSE_POSITION.lo + F.OTP_RESENSE_POSITION.width ≤ 32 := by decide
  unfold State.sensed
  split
  next hlast =>
    rw [((SameField.refl _ _).bump hclear (by simp) 1).get, State.get_set_same _ _ _ hfit, hlast]
    rfl
  · exact State.get_set_same _ _ _ hfit

theorem State.mem_marginal_markMarginal : (s.markMarginal w).otp.marginal.contains w = true := by
  unfold State.markMarginal
  split
  next hmem => exact hmem
  · simp

theorem State.get_diff_senseDiffers : (s.senseDiffers w).get F.OTP_RESENSE_DIFF =
    min (s.get F.OTP_RESENSE_DIFF + 1) (2 ^ F.OTP_RESENSE_DIFF.width - 1) := by
  have hkept : SameAt F.OTP_RESENSE_DIFF.off (s.bump F.OTP_RESENSE_DIFF) (s.senseDiffers w) :=
    SameAt.markMarginal ((SameAt.refl _ _).cause _ (by decide)) (by decide) (by decide) w
  rw [hkept.get, s.get_bump_one _ (by decide)]

section
variable (hidle : s.otp.prog = none)
include hidle

theorem State.otpResense_advances (read : Option (Nat × Nat)) :
    (s.otpResense read).get F.OTP_RESENSE_POSITION = (s.get F.OTP_RESENSE_POSITION + 1) % 2048 := by
  rw [s.otpResense_eq _ hidle read rfl rfl, (SameAt.ite (.refl _ _) (SameAt.senseDiffers _ _)).get,
    s.get_position_sensed]

/-- A word that reads otherwise than expected is counted, and marginal from then on. -/
theorem State.otpResense_differs {c : Nat} (hw : w = s.get F.OTP_RESENSE_POSITION) (hc : c < 2 ^ 39)
    (hne : s.otp.expected.get 0 w ≠ c) : (s.otpResense (some (c, c))).otp.marginal.contains w = true ∧
      (s.otpResense (some (c, c))).get F.OTP_RESENSE_DIFF =
        min (s.get F.OTP_RESENSE_DIFF + 1) (2 ^ F.OTP_RESENSE_DIFF.width - 1) := by
  have hcell : ((s.sensed w (c, c)).otpCell w).2 = c := by
    rw [State.otpCell, State.otp_sensed, Tbl.get_set_same]
    exact Nat.mod_eq_of_lt hc
  have hexpected : (s.sensed w (c, c)).otp.expected = s.otp.expected := by rw [State.otp_sensed]
  have hdiff : SameAt F.OTP_RESENSE_DIFF.off s (s.sensed w (c, c)) := by
    unfold State.sensed
    extract_lets fuses s1
    have h1 : SameAt F.OTP_RESENSE_DIFF.off s s1 := .refl _ _
    exact .ite ((h1.set _ (by decide)).bump _ (by decide)) (h1.set _ (by decide))
  rw [s.otpResense_eq w hidle _ hw rfl, Option.getD_some, if_neg (by rw [hcell, hexpected]; exact fun h => hne h.1.symm)]
  exact ⟨State.mem_marginal_markMarginal _ w, by rw [State.get_diff_senseDiffers, hdiff.get]⟩

end

end

section
variable {s a : State} {t : Nat} (h : Live s t a)
include h

theorem Live.gives_otpProgramRound_more {x : OtpProg} {tight nominal : Nat} {v : State} (hprog : a.otp.prog = some x)
    (hround : a.otpRound x tight nominal = (none, v)) : Gives (.otpProgramRound t tight nominal) s v := by
  have hstep := h.gives_of_coreStep (exec_otpProgramRound t tight nominal s)
  simpa only [hprog, hround] using hstep

theorem Live.gives_otpProgramRound_last {x : OtpProg} {tight nominal r c : Nat} {v : State} (hprog : a.otp.prog = some x)
    (hround : a.otpRound x tight nominal = (some (r, c), v)) : Gives (.otpProgramRound t tight nominal) s (v.otpEnded x r c) := by
  have hstep := h.gives_of_coreStep (exec_otpProgramRound t tight nominal s)
  simpa only [hprog, hround] using hstep

theorem Live.gives_otpResense (read : Option (Nat × Nat)) : Gives (.otpResense t read) s (a.otpResense read) :=
  h.gives_of_coreStep (exec_otpResense t read s)

end

/-- Settles O57: an access by what its bank and its word are, then the events of a bank one after the other, and those of the
fuses. -/
theorem pantryAndFuseCommandsTakeEffect : Obligations.PantryAndFuseCommandsTakeEffect := by
  intro s a t h
  refine ⟨?_, fun b hb => ?_, fun x tight nominal hprog => ?_, fun read w hidle hw => ?_⟩
  · rintro addr user _ _ rfl rfl haddr hon
    exact ⟨fun hwake hrest hclean => ⟨h.pantryRead_clean haddr hon hwake hrest hclean,
        fun k hk => h.pantryRead_corrects haddr hon hwake hrest hclean hk,
        fun j k hj hk hne => h.pantryRead_fails haddr hon hwake hrest hclean hj hk hne,
        fun enables data => h.pantryPartialWrite_writes haddr hon hwake hrest hclean enables data⟩,
      fun hwake hrest => h.pantryRead_wakes haddr hon hwake hrest, fun hwake => h.pantryRead_queues haddr hon hwake⟩
  · exact ⟨fun p hp hrest hwake hphase hon hidle => h.bankRest_rests hb hp hrest hwake hphase hon hidle,
      fun w hw hdue => h.bankWakeComplete_serves hb hw hdue, fun hfill => h.bankFillComplete_fills hb hfill,
      fun hon hphase hdue => h.patrolCycleStart_begins hb hon hphase hdue,
      fun fault bad suppressed => h.patrolPhaseEnd_ends hb fault bad suppressed⟩
  · exact ⟨fun v hround => h.gives_otpProgramRound_more hprog hround, fun r c v hround => h.gives_otpProgramRound_last hprog hround,
      fun pulsed hpulsed => a.otpCell_otpRound x tight nominal hpulsed⟩
  · subst hw
    refine ⟨_, h.gives_otpResense read, a.otpResense_advances hidle read, ?_⟩
    rintro c rfl hc hne
    exact a.otpResense_differs _ hidle rfl hc hne

end Sys2Proof.Machine
end

section
/-! The slots of a program: what a channel that is ready does with the slot at its PC, and the waits (R410 to R419). -/

namespace Sys2Proof.Machine

/-! ### Channels and their status -/

section
variable (s : State) (m : Nat)

@[simp] theorem State.gchan_setGchan_same (c : GenChan) : (s.setGchan m c).gchan m = c := Tbl.get_set_same _ _ _ _

@[simp] theorem State.gchan_set (f : Fld) (v k : Nat) : (s.set f v).gchan k = s.gchan k := rfl

@[simp] theorem State.gchan_bump (f : Fld) (n k : Nat) : (s.bump f n).gchan k = s.gchan k := rfl

@[simp] theorem State.gchan_gcState (v k : Nat) : (s.gcState m v).gchan k = s.gchan k := rfl

@[simp] theorem State.get_setGchan (c : GenChan) (f : Fld) : (s.setGchan m c).get f = s.get f := rfl

@[simp] theorem State.gchan_cause (f : Fld) (v k : Nat) : (s.cause f v).gchan k = s.gchan k := by
  obtain ⟨l, hl⟩ := sendNewMsi_sent s (s.set f (s.get f ||| v))
  rw [State.cause, hl]
  rfl

/-- STATE shows what the channel does. -/
theorem State.get_gcState {v : Nat} (hv : v < 8) : (s.gcState m v).get (F.GC_STATUS_STATE m) = v := by
  rw [State.gcState, State.get_set_same _ _ _ (by simp [F.GC_STATUS_STATE])]
  exact Nat.mod_eq_of_lt hv

/-- PC shows the slot that is next. -/
theorem State.get_set_pc {v : Nat} (hv : v < 4096) : (s.set (F.GC_STATUS_PC m) v).get (F.GC_STATUS_PC m) = v := by
  rw [State.get_set_same _ _ _ (by simp [F.GC_STATUS_PC])]
  exact Nat.mod_eq_of_lt hv

theorem clearOf_gcState : (F.GC_STATUS_PC m).clearOf [F.GC_STATUS_STATE m] = true := by
  simp [Fld.clearOf, F.GC_STATUS_PC, F.GC_STATUS_STATE]

theorem clearOf_gcStatus : (F.GC_PROG m).clearOf [F.GC_HOST_BASE m, F.GC_STATUS_FAULT_ITER m, F.GC_STATUS_PC m,
    F.GC_STATUS_STATE m] = true := by
  simp [Fld.clearOf, F.GC_PROG, F.GC_HOST_BASE, F.GC_STATUS_FAULT_ITER, F.GC_STATUS_PC, F.GC_STATUS_STATE]

end

/-! ### The slot at the PC (R410) -/

section
variable {s b : State} {m : Nat} (hready : s.slotReady m = true)
include hready

theorem State.onSlot_read {x : Slot} {ops : Nat → Bool} (hslot : s.fetchSlot m (s.get (F.GC_STATUS_PC m)) = (.ok x, b))
    (hop : ops x.op = true) (f : Slot → State → State) (unread : Bool) : s.onSlot m ops f unread = f x b := by
  rw [State.onSlot, if_pos hready, hslot]
  exact if_pos hop

theorem State.onSlot_unread {e : DwCause} (hslot : s.fetchSlot m (s.get (F.GC_STATUS_PC m)) = (.error e, b)) (ops : Nat → Bool)
    (f : Slot → State → State) : s.onSlot m ops f true = b.skipBad m 1 e false := by
  rw [State.onSlot, if_pos hready, hslot]
  rfl

end

/-- A transfer that passes its checks is under way. -/
theorem State.execMove_starts {b c : State} {m : Nat} {x : Slot} {mv mv' : Moving} (hop : x.op = 1 ∨ x.op = 3 ∨ x.op = 5)
    (hmoving : (b.gchan m).moving (b.get (F.GC_STATUS_PC m)) x [] = some mv)
    (hstart : b.startMove m mv (bitOf x.flags 1) = (.ok mv', c)) : ((b.execMove m x).gchan m).cur = some mv' := by
  have hone : decide (x.op = 2 ∨ x.op = 4 ∨ x.op = 6) = false := by
    rw [decide_eq_false_iff_not]
    omega
  simp [State.execMove, hone, hmoving, hstart]

/-- A LOOP that is well formed opens its body, as the innermost. -/
theorem State.execLoop_opens {b : State} {m : Nat} {x : Slot} {body : Nat} (hflags : x.flags = 0)
    (hbody : body = x.src / 2 ^ 32 + 256 * (x.dst / 2 ^ 32 % 16)) (hpos : 1 ≤ body)
    (hfits : b.get (F.GC_STATUS_PC m) + body ≤ 4095) (hcount : 1 ≤ x.count) (hdepth : (b.gchan m).loops.length < 4) :
    (b.execLoop m x).get (F.GC_STATUS_PC m) = b.get (F.GC_STATUS_PC m) + 1 ∧
      ∃ l, ((b.execLoop m x).gchan m).loops = l :: (b.gchan m).loops ∧ l.count = x.count ∧
        l.last = b.get (F.GC_STATUS_PC m) + body := by
  unfold State.execLoop
  extract_lets c pc body' l
  subst hbody
  rw [if_neg (by omega), if_neg (show ¬ (x.count = 0 ∨ 4 ≤ (b.gchan m).loops.length) by omega)]
  exact ⟨State.get_set_pc _ m (by omega), l, by rw [State.gchan_set, State.gchan_setGchan_same], rfl, rfl⟩

section
variable {s a b : State} {t m : Nat} {x : Slot} (h : Live s t a) (hready : a.slotReady m = true)
include h hready

/-- A slot that cannot be read is BAD and passed over. -/
theorem Live.gives_dwNop_unread {e : DwCause} (hslot : a.fetchSlot m (a.get (F.GC_STATUS_PC m)) = (.error e, b)) :
    Gives (.dwNop t m) s (b.skipBad m 1 e false) := by
  have hstep := h.gives_of_coreStep (exec_dwNop t m s)
  rwa [State.onSlot_unread hready hslot] at hstep

variable (hslot : a.fetchSlot m (a.get (F.GC_STATUS_PC m)) = (.ok x, b))
include hslot

/-- A row that executes slots executes the slot at the PC when its OP is one that it takes. -/
theorem Live.gives_onSlot {c : Instr} {ops : Nat → Bool} {f : Slot → State → State} {unread : Bool}
    (hc : exec c s = coreStep t (fun s => s.onSlot m ops f unread) s) (hop : ops x.op = true) : Gives c s (f x b) := by
  have hstep := h.gives_of_coreStep hc
  rwa [State.onSlot_read hready hslot hop] at hstep

theorem Live.gives_dwNop (hop : x.op = 0) (hflags : x.flags = 0) : Gives (.dwNop t m) s (b.advanceSlot m 1) := by
  have hstep := h.gives_onSlot hready hslot (exec_dwNop t m s) (by simp [hop])
  rwa [if_pos ⟨hop, hflags⟩] at hstep

/-- An OP that names no instruction, and a NOP with flags, are BAD and passed over. -/
theorem Live.gives_dwNop_illegal (hop : x.op = 0 ∧ x.flags ≠ 0 ∨ 11 ≤ x.op ∧ x.op ≤ 14) :
    Gives (.dwNop t m) s (b.skipBad m 1 .illegal false) := by
  have hstep := h.gives_onSlot hready hslot (exec_dwNop t m s) (decide_eq_true (by omega))
  rwa [if_neg (by omega)] at hstep

theorem Live.gives_dwMove (hop : x.op = 1) : Gives (.dwMove t m) s (b.execMove m x) :=
  h.gives_onSlot hready hslot (exec_dwMove t m s) (decide_eq_true hop)

theorem Live.gives_dwMove2d (hop : x.op = 2) : Gives (.dwMove2d t m) s (b.execMove m x) :=
  h.gives_onSlot hready hslot (exec_dwMove2d t m s) (decide_eq_true hop)

theorem Live.gives_dwFill (hop : x.op = 3) : Gives (.dwFill t m) s (b.execMove m x) :=
  h.gives_onSlot hready hslot (exec_dwFill t m s) (decide_eq_true hop)

theorem Live.gives_dwFill2d (hop : x.op = 4) : Gives (.dwFill2d t m) s (b.execMove m x) :=
  h.gives_onSlot hready hslot (exec_dwFill2d t m s) (decide_eq_true hop)

theorem Live.gives_dwCmp (hop : x.op = 5) : Gives (.dwCmp t m) s (b.execMove m x) :=
  h.gives_onSlot hready hslot (exec_dwCmp t m s) (decide_eq_true hop)

theorem Live.gives_dwCmp2d (hop : x.op = 6) : Gives (.dwCmp2d t m) s (b.execMove m x) :=
  h.gives_onSlot hready hslot (exec_dwCmp2d t m s) (decide_eq_true hop)

/-! ### LOOP and END (R413, R416) -/

theorem Live.dwLoop_opens {body : Nat} (hop : x.op = 7) (hflags : x.flags = 0)
    (hbody : body = x.src / 2 ^ 32 + 256 * (x.dst / 2 ^ 32 % 16)) (hpos : 1 ≤ body)
    (hfits : b.get (F.GC_STATUS_PC m) + body ≤ 4095) (hcount : 1 ≤ x.count) (hdepth : (b.gchan m).loops.length < 4) :
    ∃ u, Gives (.dwLoop t m) s u ∧ u.get (F.GC_STATUS_PC m) = b.get (F.GC_STATUS_PC m) + 1 ∧
      ∃ l, (u.gchan m).loops = l :: (b.gchan m).loops ∧ l.count = x.count ∧ l.last = b.get (F.GC_STATUS_PC m) + body := by
  exact ⟨_, h.gives_onSlot hready hslot (exec_dwLoop t m s) (decide_eq_true hop),
    State.execLoop_opens hflags hbody hpos hfits hcount hdepth⟩

theorem Live.dwEnd_ends (hop : x.op = 15) (hflags : x.flags = 0) : ∃ u, Gives (.dwEnd t m) s u ∧
    (u.gchan m).running = false ∧ u.get (F.GC_STATUS_STATE m) = 5 := by
  have hstep := h.gives_onSlot hready hslot (exec_dwEnd t m s) (decide_eq_true hop)
  rw [if_neg (not_not.2 hflags)] at hstep
  exact ⟨_, hstep, by rw [State.gchan_gcState, State.gchan_setGchan_same], State.get_gcState _ m (by decide)⟩

/-! ### WAIT, SIGNAL and FENCE (R418, R419) -/

section
variable {k : Nat} (hk : k = x.src % 64)
include hk

/-- A pulse that is latched is taken at once. -/
theorem Live.gives_dwWait_latched (hop : x.op = 8) (hflags : x.flags = 1) (hlatch : bitOf (b.gchan m).latches k = true) :
    Gives (.dwWait t m) s (b.waitDone m k) := by
  have hstep := h.gives_onSlot hready hslot (exec_dwWait t m s) (decide_eq_true hop)
  dsimp only at hstep
  rw [← hk, if_neg (by omega), if_pos ⟨hflags, hlatch⟩] at hstep
  exact hstep

theorem Live.dwWait_waits (hop : x.op = 8) (hflags : x.flags = 0 ∨ x.flags = 1 ∧ bitOf (b.gchan m).latches k = false) :
    ∃ u, Gives (.dwWait t m) s u ∧ u.get (F.GC_STATUS_STATE m) = 2 ∧ ∃ w, (u.gchan m).waiting = some w ∧ w.line = k ∧
      w.deadline = if x.count = 0 then none else some (b.now + 1000 * x.count) := by
  have hstep := h.gives_onSlot hready hslot (exec_dwWait t m s) (decide_eq_true hop)
  have hlatch : ¬ (x.flags = 1 ∧ bitOf (b.gchan m).latches k = true) := by
    rintro ⟨hone, htrue⟩
    rcases hflags with hzero | ⟨-, hfalse⟩
    · omega
    · exact Bool.false_ne_true (hfalse.symm.trans htrue)
  dsimp only at hstep
  rw [← hk, if_neg (by omega), if_neg hlatch] at hstep
  exact ⟨_, hstep, State.get_gcState _ m (by decide), _, by rw [State.gchan_gcState, State.gchan_setGchan_same], rfl, rfl⟩

theorem Live.gives_dwSignal (hop : x.op = 9) (hflags : x.flags = 0) (hline : 32 ≤ k) :
    Gives (.dwSignal t m) s ((b.pulse k).advanceSlot m 1) := by
  have hstep := h.gives_onSlot hready hslot (exec_dwSignal t m s) (decide_eq_true hop)
  dsimp only at hstep
  rwa [← hk, if_neg (by omega), if_neg (by omega)] at hstep

/-- A SIGNAL with SETTLE waits for every response before it pulses. -/
theorem Live.gives_dwSignal_settle (hop : x.op = 9) (hflags : x.flags = 1) (hline : 32 ≤ k) :
    Gives (.dwSignal t m) s (b.settleSlot m (some k)) := by
  have hstep := h.gives_onSlot hready hslot (exec_dwSignal t m s) (decide_eq_true hop)
  dsimp only at hstep
  rwa [← hk, if_neg (by omega), if_pos hflags] at hstep

end

theorem Live.gives_dwFence (hop : x.op = 10) (hflags : x.flags = 0) : Gives (.dwFence t m) s (b.settleSlot m none) := by
  have hstep := h.gives_onSlot hready hslot (exec_dwFence t m s) (decide_eq_true hop)
  rwa [if_neg (not_not.2 hflags)] at hstep

end

section
variable {s a : State} {t m : Nat} {w : Waiting} (h : Live s t a) (hm : m < 32) (hwait : (a.gchan m).waiting = some w)
include h hm hwait

theorem Live.gives_dwWaitDone (hseen : w.seen = true) : Gives (.dwWaitDone t m) s (a.waitDone m w.line) := by
  have hstep := h.gives_of_coreStep (exec_dwWaitDone t m s)
  rw [hwait] at hstep
  dsimp only at hstep
  rwa [if_pos ⟨hm, hseen⟩] at hstep

/-- A wait whose time is over is counted, and its instruction is BAD with cause TIMEOUT. -/
theorem Live.dwWaitTimeout_expires {d : Nat} (hseen : w.seen = false) (hd : w.deadline = some d) (hdue : d ≤ a.now) :
    ∃ v : State, Gives (.dwWaitTimeout t m) s (v.skipBad m 1 .timeout true) ∧ (v.gchan m).waiting = none ∧
      v.get F.DW_WAIT_TIMEOUT_TOTAL = min (a.get F.DW_WAIT_TIMEOUT_TOTAL + 1) (2 ^ F.DW_WAIT_TIMEOUT_TOTAL.width - 1) := by
  have hstep := h.gives_of_coreStep (exec_dwWaitTimeout t m s)
  rw [hwait] at hstep
  dsimp only at hstep
  rw [hd] at hstep
  dsimp only at hstep
  rw [if_pos ⟨hm, hdue, by rw [hseen]; rfl⟩] at hstep
  refine ⟨_, hstep, by rw [State.gchan_cause, State.gchan_bump, State.gchan_setGchan_same], ?_⟩
  rw [((SameAt.refl _ F.DW_WAIT_TIMEOUT_TOTAL.off).cause _ (by decide)).get, State.get_bump_one _ _ (by decide),
    State.get_setGchan]

end

end Sys2Proof.Machine
end

section
/-! Programs that start and stop, register transfers, and bursts, and the events of the Dumbwaiter together (R407, R410 to R421,
R427). -/

namespace Sys2Proof.Machine

/-! ### Programs that start and stop (R415, R416) -/

/-- The registers of channel m when a program starts on it. -/
def State.startRegs (s : State) (m prog base priority : Nat) (priv : Bool) : State :=
  let s1 := (((s.set (F.GC_CTRL_ENABLE m) 1).set (F.GC_CTRL_MODE m) 1).set (F.GC_CTRL_PRIORITY m) priority).set
    (F.GC_CTRL_PRIV m) (b2n priv)
  let s2 := ((s1.set (F.GC_PROG m) (prog / 16 * 16)).set (F.GC_HOST_BASE m) base).setReg (F.GC_FAULT_INDEX m).off 0
  ((s2.set (F.GC_STATUS_FAULT_ITER m) 0).set (F.GC_STATUS_PC m) 0).gcState m 1

theorem State.startRegs_shows (s : State) (m prog base priority : Nat) (priv : Bool) {u : State}
    (hu : u = s.startRegs m prog base priority priv) : u.get (F.GC_STATUS_PC m) = 0 ∧ u.get (F.GC_STATUS_STATE m) = 1 ∧
      u.get (F.GC_PROG m) = prog / 16 * 16 % 2 ^ (F.GC_PROG m).width := by
  subst hu
  have hclear := clearOf_gcStatus m
  unfold State.startRegs
  extract_lets s1 s2
  refine ⟨?_, State.get_gcState _ m (by decide), ?_⟩
  · rw [State.gcState, ((SameField.refl _ _).set (clearOf_gcState m) (by simp) 1).get, State.get_set_pc _ m (by decide)]
  · have hbase : SameField (F.GC_PROG m) (s1.set (F.GC_PROG m) (prog / 16 * 16)) s2 :=
      (State.get_congr _ (State.reg_setReg_other _ _ (by simp [F.GC_PROG, F.GC_FAULT_INDEX]))).trans
        ((SameField.refl _ _).set hclear (f := F.GC_HOST_BASE m) (by simp) base)
    rw [State.gcState, (((hbase.set hclear (f := F.GC_STATUS_FAULT_ITER m) (by simp) 0).set hclear (f := F.GC_STATUS_PC m)
      (by simp) 0).set hclear (f := F.GC_STATUS_STATE m) (by simp) 1).get, State.get_set_same _ _ _ (by simp [F.GC_PROG])]

/-- A channel that is stopped does nothing more. -/
theorem State.stopChan_stops (s : State) {m : Nat} (hrun : (s.gchan m).running = true) :
    (s.stopChan m).get (F.GC_STATUS_STATE m) = 4 ∧ ((s.stopChan m).gchan m).running = false ∧
      ((s.stopChan m).gchan m).cur = none := by
  unfold State.stopChan
  dsimp only
  rw [if_neg (by rw [hrun]; simp)]
  refine ⟨State.get_gcState _ m (by decide), ?_, ?_⟩
  · rw [State.gchan_gcState, State.gchan_setGchan_same]
  · rw [State.gchan_gcState, State.gchan_setGchan_same]

section
variable {s a : State} {t m : Nat} (h : Live s t a) (hm : m < 32)
include h hm

theorem Live.dwProgramStart_starts (prog base priority : Nat) (priv : Bool) (hboot : a.mode ≠ .boot)
    (hdiag : a.mode ≠ .diagnose) (hrun : (a.gchan m).running = false) (hcur : (a.gchan m).cur = none)
    (hsettle : (a.gchan m).settleFrom = none) : ∃ u, Gives (.dwProgramStart t m prog base priority priv) s u ∧
      (u.gchan m).running = true ∧ u.get (F.GC_STATUS_PC m) = 0 ∧ u.get (F.GC_STATUS_STATE m) = 1 ∧
      u.get (F.GC_PROG m) = prog / 16 * 16 % 2 ^ (F.GC_PROG m).width := by
  have hstart : Gives (.dwProgramStart t m prog base priority priv) s ((a.startRegs m prog base priority priv).setGchan m
      { a.gchan m with running := true, loops := [], sticky := {}, bads := [], faultOf := none, misOf := none }) := by
    have hstep := h.gives_of_coreStep (exec_dwProgramStart t m prog base priority priv s)
    dsimp only at hstep
    rwa [if_pos ⟨hm, hboot, hdiag, by rw [hrun]; rfl, by rw [hcur]; rfl, by rw [hsettle]; rfl⟩] at hstep
  refine ⟨_, hstart, by rw [State.gchan_setGchan_same], ?_⟩
  rw [State.get_setGchan, State.get_setGchan, State.get_setGchan]
  exact a.startRegs_shows m prog base priority priv rfl

theorem Live.dwStop_stops (hfw : a.firmwareDw = true) (hrun : (a.gchan m).running = true) :
    ∃ u, Gives (.dwStop t none m) s u ∧ u.get (F.GC_STATUS_STATE m) = 4 ∧ (u.gchan m).running = false ∧ (u.gchan m).cur = none := by
  have hstep := h.gives_of_coreStep (exec_dwStop t none m s)
  dsimp only at hstep
  rw [if_neg (Nat.not_le.2 hm), if_pos hfw] at hstep
  exact ⟨_, hstep, a.stopChan_stops hrun⟩

theorem Live.gives_dwStop_host {p : Path} (hp : a.reaches p = true) :
    Gives (.dwStop t (some p) m) s (a.busWriteField p (F.GC_CTRL_STOP m) 1) := by
  have hstep := h.gives_of_coreStep (exec_dwStop t (some p) m s)
  dsimp only at hstep
  rwa [if_neg (Nat.not_le.2 hm), if_pos hp] at hstep

/-! ### Register transfers (R427) -/

theorem Live.gives_dwXferGo_host {p : Path} (v : Nat) (hp : a.reaches p = true) : Gives (.dwXferGo t (.host p) m v) s
    (a.busWrite p (F.GC_XFER_OP m).off 4 (BitVec.ofNat 32 (putBit v 11 true)).toNat) := by
  have hstep := h.gives_of_coreStep (exec_dwXferGo t (.host p) m v s)
  dsimp only at hstep
  rwa [if_neg (Nat.not_le.2 hm), if_pos hp] at hstep

theorem Live.gives_dwShadowGo_host {p : Path} (v : Nat) (hp : a.reaches p = true) : Gives (.dwShadowGo t (.host p) m v) s
    (a.busWrite p (F.GC_SH_XFER_OP m).off 4 (BitVec.ofNat 32 (putBit v 11 true)).toNat) := by
  have hstep := h.gives_of_coreStep (exec_dwShadowGo t (.host p) m v s)
  dsimp only at hstep
  rwa [if_neg (Nat.not_le.2 hm), if_pos hp] at hstep

theorem Live.gives_dwXferGo_cp (base src dst v : Nat) (hfw : a.firmwareDw = true) (hfree : a.activeRuns m = false) :
    Gives (.dwXferGo t (.cp base src dst) m v) s (((((a.cpChannel m base).set64 (F.GC_SRC_LO m) (F.GC_SRC_HI m) src).set64
      (F.GC_DST_LO m) (F.GC_DST_HI m) dst).setReg (F.GC_XFER_OP m).off (BitVec.ofNat 32 (putBit v 11 true))).startXfer m) := by
  have hstep := h.gives_of_coreStep (exec_dwXferGo t (.cp base src dst) m v s)
  dsimp only at hstep
  rwa [if_neg (Nat.not_le.2 hm), if_neg (by rw [hfw]; decide), if_neg (by rw [hfree]; decide)] at hstep

theorem Live.gives_dwShadowGo_cp (base src dst v : Nat) (hfw : a.firmwareDw = true) (hrun : (a.gchan m).running = false)
    (hfree : a.flag (F.GC_SH_XFER_GO m) = false) :
    Gives (.dwShadowGo t (.cp base src dst) m v) s (((((a.cpChannel m base).set64 (F.GC_SH_SRC_LO m) (F.GC_SH_SRC_HI m)
      src).set64 (F.GC_SH_DST_LO m) (F.GC_SH_DST_HI m) dst).setReg (F.GC_SH_XFER_OP m).off
        (BitVec.ofNat 32 (putBit v 11 true))).shadowGo m) := by
  have hstep := h.gives_of_coreStep (exec_dwShadowGo t (.cp base src dst) m v s)
  dsimp only at hstep
  rwa [if_neg (Nat.not_le.2 hm), if_neg (by rw [hfw, hrun]; decide), if_neg (by rw [hfree]; decide)] at hstep

end

/-! ### Bursts (R407, R420, R421) -/

section
variable {s a : State} {t : Nat} (h : Live s t a)
include h

theorem Live.gives_dwBurstIssue {ch : Nat} (hroom : a.flightAll < 256) (hnext : a.dwNext = some ch) :
    Gives (.dwBurstIssue t) s (a.issueBurst ch) := by
  have hstep := h.gives_of_coreStep (exec_dwBurstIssue t s)
  rw [if_pos hroom, hnext] at hstep
  exact hstep

section
variable {ch k : Nat} (hflight : k < a.flightOf ch)
include hflight

theorem Live.gives_dwBurstComplete_stream (stall : Nat) (hch : ch < 128) :
    Gives (.dwBurstComplete t ch k stall) s ((a.bump F.PANTRY_DW_STALL stall).completeStream ch true) := by
  have hstep := h.gives_of_coreStep (exec_dwBurstComplete t ch k stall s)
  dsimp only at hstep
  rwa [if_neg (by omega), if_pos hch] at hstep

theorem Live.gives_dwBurstComplete_general (stall : Nat) (hlow : 128 ≤ ch) (hhigh : ch < 160) :
    Gives (.dwBurstComplete t ch k stall) s ((a.bump F.PANTRY_DW_STALL stall).completeBurst (ch - 128) k) := by
  have hstep := h.gives_of_coreStep (exec_dwBurstComplete t ch k stall s)
  dsimp only at hstep
  rwa [if_neg (by omega), if_neg (by omega)] at hstep

theorem Live.gives_hostReadTimeout_stream (hch : ch < 128) :
    Gives (.hostReadTimeout t ch k) s (a.completeStream ch false) := by
  have hstep := h.gives_of_coreStep (exec_hostReadTimeout t ch k s)
  dsimp only at hstep
  rwa [if_neg (by omega), if_pos hch] at hstep

end

section
variable {m k : Nat} {b : Burst} (hm : m < 32) (hburst : (a.gchan m).flight[k]? = some b)
include hm hburst

/-- A response to a write whose instruction has retired reports an error. -/
theorem Live.gives_dwLateError {l : List Byte} {cause units : Nat} (hdata : b.data = some l) (hretired : (a.gchan m).retired b = true)
    (hcause : cause ∈ [2, 3, 4, 5, 8]) : Gives (.dwLateError t m k cause units) s
      ((a.land m k b l (some (DwCause.ofCode cause, units % 4096))).trySettle m) := by
  have hstep := h.gives_of_coreStep (exec_dwLateError t m k cause units s)
  rw [hburst] at hstep
  dsimp only at hstep
  rw [hdata] at hstep
  dsimp only at hstep
  rwa [if_pos ⟨hm, hretired, List.contains_iff_mem.2 hcause⟩] at hstep

/-- A host read that gets no completion marks its instruction BAD, and its burst is gone. -/
theorem Live.gives_hostReadTimeout_general (hdata : b.data = none) (hspace : b.srcSpace = 0) :
    Gives (.hostReadTimeout t (128 + m) k) s
      ((((a.burstBad m b (some (.hostRead, 0))).dropBurst m k).tryRetire m).trySettle m) := by
  have hstep := h.gives_of_coreStep (exec_hostReadTimeout t (128 + m) k s)
  have hflight : k < a.flightOf (128 + m) := by
    rw [State.flightOf, if_neg (by omega), Nat.add_sub_cancel_left]
    exact (List.getElem?_eq_some_iff.1 hburst).1
  dsimp only at hstep
  rw [if_neg (by omega), if_neg (by omega), Nat.add_sub_cancel_left, hburst] at hstep
  dsimp only at hstep
  rwa [if_pos ⟨by rw [hdata]; rfl, .inl hspace⟩] at hstep

end

end

/-- Settles O58: programs, slots, waits, stops, register transfers and bursts, each by the lemma that says what its row does. -/
theorem dumbwaiterCommandsTakeEffect : Obligations.DumbwaiterCommandsTakeEffect := by
  intro s a t m h
  refine ⟨fun prog base priority priv hm hboot hdiag hrun hcur hsettle =>
      h.dwProgramStart_starts hm prog base priority priv hboot hdiag hrun hcur hsettle,
    fun e b hready hslot => h.gives_dwNop_unread hready hslot, fun x b k hready hslot hk => ?_, fun w hm hwait => ?_,
    fun hm => ?_, fun hroom ch hnext => h.gives_dwBurstIssue hroom hnext, fun ch k stall hflight => ?_, fun k b hm hburst => ?_⟩
  · exact ⟨h.gives_dwNop hready hslot, h.gives_dwNop_illegal hready hslot, h.gives_dwMove hready hslot,
      h.gives_dwMove2d hready hslot, h.gives_dwFill hready hslot, h.gives_dwFill2d hready hslot, h.gives_dwCmp hready hslot,
      h.gives_dwCmp2d hready hslot, fun mv mv' c hop hmoving hstart => State.execMove_starts hop hmoving hstart,
      fun body hop hflags hbody hpos hfits hcount hdepth => h.dwLoop_opens hready hslot hop hflags hbody hpos hfits hcount hdepth,
      h.gives_dwWait_latched hready hslot hk, h.dwWait_waits hready hslot hk, h.gives_dwSignal hready hslot hk,
      h.gives_dwSignal_settle hready hslot hk, h.gives_dwFence hready hslot, h.dwEnd_ends hready hslot⟩
  · exact ⟨h.gives_dwWaitDone hm hwait, fun d hseen hd hdue => h.dwWaitTimeout_expires hm hwait hseen hd hdue⟩
  · exact ⟨h.dwStop_stops hm, fun p hp => h.gives_dwStop_host hm hp,
      fun p v hp => ⟨h.gives_dwXferGo_host hm v hp, h.gives_dwShadowGo_host hm v hp⟩,
      fun base src dst v hfw hfree => h.gives_dwXferGo_cp hm base src dst v hfw hfree,
      fun base src dst v hfw hrun hfree => h.gives_dwShadowGo_cp hm base src dst v hfw hrun hfree⟩
  · exact ⟨fun hch => ⟨h.gives_dwBurstComplete_stream hflight stall hch, h.gives_hostReadTimeout_stream hflight hch⟩,
      h.gives_dwBurstComplete_general hflight stall⟩
  · exact ⟨fun l cause units hdata hretired hcause => h.gives_dwLateError hm hburst hdata hretired hcause,
      h.gives_hostReadTimeout_general hm hburst⟩

end Sys2Proof.Machine
end
